-- ==== Sys2Proof/Word.lean ====
section
/-! DEFINITION. Sys2Proof/Word.lean: the word types of the ZG8 (R4, R5) and their plainest arithmetic. -/

namespace Sys2Proof

/-- A register word: 32 bits, little-endian in byte order (R5). -/
abbrev Word := BitVec 32

/-- A byte of a frame, of a payload or of host memory. -/
abbrev Byte := BitVec 8

/-- A word from a number, modulo 2^32. -/
abbrev w32 (n : Nat) : Word := BitVec.ofNat 32 n

/-- A byte from a number, modulo 256. -/
abbrev b8 (n : Nat) : Byte := BitVec.ofNat 8 n

end Sys2Proof
end

