-- ==== Sys2Proof/Syntax.lean ====
section
/-! DEFINITION. Sys2Proof/Syntax.lean: the commands of the ZG8 block and the operands the outside supplies with them. -/

namespace Sys2Proof

/-- Who makes a register access (R576, R577, R580 to R583). -/
inductive Requester where
  | host (f : Fin 8)      -- host function f, through its BAR0
  | kiln                  -- Kiln firmware
  | manager               -- the manager device over the Coil
  | bridge (did : Nat)    -- another device through the bridge (R453)
  | aux                   -- the AUX I2C target (FOOT block only)
  deriving DecidableEq, Repr

/-- The frame formats of the flexport personalities. -/
inductive FrameFmt where
  | cc | fd | xl          -- CANX: Classical CAN, CAN FD, CAN XL
  | lin | t1s | sent | spic | pwmx
  deriving DecidableEq, Repr

/-- A field-bus frame, as a flexport receives or transmits it. -/
structure FieldFrame where
  fmt  : FrameFmt := .cc
  /-- identifier: CAN base (11 bits) or extended (29 bits), CAN XL priority identifier, LIN identifier, SENT and SPIC and
  PWMX identifiers of R141, R145, R146. -/
  id   : Nat := 0
  /-- extended CAN identifier. -/
  ext  : Bool := false
  rtr  : Bool := false
  brs  : Bool := false
  esi  : Bool := false
  sec  : Bool := false
  rrs  : Bool := false
  sdt  : Nat := 0
  vcid : Nat := 0
  af   : Nat := 0
  /-- DLC of a classical remote frame. -/
  dlc  : Nat := 0
  data : List Byte := []
  deriving DecidableEq, Repr

/-- The error types of ISO 11898-1 (CANX_ERR.LEC). -/
inductive CanErr where
  | stuff | form | ack | bit1 | bit0 | crc
  deriving DecidableEq, Repr


/-- The FCS that a received Ethernet frame carries (R160). -/
inductive FcsKind where
  | good | stomped | bad
  deriving DecidableEq, Repr

/-- What a MAC's line side adds to a received frame: the frame found its FIFO full (R159), RS-FEC codewords corrected and
uncorrectable, entries of the partner into low-power idle since the last frame, and the frame's age in ns (R81). -/
structure RxLine where
  fifoFull : Bool := false
  fecCorr : Nat := 0
  fecUncorr : Nat := 0
  lpi : Nat := 0
  age : Nat := 0
  deriving DecidableEq, Repr

/-- A send descriptor as the device reads it from host memory (R437). -/
structure SendDesc where
  addr  : Nat := 0
  sop   : Bool := true
  eop   : Bool := true
  tsReq : Bool := false
  tc    : Fin 8 := 0
  seg   : Fin 8 := 0
  len   : Nat := 0
  h     : Nat := 0
  mss   : Nat := 0
  pduId : Nat := 0
  deriving DecidableEq, Repr

/-- What the Slip DMA engine turns to (R440, R442): the head of GPN 152's queues, an item of Kiln firmware for a queue pair,
the next item of a capture ring, or the item in delivery. -/
inductive SlipWork where
  | queue
  | kiln (bytes : List Byte)
  | capture
  | resume
  deriving DecidableEq, Repr

/-- Where an access to the bridge goes: an offset in remote window w, by host function 0 or by Kiln firmware (R451, R577), or
an address of a device that Kiln firmware reaches on privileged channel KM0 to KM3 (R450). -/
inductive BrgAddr where
  | window (byKiln : Bool) (w : Fin 16) (off : Fin 2097152)
  | km (ch : Fin 4) (did : Fin 2048) (addr : Word)
  deriving DecidableEq, Repr

/-- What the surroundings of a register write hold, for the registers whose write starts a command: the memory that the
command's addresses name (its data, its signature or expected MAC, its public key), ports at a selection point (R151), the
port's bus carries a frame (R96, R119), sends whose data has been read completely (R436), failing TRNG tests (R380). -/
structure WrEnv where
  data  : List Byte := []
  sig   : List Byte := []
  pub   : List Byte := []
  ready : List (Fin 128) := []
  busy  : Bool := false
  sends : List Nat := []
  stuck : Nat := 0
  deriving DecidableEq, Repr

/-- The commands of the block: one constructor per row of the opcode table. Operands are what the sender or the
environment supplies; what the state holds is not repeated in them. -/
inductive Instr where
  /-- REGISTER_WRITE (R6): Write to a register field that has no row of its own; ignored for RO, reserved, locked RWL, unpermitted requester or partial byte enables. -/
  | registerWrite (req : Requester) (off : Nat) (full : Bool) (w : Word) (env : WrEnv)
  /-- COUNTER_READ (R8): Read of a clear-on-read register, or of a counter LO word, which copies the whole counter into its shadow and clears it atomically. -/
  | counterRead (req : Requester) (off : Nat)
  /-- ENTRY_SNAPSHOT_READ (R248): Read of word 0 of a multi-word window entry snapshots the entry for the following word reads. -/
  | entrySnapshotRead (req : Requester) (off : Nat)
  /-- RES_RELEASE (R53): Write to a command slot's RES_RELEASE with the held ticket moves the slot from Held to Released. -/
  | resRelease (req : Requester) (engine : Fin 5) (slot : Fin 4) (ticket : BitVec 8)
  /-- LOAD (R56): Configuration loader command that reads and checks a region and applies it, or writes a banked region's inactive bank. -/
  | load (req : Requester) (slot : Fin 4) (region : Fin 32) (src : Fin 4)
  /-- SWAP (R57): Configuration loader command that makes the inactive bank of region 18, 20 or 21 active at its boundary. -/
  | swap (req : Requester) (slot : Fin 4) (region : Fin 32)
  /-- WARM_RESTART (R51): Configuration loader command that warm-resets the device and reloads every region from the source bank. -/
  | warmRestart (req : Requester) (slot : Fin 4) (src : Fin 4)
  /-- REGION_CHECK_DONE (R50): Reading and checking a region into the load buffer completes, and the loader refuses the region or begins to apply it. -/
  | regionCheckDone
  /-- REGION_APPLY_DONE (R56): Application of a region completes, the region becomes active and the command result becomes VALID. -/
  | regionApplyDone
  /-- CLUSTER_QUIESCE_TIMEOUT (R58): A port still busy 1 ms into a quiesce or disable is stopped, its partial frame counted in QUIESCE_ABORT. -/
  | clusterQuiesceTimeout (port : Fin 128)
  /-- CLUSTER_PORT_IDLE (R58): A quiescing flexport finishes its frame and goes idle. -/
  | clusterPortIdle (port : Fin 128)
  /-- SWAP_BOUNDARY (R60): A SWAP accepted while the loader was busy is executed and places its generation boundary. -/
  | swapBoundary
  /-- BANK_DRAIN_DONE (R222): The in-flight count of a DRAINING bank reaches zero, the bank becomes HELD and DRAIN_DONE and SWAP_DONE are raised. -/
  | bankDrainDone (region : Fin 28)
  /-- MIRROR_SCAN (R64): The compare engine compares both copies of a mirrored word, at least every 100 µs or on a read. -/
  | mirrorScan (off : Fin 268435456)
  /-- CFG_LOCK_SET (R6): Write of 1 to CFG_LOCK makes every RWL field read-only until warm reset. -/
  | cfgLockSet (req : Requester)
  /-- SLEW_UPDATE (R70): Every 1,200 TCLK cycles the working-time slew is recomputed from the offset to the selected domain. -/
  | slewUpdate
  /-- RATE_WRITE (R68): Kiln firmware writes a domain RATE, saturated at ±500 ppm with RATE_SAT. -/
  | rateWrite (req : Requester) (domB : Bool) (rate : Word)
  /-- DOMAIN_STEP (R69): Write of 1 to TIM_DOMx_ADJ_GO adds the signed step to the domain clock in one TCLK cycle. -/
  | domainStep (req : Requester) (domB : Bool)
  /-- DOMAIN_STATE_CHANGE (R74): Kiln firmware changes a domain's state, which may initialise working time, switch domains or enter HOLDOVER. -/
  | domainStateChange (domB : Bool) (st : Fin 4)
  /-- INIT_WAIT_EXPIRY (R72): INIT_WAIT expires with no domain LOCKED and working time starts FREE from the seed. -/
  | initWaitExpiry
  /-- REVERT_HOLD_EXPIRY (R74): Domain A has been LOCKED for REVERT_HOLD seconds and selection returns to A. -/
  | revertHoldExpiry
  /-- SEL_AUTO (R76): TIM_SEL_CMD SELECT written to AUTO returns selection to automatic rules. -/
  | selAuto (req : Requester)
  /-- SEL_FORCE_A (R76): TIM_SEL_CMD forces selection of domain A, refused if A is not LOCKED. -/
  | selForceA (req : Requester)
  /-- SEL_FORCE_B (R76): TIM_SEL_CMD forces selection of domain B, refused if B is not LOCKED. -/
  | selForceB (req : Requester)
  /-- AUTO_SEL_ENABLE (R76): AUTO_SEL changes from 0 to 1 and selection returns to R74 at the next TCLK cycle. -/
  | autoSelEnable (req : Requester)
  /-- TIM_SNAP (R81): Write to TIM_SNAP latches working time and both domain clocks in the same TCLK cycle. -/
  | timSnap (req : Requester)
  /-- WT_NS_READ (R80): Read of TIM_WT_NS or a domain NS word copies seconds and fraction into shadows. -/
  | wtNsRead (which : Fin 3)
  /-- CONE_ARM (R87): CONE_CTRL write with ENABLE = 1 arms or re-arms a Cone, or sets ERR if a limit is broken. -/
  | coneArm (req : Requester) (cone : Fin 96) (ctrl : Word)
  /-- CONE_DISARM (R87): CONE_CTRL write with ENABLE = 0 disarms a Cone and returns its pin to idle. -/
  | coneDisarm (req : Requester) (cone : Fin 96) (ctrl : Word)
  /-- CONE_FIRE (R82): An armed Cone's compare finds its target reached and the Cone performs its MODE function and pin action. -/
  | coneFire (cone : Fin 96) (ready : List (Fin 128))
  /-- CONE_PULSE_END (R86): A Cone pulse reaches its WIDTH and the pin returns to idle. -/
  | conePulseEnd (cone : Fin 96)
  /-- PLAN_CYCLE_START (R84): A plan cycle start of the time plan, where region 21 swaps and anchored Cones first fire. -/
  | planCycleStart
  /-- FXP_ENABLE (R96): FXP_CFG.ENABLE 0 to 1 starts the engine or leaves the port DISABLED with CFG_ERR. -/
  | fxpEnable (req : Requester) (port : Fin 128)
  /-- FXP_DISABLE (R96): FXP_CFG.ENABLE 1 to 0 stops the engine as the quiesce step does. -/
  | fxpDisable (req : Requester) (port : Fin 128) (busy : Bool)
  /-- CANX_RX_FRAME (R97): A CANX frame becomes valid and is handed to the router, dropped on overrun, ignored or matched in FROZEN. -/
  | canxRxFrame (port : Fin 128) (frame : FieldFrame) (age : Nat)
  /-- FXP_SELECT (R99): At a selection point the flexport engine takes or preempts the pending frame and starts its transmission. -/
  | fxpSelect (port : Fin 128)
  /-- FXP_TX_SUCCESS (R104): A flexport transmits its pending frame successfully and records its transmit timestamp. -/
  | fxpTxSuccess (port : Fin 128) (age : Nat) (tdcv : Option Nat)
  /-- CANX_ARB_LOST (R102): A CANX transmitter loses arbitration and its frame stays pending. -/
  | canxArbLost (port : Fin 128)
  /-- CANX_ERROR (R116): A CANX error is detected, counted by type and the error counters updated, possibly entering passive or bus-off. -/
  | canxError (port : Fin 128) (err : CanErr) (tx xlData exempt heavy : Bool) (tdcv : Option Nat)
  /-- BOFF_DELAY_EXPIRY (R118): BOFF_DELAY ms after bus-off in BOFF_MODE 0b01, recovery starts. -/
  | boffDelayExpiry (port : Fin 128)
  /-- CANX_RECOVER (R118): Write of 1 to CANX_CTRL.RECOVER starts bus-off recovery in BOFF_MODE 0b10. -/
  | canxRecover (req : Requester) (port : Fin 128)
  /-- BUS_ON (R118): Bus-off recovery ends after 128 occurrences of 11 recessive bits, counters clear and the port integrates. -/
  | busOn (port : Fin 128)
  /-- CANX_INTEGRATED (R115): After 11 consecutive recessive bits an INTEGRATING port enters ACTIVE, MONITOR or RESTRICTED. -/
  | canxIntegrated (port : Fin 128)
  /-- CANX_FREEZE (R119): FREEZE written to 1 sends the port to FROZEN now or at the end of its frame or recovery. -/
  | canxFreeze (req : Requester) (port : Fin 128) (busy : Bool)
  /-- CANX_UNFREEZE (R122): FREEZE written to 0 while FROZEN makes the port integrate before it takes part again. -/
  | canxUnfreeze (req : Requester) (port : Fin 128)
  /-- TRX_FLAG (R113): A falling edge on FPn_D raises TRX_FLAG when D_EN is 1. -/
  | trxFlag (port : Fin 128) (level : Bool)
  /-- TXTS_READ (R104): Read of FXP_TXTS_NS copies seconds and info into shadows and clears NEW. -/
  | txtsRead (port : Fin 128)
  /-- LIN_SLOT_START (R126): A LIN commander slot starts and the commander sends break, sync and protected identifier, or skips the slot. -/
  | linSlotStart (port : Fin 128)
  /-- LIN_HEADER_RX (R129): A LIN responder receives a header, measures the sync byte and publishes, subscribes or stays silent. -/
  | linHeaderRx (port : Fin 128) (pid : Fin 256) (bitCyc : Nat)
  /-- LIN_RX_RESPONSE (R129): A LIN response of a subscribed identifier completes and is handed to the router or counted as an error. -/
  | linRxResponse (port : Fin 128) (data : List Byte) (ck : Fin 256) (age : Nat)
  /-- LIN_RESPONSE_TIMEOUT (R130): A LIN response has not completed by 1.4 times its nominal frame time. -/
  | linResponseTimeout (port : Fin 128) (anyByte : Bool)
  /-- LIN_SCHED_REQ (R127): Write to LIN_SCHED.REQ selects the next schedule table, switched at the end of the current slot. -/
  | linSchedReq (req : Requester) (port : Fin 128) (table : Fin 8)
  /-- LIN_SLEEP (R132): Write of 1 to LIN_CTRL.SLEEP makes the commander send go-to-sleep and stop its schedule. -/
  | linSleep (req : Requester) (port : Fin 128)
  /-- LIN_WAKE (R132): Write of 1 to LIN_CTRL.WAKE sends a dominant wake pulse of WAKE_US. -/
  | linWake (req : Requester) (port : Fin 128)
  /-- LIN_IDLE_TIMEOUT (R132): IDLE_MS of bus inactivity puts the LIN port into bus sleep. -/
  | linIdleTimeout (port : Fin 128)
  /-- WAKE_RX (R132): A dominant pulse of 150 µs or a falling FPn_D edge wakes a LIN port from bus sleep. -/
  | wakeRx (port : Fin 128) (viaD : Bool)
  /-- LIN_SCHEDULE_RESTART (R132): 100 ms after a wake, a commander restarts its active table at its first slot. -/
  | linScheduleRestart (port : Fin 128)
  /-- T1S_RX_FRAME (R136): A T1S frame ends and is handed to the router or dropped for FCS or length. -/
  | t1sRxFrame (port : Fin 128) (data : List Byte) (fcsOk : Bool) (age : Nat)
  /-- T1S_TX_OPPORTUNITY (R134): The port's PLCA transmit opportunity or CSMA/CD interframe gap arrives as a selection point. -/
  | t1sTxOpportunity (port : Fin 128)
  /-- T1S_COLLISION (R134): A T1S collision is a transmit error and the retry follows truncated binary backoff. -/
  | t1sCollision (port : Fin 128)
  /-- T1S_BEACON_RX (R135): A BEACON is received and restores PLCA at the next cycle. -/
  | t1sBeaconRx (port : Fin 128)
  /-- PLCA_LOST (R135): A follower sees no BEACON for 4,000 bit times and falls back to CSMA/CD. -/
  | plcaLost (port : Fin 128)
  /-- SENT_CAL_PULSE (R137): A SENT calibration pulse ends, sets the measured tick or counts ERR_CAL. -/
  | sentCalPulse (port : Fin 128) (cyc : Nat)
  /-- SENT_RX_FRAME (R139): A SENT frame becomes valid and is handed on, with slow-message assembly, or counted as an error. -/
  | sentRxFrame (port : Fin 128) (pulses : List Nat) (pause : Option Nat) (age : Nat)
  /-- SPIC_TRANSACTION_DONE (R145): A SPIC transaction ends and its MISO bytes go to the router or the bridge. -/
  | spicTransactionDone (port : Fin 128) (miso : List Byte) (age : Nat)
  /-- PWMX_PERIOD_DONE (R146): A PWMX capture channel completes a period, updates its measurement and may report a frame. -/
  | pwmxPeriodDone (port : Fin 128) (ch : Fin 4) (period high : BitVec 24) (level : Bool) (age : Nat)
  /-- PWMX_STUCK (R147): A PWMX capture channel sees no rising edge for 2^24 FCLK cycles. -/
  | pwmxStuck (port : Fin 128) (ch : Fin 4)
  /-- PWMX_PERIOD_START (R148): A PWMX generate channel starts a period and applies its latched setting. -/
  | pwmxPeriodStart (port : Fin 128) (ch : Fin 4)
  /-- LG_RELEASE (R151): Write of 1 to LG_RELEASE releases the held frames of a lock group. -/
  | lgRelease (req : Requester) (group : Fin 16) (ready : List (Fin 128))
  /-- LG_RETRY (R154): All aborted group frames are at a selection point and the group releases them again together. -/
  | lgRetry (group : Fin 16)
  /-- LG_GIVEUP (R154): 1 ms after the first abort, or after RETRY_MAX retries, the group raises GIVEUP. -/
  | lgGiveup (group : Fin 16)
  /-- MAC_RX_FRAME (R165): An Ethernet MAC receives a frame, checks it and steers it to PFC, Coil, Kiln, a filter action or PASS. -/
  | macRxFrame (port : Fin 24) (bytes : List Byte) (fcs : FcsKind) (line : RxLine)
  /-- PFC_PAUSE_EXPIRY (R168): A PFC pause time runs out and the class resumes. -/
  | pfcPauseExpiry (port : Fin 24) (p : Fin 8)
  /-- PFC_STORM (R170): A class stays paused for WD_MS and PFC for it is ignored. -/
  | pfcStorm (port : Fin 24) (p : Fin 8)
  /-- PFC_REFRESH (R169): Every QUANTA / 2 quanta while at or above XON the MAC resends the PFC frame. -/
  | pfcRefresh (port : Fin 24)
  /-- LINK_UP (R158): A MAC's PCS, FEC and auto-negotiation conditions hold and the link comes up. -/
  | linkUp (port : Fin 25) (speed : Fin 16)
  /-- LINK_DOWN (R158): A MAC's link goes down and its egress queues are flushed. -/
  | linkDown (port : Fin 25) (cut hiBer : Bool)
  /-- LPI_ENTER (R171): The port has been idle for LPI_IDLE µs and enters low-power idle. -/
  | lpiEnter (port : Fin 24)
  /-- LPI_WAKE_DONE (R171): TW_TX after a wake the port may start its frame. -/
  | lpiWakeDone (port : Fin 24)
  /-- TC10_SLEEP (R178): Write of 1 to TC10_CTRL.SLEEP finishes the frame and asserts SLEEP_PIO. -/
  | tc10Sleep (req : Requester) (port : Fin 24)
  /-- TC10_WAKE_CMD (R179): Write of 1 to TC10_CTRL.WAKE deasserts SLEEP_PIO. -/
  | tc10WakeCmd (req : Requester) (port : Fin 24)
  /-- TC10_WAKE (R179): Assertion of WAKE_PIO wakes a sleeping TC10 port. -/
  | tc10Wake (port : Fin 24) (level : Bool)
  /-- SVC_RX_FRAME (R180): The service port receives a frame and delivers or drops it. -/
  | svcRxFrame (bytes : List Byte) (fcs : FcsKind) (full : Bool)
  /-- PIPELINE_ADMIT (R182): A packet is admitted to an ingress pipeline and parsed, classified, policed, looked up and enqueued. -/
  | pipelineAdmit (src : Fin 28) (idle : List (Fin 24))
  /-- RECIRC_ADMIT (R201): A waiting recirculated packet is admitted to its pipeline for its next pass. -/
  | recircAdmit (pipeline : Fin 2)
  /-- LEARN_PLACE (R236): Hardware places the event at the head of the learn queue into a bucket entry or the stash. -/
  | learnPlace
  /-- AGING_SWEEP (R238): Every SWEEP_S seconds the sweeper visits every entry and ages learned entries. -/
  | agingSweep
  /-- L2_INSERT (R249): Table manager command that inserts or replaces an L2 entry with relocation or stash. -/
  | l2Insert (req : Requester) (slot : Fin 4)
  /-- L2_DELETE (R249): Table manager command that deletes an L2 entry. -/
  | l2Delete (req : Requester) (slot : Fin 4)
  /-- L2_LOOKUP (R249): Table manager command that returns an L2 entry and its location. -/
  | l2Lookup (req : Requester) (slot : Fin 4)
  /-- L2_FLUSH (R240): Table manager command that removes learned entries by port, VID or both. -/
  | l2Flush (req : Requester) (slot : Fin 4) (mode : Fin 4)
  /-- L2_RELOCATE (R234): Table manager command that moves a stash entry into the table. -/
  | l2Relocate (req : Requester) (slot : Fin 4)
  /-- LPM_INSERT (R244): Table manager command that inserts a prefix into a trie instance. -/
  | lpmInsert (req : Requester) (slot : Fin 4) (inst : Fin 8)
  /-- LPM_DELETE (R244): Table manager command that deletes a prefix from a trie instance. -/
  | lpmDelete (req : Requester) (slot : Fin 4) (inst : Fin 8)
  /-- LPM_LOOKUP (R249): Table manager command that looks up an address in a trie instance. -/
  | lpmLookup (req : Requester) (slot : Fin 4) (inst : Fin 8)
  /-- NH_WRITE (R249): Table manager command that writes a next-hop entry atomically. -/
  | nhWrite (req : Requester) (slot : Fin 4) (n : Fin 8192)
  /-- CLASS_UNBLOCK (R216): Write of 1 to a class's BLOCKED bit unblocks the class. -/
  | classUnblock (req : Requester) (c : Fin 4096)
  /-- MAR_CLEAR (R216): Write of 1 to a policer's MAR_LATCHED clears the mark-all-red latch. -/
  | marClear (req : Requester) (pol : Fin 16384)
  /-- ROUTER_HANDOFF (R254): The router takes a packet from GPN 155 and walks its ACF or Mehryr messages or keys it as RAW. -/
  | routerHandoff
  /-- ROUTE_LOOKUP (R259): The router starts a lookup of an item and performs authentication, timer, rate limit, signal moves and forwarding. -/
  | routeLookup (transientFree : Bool)
  /-- TRANSIENT_IMAGE_FREE (R260): A lookup waiting for one of the 256 transient images gets one and builds its frame. -/
  | transientImageFree
  /-- LIMITER_TOKEN (R264): A rate limiter's token falls due every INTERVAL. -/
  | limiterToken (l : Fin 4096)
  /-- ROUTE_TIMEOUT (R281): A route's timer runs out and the router records it and writes defaults. -/
  | routeTimeout (route : Fin 262144)
  /-- MDT_EXPIRY (R275): An image's MDT timer expires and a waiting on-change send is made. -/
  | mdtExpiry (img : Fin 65536)
  /-- SRT_IMG_SEND (R279): Write to SRT_IMG_SEND requests a send of an image or container. -/
  | srtImgSend (req : Requester) (img : Fin 65536)
  /-- CONTAINER_FLUSH (R287): FLUSH_US passes since a container's first message and the container is sent. -/
  | containerFlush (img : Fin 65536)
  /-- PIO_INPUT_CHANGE (R299): A PIO input changes level and the reflex rules evaluate and fire. -/
  | pioInputChange (edges : List (Fin 64 × Bool))
  /-- REFLEX_PULSE_END (R300): A reflex pulse reaches APARAM2 cycles and the pin takes the other level. -/
  | reflexPulseEnd (pin : Fin 64)
  /-- REFLEX_PWM_PERIOD (R301): A reflex PWM generator starts a period and applies latched P and h. -/
  | reflexPwmPeriod (pin : Fin 64)
  /-- PIO_OUT_WRITE (R293): Write to PIO_OUT requests a pin level, arbitrated by owner. -/
  | pioOutWrite (req : Requester) (pin : Fin 64) (level : Bool)
  /-- CAP_PERIOD_DONE (R306): A PIO capture unit completes a period and updates period, high time and duty. -/
  | capPeriodDone (pin : Fin 64) (period high : Word)
  /-- CAP_STUCK (R306): A PIO capture unit sees no rising edge for 2^32 TCLK cycles. -/
  | capStuck (pin : Fin 64)
  /-- CAP_TS_READ (R307): Read of CAP_TS_NS removes the head timestamp and fills the shadows. -/
  | capTsRead (pin : Fin 64)
  /-- PORT_SELECT (R323): At an Ethernet port's selection point the scheduler chooses an eligible class and transmits its head frame. -/
  | portSelect (port : Fin 24)
  /-- GCL_ENTRY (R328): The interval of a gate-list entry ends and the next entry takes effect. -/
  | gclEntry (port : Fin 24)
  /-- RESIDUE_ADMIT (R318): A queue admits the oldest residue copy waiting for it. -/
  | residueAdmit (port : Fin 28) (c : Fin 8)
  /-- RESIDUE_EXPIRY (R318): A residue copy has waited RESIDUE_US and is dropped. -/
  | residueExpiry (c : Fin 8)
  /-- MC_GROUP_COMMIT (R319): A write to word 0 of a switch group commits the whole group between replications. -/
  | mcGroupCommit (req : Requester) (g : Fin 4096) (w : Word)
  /-- FRER_RESET_TIMEOUT (R334): No packet of a recovering stream passes for RESET_MS and the stream resets. -/
  | frerResetTimeout (st : Fin 4096)
  /-- FRER_FORCE_RESET (R334): Write of 1 to a stream's RESET forces a recovery reset. -/
  | frerForceReset (req : Requester) (st : Fin 4096)
  /-- SPILL_WRITE_DONE (R343): The overflow controller finishes writing a spilled packet and frees its staging cells. -/
  | spillWriteDone (q : Fin 1280) (seq : Word) (addr : Nat)
  /-- RESEQ_TAKE (R346): The resequencer takes a packet from its queue and issues a read-back for a spilled one. -/
  | reseqTake (q : Fin 1280)
  /-- READBACK_DONE (R344): A read-back of a spilled packet completes or fails uncorrectably. -/
  | readbackDone (q : Fin 1280) (seq : Word) (corr : Nat) (bad : Option Nat)
  /-- RESEQ_GAP (R348): The next sequence number is not ready after 20 µs and is skipped. -/
  | reseqGap (q : Fin 1280)
  /-- OVF_TRAINING (R351): Kiln firmware trains the LPDDR5X interface at boot, setting TRAINED or TRAIN_FAIL. -/
  | ovfTraining (pass : Bool) (densityMib : Fin 16385)
  /-- OVF_RETRAIN (R351): Every 64 ms the WCK2DQ retraining holds overflow traffic for at most 2 µs. -/
  | ovfRetrain (begins : Bool)
  /-- PATROL_SCRUB (R353): The patrol scrub visits an overflow-memory line and corrects or counts its errors. -/
  | patrolScrub (addr : Nat) (bits : Fin 3)
  /-- WM_MAX_READ (R355): Read of WM_MAX returns the peak and resets it to the current level. -/
  | wmMaxRead (hst : Bool) (m : Fin 1024)
  /-- SHA256 (R374): Glaze command that hashes a buffer with SHA-256. -/
  | sha256 (req : Requester) (slot : Fin 4) (data : List Byte)
  /-- HMAC (R374): Glaze command that computes HMAC-SHA-256 under a key handle. -/
  | hmac (req : Requester) (slot : Fin 4) (data : List Byte)
  /-- HMAC_VERIFY (R374): Glaze command that checks an HMAC against an expected value. -/
  | hmacVerify (req : Requester) (slot : Fin 4) (n : Fin 64) (data expected : List Byte)
  /-- LMS_VERIFY (R375): Glaze command that verifies an HSS signature. -/
  | lmsVerify (req : Requester) (slot : Fin 4) (trusted : Bool) (which : Fin 4) (msg sig pub : List Byte)
  /-- RXSC_SET (R374): Glaze command that configures a MACsec receive secure channel. -/
  | rxscSet (req : Requester) (slot : Fin 4) (port sc : Fin 32)
  /-- SA_INSTALL (R372): Glaze command that installs a MACsec SA. -/
  | saInstall (req : Requester) (slot : Fin 4) (port : Fin 32) (tx : Bool) (an : Fin 4) (sc : Fin 32)
  /-- SA_ENABLE (R372): Glaze command that puts a MACsec SA in use. -/
  | saEnable (req : Requester) (slot : Fin 4) (port : Fin 32) (tx : Bool) (an : Fin 4) (sc : Fin 32)
  /-- SA_RETIRE (R372): Glaze command that returns a MACsec SA to EMPTY. -/
  | saRetire (req : Requester) (slot : Fin 4) (port : Fin 32) (tx : Bool) (an : Fin 4) (sc : Fin 32)
  /-- SA_READ (R374): Glaze command that returns an SA's next PN and state. -/
  | saRead (req : Requester) (slot : Fin 4) (port : Fin 32) (tx : Bool) (an : Fin 4) (sc : Fin 32)
  /-- FV_SET (R364): Glaze command that sets a freshness counter, refusing a backward move. -/
  | fvSet (req : Requester) (slot : Fin 4)
  /-- FV_READ (R374): Glaze command that returns a freshness counter's LATEST, BITMAP and SET. -/
  | fvRead (req : Requester) (slot : Fin 4)
  /-- NODE_READ (R405): Saggar command that returns a key node's metadata. -/
  | nodeRead (req : Requester) (slot : Fin 4) (node : Fin 4096)
  /-- KEY_UPDATE (R395): Saggar command that checks an update message and injects, invalidates or returns. -/
  | keyUpdate (req : Requester) (slot : Fin 4) (msg : List Byte)
  /-- KEY_INJECT (R393): Saggar command that injects a key value in the clear under PRIV mode. -/
  | keyInject (req : Requester) (slot : Fin 4) (node : Fin 4096) (key : List Byte)
  /-- NODE_INVALIDATE (R389): Saggar command that invalidates a key node and orphans its descendants. -/
  | nodeInvalidate (req : Requester) (slot : Fin 4) (node : Fin 4096)
  /-- LIFECYCLE (R392): Saggar command that moves the lifecycle state forward by burning OTP bits. -/
  | lifecycle (req : Requester) (slot : Fin 4) (target : Fin 8) (pub : List Byte)
  /-- ATTEST (R400): Saggar command that signs an attestation report with the next leaf. -/
  | attest (req : Requester) (slot : Fin 4) (nonce : List Byte) (stuck : Nat)
  /-- DEBUG_CHALLENGE (R402): Saggar command that issues a debug unlock challenge. -/
  | debugChallenge (req : Requester) (slot : Fin 4)
  /-- DEBUG_RESPONSE (R402): Saggar command that verifies a signed debug response and opens the scope. -/
  | debugResponse (req : Requester) (slot : Fin 4) (scope : Fin 4) (pub sig : List Byte)
  /-- DEBUG_CHALLENGE_EXPIRY (R402): A debug challenge expires after 60 s. -/
  | debugChallengeExpiry
  /-- KEY_REMASK (R382): Every REMASK_Q x 0.25 ms Saggar re-masks every key-cache entry. -/
  | keyRemask
  /-- KEY_DERIVATION (R383): A key not in the cache is derived from its nearest cached ancestor for a waiting operation. -/
  | keyDerivation (node : Fin 4096)
  /-- ZEROIZE_PIN (R396): Assertion of ZEROIZE_N makes Foot clear the key cache and burn ZEROISED. -/
  | zeroizePin
  /-- RING_MSG_RX (R409): A consent-ring message is received on a carrier, relayed and acted on. -/
  | ringMsgRx
  /-- RING_SUCCESSOR_TIMEOUT (R411): The successor sends nothing within T_TOKEN and is marked missing. -/
  | ringSuccessorTimeout (c : Fin 16)
  /-- TOKEN_LOST (R411): No ring message for 4 x T_TOKEN plus the node wait and the device sends ALIVE and RING. -/
  | tokenLost (c : Fin 16)
  /-- SLEEP_COMMIT (R414): The confirmation window ends and the cluster commits sleep. -/
  | sleepCommit (c : Fin 16)
  /-- NC_WAKE (R415): Write of 1 to NC_CTRL.WAKE is a local wake of the cluster. -/
  | ncWake (req : Requester) (c : Fin 16)
  /-- NC_CONSENT_WRITE (R411): Write to NC_CTRL.CONSENT sets the device's consent; 0 is a local wake. -/
  | ncConsentWrite (req : Requester) (c : Fin 16) (v : Bool)
  /-- WAKE_VALIDATION_TIMEOUT (R418): A cluster in CHECK sees no validating message within VALID_MS and the wake is false. -/
  | wakeValidationTimeout (c : Fin 16)
  /-- WAKE_MUTE_END (R419): A port's MUTE_S mute ends on the Foot timer and FW_RUN clears. -/
  | wakeMuteEnd (port : Fin 128)
  /-- FOOT_FW_CLEAR (R419): Write of 1 to FOOT_FW_n.CLEAR clears the false-wake counters and ends the mute. -/
  | footFwClear (req : Requester) (port : Fin 128)
  /-- STANDBY_ENTER (R422): Write of 1 to NMW_STANDBY.ENTER starts the standby entry sequence or is refused. -/
  | standbyEnter (req : Requester)
  /-- STANDBY_AUTO (R422): All clusters have been ASLEEP for STBY_DELAY_S and Kiln firmware enters standby. -/
  | standbyAuto
  /-- STANDBY_DONE (R422): The standby entry sequence completes with the core power-gated, or begins exit if a wake is latched. -/
  | standbyDone
  /-- STANDBY_WAKE (R423): Foot detects a wake source in standby, records it and releases a warm reset. -/
  | standbyWake (source : Fin 6) (index : Fin 128) (mask : Fin 8) (id : Fin 536870912)
  /-- STANDBY_TIMER_EXPIRY (R423): The standby timer expires and wakes the device. -/
  | standbyTimerExpiry
  /-- TX_DOORBELL (R435): Write of TX_DB gives the new send producer index or puts the queue pair in ERROR. -/
  | txDoorbell (req : Requester) (q : Fin 1024) (idx : BitVec 16)
  /-- RXB_DOORBELL (R435): Write of RXB_DB gives the new buffer producer index. -/
  | rxbDoorbell (req : Requester) (q : Fin 1024) (idx : BitVec 16)
  /-- CQ_DOORBELL (R435): Write of CQ_DB gives the completion consumer index and may re-arm the interrupt. -/
  | cqDoorbell (req : Requester) (q : Fin 1024) (idx : BitVec 16) (arm : Bool)
  /-- SLIP_SEND (R437): The device fetches a send's descriptors and data and hands the send on. -/
  | slipSend (q : Fin 1024) (ds : List SendDesc) (data : List Byte) (dataOk : Bool)
  /-- SEND_TS_TIMEOUT (R439): A timestamp-requested writeback waits 1 ms and is written without a timestamp. -/
  | sendTsTimeout (q : Fin 1024)
  /-- SLIP_DELIVER (R442): The Slip DMA engine takes an item and writes it into buffers with completion entries. -/
  | slipDeliver (work : SlipWork) (q : Fin 1024) (addrs : List Nat) (poison : Option Nat)
  /-- QP_ITR_EXPIRY (R445): ITR_US passes since the first unannounced entry and the vector is sent. -/
  | qpItrExpiry (q : Fin 1024)
  /-- QP_ENABLE (R434): Write of QP_CTRL.ENABLE = 1 starts a queue pair or sets ERROR. -/
  | qpEnable (req : Requester) (q : Fin 1024)
  /-- QP_DISABLE (R436): Write of QP_CTRL.ENABLE = 0 stops a queue pair and discards unstarted sends. -/
  | qpDisable (req : Requester) (q : Fin 1024) (sends : List Nat)
  /-- QP_QUIESCED (R436): A disabled queue pair issues no further writes and BUSY clears. -/
  | qpQuiesced (q : Fin 1024)
  /-- QP_FLUSH (R448): Write of FLUSH = 1 empties a CONTROL queue pair in both directions. -/
  | qpFlush (req : Requester) (q : Fin 1024) (sends : List Nat)
  /-- CAP_MARK (R446): Write of MARK = 1 sets the capture mark at RD. -/
  | capMark (req : Requester) (q : Fin 1024)
  /-- CAP_REWIND (R446): Write of REWIND = 1 sets RD to the mark and ends any item in delivery. -/
  | capRewind (req : Requester) (q : Fin 1024)
  /-- CAP_RELEASE (R446): Write of n to CAP_RELEASE frees delivered capture items up to n. -/
  | capRelease (req : Requester) (q : Fin 1024) (n : Word)
  /-- FUNCTION_FLR (R432): An FLR, hot reset or Bus Master Enable clear disables the function's queue pairs and clears MSI-X. -/
  | functionFlr (f : Fin 8) (busMaster : Bool)
  /-- BRG_WINDOW_WRITE (R451): A host write to a remote window becomes posted bridge transactions or a staging write. -/
  | brgWindowWrite (a : BrgAddr) (full : Bool) (data : List Byte)
  /-- BRG_WINDOW_READ (R451): A host read of a remote window becomes a non-posted bridge transaction. -/
  | brgWindowRead (a : BrgAddr) (tag len : Nat)
  /-- BRG_NP_ISSUE (R459): A waiting non-posted request gets a tag and is issued. -/
  | brgNpIssue (tag : Fin 1024)
  /-- BRG_WRITE_RX (R457): A bridge WRITE transaction arrives at its target and is performed. -/
  | brgWriteRx (env : WrEnv)
  /-- BRG_READ_RX (R457): A bridge READ transaction arrives at its target, is performed and answered. -/
  | brgReadRx (memErr : Bool)
  /-- BRG_CPL_RX (R459): A bridge completion arrives at the requester and ends its read or command. -/
  | brgCplRx
  /-- BRG_MSG_RX (R462): A bridge MSG side-band message arrives and is recorded as a remote event. -/
  | brgMsgRx
  /-- BRG_LOCK_RX (R468): A bridge LOCK arrives and is granted, queued or answered with LOCK_RETRY. -/
  | brgLockRx
  /-- BRG_UNLOCK_RX (R466): A bridge UNLOCK arrives and releases or withdraws a lock. -/
  | brgUnlockRx
  /-- BRG_SEM_ACQ_RX (R470): A SEM_ACQ arrives and takes the semaphore or answers LOCK_RETRY. -/
  | brgSemAcqRx
  /-- BRG_SEM_REL_RX (R470): A SEM_REL arrives and frees the semaphore. -/
  | brgSemRelRx
  /-- BRG_ERR_RX (R473): An end-to-end ERR report arrives and is counted and logged. -/
  | brgErrRx
  /-- BRG_READ_TIMEOUT (R460): No completion arrives within RD_TIMEOUT_US and the read ends with BRIDGE_TIMEOUT. -/
  | brgReadTimeout (tag : Fin 1024)
  /-- BRG_TAG_RELEASE (R461): A timed-out tag becomes reusable after a further RD_TIMEOUT_US. -/
  | brgTagRelease (tag : Fin 1024)
  /-- BRG_LOCK_EXPIRY (R469): A held bus sees no transaction from its holder for LOCK_HOLD_US and is released. -/
  | brgLockExpiry (bus : Fin 129)
  /-- BRG_LOCK_BACKOFF (R468): The random backoff after a lost LOCK ends and the LOCK starts again. -/
  | brgLockBackoff (ch : Fin 12)
  /-- BRG_SEM_EXPIRY (R470): A semaphore held for SEM_HOLD_MS is freed. -/
  | brgSemExpiry (sem : Fin 64)
  /-- BRG_LOCK (R466): Bridge command that establishes a locked sequence on a window. -/
  | brgLock (req : Requester) (slot : Fin 4) (ch : Fin 16)
  /-- BRG_UNLOCK (R466): Bridge command that ends a locked sequence. -/
  | brgUnlock (req : Requester) (slot : Fin 4) (ch : Fin 16)
  /-- BRG_FENCE (R475): Bridge command that completes once earlier writes of the channel are known not to have failed. -/
  | brgFence (req : Requester) (slot : Fin 4) (ch : Fin 16)
  /-- SEM_ACQUIRE (R470): Bridge command that acquires a remote semaphore. -/
  | semAcquire (req : Requester) (slot : Fin 4) (km : Fin 4)
  /-- SEM_RELEASE (R470): Bridge command that releases a remote semaphore. -/
  | semRelease (req : Requester) (slot : Fin 4) (km : Fin 4)
  /-- BRG_ERRLOG_POP (R474): Write of 1 to BRG_ERRLOG_POP removes the oldest error-log entry. -/
  | brgErrlogPop (req : Requester)
  /-- COIL_HELLO_TIMER (R481): Every HELLO_MS, or 10 ms when unassigned, Coil termination sends HELLO on its links. -/
  | coilHelloTimer
  /-- COIL_FRAME_RX (R484): A Coil frame arrives and is terminated, transited or discarded. -/
  | coilFrameRx (res : Nat)
  /-- COIL_DATA_RX (R487): A DATA frame terminates and enters pipeline 1 at GPN 156. -/
  | coilDataRx
  /-- COIL_ROUTER_RX (R488): A ROUTER frame terminates and is enqueued to a flexport or handed in at GPN 155. -/
  | coilRouterRx
  /-- HELLO_RX (R491): A HELLO arrives and brings a link UP or is answered with ASSIGN. -/
  | helloRx
  /-- ASSIGN_RX (R491): A worker receives ASSIGN, takes its DID and answers JOIN. -/
  | assignRx
  /-- JOIN_RX (R491): A manager receives JOIN, marks the worker JOINED and starts configuration. -/
  | joinRx
  /-- COIL_LINK_LOST (R481): LOST_MS passes without a Coil frame and the link goes DOWN. -/
  | coilLinkLost (link : Fin 8)
  /-- SYNC_RX (R501): A relayed TIME SYNC arrives and drives the lower device's domain servo. -/
  | syncRx (rate : Word) (step good : Bool) (age : Nat)
  /-- PDELAY_REQ_RX (R501): A PDELAY_REQ arrives and is answered with PDELAY_RESP. -/
  | pdelayReqRx
  /-- PDELAY_RESP_RX (R501): A PDELAY_RESP arrives and the link delay is computed. -/
  | pdelayRespRx
  /-- TIME_RELAY_TIMER (R501): The SYNC interval or 1 s PDELAY interval elapses and the message is sent. -/
  | timeRelayTimer (link : Fin 8) (what : Fin 3) (gm : BitVec 64)
  /-- COIL_SYNC_TIMEOUT (R501): No SYNC arrives for three intervals and the domain leaves LOCKED. -/
  | coilSyncTimeout (domB : Bool)
  /-- XFER_DATA_RX (R498): A CONFIG or UPDATE chunk arrives and is acknowledged or refused as BUSY. -/
  | xferDataRx
  /-- XFER_ACK_RX (R498): A transfer ACK arrives and frees unacknowledged chunks. -/
  | xferAckRx
  /-- XFER_COMMAND_RX (R499): A transfer COMMAND arrives and is executed in CFG slot 3. -/
  | xferCommandRx
  /-- XFER_RESULT_RX (R499): A transfer RESULT arrives at the manager, which proceeds to the next region. -/
  | xferResultRx
  /-- XFER_ABORT_RX (R498): A transfer ABORT arrives and ends the transfer. -/
  | xferAbortRx
  /-- XFER_RETX_TIMEOUT (R498): A chunk is not acknowledged within 1 ms and is resent, or the transfer fails after eight sends. -/
  | xferRetxTimeout (x : Fin 65536)
  /-- COL_REVT_POP (R503): Write of 1 to COL_REVT_POP removes the head remote event. -/
  | colRevtPop (req : Requester)
  /-- LOCKSTEP_MISMATCH (R506): A lockstep compare finds differing outputs and the pair freezes. -/
  | lockstepMismatch (p : Fin 5) (undo : Nat) (inLog : List Nat) (outLog : List Nat)
  /-- FAILOVER_RESUME (R511): Replay completes and the spare takes live inputs as the active pair. -/
  | failoverResume (outs : List Nat) (asked : Nat)
  /-- KILN_CHECKPOINT (R509): A pair takes and commits a checkpoint after comparing state hashes. -/
  | kilnCheckpoint (p : Fin 5) (early : Bool) (differs : Bool)
  /-- PAIR_WDG (R520): No commit within PAIR_WDG_US and the pair fails. -/
  | pairWdg (p : Fin 5) (undo : Nat) (inLog : List Nat) (outLog : List Nat)
  /-- PAIR_BIST_DONE (R515): A frozen pair's BIST completes and the pair becomes spare or is retired. -/
  | pairBistDone (p : Fin 5) (pass : Bool)
  /-- KILN_MEM_SCRUB (R507): Every 10 s the on-chip Kiln memory is scrubbed. -/
  | kilnMemScrub (bits : Fin 3) (restored : Bool)
  /-- FOOT_CMD_KEY (R522): Write to FOOT_CMD_KEY records the key for the requester. -/
  | footCmdKey (req : Requester) (w : Word)
  /-- SAFE_ENTER (R523): FOOT_CMD SAFE_ENTER puts every flexport transmitter in the safe state. -/
  | safeEnter (req : Requester)
  /-- SAFE_EXIT (R523): FOOT_CMD SAFE_EXIT leaves the safe state if permitted. -/
  | safeExit (req : Requester)
  /-- WARM_RESET (R522): FOOT_CMD WARM_RESET with a valid key warm-resets the core domain. -/
  | warmReset (req : Requester)
  /-- COLD_RESET (R522): FOOT_CMD COLD_RESET with a valid key cold-resets the core domain. -/
  | coldReset (req : Requester)
  /-- ZEROISE (R396): FOOT_CMD ZEROISE with a valid key zeroises the keys. -/
  | zeroise (req : Requester)
  /-- FOOT_WAKE_CMD (R423): FOOT_CMD WAKE wakes the device from standby. -/
  | footWakeCmd (req : Requester)
  /-- RETIRE_CLEAR (R516): FOOT_CMD RETIRE_CLEAR with a valid key clears the retired-pair bits. -/
  | retireClear (req : Requester)
  /-- SAFE_PIN_ASSERT (R523): A falling edge of SAFE_N enters the safe state. -/
  | safePinAssert (level : Bool)
  /-- FOOT_WDG_KICK (R525): Write to FOOT_WDG_KICK restarts the Foot watchdog or expires it. -/
  | footWdgKick (req : Requester) (v : Word)
  /-- FOOT_WDG_EXPIRY (R525): The Foot watchdog count reaches its limit and the safe state is entered. -/
  | footWdgExpiry
  /-- FOOT_WDG_ACTION (R525): 1 ms after expiry the watchdog performs its warm or cold reset action. -/
  | footWdgAction
  /-- FOOT_WDG_CFG_WRITE (R525): Write to FOOT_WDG_CFG, accepted only before the first kick and without ACTION 0b11. -/
  | footWdgCfgWrite (req : Requester) (w : Word)
  /-- VBAT_READING (R526): Every 16 ms Foot averages the battery samples and updates VBAT_LOW. -/
  | vbatReading (samples : List Nat)
  /-- FOOT_FAULT_CLEAR (R524): Write of 1 to a FOOT_FAULT bit clears it unless its cause persists. -/
  | footFaultClear (req : Requester) (w : Word)
  /-- CRZ_ROUTE_WRITE (R533): Write of CRZ_ROUTE_g reroutes a group and signals new targets if pending. -/
  | crzRouteWrite (req : Requester) (g : Fin 64) (w : Word)
  /-- GROUP_ARM (R534): Write of 1 to an ARM bit re-arms a group target and signals it if still pending. -/
  | groupArm (req : Requester) (fn : Option (Fin 8)) (hi : Bool) (w : Word)
  /-- LEAF_INJECT (R528): Write of 1 to a leaf's INJECT sets STATUS under the unlock, or sets REFUSED. -/
  | leafInject (req : Requester) (off : BitVec 28) (w : Word)
  /-- INJ_KEY_WRITE (R540): Write to CRZ_INJ_KEY advances or closes the injection unlock. -/
  | injKeyWrite (req : Requester) (w : Word)
  /-- INJ_UNLOCK_EXPIRY (R540): INJ_WINDOW_MS passes and the injection unlock closes. -/
  | injUnlockExpiry
  /-- INJ_GO (R541): Write of 1 to CRZ_INJ_GO arms an injection, acting at once for immediate detectors. -/
  | injGo (req : Requester)
  /-- INJ_EXPIRY (R541): An injection still armed after 100 ms is cancelled. -/
  | injExpiry
  /-- CLOCK_FAULT (R561): Foot's 1 ms measurement finds REFCLK, the root PLL or a derived clock out of range and holds reset. -/
  | clockFault (which : Fin 3)
  /-- CLOCK_FAULT_CLEARED (R561): A clock fault has been absent for 1 ms and the reset hold is released. -/
  | clockFaultCleared (which : Fin 3)
  /-- VMON_FAULT (R539): A rail is outside its operating range for 1 µs. -/
  | vmonFault (r : Fin 6) (outside : Bool)
  /-- TEMP_CRIT (R539): The junction temperature reading reaches 128 °C. -/
  | tempCrit (reading : Int)
  /-- BUS_TIMEOUT (R539): A register access is unanswered for 4 µs. -/
  | busTimeout (read : Bool)
  /-- UPD_DATA (R543): Update message that writes a chunk of the manifest, an entry or a lock message. -/
  | updData (sess : BitVec 32) (entry : Fin 65536) (off : BitVec 32) (data : List Byte)
  /-- UPD_BEGIN (R547): Update message that verifies the manifest and starts staging. -/
  | updBegin (sess : BitVec 32)
  /-- UPD_STATUS (R543): Update message that returns update status, progress and failure. -/
  | updStatus (sess : BitVec 32) (entry : Fin 65536)
  /-- UPD_COMMIT (R550): Update message that checks refusals and starts activation. -/
  | updCommit (sess : BitVec 32)
  /-- UPD_ABORT (R543): Update message that ends the session and discards a staged bank. -/
  | updAbort (sess : BitVec 32)
  /-- UPD_LOCK (R553): Update message that applies the owner lock message received. -/
  | updLock (sess : BitVec 32)
  /-- UPD_SESSION_TIMEOUT (R544): A session receives no message for 60 s and is dropped. -/
  | updSessionTimeout
  /-- UPD_PART_STAGED (R548): A device reads back and verifies a staged part or reports its failure. -/
  | updPartStaged (entry : Fin 256) (ok : Bool)
  /-- TRIAL_REPORT (R551): A device reports its trial-start outcome to the manager. -/
  | trialReport (did : Fin 2048)
  /-- TRIAL_TIMEOUT (R551): A device does not report within 10 s and the manager orders reversion. -/
  | trialTimeout (did : Fin 2048)
  /-- COMMIT_ORDER (R551): A worker receives the commit order and commits its new bank. -/
  | commitOrder
  /-- REVERT_ORDER (R551): A worker receives the revert order and restarts from its old bank. -/
  | revertOrder
  /-- FOOT_POWER_ON (R556): VDD_FOOT powers on and Foot resets all Foot state. -/
  | footPowerOn (auxAddr : Fin 4)
  /-- PORST_ASSERT (R556): PORST_N low passes the filter and holds the core domain in cold reset. -/
  | porstAssert
  /-- RESET_N_ASSERT (R556): RESET_N low passes the filter and holds the core domain in warm reset. -/
  | resetNAssert
  /-- POWER_GOOD_FAULT (R555): A rail falls below 90 % of nominal and Foot asserts cold reset. -/
  | powerGoodFault
  /-- RESET_RELEASE (R556): A reset is released and the device samples straps, runs BIST and boots. -/
  | resetRelease (bootMode : Fin 8) (didStrap : Fin 16) (trng : Nat) (storeOk : Bool)
  /-- ROOT_PLL_LOCK (R561): The root PLL locks after reset release. -/
  | rootPllLock
  /-- BOOT_BIST_DONE (R561): The Kiln pairs finish boot BIST and failing pairs are retired. -/
  | bootBistDone (fails : Fin 32)
  /-- FIRMWARE_VERIFY_DONE (R562): The ROM finishes reading and verifying the manifest and firmware, starting Kiln or entering recovery. -/
  | firmwareVerifyDone (sigA sigB : Bool)
  /-- LANE_PLL_LOCK (R561): A SerDes lane PLL locks after its port's mode is set. -/
  | lanePllLock (port : Fin 24)
  /-- AUX_WRITE (R581): An AUX I2C write transaction writes FOOT registers if its PEC is correct. -/
  | auxWrite (bytes : List Byte)
  /-- AUX_READ (R581): An AUX I2C read transaction returns FOOT register words with a PEC. -/
  | auxRead (dev : BitVec 7) (hi lo : Byte) (n : Nat)
  /-- T1S_ENERGY_DETECT (R415): Energy on FPn_C of a sleeping T1S member port for ED_US µs, while the device is awake, is a bus wake of its network cluster. -/
  | t1sEnergyDetect (port : Fin 128)
  /-- LIN_TX_BIT_ERROR (R130): The LIN engine reads back a bit it sends that differs, ends its transmission at once, counts a bit error and abandons the pending frame. -/
  | linTxBitError (port : Fin 128)
  /-- LOCK_WAIT_BUDGET_END (R467): A LOCK waiting in the lock-wait buffer of a held bus reaches the end of its budget and is removed from the buffer. -/
  | lockWaitBudgetEnd (k : Fin 64)
  deriving DecidableEq, Repr

end Sys2Proof
end

