-- ==== Sys2Proof/Config.lean ====
section
/-! DEFINITION. Sys2Proof/Config.lean: what the manual leaves open. Every constant here has no body: nothing proves a
value of it, and a claim that holds in the model holds for every value. -/

namespace Sys2Proof.Config

/-- The free values: the k-th value that the model draws where the manual states none. A use cuts it to its width. -/
opaque free : Nat → Nat

/-- LABEL of the fixed derived nodes 1 and 2 of the key tree, which the manual does not state (R384, R386). -/
opaque fixedLabel : Nat → Nat

/-- SHA-256 of the Mehryr root key held in ROM (SAG_ROM_HASH), as a number of 256 bits. -/
opaque romHash : Nat

/-- The key-encryption key that the SRAM PUF of this die yields with helper data (R379). -/
opaque pufKek : Nat → Nat

/-- What attestation derives from node 1 and the manual leaves open (R398): I value, seed and, for a signature of a
bottom-level public key, the randomiser C. Operands: key of node 1; 0 for the top-level tree, k + 1 for bottom tree k. -/
opaque attI : List Byte → Nat → Nat
opaque attSeed : List Byte → Nat → Nat
opaque attC : List Byte → Nat → Nat

/-- CiA 613-2 verification of a frame's data under a key (R367), whose layout the manual does not repeat: the freshness
value received, whether the ICV is right, and the authentic data. Operands: key, XL_MODE, priority identifier, acceptance
field, data. -/
opaque xlOpen : List Byte → Nat → Nat → Nat → List Byte → Nat × Bool × List Byte

/-- CiA 613-2 protection of data (R367). Operands: key, XL_MODE, priority identifier, acceptance field, freshness, data. -/
opaque xlSeal : List Byte → Nat → Nat → Nat → Nat → List Byte → List Byte

/-- The width of the CiA 613-2 freshness value in bits (R367). -/
opaque xlFvBits : Nat

/-- CAP of a unit's descriptor, by descriptor number: no chapter states its bits (R19). -/
opaque unitCap : Nat → Nat

/-- The descriptor reference to the next unit of its manager's group that a worker shows for itself, by DID: nothing states
how the worker learns it (R19, R497). -/
opaque nextSibling : Nat → Nat

/-- A direct worker manages a group of its own, by DID: nothing states how its manager learns it (R497). -/
opaque subManager : Nat → Bool

end Sys2Proof.Config
end

