-- ==== Sys2Proof/Machine/Bits.lean ====
section
/-! DEFINITION. Sys2Proof/Machine/Bits.lean: bit fields (R4), byte order (R5), signed numbers and small list helpers. -/

namespace Sys2Proof.Machine

/-- Field [hi:lo] of a number (R4). -/
def nbits (n hi lo : Nat) : Nat := (n >>> lo) % 2 ^ (hi + 1 - lo)

/-- Bit [k] of a number. -/
def nbit (n k : Nat) : Bool := n.testBit k

/-- Field [hi:lo] of a word (R4). -/
def fld (w : Word) (hi lo : Nat) : Nat := nbits w.toNat hi lo

/-- Bit [k] of a word. -/
def bit (w : Word) (k : Nat) : Bool := w.getLsbD k

/-- The mask of field [hi:lo]. -/
def fmask (hi lo : Nat) : Word := w32 ((2 ^ (hi + 1 - lo) - 1) <<< lo)

/-- A word with its bits under mask m taken from v. -/
def mergeMask (w m v : Word) : Word := (w &&& ~~~m) ||| (v &&& m)

/-- A word with field [hi:lo] set to v (v is cut to the field's width). -/
def setFld (w : Word) (hi lo v : Nat) : Word :=
  mergeMask w (fmask hi lo) (w32 (v <<< lo))

/-- A word with bit [k] set to b. -/
def setBit (w : Word) (k : Nat) (b : Bool) : Word := setFld w k k (if b then 1 else 0)

/-- A number with bit k set to b. -/
def nsetBit (n k : Nat) (b : Bool) : Nat :=
  if n.testBit k then (if b then n else n - 2 ^ k) else (if b then n + 2 ^ k else n)

/-- 1 for true, 0 for false. -/
def b2n (b : Bool) : Nat := if b then 1 else 0

/-- The signed value of a number of w bits (two's complement). -/
def signed (w n : Nat) : Int := if n % 2 ^ w < 2 ^ (w - 1) then ((n % 2 ^ w : Nat) : Int) else ((n % 2 ^ w : Nat) : Int) - (2 ^ w : Nat)

/-- The two's complement of an integer in w bits. -/
def unsigned (w : Nat) (i : Int) : Nat := (i % ((2 ^ w : Nat) : Int)).toNat

/-- i cut to the range lo to hi. -/
def clampI (lo hi i : Int) : Int := if i < lo then lo else if hi < i then hi else i

/-- The number that bytes spell, the first the most significant (network order, R5). -/
def beNat : List Byte → Nat
  | [] => 0
  | b :: bs => b.toNat * 256 ^ bs.length + beNat bs

/-- The number that bytes spell, the first the least significant (register order, R5). -/
def leNat : List Byte → Nat
  | [] => 0
  | b :: bs => b.toNat + 256 * leNat bs

/-- n as k bytes, the first the most significant. -/
def beBytes : Nat → Nat → List Byte
  | 0, _ => []
  | k + 1, n => b8 (n / 256 ^ k) :: beBytes k n

/-- n as k bytes, the first the least significant. -/
def leBytes : Nat → Nat → List Byte
  | 0, _ => []
  | k + 1, n => b8 n :: leBytes k (n / 256)

/-- Bytes from..from+len-1 of a list. -/
def slice {α : Type} (l : List α) (frm len : Nat) : List α := (l.drop frm).take len

/-- The big-endian number in bytes from..from+len-1. -/
def beAt (l : List Byte) (frm len : Nat) : Nat := beNat (slice l frm len)

/-- Byte k of a list as a number; 0 beyond its end. -/
def byteAt (l : List Byte) (k : Nat) : Nat := (l.getD k 0).toNat

/-- The list with the bytes from position k on replaced by v, as far as the list reaches. -/
def patch (l : List Byte) (k : Nat) (v : List Byte) : List Byte :=
  (l.take k ++ v ++ l.drop (k + v.length)).take l.length

/-- The list with k copies of x behind it. -/
def padTo {α : Type} (l : List α) (k : Nat) (x : α) : List α := l ++ List.replicate (k - l.length) x

/-- The little-endian words of a byte list, its last word filled with zeros. -/
def wordsOf : Nat → List Byte → List Word
  | 0, _ => []
  | k + 1, l => w32 (leNat (l.take 4)) :: wordsOf k (l.drop 4)

/-- The bytes of words, each little-endian. -/
def bytesOfWords (l : List Word) : List Byte := l.flatMap (fun w => leBytes 4 w.toNat)

/-- The list with entry k replaced by x (unchanged where there is none). -/
def setAt {α : Type} (l : List α) (k : Nat) (x : α) : List α := l.set k x

/-- Apply f to the numbers lo, lo+1, …, lo+n-1 in turn. -/
def forN {σ : Type} (n lo : Nat) (f : Nat → σ → σ) (s : σ) : σ :=
  match n with
  | 0 => s
  | k + 1 => forN k (lo + 1) f (f lo s)

/-- The numbers below n with p. -/
def findBits (n : Nat) (p : Nat → Bool) : List Nat := (List.range n).filter p

end Sys2Proof.Machine
end

