-- ==== Sys2Proof/Machine/Store.lean ====
section
/-! DEFINITION. Sys2Proof/Machine/Store.lean: sparse tables. A table is a list of (key, value) pairs with strictly
rising keys; a register store lists in addition no word equal to its reset value, so that equal stores are equal lists. -/

namespace Sys2Proof.Machine

/-- A sparse table: pairs of a key and a value, keys strictly rising. -/
abbrev Tbl (α : Type) := List (Nat × α)

/-- The value listed for a key. -/
def tblFind {α : Type} : Tbl α → Nat → Option α
  | [], _ => none
  | (k, v) :: t, i => if k = i then some v else tblFind t i

/-- The value for a key, or d where none is listed. -/
def tblGet {α : Type} (t : Tbl α) (i : Nat) (d : α) : α := (tblFind t i).getD d

/-- The table with key i at value v. -/
def tblSet {α : Type} : Tbl α → Nat → α → Tbl α
  | [], i, v => [(i, v)]
  | (k, x) :: t, i, v =>
    if i < k then (i, v) :: (k, x) :: t
    else if i = k then (i, v) :: t
    else (k, x) :: tblSet t i v

/-- The table without key i. -/
def tblErase {α : Type} (t : Tbl α) (i : Nat) : Tbl α := t.filter (fun e => !decide (e.1 = i))

/-- The table without the keys that satisfy p. -/
def tblDrop {α : Type} (p : Nat → Bool) (t : Tbl α) : Tbl α := t.filter (fun e => !p e.1)

/-- The entries of a table whose keys lie in [lo, hi). -/
def tblRange {α : Type} (t : Tbl α) (lo hi : Nat) : Tbl α := t.filter (fun e => decide (lo ≤ e.1) && decide (e.1 < hi))

/-- The keys of a list are strictly rising. -/
def tblSorted {α : Type} : Tbl α → Bool
  | [] => true
  | [_] => true
  | (a, _) :: (b, y) :: t => decide (a < b) && tblSorted ((b, y) :: t)

/-- A counter table keeps no zero: the table with key i at v, or without it where v is 0. -/
def tblPut (t : Tbl Nat) (i v : Nat) : Tbl Nat := if v = 0 then tblErase t i else tblSet t i v

end Sys2Proof.Machine
end

