-- ==== Sys2Proof/Machine/RegMap.lean ====
section
/-! DEFINITION. Sys2Proof/Machine/RegMap.lean: the register map (R6, R7, R10, R573, R578): one row per register or register
array of the chapters' maps, with its fields' access types, its reset value, its reset domain and whether it is mirrored. -/

namespace Sys2Proof.Machine

/-- Access types of a register field (R6). -/
inductive Acc where
  | rw | ro | wo | w1c | w1s | rc | rwl
  deriving DecidableEq, Repr

/-- Reset domains (R10). -/
inductive Domain where
  | warm | cold | foot
  deriving DecidableEq, Repr

/-- Who may write a register's fields, where its meaning names its writers (R576). -/
inductive Who where
  | any          -- host function 0, Kiln firmware, or the manager through the bridge
  | host0        -- host function 0 only
  | kiln         -- Kiln firmware only
  | loader       -- the configuration loader only
  deriving DecidableEq, Repr

/-- What a read of the register does. -/
inductive RKind where
  | plain        -- no side effect
  | counter      -- a 64-bit statistics counter, LO then HI (R8)
  | entry        -- a multi-word entry: a read of word 0 takes the snapshot (R248)
  deriving DecidableEq, Repr

/-- One field of a register map. -/
structure Fld where
  hi : Nat
  lo : Nat
  acc : Acc
  deriving DecidableEq, Repr

/-- One row of the register map: a register, or an array of registers or entries. -/
structure RegRow where
  name : String
  base : Nat
  /-- (count, stride) of each array dimension, outermost first. -/
  dims : List (Nat × Nat) := []
  /-- words per entry (2 for a counter). -/
  words : Nat := 1
  kind : RKind := .plain
  flds : List Fld := []
  reset : Nat := 0
  dom : Domain := .warm
  mirrored : Bool := false
  /-- The region that owns the words; 0xFE where no region writes them (CFG_MIRROR_STATUS.REGION). -/
  region : Nat := 0xFE
  who : Who := .any
  deriving DecidableEq, Repr

/-- A field of an access type. -/
def fl (hi lo : Nat) (a : Acc) : Fld := { hi := hi, lo := lo, acc := a }

/-- A whole-word field. -/
def whole (a : Acc) : List Fld := [fl 31 0 a]

/-- The byte offset d, relative to a row's base, lies on word number some w of an element of the array. -/
def dimOff : List (Nat × Nat) → Nat → Nat → Option Nat
  | [], words, d => if d % 4 = 0 && decide (d < 4 * words) then some (d / 4) else none
  | (n, st) :: ds, words, d => if d / st < n then dimOff ds words (d % st) else none

/-- The word number within the element that offset off has in row r, if the row covers it. -/
def rowWord (r : RegRow) (off : Nat) : Option Nat :=
  if r.base ≤ off then dimOff r.dims r.words (off - r.base) else none

/-- The mask of a row's fields of one access type. -/
def rowMask (r : RegRow) (a : Acc) : Word :=
  r.flds.foldl (fun m f => if f.acc = a then m ||| fmask f.hi f.lo else m) 0

/-- The key of personality register offset off of a flexport under personality p (R95): registers of different
personalities are different storage behind the same offset. -/
def persKey (p off : Nat) : Nat := p * 2 ^ 28 + off

/-- GLB block (R17, R573, R576; R559 to R568). -/
def rowsGlb : List RegRow := [
  { name := "GLB_ID", base := 0x00000000, flds := whole .ro, reset := 0x0A080100, dom := .cold },
  { name := "GLB_DID", base := 0x00000004, flds := whole .ro },
  { name := "GLB_STRAP", base := 0x00000010, flds := whole .ro, dom := .cold },
  { name := "GLB_BOOT", base := 0x00000014, flds := whole .ro },
  { name := "GLB_BOOT_FAIL", base := 0x00000018, flds := whole .ro },
  { name := "GLB_BOOT_TIME", base := 0x0000001C, flds := whole .ro },
  { name := "GLB_ACC_ERR", base := 0x00000020, flds := [fl 31 31 .w1c, fl 30 30 .w1c] },
  { name := "GLB_OVF_PART", base := 0x00000100, flds := [fl 31 16 .rwl, fl 15 0 .rwl], reset := 0x02000000, mirrored := true, region := 0 },
  { name := "GLB_DESC", base := 0x00008000, dims := [(1024, 32)], words := 8, kind := .entry, flds := whole .ro, region := 0 } ]

/-- The registers of command slots (R52): n slots, 0x80 bytes apart. -/
def slotRows (eng : String) (base n : Nat) : List RegRow := [
  { name := eng ++ "_CMD", base := base, dims := [(n, 0x80)], flds := whole .wo },
  { name := eng ++ "_ARG", base := base + 0x04, dims := [(n, 0x80), (8, 4)], flds := whole .rw },
  { name := eng ++ "_RES_STATUS", base := base + 0x24, dims := [(n, 0x80)], flds := whole .ro },
  { name := eng ++ "_RES", base := base + 0x28, dims := [(n, 0x80), (8, 4)], flds := whole .ro },
  { name := eng ++ "_RES_RELEASE", base := base + 0x48, dims := [(n, 0x80)], flds := whole .wo } ]

/-- CFG block (R56, R60 to R65). -/
def rowsCfg : List RegRow := slotRows "CFG" 0x000A0000 4 ++ [
  { name := "CFG_LOCK", base := 0x000A0200, flds := [fl 0 0 .w1s] },
  { name := "CFG_MIRROR_STATUS", base := 0x000A0210, flds := [fl 31 31 .w1c, fl 30 30 .w1c], reset := 0x00FF0000 },
  { name := "CFG_MIRROR_ADDR", base := 0x000A0214, flds := whole .ro },
  { name := "CFG_ACTIVE_GEN", base := 0x000A0400, dims := [(28, 0x10)], flds := whole .ro },
  { name := "CFG_INACTIVE_GEN", base := 0x000A0404, dims := [(28, 0x10)], flds := whole .ro },
  { name := "CFG_REGION_STATE", base := 0x000A0408, dims := [(28, 0x10)], flds := whole .ro },
  { name := "CFG_FLOOR", base := 0x000A040C, dims := [(28, 0x10)], flds := whole .ro } ]

/-- TIM block: time base (R66 to R84), Cones (R85 to R91) and lock groups (R150 to R155). -/
def rowsTim : List RegRow := [
  { name := "TIM_WT", base := 0x00060000, words := 3, flds := whole .ro },
  { name := "TIM_STATUS", base := 0x00060010, flds := whole .ro },
  { name := "TIM_CFG", base := 0x00060014, reset := 0x010A1C14, mirrored := true,
    flds := [fl 24 24 .rwl, fl 23 16 .rwl, fl 13 10 .rwl, fl 9 0 .rwl] },
  { name := "TIM_PLAN_CYCLE", base := 0x00060018, flds := whole .rwl, region := 21 },
  { name := "TIM_PLAN_OFFSET", base := 0x0006001C, flds := whole .rwl, region := 21 },
  { name := "TIM_WT_SEED", base := 0x00060020, words := 3, flds := whole .rw },
  { name := "TIM_WT_OFFSET", base := 0x00060030, flds := whole .ro },
  { name := "TIM_WT_SLEW", base := 0x00060034, flds := whole .ro },
  { name := "TIM_DOM_CFG", base := 0x00060040, dims := [(2, 4)], mirrored := true,
    flds := [fl 31 31 .rwl, fl 8 8 .rwl, fl 6 0 .rwl] },
  { name := "TIM_DOM_RATE", base := 0x00060050, dims := [(2, 0x20)], flds := [], who := .kiln },
  { name := "TIM_DOM_ADJ_SEC", base := 0x00060054, dims := [(2, 0x20)], flds := whole .rw, who := .kiln },
  { name := "TIM_DOM_ADJ_NS", base := 0x00060058, dims := [(2, 0x20)], flds := whole .rw, who := .kiln },
  { name := "TIM_DOM_ADJ_GO", base := 0x0006005C, dims := [(2, 0x20)], flds := [fl 0 0 .wo], who := .kiln },
  { name := "TIM_DOM_NOW", base := 0x00060080, dims := [(2, 0x10)], words := 3, flds := whole .ro },
  { name := "TIM_SEL_CMD", base := 0x000600A0, flds := [fl 31 31 .w1c], who := .host0 },
  { name := "TIM_SNAP", base := 0x000600B0, flds := [fl 0 0 .wo] },
  { name := "TIM_SNAP_WORDS", base := 0x000600B4, words := 9, flds := whole .ro },
  { name := "TIM_EVT_STATUS", base := 0x000600E0, flds := [fl 7 0 .w1c] },
  { name := "TIM_EVT_LIVE", base := 0x000600E4, flds := whole .ro },
  { name := "TIM_EVT_ENABLE", base := 0x000600E8, flds := [fl 7 0 .rw] },
  { name := "TIM_EVT_INJECT", base := 0x000600EC, flds := whole .wo },
  { name := "CONE_CTRL", base := 0x00061000, dims := [(96, 0x40)],
    flds := [fl 27 24 .rw, fl 23 23 .rw, fl 22 22 .rw, fl 21 21 .rw, fl 13 8 .rw, fl 7 4 .rw] },
  { name := "CONE_TGT_LO", base := 0x00061004, dims := [(96, 0x40)], flds := whole .rw },
  { name := "CONE_TGT_HI", base := 0x00061008, dims := [(96, 0x40)], flds := [fl 31 16 .rw, fl 7 0 .rw] },
  { name := "CONE_PER", base := 0x0006100C, dims := [(96, 0x40)], flds := whole .rw },
  { name := "CONE_PER_FRAC", base := 0x00061010, dims := [(96, 0x40)], flds := [fl 15 0 .rw] },
  { name := "CONE_WIDTH", base := 0x00061014, dims := [(96, 0x40)], flds := whole .rw },
  { name := "CONE_COUNT", base := 0x00061018, dims := [(96, 0x40)], flds := whole .rw },
  { name := "CONE_DONE", base := 0x0006101C, dims := [(96, 0x40)], flds := whole .ro },
  { name := "CONE_DEST", base := 0x00061020, dims := [(96, 0x40)], flds := [fl 23 0 .rw] },
  { name := "CONE_STATUS", base := 0x00061024, dims := [(96, 0x40)], flds := [fl 31 31 .w1c, fl 30 30 .w1c] },
  { name := "CONE_MISSED", base := 0x00061028, dims := [(96, 0x40)], words := 2, kind := .counter, flds := whole .rc },
  { name := "CONE_NEXT", base := 0x00061030, dims := [(96, 0x40)], words := 2, flds := whole .ro },
  { name := "LG_CTRL", base := 0x00063000, dims := [(16, 0x40)], mirrored := true, region := 21, reset := 0x03000080,
    flds := [fl 31 31 .rwl, fl 30 30 .rwl, fl 27 24 .rwl, fl 7 0 .rwl] },
  { name := "LG_MEMBER", base := 0x00063004, dims := [(16, 0x40), (4, 4)], flds := whole .rwl, mirrored := true, region := 21 },
  { name := "LG_STATUS", base := 0x00063014, dims := [(16, 0x40)], flds := [fl 31 31 .w1c, fl 30 30 .w1c] },
  { name := "LG_RELEASE", base := 0x00063018, dims := [(16, 0x40)], flds := [fl 0 0 .wo] },
  { name := "LG_COUNT", base := 0x00063020, dims := [(16, 0x40), (3, 8)], words := 2, kind := .counter, flds := whole .rc } ]

/-- FXP block, common registers (R95 to R104); region 1 + k owns cluster k. -/
def rowsFxp : List RegRow := [
  { name := "FXP_CFG", base := 0x00100000, dims := [(128, 0x1000)], flds := [fl 26 24 .rwl], mirrored := true, region := 1 },
  { name := "FXP_STATUS", base := 0x00100004, dims := [(128, 0x1000)], flds := whole .ro },
  { name := "FXP_EVT_STATUS", base := 0x00100010, dims := [(128, 0x1000)], flds := [fl 15 8 .w1c, fl 3 0 .w1c] },
  { name := "FXP_EVT_LIVE", base := 0x00100014, dims := [(128, 0x1000)], flds := whole .ro },
  { name := "FXP_EVT_ENABLE", base := 0x00100018, dims := [(128, 0x1000)], flds := [fl 15 8 .rw, fl 3 0 .rw] },
  { name := "FXP_EVT_INJECT", base := 0x0010001C, dims := [(128, 0x1000)], flds := whole .wo },
  { name := "FXP_TXTS", base := 0x00100020, dims := [(128, 0x1000)], words := 3, flds := whole .ro },
  { name := "FXP_TXQ_CFG", base := 0x00100030, dims := [(128, 0x1000)], flds := [fl 7 0 .rwl], region := 1 },
  { name := "FXP_COUNT", base := 0x00100040, dims := [(128, 0x1000), (6, 8)], words := 2, kind := .counter, flds := whole .rc } ]

/-- CANX registers (personality 1). -/
def rowsCanx : List RegRow := [
  { name := "CANX_MODE", base := 0x00100100, dims := [(128, 0x1000)], mirrored := true, region := 1, reset := 0x08000000,
    flds := [fl 31 18 .rwl, fl 15 0 .rwl] },
  { name := "CANX_NBT", base := 0x00100104, dims := [(128, 0x1000)], mirrored := true, region := 1,
    flds := [fl 31 24 .rwl, fl 23 16 .rwl, fl 14 8 .rwl, fl 6 0 .rwl] },
  { name := "CANX_DBT", base := 0x00100108, dims := [(128, 0x1000), (2, 4)], mirrored := true, region := 1,
    flds := [fl 28 24 .rwl, fl 22 16 .rwl, fl 13 8 .rwl, fl 5 0 .rwl] },
  { name := "CANX_PWM", base := 0x00100110, dims := [(128, 0x1000)], mirrored := true, region := 1,
    flds := [fl 29 24 .rwl, fl 21 16 .rwl, fl 5 0 .rwl] },
  { name := "CANX_TDC", base := 0x00100114, dims := [(128, 0x1000)], region := 1, flds := [fl 31 31 .rwl, fl 22 16 .rwl] },
  { name := "CANX_ERR", base := 0x00100118, dims := [(128, 0x1000)], flds := whole .ro },
  { name := "CANX_CTRL", base := 0x0010011C, dims := [(128, 0x1000)], flds := [fl 2 2 .rw] },
  { name := "CANX_COUNT", base := 0x00100140, dims := [(128, 0x1000), (10, 8)], words := 2, kind := .counter, flds := whole .rc } ]

/-- LIN registers (personality 2). -/
def rowsLin : List RegRow := [
  { name := "LIN_CFG", base := 0x00100100, dims := [(128, 0x1000)], mirrored := true, region := 1, reset := 0x06800000,
    flds := [fl 31 31 .rwl, fl 30 30 .rwl, fl 27 23 .rwl, fl 22 21 .rwl, fl 17 0 .rwl] },
  { name := "LIN_TIMING", base := 0x00100104, dims := [(128, 0x1000)], region := 1, reset := 0x03E80FA0, flds := whole .rwl },
  { name := "LIN_SCHED", base := 0x00100108, dims := [(128, 0x1000)], flds := [] },
  { name := "LIN_TBL_BASE", base := 0x0010010C, dims := [(128, 0x1000), (2, 4)], region := 1, flds := whole .rwl },
  { name := "LIN_CTRL", base := 0x00100114, dims := [(128, 0x1000)], flds := whole .wo },
  { name := "LIN_COUNT", base := 0x00100140, dims := [(128, 0x1000), (7, 8)], words := 2, kind := .counter, flds := whole .rc },
  { name := "LIN_ENT", base := 0x00100200, dims := [(128, 0x1000), (64, 4)], mirrored := true, region := 1,
    flds := [fl 31 10 .rwl, fl 8 0 .rwl] } ]

/-- T1S registers (personality 3). -/
def rowsT1s : List RegRow := [
  { name := "T1S_CFG", base := 0x00100100, dims := [(128, 0x1000)], mirrored := true, region := 1, reset := 0x00080020,
    flds := [fl 31 31 .rwl, fl 28 24 .rwl, fl 23 16 .rwl, fl 15 8 .rwl, fl 7 0 .rwl] },
  { name := "T1S_CFG2", base := 0x00100104, dims := [(128, 0x1000)], region := 1, reset := 0x00008000, flds := [fl 15 8 .rwl] },
  { name := "T1S_STATUS", base := 0x00100108, dims := [(128, 0x1000)], flds := whole .ro },
  { name := "T1S_COUNT", base := 0x00100140, dims := [(128, 0x1000), (4, 8)], words := 2, kind := .counter, flds := whole .rc } ]

/-- SENT registers (personality 4). -/
def rowsSent : List RegRow := [
  { name := "SENT_CFG", base := 0x00100100, dims := [(128, 0x1000)], mirrored := true, region := 1, reset := 0x4C0001E0,
    flds := [fl 31 24 .rwl, fl 15 0 .rwl] },
  { name := "SENT_COUNT", base := 0x00100140, dims := [(128, 0x1000), (6, 8)], words := 2, kind := .counter, flds := whole .rc } ]

/-- SPIC registers (personality 5). -/
def rowsSpic : List RegRow := [
  { name := "SPIC_CFG", base := 0x00100100, dims := [(128, 0x1000)], mirrored := true, region := 1, reset := 0x00070004,
    flds := [fl 31 26 .rwl, fl 21 21 .rwl, fl 20 16 .rwl, fl 12 0 .rwl] },
  { name := "SPIC_CS", base := 0x00100104, dims := [(128, 0x1000)], region := 1, reset := 0x01010100,
    flds := [fl 31 8 .rwl, fl 4 0 .rwl] },
  { name := "SPIC_COUNT", base := 0x00100140, dims := [(128, 0x1000)], words := 2, kind := .counter, flds := whole .rc } ]

/-- PWMX registers (personality 6). PWMX_PER and PWMX_HIGH are writable in generate mode only. -/
def rowsPwmx : List RegRow := [
  { name := "PWMX_CH_CFG", base := 0x00100100, dims := [(128, 0x1000), (4, 0x10)], mirrored := true, region := 1,
    flds := [fl 31 29 .rwl, fl 15 0 .rwl] },
  { name := "PWMX_PER", base := 0x00100104, dims := [(128, 0x1000), (4, 0x10)], region := 1, flds := [fl 23 0 .rwl] },
  { name := "PWMX_HIGH", base := 0x00100108, dims := [(128, 0x1000), (4, 0x10)], region := 1, flds := [fl 23 0 .rwl] } ]

/-- The personality registers of a flexport under personality p (R95). -/
def rowsPers (p : Nat) : List RegRow :=
  match p with
  | 1 => rowsCanx
  | 2 => rowsLin
  | 3 => rowsT1s
  | 4 => rowsSent
  | 5 => rowsSpic
  | 6 => rowsPwmx
  | _ => []

/-- MAC blocks (R156 to R181): E0 to E23, SVC as 24. -/
def rowsMac : List RegRow := [
  { name := "MAC_CFG_SVC", base := 0x001B0000, flds := whole .ro, reset := 0x60000000, mirrored := true },
  { name := "MAC_CFG", base := 0x00180000, dims := [(24, 0x2000)], flds := [fl 31 26 .rwl, fl 23 16 .rwl], mirrored := true, region := 0 },
  { name := "MAC_STATUS", base := 0x00180004, dims := [(25, 0x2000)], flds := whole .ro },
  { name := "MAC_EVT_STATUS", base := 0x00180010, dims := [(25, 0x2000)], flds := [fl 7 0 .w1c] },
  { name := "MAC_EVT_LIVE", base := 0x00180014, dims := [(25, 0x2000)], flds := whole .ro },
  { name := "MAC_EVT_ENABLE", base := 0x00180018, dims := [(25, 0x2000)], flds := [fl 7 0 .rw] },
  { name := "MAC_EVT_INJECT", base := 0x0018001C, dims := [(25, 0x2000)], flds := whole .wo },
  { name := "MAC_SA_LO", base := 0x00180020, dims := [(25, 0x2000)], flds := whole .rwl, region := 27 },
  { name := "MAC_SA_HI", base := 0x00180024, dims := [(25, 0x2000)], flds := [fl 15 0 .rwl], region := 27 },
  { name := "MAC_RXCFG", base := 0x00180030, dims := [(25, 0x2000)], flds := [fl 31 30 .rwl, fl 23 21 .rwl, fl 13 0 .rwl],
    reset := 1522, mirrored := true, region := 27 },
  { name := "MAC_PCP_MAP", base := 0x00180034, dims := [(24, 0x2000)], flds := [fl 23 0 .rwl], reset := 0x00FAC688, region := 27 },
  { name := "MAC_TS_CORR", base := 0x00180040, dims := [(24, 0x2000), (2, 4)], flds := whole .rw },
  { name := "MAC_PFC_CFG", base := 0x00180050, dims := [(24, 0x2000)], flds := [fl 31 30 .rwl, fl 23 0 .rwl], reset := 0xFFFF, region := 27 },
  { name := "MAC_PFC_WD", base := 0x00180054, dims := [(24, 0x2000)], flds := [fl 15 0 .rwl], region := 27 },
  { name := "MAC_PFC_THR", base := 0x00180060, dims := [(24, 0x2000), (8, 4)], flds := whole .rwl, region := 27 },
  { name := "MAC_EEE", base := 0x00180080, dims := [(24, 0x2000)], flds := [fl 31 30 .rwl, fl 15 0 .rwl], reset := 0x40000064, region := 27 },
  { name := "MAC_EEE_TW", base := 0x00180084, dims := [(24, 0x2000)], flds := [fl 31 31 .rw, fl 15 0 .rw], who := .kiln },
  { name := "MAC_TC10", base := 0x00180090, dims := [(24, 0x2000)], flds := [fl 31 31 .rwl, fl 29 15 .rwl], region := 27 },
  { name := "TC10_CTRL", base := 0x00180094, dims := [(24, 0x2000)], flds := whole .wo },
  { name := "MAC_FILT_MATCH", base := 0x00180200, dims := [(24, 0x2000), (32, 0x10)], words := 2, flds := whole .rwl, mirrored := true, region := 27 },
  { name := "MAC_FILT_ACT", base := 0x00180208, dims := [(24, 0x2000), (32, 0x10)], flds := [fl 31 31 .rwl, fl 28 20 .rwl, fl 9 0 .rwl],
    mirrored := true, region := 27 },
  { name := "MAC_COUNT", base := 0x00180400, dims := [(25, 0x2000), (27, 8)], words := 2, kind := .counter, flds := whole .rc } ]


/-- WDG block (R184, chapter 7). -/
def rowsWdg : List RegRow := [
  { name := "WDG_CFG", base := 0x00200000, flds := whole .ro, reset := 0x000F1000, mirrored := true, region := 17 },
  { name := "WDG_START", base := 0x00200010, dims := [(7, 4)], flds := whole .ro, mirrored := true, region := 17 },
  { name := "WDG_EVT_STATUS", base := 0x00200040, flds := [fl 4 0 .w1c] },
  { name := "WDG_EVT_LIVE", base := 0x00200044, flds := whole .ro },
  { name := "WDG_EVT_ENABLE", base := 0x00200048, flds := [fl 4 0 .rw] },
  { name := "WDG_EVT_INJECT", base := 0x0020004C, flds := whole .wo },
  { name := "WDG_COUNT", base := 0x00200100, dims := [(2, 0x80), (9, 8)], words := 2, kind := .counter, flds := whole .rc },
  { name := "WDG_NODE", base := 0x00201000, dims := [(64, 0x80)], words := 32, kind := .entry, flds := whole .ro, region := 17 } ]

/-- CLS block and windows (R224). -/
def rowsCls : List RegRow := [
  { name := "CLS_SWAP_STATUS", base := 0x00240000, flds := [fl 30 30 .w1c] },
  { name := "CLS_EVT_STATUS", base := 0x00240040, flds := [fl 2 0 .w1c] },
  { name := "CLS_EVT_LIVE", base := 0x00240044, flds := whole .ro },
  { name := "CLS_EVT_ENABLE", base := 0x00240048, flds := [fl 2 0 .rw] },
  { name := "CLS_EVT_INJECT", base := 0x0024004C, flds := whole .wo } ]
def rowsClsWin : List RegRow := [
  { name := "CLS_RULE", base := 0x04000000, dims := [(2, 0x00200000), (8192, 0x100)], words := 64, kind := .entry, flds := whole .ro, region := 18 },
  { name := "CLS_COMP", base := 0x04400000, dims := [(2, 0x4000), (1024, 0x10)], words := 3, kind := .entry, flds := whole .ro, region := 18 },
  { name := "CLS_PROFILE", base := 0x04410000, dims := [(2, 0x400), (16, 0x20)], words := 6, kind := .entry, flds := whole .ro, region := 18 },
  { name := "CLS_PROFILE_SEL", base := 0x04410200, dims := [(2, 0x400), (4, 4)], flds := whole .ro, region := 18 },
  { name := "CLS_CLASS", base := 0x04420000, dims := [(2, 0x20000), (4096, 0x20)], words := 8, kind := .entry, flds := whole .ro, region := 18 },
  { name := "CLS_POLICER", base := 0x04500000, dims := [(2, 0x40000), (16384, 0x10)], words := 4, kind := .entry, flds := whole .ro, region := 18 },
  { name := "CLS_POLSTATE", base := 0x04580000, dims := [(16384, 0x10)], words := 3, kind := .entry, flds := whole .ro },
  { name := "CLS_CLASSCNT", base := 0x04600000, dims := [(4096, 0x20), (4, 8)], words := 2, kind := .counter, flds := whole .rc },
  { name := "CLS_BLOCKED", base := 0x04680000, dims := [(128, 4)], flds := whole .ro },
  { name := "CLS_POLCNT", base := 0x04700000, dims := [(16384, 0x20), (3, 8)], words := 2, kind := .counter, flds := whole .rc } ]

/-- TBL block and windows (R249, R251). -/
def rowsTbl : List RegRow := slotRows "TBL" 0x00280000 4 ++ [
  { name := "TBL_CFG", base := 0x00280400, flds := [fl 31 31 .rwl, fl 11 0 .rwl], reset := 100, mirrored := true, region := 19 },
  { name := "TBL_PART", base := 0x00280404, flds := [fl 31 28 .rwl, fl 23 0 .rwl], reset := 0xD0000000, mirrored := true, region := 0 },
  { name := "TBL_STATUS", base := 0x00280408, flds := whole .ro },
  { name := "TBL_EPOCH", base := 0x0028040C, flds := whole .ro },
  { name := "TBL_SEED0", base := 0x00280410, flds := whole .rwl, reset := 0xFFFFFFFF, mirrored := true, region := 0 },
  { name := "TBL_SEED1", base := 0x00280414, flds := whole .rwl, reset := 0x5A5A5A5A, mirrored := true, region := 0 },
  { name := "TBL_SEED2", base := 0x00280418, flds := whole .rwl, reset := 0x3C3CC3C3, mirrored := true, region := 0 },
  { name := "TBL_SEED3", base := 0x0028041C, flds := whole .rwl, reset := 0x0F1E2D3C, mirrored := true, region := 0 },
  { name := "TBL_EVT_STATUS", base := 0x00280440, flds := [fl 4 0 .w1c] },
  { name := "TBL_EVT_LIVE", base := 0x00280444, flds := whole .ro },
  { name := "TBL_EVT_ENABLE", base := 0x00280448, flds := [fl 4 0 .rw] },
  { name := "TBL_EVT_INJECT", base := 0x0028044C, flds := whole .wo },
  { name := "TBL_PORT_CFG", base := 0x00280500, dims := [(28, 4)], flds := whole .rwl, reset := 1, mirrored := true, region := 19 },
  { name := "TBL_TRIE", base := 0x00280600, dims := [(8, 0x10), (2, 4)], flds := whole .rwl, mirrored := true, region := 19 },
  { name := "TBL_COUNT", base := 0x00280800, dims := [(12, 8)], words := 2, kind := .counter, flds := whole .rc } ]
def rowsTblWin : List RegRow := [
  { name := "TBL_L2", base := 0x08000000, dims := [(131072, 0x10)], words := 4, kind := .entry, flds := whole .ro },
  { name := "TBL_STASH", base := 0x08200000, dims := [(8, 0x10)], words := 4, kind := .entry, flds := whole .ro },
  { name := "TBL_MOVE", base := 0x08200080, words := 4, kind := .entry, flds := whole .ro },
  { name := "TBL_VLAN", base := 0x08210000, dims := [(4096, 4)], flds := whole .rwl, region := 19 },
  { name := "TBL_NH", base := 0x08220000, dims := [(8192, 0x10)], words := 4, kind := .entry, flds := whole .ro },
  { name := "TBL_STAGE", base := 0x08400000, dims := [(6, 0x00400000), (524288, 8)], words := 2, kind := .entry, flds := whole .ro } ]
/-- SRT block. -/
def rowsSrt : List RegRow := [
  { name := "SRT_STATUS", base := 0x00300000, flds := whole .ro },
  { name := "SRT_IMG_SEND", base := 0x00300008, flds := whole .wo },
  { name := "SRT_TO_LAST", base := 0x0030000C, flds := whole .ro },
  { name := "SRT_EVT_STATUS", base := 0x00300040, flds := [fl 7 0 .w1c] },
  { name := "SRT_EVT_LIVE", base := 0x00300044, flds := whole .ro },
  { name := "SRT_EVT_ENABLE", base := 0x00300048, flds := [fl 7 0 .rw] },
  { name := "SRT_EVT_INJECT", base := 0x0030004C, flds := whole .wo },
  { name := "SRT_COUNT", base := 0x00300100, dims := [(19, 8)], words := 2, kind := .counter, flds := whole .rc } ]

/-- Base of router bank b (R291). -/
def bankBase (b : Nat) : Nat := 0x0A000000 + 0x02000000 * b

/-- Router windows (R291). -/
def rowsSrtWin : List RegRow := [
  { name := "SRT_KEY", base := 0x0A000000, dims := [(2, 0x02000000), (262144, 8)], words := 2, kind := .entry, flds := whole .ro, region := 20 },
  { name := "SRT_ROUTE", base := 0x0A200000, dims := [(2, 0x02000000), (262144, 0x10)], words := 4, kind := .entry, flds := whole .ro, region := 20 },
  { name := "SRT_DESC", base := 0x0A600000, dims := [(2, 0x02000000), (524288, 0x10)], words := 4, kind := .entry, flds := whole .ro, region := 20 },
  { name := "SRT_VPROF", base := 0x0AE00000, dims := [(2, 0x02000000), (65536, 0x20)], words := 8, kind := .entry, flds := whole .ro, region := 20 },
  { name := "SRT_IMG", base := 0x0B000000, dims := [(2, 0x02000000), (65536, 0x20)], words := 8, kind := .entry, flds := whole .ro, region := 20 },
  { name := "SRT_GROUP", base := 0x0B200000, dims := [(2, 0x02000000), (4096, 0x80)], words := 32, kind := .entry, flds := whole .ro, region := 20 },
  { name := "SRT_TOPROF", base := 0x0B280000, dims := [(2, 0x02000000), (32, 0x10)], words := 2, kind := .entry, flds := whole .ro, region := 20 },
  { name := "SRT_LIMITER", base := 0x0B281000, dims := [(2, 0x02000000), (4096, 8)], words := 2, kind := .entry, flds := whole .ro, region := 20 },
  { name := "SRT_STREAM", base := 0x0B290000, dims := [(2, 0x02000000), (256, 0x10)], words := 4, kind := .entry, flds := whole .ro, region := 20 },
  { name := "SRT_TAP", base := 0x0B291000, dims := [(2, 0x02000000), (256, 0x10)], words := 4, kind := .entry, flds := whole .ro, region := 20 },
  { name := "SRT_SRCCFG", base := 0x0B292000, dims := [(2, 0x02000000), (130, 8)], words := 2, kind := .entry, flds := whole .ro, region := 20 },
  { name := "SRT_BANKCFG", base := 0x0B293000, dims := [(2, 0x02000000)], words := 5, kind := .entry, flds := whole .ro, region := 20 },
  { name := "SRT_TXQCFG", base := 0x0B293100, dims := [(2, 0x02000000), (128, 4)], flds := whole .ro, region := 20 },
  { name := "SRT_INITPOOL", base := 0x0B400000, dims := [(2, 0x02000000), (1048576, 4)], flds := whole .ro, region := 20 },
  { name := "SRT_LIVEPOOL", base := 0x0E000000, dims := [(1048576, 4)], flds := whole .ro },
  { name := "SRT_LIMSTATE", base := 0x0E400000, dims := [(4096, 8)], words := 2, kind := .entry, flds := whole .ro },
  { name := "SRT_VICOUNT", base := 0x0E410000, dims := [(256, 0x20), (3, 8)], words := 2, kind := .counter, flds := whole .rc },
  { name := "SRT_TOCOUNT", base := 0x0E420000, dims := [(32, 8)], words := 2, kind := .counter, flds := whole .rc },
  { name := "SRT_LIMCOUNT", base := 0x0E430000, dims := [(4096, 8)], words := 2, kind := .counter, flds := whole .rc },
  { name := "SRT_IMGSTATE", base := 0x0E440000, dims := [(65536, 8)], words := 2, kind := .entry, flds := whole .ro } ]

/-- RFX block (R292 to R309). -/
def rowsRfx : List RegRow := [
  { name := "RFX_EVT_STATUS", base := 0x00380040, flds := [fl 3 0 .w1c] },
  { name := "RFX_EVT_LIVE", base := 0x00380044, flds := whole .ro },
  { name := "RFX_EVT_ENABLE", base := 0x00380048, flds := [fl 3 0 .rw] },
  { name := "RFX_EVT_INJECT", base := 0x0038004C, flds := whole .wo },
  { name := "PIO_CFG", base := 0x00381000, dims := [(64, 0x40)], mirrored := true, region := 22,
    flds := [fl 31 28 .rwl, fl 23 16 .rwl] },
  { name := "PIO_OUT", base := 0x00381004, dims := [(64, 0x40)], flds := [fl 0 0 .wo] },
  { name := "PIO_STATE", base := 0x00381008, dims := [(64, 0x40)], flds := whole .ro },
  { name := "CAP_PERIOD", base := 0x0038100C, dims := [(64, 0x40)], flds := whole .ro },
  { name := "CAP_HIGH", base := 0x00381010, dims := [(64, 0x40)], flds := whole .ro },
  { name := "CAP_DUTY", base := 0x00381014, dims := [(64, 0x40)], flds := whole .ro },
  { name := "CAP_TS", base := 0x00381018, dims := [(64, 0x40)], words := 3, flds := whole .ro },
  { name := "PWM_NOW", base := 0x00381024, dims := [(64, 0x40)], flds := whole .ro },
  { name := "PIN_CONFLICT", base := 0x00381028, dims := [(64, 0x40)], words := 2, kind := .counter, flds := whole .rc },
  { name := "CAP_OVERRUN", base := 0x00381030, dims := [(64, 0x40)], words := 2, kind := .counter, flds := whole .rc },
  { name := "RFX_RULE", base := 0x00388000, dims := [(256, 0x20)], words := 8, kind := .entry, flds := whole .ro, region := 22 },
  { name := "RFX_SCALE", base := 0x0038A000, dims := [(64, 0x10)], words := 4, kind := .entry, flds := whole .ro, region := 22 },
  { name := "RFX_SLOT", base := 0x0038B000, dims := [(256, 0x10)], words := 4, kind := .entry, flds := whole .ro },
  { name := "RFX_FIRED", base := 0x0038C000, dims := [(256, 8)], words := 2, kind := .counter, flds := whole .rc } ]


/-- SWC block and windows (R337). -/
def rowsSwc : List RegRow := [
  { name := "SWC_EVT_STATUS", base := 0x00400040, flds := [fl 7 0 .w1c] },
  { name := "SWC_EVT_LIVE", base := 0x00400044, flds := whole .ro },
  { name := "SWC_EVT_ENABLE", base := 0x00400048, flds := [fl 7 0 .rw] },
  { name := "SWC_EVT_INJECT", base := 0x0040004C, flds := whole .wo },
  { name := "SWC_RESIDUE", base := 0x00400100, dims := [(8, 4)], flds := [fl 30 0 .rwl], reset := 2048 * 65536 + 1000, mirrored := true, region := 27 },
  { name := "SWC_RESIDUE_LVL", base := 0x00400120, dims := [(8, 4)], flds := whole .ro },
  { name := "SWC_MIR_CFG", base := 0x00400200, dims := [(4, 0x40)], flds := [fl 31 31 .rwl, fl 28 26 .rwl, fl 18 0 .rwl], mirrored := true, region := 27 },
  { name := "SWC_MIR_QP", base := 0x00400204, dims := [(4, 0x40)], flds := [fl 9 0 .rwl], mirrored := true, region := 27 },
  { name := "SWC_MIR_TRUNC", base := 0x00400208, dims := [(4, 0x40)], flds := [fl 13 0 .rwl], mirrored := true, region := 27 },
  { name := "SWC_MIR_ING", base := 0x0040020C, dims := [(4, 0x40)], flds := [fl 23 0 .rwl], mirrored := true, region := 27 },
  { name := "SWC_MIR_EGR", base := 0x00400210, dims := [(4, 0x40)], flds := [fl 23 0 .rwl], mirrored := true, region := 27 },
  { name := "SWC_MIR_COUNT", base := 0x00400220, dims := [(4, 0x40), (2, 8)], words := 2, kind := .counter, flds := whole .rc },
  { name := "SWC_SCHED", base := 0x00401000, dims := [(24, 0x100)], flds := [fl 23 8 .rwl], mirrored := true, region := 27 },
  { name := "SWC_QUANTUM", base := 0x00401020, dims := [(24, 0x100), (8, 4)], flds := [fl 17 0 .rwl], reset := 2048, mirrored := true, region := 27 },
  { name := "SWC_CBS_IDLE", base := 0x00401040, dims := [(24, 0x100), (8, 8)], flds := [fl 27 0 .rwl], mirrored := true, region := 27 },
  { name := "SWC_CBS_CREDIT", base := 0x00401044, dims := [(24, 0x100), (8, 8)], flds := whole .ro },
  { name := "SWC_GCL_STATUS", base := 0x00401080, dims := [(24, 0x100)], flds := whole .ro, reset := 0xFF },
  { name := "SWC_COUNT", base := 0x004010C0, dims := [(28, 0x100), (6, 8)], words := 2, kind := .counter, flds := whole .rc } ]
def rowsSwcWin : List RegRow := [
  { name := "SWC_GROUP", base := 0x0F000000, dims := [(4096, 0x20)], words := 8, kind := .entry, flds := whole .rwl, region := 27 },
  { name := "SWC_FRER_MAP", base := 0x0F020000, dims := [(4096, 4)], flds := [fl 31 30 .rwl, fl 11 0 .rwl], mirrored := true, region := 27 },
  { name := "SWC_STREAM0", base := 0x0F030000, dims := [(4096, 0x10)], flds := [fl 31 31 .rwl, fl 29 24 .rwl, fl 15 0 .rwl],
    reset := 1000, mirrored := true, region := 27 },
  { name := "SWC_STREAM1", base := 0x0F030004, dims := [(4096, 0x10)], flds := [fl 23 0 .rwl], mirrored := true, region := 27 },
  { name := "SWC_STREAM_STATE", base := 0x0F040000, dims := [(4096, 0x20)], words := 4, kind := .entry, flds := whole .ro },
  { name := "SWC_STREAM_COUNT", base := 0x0F080000, dims := [(4096, 0x40), (8, 8)], words := 2, kind := .counter, flds := whole .rc },
  { name := "SWC_GCL_CTL", base := 0x0F100000, dims := [(2, 0x20000), (24, 0x1000)], words := 1, flds := whole .ro, reset := 0x00FF0000, region := 21 },
  { name := "SWC_GCL_MAXWIN", base := 0x0F100004, dims := [(2, 0x20000), (24, 0x1000), (8, 4)], flds := whole .ro, region := 21 },
  { name := "SWC_GCL_ENTRY", base := 0x0F100800, dims := [(2, 0x20000), (24, 0x1000), (256, 8)], words := 2, kind := .entry, flds := whole .ro, region := 21 } ]

/-- SHF block and windows (R357). -/
def rowsShf : List RegRow := [
  { name := "SHF_CFG", base := 0x00480000, flds := [fl 31 31 .rwl, fl 17 0 .rwl], mirrored := true, region := 27 },
  { name := "SHF_SPILL", base := 0x00480004, flds := [fl 31 19 .rwl, fl 17 0 .rwl], reset := 4096 * 2 ^ 19, mirrored := true, region := 27 },
  { name := "SHF_LEVELS", base := 0x00480008, dims := [(5, 4)], flds := whole .ro },
  { name := "SHF_EVT_STATUS", base := 0x00480040, flds := [fl 7 0 .w1c] },
  { name := "SHF_EVT_LIVE", base := 0x00480044, flds := whole .ro },
  { name := "SHF_EVT_ENABLE", base := 0x00480048, flds := [fl 7 0 .rw] },
  { name := "SHF_EVT_INJECT", base := 0x0048004C, flds := whole .wo },
  { name := "SHF_WM_EVT_STATUS", base := 0x00480050, flds := whole .w1c },
  { name := "SHF_WM_EVT_LIVE", base := 0x00480054, flds := whole .ro },
  { name := "SHF_WM_EVT_ENABLE", base := 0x00480058, flds := whole .rw },
  { name := "SHF_WM_EVT_INJECT", base := 0x0048005C, flds := whole .wo },
  { name := "OVF_STATUS", base := 0x00480800, flds := whole .ro },
  { name := "OVF_SCRUB", base := 0x00480804, flds := [fl 7 0 .rwl], reset := 24, region := 27 },
  { name := "OVF_ERR_INFO", base := 0x00480810, flds := [fl 31 30 .w1c] },
  { name := "OVF_ERR_ADDR", base := 0x00480814, dims := [(2, 4)], flds := whole .ro },
  { name := "OVF_COUNT", base := 0x00480900, dims := [(4, 8)], words := 2, kind := .counter, flds := whole .rc },
  { name := "WM_CFG", base := 0x00481000, dims := [(32, 0x20)], flds := [fl 31 29 .rw, fl 26 24 .rw, fl 10 0 .rw] },
  { name := "WM_THR", base := 0x00481004, dims := [(32, 0x20), (2, 4)], flds := [fl 27 0 .rw] },
  { name := "WM_STAT", base := 0x0048100C, dims := [(32, 0x20)], flds := [fl 30 29 .w1c] },
  { name := "WM_MAX", base := 0x00481010, dims := [(32, 0x20)], flds := whole .rc },
  { name := "WM_LVL", base := 0x00481014, dims := [(32, 0x20)], flds := whole .ro } ]
def rowsShfWin : List RegRow := [
  { name := "SHF_Q_MIN", base := 0x0F400000, dims := [(1280, 0x10)], flds := [fl 17 0 .rwl], mirrored := true, region := 27 },
  { name := "SHF_Q_CFG", base := 0x0F400004, dims := [(1280, 0x10)], flds := [fl 31 31 .rwl, fl 27 24 .rwl, fl 11 0 .rwl], reset := 256,
    mirrored := true, region := 27 },
  { name := "SHF_Q_OVF", base := 0x0F400008, dims := [(1280, 0x10)], flds := [fl 27 0 .rwl], mirrored := true, region := 27 },
  { name := "SHF_Q_STATE", base := 0x0F410000, dims := [(1280, 0x20)], words := 6, kind := .entry, flds := whole .ro },
  { name := "SHF_Q_COUNT", base := 0x0F480000, dims := [(1280, 0x40), (5, 8)], words := 2, kind := .counter, flds := whole .rc },
  { name := "SHF_INGRESS", base := 0x0F4C0000, dims := [(224, 4)], flds := whole .ro },
  { name := "SHF_ARRIVAL", base := 0x0F4D0000, dims := [(28, 8)], words := 2, kind := .counter, flds := whole .rc } ]
/-- GLZ block (R374, R377). -/
def rowsGlz : List RegRow := slotRows "GLZ" 0x00050000 4 ++ [
  { name := "GLZ_EVT_STATUS", base := 0x00050400, flds := [fl 5 0 .w1c] },
  { name := "GLZ_EVT_LIVE", base := 0x00050404, flds := whole .ro },
  { name := "GLZ_EVT_ENABLE", base := 0x00050408, flds := [fl 5 0 .rw] },
  { name := "GLZ_EVT_INJECT", base := 0x0005040C, flds := whole .wo },
  { name := "GLZ_ORPHAN_LAST", base := 0x00050410, flds := [fl 31 31 .w1c] },
  { name := "MSEC_CFG", base := 0x00051000, dims := [(24, 0x40)], mirrored := true, region := 23, flds := [fl 31 22 .rwl] },
  { name := "MSEC_REPLAY_WIN", base := 0x00051004, dims := [(24, 0x40)], mirrored := true, region := 23, flds := whole .rwl },
  { name := "MSEC_TX_SCI", base := 0x00051008, dims := [(24, 0x40), (2, 4)], mirrored := true, region := 23, flds := whole .rwl },
  { name := "MSEC_BYPASS", base := 0x00051010, dims := [(24, 0x40), (4, 4)], mirrored := true, region := 23,
    flds := [fl 31 31 .rwl, fl 15 0 .rwl] },
  { name := "MSEC_STATUS", base := 0x00051020, dims := [(24, 0x40)], flds := whole .ro } ]

/-- GLZ windows (R377). -/
def rowsGlzWin : List RegRow := [
  { name := "GLZ_PROFILE", base := 0x02000000, dims := [(4096, 0x20)], words := 8, kind := .entry, flds := whole .ro, region := 23, who := .loader },
  { name := "GLZ_FV", base := 0x02020000, dims := [(65536, 0x10)], words := 4, kind := .entry, flds := whole .ro, dom := .cold },
  { name := "GLZ_PROF_COUNT", base := 0x02200000, dims := [(4096, 0x40), (7, 8)], words := 2, kind := .counter, flds := whole .rc },
  { name := "GLZ_SA", base := 0x02300000, dims := [(24, 0x800), (68, 0x10)], words := 4, kind := .entry, flds := whole .ro },
  { name := "GLZ_MSEC_COUNT", base := 0x02310000, dims := [(24, 0x100), (14, 8)], words := 2, kind := .counter, flds := whole .rc } ]

/-- SAG block (R405). -/
def rowsSag : List RegRow := slotRows "SAG" 0x00040000 4 ++ [
  { name := "SAG_STATUS", base := 0x00040400, flds := whole .ro, dom := .cold },
  { name := "SAG_POLICY", base := 0x00040404, flds := [fl 31 31 .rwl, fl 6 0 .rwl], reset := 4, mirrored := true, region := 23 },
  { name := "SAG_UPD_CTR", base := 0x00040408, flds := whole .ro, dom := .cold },
  { name := "SAG_EPOCH", base := 0x0004040C, flds := whole .ro, dom := .cold },
  { name := "SAG_ATT_REMAIN", base := 0x00040410, flds := whole .ro, dom := .cold },
  { name := "SAG_ATT_NEXT", base := 0x00040414, flds := whole .ro, dom := .cold },
  { name := "SAG_GEN_NEXT", base := 0x00040418, flds := whole .ro, dom := .cold },
  { name := "SAG_UID", base := 0x00040420, dims := [(4, 4)], flds := whole .ro, dom := .cold },
  { name := "SAG_ROM_HASH", base := 0x00040440, dims := [(8, 4)], flds := whole .ro, dom := .cold },
  { name := "SAG_OWNER_HASH", base := 0x00040460, dims := [(8, 4)], flds := whole .ro, dom := .cold },
  { name := "SAG_EVT_STATUS", base := 0x00040480, flds := [fl 9 0 .w1c], dom := .cold },
  { name := "SAG_EVT_LIVE", base := 0x00040484, flds := whole .ro, dom := .cold },
  { name := "SAG_EVT_ENABLE", base := 0x00040488, flds := [fl 9 0 .rw], dom := .cold },
  { name := "SAG_EVT_INJECT", base := 0x0004048C, flds := whole .wo, dom := .cold } ]

/-- SAG node window (R406). -/
def rowsSagWin : List RegRow := [
  { name := "SAG_NODE", base := 0x03000000, dims := [(4096, 0x10)], words := 4, kind := .entry, flds := whole .ro } ]

/-- NMW block (R407 to R428). -/
def rowsNmw : List RegRow := [
  { name := "NMW_STANDBY", base := 0x00070004, flds := [fl 30 30 .rw, fl 29 29 .rwl, fl 15 0 .rwl], reset := 10, region := 24 },
  { name := "NMW_PIO_WAKE", base := 0x00070008, flds := whole .rwl, mirrored := true, region := 24 },
  { name := "NMW_STBY_TIMER", base := 0x0007000C, flds := [fl 23 0 .rwl], region := 24 },
  { name := "NMW_FW_CFG", base := 0x00070010, flds := [fl 31 16 .rwl, fl 7 0 .rwl], reset := 8, mirrored := true, region := 24 },
  { name := "RING_IGNORED", base := 0x00070018, words := 2, kind := .counter, flds := whole .rc },
  { name := "NMW_EVT_STATUS", base := 0x00070040, flds := [fl 6 0 .w1c] },
  { name := "NMW_EVT_LIVE", base := 0x00070044, flds := whole .ro },
  { name := "NMW_EVT_ENABLE", base := 0x00070048, flds := [fl 6 0 .rw] },
  { name := "NMW_EVT_INJECT", base := 0x0007004C, flds := whole .wo },
  { name := "NMW_PORT", base := 0x00070200, dims := [(128, 4)], flds := [fl 31 30 .rwl, fl 15 0 .rwl], reset := 100,
    mirrored := true, region := 24 },
  { name := "NC_CFG", base := 0x00071000, dims := [(16, 0x80)], flds := [fl 31 24 .rwl, fl 10 0 .rwl], mirrored := true, region := 24 },
  { name := "NC_MEMBERS", base := 0x00071004, dims := [(16, 0x80)], flds := whole .rwl, mirrored := true, region := 24 },
  { name := "NC_TIMING", base := 0x00071008, dims := [(16, 0x80)], flds := whole .rwl, reset := 0x140960C8, mirrored := true, region := 24 },
  { name := "NC_MIN_AWAKE", base := 0x0007100C, dims := [(16, 0x80)], flds := [fl 15 0 .rwl], reset := 2000, mirrored := true, region := 24 },
  { name := "NC_FXP", base := 0x00071010, dims := [(16, 0x80), (4, 4)], flds := whole .rwl, mirrored := true, region := 24 },
  { name := "NC_ETH", base := 0x00071020, dims := [(16, 0x80)], flds := [fl 23 0 .rwl], mirrored := true, region := 24 },
  { name := "NC_CARRIER", base := 0x00071024, dims := [(16, 0x80), (8, 4)], flds := [fl 31 31 .rwl, fl 23 0 .rwl],
    mirrored := true, region := 24 },
  { name := "NC_CTRL", base := 0x00071044, dims := [(16, 0x80)], flds := [], who := .host0 },
  { name := "NC_STATUS", base := 0x00071048, dims := [(16, 0x80)], flds := whole .ro },
  { name := "NC_PRESENT", base := 0x0007104C, dims := [(16, 0x80)], flds := whole .ro },
  { name := "NC_COUNT", base := 0x00071050, dims := [(16, 0x80), (6, 8)], words := 2, kind := .counter, flds := whole .rc },
  { name := "WAKE_MASK", base := 0x00078000, dims := [(128, 0x100), (8, 0x20)], words := 8, kind := .entry, flds := whole .rwl, region := 24 } ]


/-- HST block (R433 to R449). -/
def rowsHst : List RegRow := [
  { name := "HST_LINK", base := 0x00500000, flds := whole .ro },
  { name := "HST_EVT_STATUS", base := 0x00500040, flds := [fl 5 0 .w1c] },
  { name := "HST_EVT_LIVE", base := 0x00500044, flds := whole .ro },
  { name := "HST_EVT_ENABLE", base := 0x00500048, flds := [fl 5 0 .rw] },
  { name := "HST_EVT_INJECT", base := 0x0050004C, flds := whole .wo },
  { name := "HST_WM_PEND", base := 0x00500100, dims := [(32, 4)], flds := whole .w1c },
  { name := "HST_FN_CFG", base := 0x00500200, dims := [(8, 4)], flds := [fl 9 0 .rwl], mirrored := true, region := 25 },
  { name := "QP_CTRL", base := 0x00510000, dims := [(1024, 0x40)], flds := [fl 19 16 .rw, fl 8 0 .rw] },
  { name := "QP_VEC", base := 0x00510004, dims := [(1024, 0x40)], flds := [fl 31 31 .rw, fl 29 23 .rw, fl 21 0 .rw] },
  { name := "QP_BASES", base := 0x00510008, dims := [(1024, 0x40), (6, 4)], flds := whole .rw },
  { name := "QP_DB", base := 0x00510020, dims := [(1024, 0x40), (3, 4)], flds := whole .wo },
  { name := "QP_HEADS", base := 0x0051002C, dims := [(1024, 0x40), (2, 4)], flds := whole .ro },
  { name := "QP_CAP_RELEASE", base := 0x00510034, dims := [(1024, 0x40)], flds := whole .wo },
  { name := "QP_CAP", base := 0x00510038, dims := [(1024, 0x40), (2, 4)], flds := whole .ro },
  { name := "HST_QP_CFG", base := 0x00520000, dims := [(1024, 4)], flds := [fl 31 24 .rwl, fl 15 0 .rwl], mirrored := true, region := 25 },
  { name := "HST_QP_COUNT", base := 0x00530000, dims := [(1024, 0x40), (8, 8)], words := 2, kind := .counter, flds := whole .rc },
  { name := "HST_WM_CFG", base := 0x00540000, dims := [(1024, 0x20)], flds := [fl 31 29 .rw] },
  { name := "HST_WM_THR", base := 0x00540004, dims := [(1024, 0x20), (2, 4)], flds := [fl 27 0 .rw] },
  { name := "HST_WM_STAT", base := 0x0054000C, dims := [(1024, 0x20)], flds := [fl 30 29 .w1c] },
  { name := "HST_WM_MAX", base := 0x00540010, dims := [(1024, 0x20)], flds := whole .rc },
  { name := "HST_WM_LVL", base := 0x00540014, dims := [(1024, 0x20)], flds := whole .ro } ]
/-- BRG block (R451 to R475). -/
def rowsBrg : List RegRow := [
  { name := "BRG_EVT_STATUS", base := 0x00080040, flds := [fl 4 0 .w1c] },
  { name := "BRG_EVT_LIVE", base := 0x00080044, flds := whole .ro },
  { name := "BRG_EVT_ENABLE", base := 0x00080048, flds := [fl 4 0 .rw] },
  { name := "BRG_EVT_INJECT", base := 0x0008004C, flds := whole .wo } ] ++ slotRows "BRG" 0x00080000 4 ++ [
  { name := "BRG_CFG", base := 0x00080400, flds := whole .rwl, reset := 0x03E803E8, mirrored := true, region := 26 },
  { name := "BRG_CFG2", base := 0x00080404, flds := [fl 31 16 .rwl, fl 15 15 .rwl, fl 3 0 .rwl], reset := 100 * 65536 + 8, mirrored := true, region := 26 },
  { name := "BRG_CH_CFG", base := 0x00080500, dims := [(16, 4)], flds := [fl 6 0 .rwl], reset := 64, mirrored := true, region := 26 },
  { name := "BRG_CH_STATUS", base := 0x00080540, dims := [(16, 4)], flds := whole .ro },
  { name := "BRG_ERRLOG_STATUS", base := 0x00080700, flds := whole .ro },
  { name := "BRG_ERRLOG_HEAD", base := 0x00080710, words := 4, kind := .entry, flds := whole .ro },
  { name := "BRG_ERRLOG_POP", base := 0x00080720, flds := [fl 0 0 .wo] },
  { name := "BRG_WIN_CFG", base := 0x00080800, dims := [(16, 0x10)], flds := [fl 31 30 .rw, fl 27 24 .rw, fl 10 0 .rw] },
  { name := "BRG_WIN_BASE", base := 0x00080804, dims := [(16, 0x10)], flds := [fl 22 16 .rw, fl 11 0 .rw] },
  { name := "BRG_COUNT", base := 0x00080900, dims := [(10, 8)], words := 2, kind := .counter, flds := whole .rc },
  { name := "BRG_MAP", base := 0x00084000, dims := [(4096, 8)], words := 2, kind := .entry, flds := whole .rwl, mirrored := true, region := 26 },
  { name := "BRG_SEM", base := 0x0008C000, dims := [(64, 4)], flds := whole .ro } ]

/-- COL block and windows (R476 to R504). -/
def rowsCol : List RegRow := [
  { name := "COL_CFG", base := 0x00090000, flds := whole .rwl, reset := 0x88B5320A, mirrored := true, region := 26 },
  { name := "COL_STATUS", base := 0x00090004, flds := whole .ro },
  { name := "COL_EVT_STATUS", base := 0x00090040, flds := [fl 8 0 .w1c] },
  { name := "COL_EVT_LIVE", base := 0x00090044, flds := whole .ro },
  { name := "COL_EVT_ENABLE", base := 0x00090048, flds := [fl 8 0 .rw] },
  { name := "COL_EVT_INJECT", base := 0x0009004C, flds := whole .wo },
  { name := "COL_LINK_CFG", base := 0x00090100, dims := [(8, 0x20)], flds := [fl 31 29 .rwl, fl 20 16 .rwl, fl 11 0 .rwl], mirrored := true, region := 26 },
  { name := "COL_PEER_MAC_LO", base := 0x00090104, dims := [(8, 0x20)], flds := whole .rwl, mirrored := true, region := 26 },
  { name := "COL_PEER_MAC_HI", base := 0x00090108, dims := [(8, 0x20)], flds := [fl 15 0 .rwl], mirrored := true, region := 26 },
  { name := "COL_LINK_STATUS", base := 0x0009010C, dims := [(8, 0x20)], flds := whole .ro },
  { name := "COL_REVT_HEAD", base := 0x00090300, words := 4, kind := .entry, flds := whole .ro },
  { name := "COL_REVT_POP", base := 0x00090310, flds := [fl 0 0 .wo] },
  { name := "COL_REVT_COUNT", base := 0x00090314, flds := whole .ro },
  { name := "COL_EVT_FWD", base := 0x00090320, dims := [(2, 4)], flds := whole .rwl, mirrored := true, region := 26 },
  { name := "COL_COUNT", base := 0x00090400, dims := [(12, 8)], words := 2, kind := .counter, flds := whole .rc },
  { name := "COL_ROUTE", base := 0x00092000, dims := [(2048, 4)], flds := [fl 31 31 .rwl, fl 2 0 .rwl], mirrored := true, region := 26 } ]
def rowsColWin : List RegRow := [
  { name := "COL_ASSIGN", base := 0x0F800000, dims := [(2045, 0x20)], words := 5, kind := .entry, flds := whole .rwl, mirrored := true, region := 26 },
  { name := "COL_MEMBER", base := 0x0F840000, dims := [(2048, 0x10)], words := 4, kind := .entry, flds := whole .ro } ]

/-- KLN block (R505 to R520). -/
def rowsKln : List RegRow := [
  { name := "KLN_STATUS", base := 0x00020000, flds := whole .ro },
  { name := "KLN_TASKMAP", base := 0x00020004, flds := whole .ro, reset := 0x688 },
  { name := "KLN_CFG", base := 0x00020008, flds := whole .rwl, reset := 0x030643E8, mirrored := true },
  { name := "KLN_LAST_FAIL", base := 0x0002000C, flds := [fl 31 31 .w1c] },
  { name := "KLN_FAIL_TIME", base := 0x00020010, words := 2, kind := .entry, flds := whole .ro },
  { name := "KLN_EVT_STATUS", base := 0x00020040, flds := [fl 7 0 .w1c] },
  { name := "KLN_EVT_LIVE", base := 0x00020044, flds := whole .ro },
  { name := "KLN_EVT_ENABLE", base := 0x00020048, flds := [fl 7 0 .rw] },
  { name := "KLN_EVT_INJECT", base := 0x0002004C, flds := whole .wo },
  { name := "KLN_COUNT", base := 0x00020100, dims := [(7, 8)], words := 2, kind := .counter, flds := whole .rc } ]

/-- FOOT block (R521 to R526, R582). -/
def rowsFoot : List RegRow := [
  { name := "FOOT_ID", base := 0x000B0000, flds := whole .ro, reset := 0x0A080100, dom := .foot },
  { name := "FOOT_AUX_ERR", base := 0x000B0008, flds := [fl 15 0 .rc], dom := .foot },
  { name := "FOOT_CMD_KEY", base := 0x000B0010, flds := whole .wo, dom := .foot },
  { name := "FOOT_CMD", base := 0x000B0014, flds := whole .wo, dom := .foot },
  { name := "FOOT_CMD_REJ", base := 0x000B0018, flds := [fl 15 0 .rc], dom := .foot },
  { name := "FOOT_SAFE", base := 0x000B0020, flds := whole .ro, reset := 0x40000000, dom := .foot },
  { name := "FOOT_WDG_CFG", base := 0x000B0030, flds := [], reset := 0x4007D064, dom := .foot },
  { name := "FOOT_WDG_KICK", base := 0x000B0034, flds := whole .wo, dom := .foot },
  { name := "FOOT_WDG_STATUS", base := 0x000B0038, flds := whole .ro, dom := .foot },
  { name := "FOOT_FAULT", base := 0x000B0040, flds := [], dom := .foot },
  { name := "FOOT_VBAT", base := 0x000B0050, flds := whole .ro, dom := .foot },
  { name := "FOOT_VBAT_CFG", base := 0x000B0054, flds := whole .rw, reset := 0x2CEC012C, dom := .foot },
  { name := "FOOT_VBAT_RATIO", base := 0x000B0058, flds := [fl 15 0 .rw], reset := 20000, dom := .foot },
  { name := "FOOT_KLN_RETIRED", base := 0x000B0060, flds := whole .ro, dom := .foot },
  { name := "FOOT_UPD", base := 0x000B0070, flds := whole .ro, dom := .foot },
  { name := "FOOT_EVT_STATUS", base := 0x000B0080, flds := [fl 3 0 .w1c], dom := .foot },
  { name := "FOOT_EVT_LIVE", base := 0x000B0084, flds := whole .ro, dom := .foot },
  { name := "FOOT_EVT_ENABLE", base := 0x000B0088, flds := [fl 3 0 .rw], dom := .foot },
  { name := "FOOT_EVT_INJECT", base := 0x000B008C, flds := whole .wo, dom := .foot },
  { name := "FOOT_WAKE", base := 0x000B0100, flds := [fl 31 30 .w1c], dom := .foot },
  { name := "FOOT_WAKE_ID", base := 0x000B0104, flds := whole .ro, dom := .foot },
  { name := "FOOT_FW", base := 0x000B0400, dims := [(128, 4)], flds := [], dom := .foot } ]

/-- CRZ block (R527 to R542). The leaf windows are a second view of the blocks' event registers (R531). -/
def rowsCrz : List RegRow := [
  { name := "CRZ_CFG", base := 0x00010000, flds := [fl 31 31 .rwl, fl 7 0 .rwl], reset := 10, mirrored := true },
  { name := "CRZ_INJ_KEY", base := 0x00010010, flds := whole .wo },
  { name := "CRZ_INJ_STATUS", base := 0x00010014, flds := [fl 29 27 .w1c] },
  { name := "CRZ_INJ_TARGET", base := 0x00010018, flds := [fl 31 24 .rw, fl 15 0 .rw] },
  { name := "CRZ_INJ_ARG", base := 0x0001001C, flds := whole .rw },
  { name := "CRZ_INJ_GO", base := 0x00010020, flds := [fl 0 0 .wo] },
  { name := "CRZ_DET_STATUS", base := 0x00010040, flds := [fl 14 0 .w1c] },
  { name := "CRZ_DET_LIVE", base := 0x00010044, flds := whole .ro },
  { name := "CRZ_DET_ENABLE", base := 0x00010048, flds := [fl 14 0 .rw] },
  { name := "CRZ_DET_INJECT", base := 0x0001004C, flds := whole .wo },
  { name := "CRZ_GRP_PEND", base := 0x00010080, words := 2, flds := whole .ro },
  { name := "CRZ_KILN_ARM", base := 0x00010090, words := 2, flds := whole .wo, who := .kiln },
  { name := "CRZ_ROUTE", base := 0x00010100, dims := [(63, 4)], reset := 0x20000000, mirrored := true, flds := [] },
  { name := "CRZ_ROUTE_63", base := 0x000101FC, reset := 0xA0000000, mirrored := true, flds := [] },
  { name := "CRZ_LEAF_STATUS", base := 0x00011000, dims := [(64, 4)], flds := whole .w1c },
  { name := "CRZ_LEAF_LIVE", base := 0x00011100, dims := [(64, 4)], flds := whole .ro },
  { name := "CRZ_LEAF_ENABLE", base := 0x00011200, dims := [(64, 4)], flds := whole .rw },
  { name := "CRZ_LEAF_INJECT", base := 0x00011300, dims := [(64, 4)], flds := whole .wo },
  { name := "CRZ_FN_PEND", base := 0x00018000, dims := [(8, 0x1000)], words := 2, flds := whole .ro },
  { name := "CRZ_FN_ARM", base := 0x00018010, dims := [(8, 0x1000)], words := 2, flds := whole .wo } ]

/-- UPD block (R543 to R553). -/
def rowsUpd : List RegRow := [
  { name := "UPD_STATUS", base := 0x00030000, flds := whole .ro },
  { name := "UPD_SEQ", base := 0x00030004, flds := whole .ro },
  { name := "UPD_STAGE_SEQ", base := 0x00030008, flds := whole .ro },
  { name := "UPD_PROGRESS", base := 0x0003000C, flds := whole .ro },
  { name := "UPD_FAIL", base := 0x00030010, flds := whole .ro },
  { name := "UPD_LOCK_CTR", base := 0x00030014, flds := whole .ro },
  { name := "UPD_EVT_STATUS", base := 0x00030040, flds := [fl 7 0 .w1c] },
  { name := "UPD_EVT_LIVE", base := 0x00030044, flds := whole .ro },
  { name := "UPD_EVT_ENABLE", base := 0x00030048, flds := [fl 7 0 .rw] },
  { name := "UPD_EVT_INJECT", base := 0x0003004C, flds := whole .wo },
  { name := "UPD_COUNT", base := 0x00030100, dims := [(4, 8)], words := 2, kind := .counter, flds := whole .rc } ]

/-- Key of offset o in BAR2 of host function f (R431, R432): behind BAR0's 2^32 bytes. -/
def bar2Key (f o : Nat) : Nat := 2 ^ 32 + 0x1000 * f + o

/-- The MSI-X tables and pending bits of the eight functions, as PCIe lays them out. -/
def rowsBar2 : List RegRow := [
  { name := "MSIX_ENTRY", base := 2 ^ 32, dims := [(8, 0x1000), (64, 16)], words := 3, flds := whole .rw },
  { name := "MSIX_VCTL", base := 2 ^ 32 + 12, dims := [(8, 0x1000), (64, 16)], flds := [fl 0 0 .rw], reset := 1 },
  { name := "MSIX_PBA", base := 2 ^ 32 + 0x800, dims := [(8, 0x1000)], words := 2, flds := whole .ro } ]

/-- The rows of the block that an offset lies in (R573, R578). -/
def blockRows (off : Nat) : List RegRow :=
  if off < 0x00010000 then rowsGlb
  else if off < 0x00020000 then rowsCrz
  else if off < 0x00030000 then rowsKln
  else if off < 0x00040000 then rowsUpd
  else if off < 0x00050000 then rowsSag
  else if 0x00050000 ≤ off ∧ off < 0x00060000 then rowsGlz
  else if 0x00060000 ≤ off ∧ off < 0x00070000 then rowsTim
  else if 0x00070000 ≤ off ∧ off < 0x00080000 then rowsNmw
  else if 0x00080000 ≤ off ∧ off < 0x00090000 then rowsBrg
  else if 0x00090000 ≤ off ∧ off < 0x000A0000 then rowsCol
  else if 0x000A0000 ≤ off ∧ off < 0x000B0000 then rowsCfg
  else if 0x000B0000 ≤ off ∧ off < 0x000B1000 then rowsFoot
  else if 0x00100000 ≤ off ∧ off < 0x00180000 then rowsFxp
  else if 0x00180000 ≤ off ∧ off < 0x001B2000 then rowsMac
  else if 0x00200000 ≤ off ∧ off < 0x00240000 then rowsWdg
  else if 0x00240000 ≤ off ∧ off < 0x00280000 then rowsCls
  else if 0x00280000 ≤ off ∧ off < 0x00300000 then rowsTbl
  else if 0x00300000 ≤ off ∧ off < 0x00380000 then rowsSrt
  else if 0x00380000 ≤ off ∧ off < 0x00400000 then rowsRfx
  else if 0x00400000 ≤ off ∧ off < 0x00480000 then rowsSwc
  else if 0x00480000 ≤ off ∧ off < 0x00500000 then rowsShf
  else if 0x00500000 ≤ off ∧ off < 0x00580000 then rowsHst
  else if 0x02000000 ≤ off ∧ off < 0x03000000 then rowsGlzWin
  else if 0x03000000 ≤ off ∧ off < 0x04000000 then rowsSagWin
  else if 0x04000000 ≤ off ∧ off < 0x05000000 then rowsClsWin
  else if 0x08000000 ≤ off ∧ off < 0x0A000000 then rowsTblWin
  else if 0x0A000000 ≤ off ∧ off < 0x0F000000 then rowsSrtWin
  else if 0x0F000000 ≤ off ∧ off < 0x0F400000 then rowsSwcWin
  else if 0x0F400000 ≤ off ∧ off < 0x0F800000 then rowsShfWin
  else if 0x0F800000 ≤ off ∧ off < 0x10000000 then rowsColWin
  else if 2 ^ 32 ≤ off then rowsBar2
  else []

/-- The row of a list that covers an offset. -/
def findRow (rows : List RegRow) (off : Nat) : Option RegRow := rows.find? (fun r => (rowWord r off).isSome)

/-- The row of a storage key: a BAR0 or BAR2 offset, or a personality register (persKey). -/
def rowAtKey (k : Nat) : Option RegRow :=
  if k < 2 ^ 28 ∨ 2 ^ 32 ≤ k then findRow (blockRows k) k
  else findRow (rowsPers (k / 2 ^ 28)) (k % 2 ^ 28)

/-- What a key's word reads as at reset; 0 where no row covers it. -/
def resetWord (k : Nat) : Word :=
  match rowAtKey k with
  | some r => w32 r.reset
  | none => 0

/-- The reset domain of a key (R10); windows and unlisted words are warm. -/
def domainOf (k : Nat) : Domain :=
  match rowAtKey k with
  | some r => r.dom
  | none => .warm

/-- The region that owns a key's word, for CFG_MIRROR_STATUS.REGION; a flexport's word belongs to its cluster's region. -/
def regionOf (k : Nat) : Nat :=
  match rowAtKey k with
  | some r => if r.region = 1 then 1 + (k % 2 ^ 28 - 0x00100000) / 0x8000 else r.region
  | none => 0xFE

end Sys2Proof.Machine
end

