-- ==== Sys2Proof/Machine/State.lean ====
section
/-! DEFINITION. Sys2Proof/Machine/State.lean: the state of the block as plain data, its reset, its faults and refusals. -/

namespace Sys2Proof.Machine
open Sys2Proof

/-- Reasons to stop. No command of this model stops: no constructor is raised by a meaning; a fault would be safe. -/
inductive Fault where
  /-- Raised by no meaning; kept so that the type is inhabited. Safe: the machine would only stop. -/
  | stopped
  deriving DecidableEq, Repr

/-- Reasons to refuse a command. -/
inductive Refusal where
  /-- Raised by an arm of exec whose command has no meaning yet. Safe: nothing is claimed of that command. -/
  | notModelled (mnemonic : String)
  deriving DecidableEq, Repr

/-- What the block sends to the outside, in order of sending. The state keeps the log of it, the newest first. -/
inductive Out where
  /-- MSI-X message of a host function's vector (R533, R534). -/
  | msix (fn vec : Nat)
  /-- a masked or disabled vector sets its pending bit instead (R534). -/
  | msixPending (fn vec : Nat)
  /-- Craze signals Kiln firmware about a group (R534). -/
  | kilnSignal (group : Nat)
  /-- a notice to Kiln firmware of one of its services (frames handed to it, table events). -/
  | kilnNote (what : String) (args : List Nat)
  /-- Kiln firmware takes a frame from GPN 153 (R310), with its source and its receive timestamp. -/
  | kilnFrame (source ts : Nat) (bytes : List Byte)
  /-- a flexport starts a frame on its bus. -/
  | fieldStart (port : Nat) (frame : FieldFrame)
  /-- a flexport ends the frame it sends, before its end. -/
  | fieldStop (port : Nat)
  /-- a LIN header: the protected identifier's frame identifier. -/
  | linHeader (port id : Nat)
  /-- a dominant wake pulse on a LIN bus, in µs. -/
  | linWakePulse (port us : Nat)
  /-- a flexport pin FPn_A to FPn_D (0 to 3) takes a level. -/
  | fieldPin (port pin : Nat) (level : Bool)
  /-- a PWMX generate channel takes a period and a high time, in FCLK cycles. -/
  | pwmSet (port ch period high : Nat)
  /-- a PIO pin takes a level. -/
  | pio (pin : Nat) (level : Bool)
  /-- a PIO pin's generator starts a period: its length and high time in DCLK cycles (R301). -/
  | pioPwm (pin period high : Nat)
  /-- an Ethernet MAC transmits a frame (FCS left off); stomped says its FCS is inverted (R162). -/
  | eth (port : Nat) (bytes : List Byte) (stomped : Bool)
  /-- the service port, the UART or a recovery interface sends bytes. -/
  | svc (bytes : List Byte)
  /-- a Coil frame leaves through a MAC port. -/
  | coil (port : Nat) (bytes : List Byte)
  /-- a PCIe memory write to host memory of a function. -/
  | pcieWrite (fn addr : Nat) (bytes : List Byte)
  /-- a PCIe memory read request to host memory of a function. -/
  | pcieRead (fn addr len : Nat)
  /-- a PCIe completion returns words to a host read. -/
  | pcieCpl (tag : Nat) (ok : Bool) (words : List Word)
  /-- a bridge transaction of kind k to a device, with a tag, an address and words. -/
  | bridge (did : Nat) (kind : String) (tag addr : Nat) (words : List Word)
  /-- a command engine writes bytes to the memory that a slot's addresses name other than host memory: Kiln memory for
  slot 2, the manager's for slot 3 (R374, R405). -/
  | engineWrite (slot addr : Nat) (bytes : List Byte)
  /-- the AUX target acknowledges or refuses, and the bytes it returns. -/
  | aux (ack : Bool) (bytes : List Byte)
  /-- OTP bits burnt: a field and its bit. -/
  | otp (field : String) (index : Nat)
  /-- flash written: an area, an offset and the bytes. -/
  | flash (area : String) (offset : Nat) (bytes : List Byte)
  deriving DecidableEq, Repr

/-- A packet in the switch (R189, R310), a host item (R440), or a Coil frame: its bytes without FCS and its metadata. -/
structure Pkt where
  bytes : List Byte
  /-- ingress GPN of the first pass; for router items the source code (R252, R441). -/
  ingress : Nat := 0
  /-- ingress class (R189). -/
  cls : Nat := 0
  /-- ingress timestamp, TS64. -/
  ts : Nat := 0
  /-- pass number, 1 to 3 (R201). -/
  pass : Nat := 1
  /-- start node and key profile of the next pass (R182, R206). -/
  node : Nat := 0
  prof : Nat := 0
  /-- flow class of the last pass. -/
  flow : Nat := 0
  /-- bank of region 18 that the packet is pinned to (R62). -/
  bank : Nat := 0
  /-- metadata of R189: FLAGS, HSTACK, L3_OFF, L4_OFF, PAYLOAD_END, ACF_OFF, STREAM_ID, RTAG_SEQ, RECIRC_TAG. -/
  flags : Nat := 0
  hstack : List (Nat × Nat) := []
  l3 : Nat := 255
  l4 : Nat := 255
  pend : Nat := 0
  acf : Nat := 255
  stream : Nat := 0
  rtag : Nat := 0
  /-- an R-tag was found on this pass or an earlier one (R333). -/
  rtagSeen : Bool := false
  rtagTag : Nat := 0
  /-- router items and host deliveries: KIND, EXT, ID (R253); 15 marks a Coil frame in an egress queue. -/
  kind : Nat := 4
  ext : Nat := 0
  id : Nat := 0
  /-- queue pair of a host delivery (R440). -/
  qp : Nat := 0
  /-- host sub-port. -/
  sub : Nat := 0
  /-- a port and queue that replace the forwarding lookup (R262, R487). -/
  direct : Option (Nat × Nat) := none
  /-- a switch group, without its remote members, that replaces it (R487). -/
  group : Option Nat := none
  /-- ORIG_SPN of a packet that arrived by DATA (R486). -/
  orig : Option Nat := none
  /-- TTL of the Coil frame it arrived in (R487). -/
  ttl : Nat := 15
  /-- validated by MACsec (R371). -/
  validated : Bool := false
  /-- the frame is bad and is ended with a stomped FCS (R162). -/
  bad : Bool := false
  /-- per-queue sequence number (R346). -/
  seq : Nat := 0
  /-- the packet's cells in Shelf, shared by its copies; 0 while it holds none (R338). -/
  pid : Nat := 0
  /-- the packet was spilled to overflow memory (R343), and whether its data is in Shelf for transmission (R346). -/
  spilled : Bool := false
  ready : Bool := true
  /-- bits in error of its line in overflow memory, and the byte address (R353, R542). -/
  ovfErr : Option (Nat × Nat) := none
  /-- the packet was granted cut-through (R38). -/
  ct : Bool := false
  /-- mirror session of a mirror copy (R320). -/
  mir : Option Nat := none
  /-- next-hop entry whose rewrite the egress port makes (R246). -/
  nh : List Word := []
  /-- FRER: the stream, and the number its R-tag carries (R332, R335). -/
  frer : Option (Nat × Option Nat) := none
  /-- segmentation type of a host send: 0 none, 1 TCP4, 2 TCP6, 3 UDP4, 4 UDP6 (R173). -/
  seg : Nat := 0
  /-- segmentation: maximum segment and header length of a host send (R173). -/
  mss : Nat := 0
  hdrLen : Nat := 0
  /-- what the egress MAC inserts into a TIME frame of the Coil: 1 SYNC of domain A, 2 of domain B, 3 PDELAY_RESP, and 4 for
  a PDELAY_REQ, whose departure is kept (R501); 0 nothing. -/
  timeOp : Nat := 0
  /-- send whose timestamp or completion waits for this packet: queue pair and descriptor index (R439). -/
  send : Option (Nat × Nat) := none
  deriving DecidableEq, Repr

/-- A command that the configuration loader has accepted (R56); a region load of the boot sequence has no slot (R564). -/
structure CfgCmd where
  slot : Option Nat := none
  /-- SWAP; else LOAD. -/
  swap : Bool := false
  region : Nat := 0
  /-- 0 bank A, 1 bank B, 2 the manager. -/
  src : Nat := 0
  deriving DecidableEq, Repr

/-- The configuration loader beyond its registers (R45 to R65). -/
structure Cfg where
  /-- accepted commands in order, the head in execution (R56). -/
  queue : List CfgCmd := []
  /-- the head has been read and checked and is being applied. -/
  checked : Bool := false
  /-- CFG_REGION_STATE of the head's region before it began. -/
  saved : Word := 0
  /-- the region that the manager transferred, and its content (R49, R498). -/
  buf : Option (Nat × List Byte) := none
  /-- the manifest copy that the manager distributed (R49). -/
  man : List Byte := []
  /-- region 21: the words of the TIM block in bank A and bank B (R85). -/
  planA : Tbl Word := []
  planB : Tbl Word := []
  /-- the first activation of region 21 waits for a plan cycle start (R62). -/
  planFirst : Bool := false
  /-- a SWAP of region 21 in execution: working time at which it began (R62). -/
  planSwap : Option Nat := none
  /-- the load buffer: the region that the head reads and has checked (R50). -/
  load : List Byte := []
  /-- boot has loads outstanding (R564). -/
  boot : Bool := false
  deriving DecidableEq, Repr

/-- The time base (R66 to R78). Clocks count in units of 2^-32 ns. -/
structure Tim where
  /-- TCLK cycle within the group of three of R67. -/
  phase : Nat := 0
  domA : Nat := 0
  domB : Nat := 0
  /-- working time; 0 before initialisation. -/
  wt : Nat := 0
  /-- the RATE kept in HOLDOVER (R73). -/
  holdRate : Int := 0
  /-- an INIT_WAIT runs (R72). -/
  initWait : Bool := true
  /-- domain A is LOCKED while domain B is selected, and REVERT_HOLD runs (R74). -/
  revertRun : Bool := false
  deriving DecidableEq, Repr

/-- A Cone's armed settings and progress (R85 to R91): the registers as they were latched at arming (R87). -/
structure Cone where
  mode : Nat := 0
  anchor : Bool := false
  pol : Bool := false
  pinEn : Bool := false
  pin : Nat := 0
  lockgrp : Nat := 0
  per : Nat := 0
  perFrac : Nat := 0
  width : Nat := 0
  count : Nat := 0
  dest : Nat := 0
  /-- whole nanoseconds of the pending target, 40 bits (R82). -/
  tgt : Nat := 0
  tgtFrac : Nat := 0
  /-- armed on the plan grid and waiting for the plan cycle start of R88; tgt holds the phase. -/
  waitPlan : Bool := false
  /-- firings since the last arming, 64 bits (R275). -/
  done : Nat := 0
  /-- a pulse is in progress. -/
  pulsing : Bool := false
  /-- a pulse that a region 21 swap left in progress under the old settings: its pin and idle level (R90). -/
  tail : Option (Nat × Bool) := none
  deriving DecidableEq, Repr

/-- A lock group's release in progress (R151 to R155). -/
structure LockGrp where
  /-- members that started aligned and have not finished. -/
  aligned : List Nat := []
  /-- members that start their group frame at their next selection point. -/
  late : List Nat := []
  /-- members whose frames wait for the group's retry (R154). -/
  retryWait : List Nat := []
  /-- of those, the members that stand at a selection point. -/
  atSel : List Nat := []
  /-- LG_CTRL of a release that a region 21 swap left in progress (R150). -/
  ctrl : Option Word := none
  deriving DecidableEq, Repr

/-- A frame in a flexport transmit queue (R14): built from an image, from a route, or by the bridge (R465). -/
structure FxpItem where
  frame : FieldFrame
  /-- the transmit PDU image it was built from, for R277. -/
  img : Option Nat := none
  /-- the bridge transaction it carries, for R465. -/
  bridge : Option Nat := none
  /-- its transmit errors so far, while it waits in its queue (R102). -/
  errs : Nat := 0
  deriving DecidableEq, Repr

/-- A received frame between a flexport engine and the router: its start-of-frame timestamp, TS64 (R97, R98). -/
structure RxFrame where
  frame : FieldFrame
  ts : Nat
  /-- the frame woke its network cluster; it does not validate the wake (R418). -/
  wake : Bool := false
  deriving DecidableEq, Repr

/-- One flexport engine's state beyond its registers. -/
structure FxpPort where
  /-- the pending slot: queue and frame (R99). -/
  pend : Option (Nat × FxpItem) := none
  /-- errors of the pending frame (R102). -/
  errs : Nat := 0
  /-- the pending frame is being transmitted. -/
  txing : Bool := false
  /-- the pending frame is a group frame of a lock-group release (R151). -/
  grp : Bool := false
  /-- frames received and not yet taken by the router, at most four (R98). -/
  fifo : List RxFrame := []
  /-- a quiesce or disable runs (R58, R96). -/
  quiesce : Bool := false
  /-- disable (not a cluster reload) is what runs. -/
  disabling : Bool := false
  /-- bus-off recovery runs (R118). -/
  recovering : Bool := false
  /-- level of FPn_D (true high). -/
  dPin : Bool := true
  /-- LIN: schedule entry of the current slot, and whether the schedule runs. -/
  linSlot : Nat := 0
  linRun : Bool := false
  /-- LIN: the next table, requested by LIN_SCHED.REQ (R127). -/
  linReq : Option Nat := none
  /-- LIN: table and slot to return to after a collision resolution (R131). -/
  linRet : Option (Nat × Nat) := none
  /-- LIN: a go-to-sleep waits for the next slot start (R132). -/
  linSleepReq : Bool := false
  /-- LIN: the 100 ms before a commander's restart run (R132). -/
  linRestart : Bool := false
  /-- LIN: identifier and entry whose response is awaited. -/
  linHdr : Option (Nat × Nat) := none
  /-- LIN: bit time that a responder measured, in FCLK cycles (R129). -/
  linBit : Nat := 0
  /-- LIN: last response sent per identifier (R128). -/
  linLast : Tbl (List Byte) := []
  /-- T1S: exponent of the retry backoff (R134). -/
  backoff : Nat := 0
  /-- SENT: length of the last valid calibration pulse, 56 ticks, in FCLK cycles; 0 while unsynchronised (R137). -/
  cal : Nat := 0
  /-- SENT: a frame that waits for the next calibration pulse (R139). -/
  sentWait : Option (RxFrame × Nat) := none
  /-- SENT: bits 2 and 3 of the status nibbles of a slow message in assembly (R140), first first. -/
  slow : List (Bool × Bool) := []
  /-- PWMX: periods since the last report of each capture channel (R146). -/
  pwmCnt : List Nat := [0, 0, 0, 0]
  /-- PWMX: setting in force and setting latched for the next period, per generate channel (R148). -/
  pwmCur : List (Nat × Nat) := [(0, 0), (0, 0), (0, 0), (0, 0)]
  pwmNext : List (Option (Nat × Nat)) := [none, none, none, none]
  deriving DecidableEq, Repr

/-- One Ethernet MAC beyond its registers (R156 to R181). -/
structure Mac where
  /-- TC10 sleep is requested: SLEEP_PIO is asserted and no frame starts (R178). -/
  sleepReq : Bool := false
  /-- classes for which XOFF has been sent and not yet ended (R169). -/
  xoff : Nat := 0
  /-- classes whose PFC is ignored after a storm (R170). -/
  storm : Nat := 0
  /-- the model's clock when a PFC frame for each ignored class last arrived. -/
  stormAt : List Nat := [0, 0, 0, 0, 0, 0, 0, 0]
  /-- the wake of LPI runs: TW_TX has not passed (R171). -/
  lpiWait : Bool := false
  /-- gate list: the entry in force of the running list, none before the first cycle start (R328). -/
  gcl : Option Nat := none
  /-- the working time, in clock units, at which the list's cycle started (R328). -/
  gclStart : Nat := 0
  /-- DWRR: deficit of each class, the classes visited in this turn, and the member whose turn it is (R325). -/
  deficit : List Int := [0, 0, 0, 0, 0, 0, 0, 0]
  visited : Nat := 0
  turn : Nat := 7
  /-- CBS: credit of each class in 2^-16 bits, and the model's clock up to which it stands (R326). -/
  credit : List Int := [0, 0, 0, 0, 0, 0, 0, 0]
  creditAt : Nat := 0
  deriving DecidableEq, Repr

/-- A policer's buckets (R218): levels in 2^-16 bytes and the DCLK cycle of the last update. -/
structure PolState where
  tc : Nat
  tp : Nat
  last : Nat
  deriving DecidableEq, Repr

/-- A learn event (R235): its key, its destination and its source's index in TBL_PORT_CFG. -/
structure LearnEv where
  vid : Nat
  mac : Nat
  dest : Nat
  src : Nat
  deriving DecidableEq, Repr

/-- The record of a stored prefix (R245): instance, length, key, result, and the generation that wrote it. -/
structure Prefix where
  inst : Nat
  p : Nat
  key : Nat
  result : Nat
  sgen : Nat
  deriving DecidableEq, Repr

/-- The forwarding tables beyond their registers and windows (R225 to R251). -/
structure Tbls where
  /-- pending learn events, head first (R236). -/
  learn : List LearnEv := []
  /-- entries with an uncorrectable error, by window offset, and whether a lookup has met it (R231). -/
  bad : List (Nat × Bool) := []
  /-- stored prefixes (R245). -/
  prefixes : List Prefix := []
  /-- nodes of the trie other than roots: stage, base and size in 2 KiB units (R242, R244). -/
  nodes : List (Nat × Nat × Nat) := []
  deriving DecidableEq, Repr

/-- An item of the signal router (R252, R253). -/
structure RItem where
  src : Nat
  kind : Nat
  ext : Nat := 0
  id : Nat := 0
  data : List Byte := []
  fdf : Bool := false
  brs : Bool := false
  rtr : Bool := false
  dlc : Nat := 0
  sdt : Nat := 0
  af : Nat := 0
  sec : Bool := false
  ts : Nat := 0
  /-- the frame woke its network cluster (R418). -/
  wake : Bool := false
  deriving DecidableEq, Repr

/-- A lookup that waits for a transient image (R260): its bank, route entry and item. -/
structure TransWait where
  bank : Nat
  route : Nat
  item : RItem
  deriving DecidableEq, Repr

/-- The messages placed in a container (R286, R287). -/
structure Cont where
  msgs : List (List Byte) := []
  seq : Nat := 0
  /-- FLUSH_US runs from the first message. -/
  flush : Bool := false
  deriving DecidableEq, Repr

/-- The signal router beyond its registers and windows (R252 to R291). -/
structure Srt where
  /-- the lookup queue, at most 1,024 items (R257). -/
  lq : List RItem := []
  /-- items that their source holds back while the queue is full (messages of containers, host items). -/
  held : List RItem := []
  /-- running route timers: the route, and the model's clock at which it runs out (R281). -/
  timers : Tbl Nat := []
  /-- routes that an item has reached since the active bank became active and that have not timed out since (R549). -/
  reached : List Nat := []
  /-- tokens of the rate limiters; an unlisted limiter's bucket is full (R264). -/
  tokens : Tbl Nat := []
  conts : Tbl Cont := []
  trans : List TransWait := []
  /-- sequence number expected next of each VI (R288). -/
  viSeq : Tbl Nat := []
  deriving DecidableEq, Repr

/-- One PIO pin beyond its registers (R292 to R307). -/
structure PioPin where
  /-- filtered input level, as the rules see it. -/
  level : Bool := false
  /-- a reflex pulse: the level it takes at its end. -/
  pulse : Option Bool := none
  /-- a PWM generator: period and high time in force, and those latched for the next period (R301). -/
  pwm : Option (Nat × Nat) := none
  pwmNext : Option (Nat × Nat) := none
  /-- capture timestamps: rising edge, TS64; the oldest first (R307). -/
  fifo : List (Bool × Nat) := []
  /-- the capture measurement waits for a first rising edge (R306). -/
  stuck : Bool := false
  deriving DecidableEq, Repr

/-- The reflex path beyond its registers and windows. -/
structure Rfx where
  pins : Tbl PioPin := []
  /-- rules whose result was true in the previous cycle (R299). -/
  prev : List Nat := []
  /-- region 22 is being applied (R308). -/
  suspended : Bool := false
  /-- a FOLLOW rule holds the pin: pin numbers. -/
  follow : List Nat := []
  deriving DecidableEq, Repr

/-- What one queue is charged for a packet (R341): cells, those of its guaranteed minimum, those of the shared pool. -/
structure QCharge where
  q : Nat
  n : Nat
  g : Nat
  s : Nat
  deriving DecidableEq, Repr

/-- The cells of one packet, shared by its copies (R338 to R344). -/
structure PktCells where
  /-- cells its length takes, and how many of its references are still in use. -/
  n : Nat := 0
  refs : Nat := 1
  /-- ingress index (as in TBL_PORT_CFG) and ingress class it counts for (R340). -/
  port : Nat := 0
  cls : Nat := 0
  /-- cells held in Shelf, and how they are charged. -/
  held : Nat := 0
  inflight : Nat := 0
  shared : Nat := 0
  hdrm : Nat := 0
  staging : Nat := 0
  readback : Nat := 0
  /-- cells in overflow memory, and the queue they count for (R343). -/
  ovf : Nat := 0
  ovfq : Nat := 0
  queues : List QCharge := []
  deriving DecidableEq, Repr

/-- Shelf and the residue lists beyond their registers (R318, R338 to R349). -/
structure Shf where
  /-- the packets that hold cells, by number; the next number. -/
  pkts : Tbl PktCells := []
  next : Nat := 1
  /-- packets that a queue's resequencer has taken and not delivered, in sequence order (R346). -/
  rsq : Tbl (List Pkt) := []
  /-- spilled packets whose number was skipped before they were ready (R348). -/
  late : Tbl (List Pkt) := []
  /-- residue lists by class: the port and the copy, the oldest first (R318). -/
  residue : Tbl (List (Nat × Pkt)) := []
  deriving DecidableEq, Repr

/-- A MACsec receive secure channel (R368, R374). -/
structure RxSc where
  en : Bool := false
  implicit : Bool := false
  sci : Nat := 0
  deriving DecidableEq, Repr

/-- Glaze beyond its registers and windows (R358 to R377). -/
structure Glz where
  /-- freshness counters whose SET flag is set (R364); cold domain. -/
  fvSet : List Nat := []
  /-- receive secure channels, SC c of En under 16n + c. -/
  rxsc : Tbl RxSc := []
  /-- salts of the installed SAs (R374), SA k of En under 128n + k. -/
  salts : Tbl Nat := []
  deriving DecidableEq, Repr

/-- A node of the Saggar key tree (R384 to R389, R406). -/
structure Node where
  /-- 0 FREE, 1 VALID, 2 ORPHANED, 3 FIXED. -/
  st : Nat := 0
  injected : Bool := false
  depth : Nat := 0
  len256 : Bool := false
  usage : Nat := 0
  parent : Nat := 0
  label : Nat := 0
  gen : Nat := 0
  /-- an injected node's key value (R386). -/
  value : List Byte := []
  /-- region 23 generation in force when the node was orphaned (R389). -/
  orphGen : Nat := 0
  deriving DecidableEq, Repr

/-- A key-cache entry (R381, R382): the key XORed with its mask, and the mask. -/
structure CacheEnt where
  node : Nat
  masked : List Byte
  mask : List Byte
  deriving DecidableEq, Repr

/-- Saggar beyond its policy register (R378 to R406): OTP, the tree store, and what each start makes of them. -/
structure Sag where
  /-- OTP: the device's UID (R378). -/
  uid : Nat := 0
  /-- OTP: root slots whose COMMIT is burned: the wrapped root and the helper data (R379). -/
  slot0 : Option (List Byte × Nat) := none
  slot1 : Option (List Byte × Nat) := none
  /-- OTP: lifecycle bits (R392, R393, R396). -/
  prov : Bool := false
  inField : Bool := false
  authLock : Bool := false
  returned : Bool := false
  zeroised : Bool := false
  decom : Bool := false
  /-- OTP: OWNER_HASH, once its COMMIT is burned. -/
  ownerHash : Option (List Byte) := none
  /-- OTP: burned bits of STORE_EPOCH (R390). -/
  epoch : Nat := 0
  /-- OTP: one more than the highest burned bit of LEAF_RESERVE; 0 for none (R399). -/
  leafTop : Nat := 0
  /-- tree store (R390): the nodes 8 to 4,095 that are not FREE, GEN_NEXT, the update counter. -/
  nodes : Tbl Node := []
  genNext : Nat := 2
  updCtr : Nat := 0
  /-- tree store: the committed bank, SEQ and manifest hash (R551), the owner lock and its counter (R553). -/
  cmtBank : Option Nat := none
  cmtSeq : Nat := 0
  cmtHash : List Byte := []
  ownerLock : Bool := false
  lockCtr : Nat := 0
  /-- a start has run since the last cold reset; ROOT_FAIL and STORE_FAIL of the last start (R380, R390). -/
  started : Bool := false
  rootFail : Bool := false
  storeFail : Bool := false
  /-- the root secret, once generated or unwrapped (R380). -/
  root : Option (List Byte) := none
  /-- key cache, the most recently used first (R381). -/
  cache : List CacheEnt := []
  /-- attestation: the current block and the next offset j (R399). -/
  cur : Option (Nat × Nat) := none
  /-- debug: the challenge that waits for its response, consecutive failures, when the last one was (R402). -/
  chal : Option (List Byte) := none
  fails : Nat := 0
  failAt : Option Nat := none
  /-- debug: scopes open, debug open since the last cold reset, key operations refused (R400, R403). -/
  dbg : Nat := 0
  dbgSince : Bool := false
  refuse : Bool := false
  deriving DecidableEq, Repr

/-- A network cluster beyond its registers (R407 to R418). -/
structure NmwC where
  /-- the wake latch: a bus wake's GPN, or none for a local wake (R413, R414). -/
  latch : Option (Option Nat) := none
  /-- nodes marked missing (R411). -/
  missing : Nat := 0
  /-- CONSENT bits of the last message received. -/
  consent : Nat := 0
  /-- the successor whose ring message is awaited within T_TOKEN. -/
  await : Option Nat := none
  /-- the model's clock when the cluster last became AWAKE. -/
  awakeAt : Nat := 0
  /-- the port that woke the cluster, in CHECK (R417). -/
  woke : Option Nat := none
  deriving DecidableEq, Repr

/-- Network wake and sleep beyond its registers (R407 to R423). -/
structure Nmw where
  clusters : Tbl NmwC := []
  /-- Kiln's ring FIFO: the GPN a message came by, its 8 bytes, and whether its frame woke the cluster (R410, R418). -/
  ring : List (Nat × List Byte × Bool) := []
  /-- Foot's copies, taken at standby entry: words by NMW offset (R422). -/
  footCopy : Tbl Word := []
  /-- a standby entry is in progress; Foot's wake latch is armed (R422). -/
  entering : Bool := false
  /-- this start is a standby exit, and region 24 has not yet started the clusters (R423). -/
  exit : Bool := false
  /-- T1S member ports that are asleep, FPn_D high and the engine stopped (R414). -/
  t1sAsleep : List Nat := []
  deriving DecidableEq, Repr

/-- An item for a queue pair (R440, R441). -/
structure SlipItem where
  bytes : List Byte
  kind : Nat := 4
  cls : Nat := 0
  id : Nat := 0
  ext : Nat := 0
  source : Nat := 0
  ts : Nat := 0
  /-- flow class of the last pass, or the item number of a CAPTURE queue pair. -/
  seq : Nat := 0
  /-- index of the first poisoned word (R443). -/
  poison : Option Nat := none
  deriving DecidableEq, Repr

/-- A send whose writeback has not been written (R439). -/
structure SendWb where
  /-- index of the EOP descriptor. -/
  eop : Nat
  /-- the transmit timestamp is awaited. -/
  wait : Bool := false
  ts : Option Nat := none
  code : Nat := 0
  flushed : Bool := false
  deriving DecidableEq, Repr

/-- One queue pair beyond its registers (R433 to R448). Indices are free-running 16-bit counts. -/
structure Qp where
  /-- send ring: producer index, and the next descriptor to fetch. -/
  txProd : Nat := 0
  txNext : Nat := 0
  /-- buffer ring: producer index, and the next buffer to use. -/
  rxbProd : Nat := 0
  rxbNext : Nat := 0
  /-- completion ring: the host's consumer index. -/
  cqCons : Nat := 0
  /-- the interrupts of completions and of writebacks are armed, and their unannounced entries (R445). -/
  armed : Bool := false
  armedTx : Bool := false
  unann : Nat := 0
  unannTx : Nat := 0
  /-- writebacks not yet written, in ring order. -/
  wbs : List SendWb := []
  /-- the item in delivery, and its bytes already written (R444). -/
  cur : Option (SlipItem × Nat) := none
  /-- capture ring: accepted items from REL to WR, the oldest first (R446). -/
  cap : List SlipItem := []
  /-- next item number to accept, RD, and MARK. -/
  capNext : Nat := 0
  capRd : Nat := 0
  capMark : Option Nat := none
  deriving DecidableEq, Repr

/-- A bridge transaction: its 16-byte header and its data (R454). -/
structure BrgTx where
  /-- TYPE: 0 WRITE, 1 READ, 2 CPL, 3 MSG, 4 LOCK, 5 UNLOCK, 6 SEM_ACQ, 7 SEM_REL, 8 ERR. -/
  ty : Nat := 0
  locked : Bool := false
  priv : Bool := false
  /-- 0 REG, 1 SENSOR, 2 semaphore. -/
  tgt : Nat := 0
  ch : Nat := 0
  tag : Nat := 0
  req : Nat := 0
  budget : Nat := 0
  addr : Nat := 0
  len : Nat := 0
  code : Nat := 0
  id : Nat := 0
  data : List Byte := []
  deriving DecidableEq, Repr

/-- What waits for a non-posted transaction: a host read with its PCIe tag and the pieces of it that are still open, a
read of Kiln firmware, the command of a slot (R459, R460, R475), or another device's READ of a remote window of this one. -/
inductive BrgWho where
  | host (tag : Nat)
  | kiln (tag : Nat)
  | slot (slot : Nat)
  | far (t : BrgTx)
  deriving DecidableEq, Repr

/-- A non-posted transaction of this device: the target DID, the transaction and who waits for it (R459). -/
structure BrgNp where
  did : Nat
  tx : BrgTx
  who : BrgWho
  deriving DecidableEq, Repr

/-- A host or Kiln read that its non-posted pieces answer (R452): words received by position, pieces still open, and the
first failing code. -/
structure BrgRead where
  who : BrgWho
  words : Tbl Word := []
  left : Nat := 0
  code : Nat := 0
  deriving DecidableEq, Repr

/-- A held bus of this device: its holder, and whether the sequence is established (R467 to R469). -/
structure BrgBus where
  did : Nat
  ch : Nat
  est : Bool := false
  deriving DecidableEq, Repr

/-- A locked sequence that a channel of this device acquires or holds (R466, R468): the target DID and the far bus, the
slot of its LOCK command, and its progress: 0 waits for the near bus, 1 acquiring, 2 backs off, 3 established. -/
structure BrgSeq where
  did : Nat
  /-- target of the LOCK: 0 the bridge target port, 1 + n the SPIC port n. -/
  bus : Nat
  slot : Nat
  phase : Nat := 0
  losses : Nat := 0
  /-- tag of the LOCK that is under way. -/
  tag : Option Nat := none
  deriving DecidableEq, Repr

/-- A transaction in the lock-wait buffer: the bus it waits for (R467). -/
structure BrgWait where
  bus : Nat
  tx : BrgTx
  /-- the surroundings of a command that a WRITE starts. -/
  env : WrEnv := {}
  deriving DecidableEq, Repr

/-- The bridge beyond its registers (R450 to R475). -/
structure Brg where
  /-- non-posted requests that wait at the requester, in issue order. -/
  wait : List BrgNp := []
  /-- open non-posted transactions by tag. -/
  opens : Tbl BrgNp := []
  /-- tags that timed out and are not yet reusable (R461). -/
  dead : List Nat := []
  /-- running number of the next posted transaction of each channel. -/
  posted : Tbl Nat := []
  /-- target DID and TYPE of the posted transactions of this device, by 1,024 times the channel and their number (R474). -/
  sent : Tbl (Nat × Nat) := []
  /-- reads in progress by the tag that the host or Kiln firmware gave them. -/
  reads : List BrgRead := []
  /-- staging buffers of the ordinary channels (R464). -/
  stage : Tbl (List Byte) := []
  /-- error log, the oldest first: its four words (R474). -/
  log : List (List Word) := []
  /-- channels for which an ERR arrived since the previous FENCE (R475). -/
  fenceErr : List Nat := []
  /-- held buses: 0 the bridge target port, 1 + n SPIC port n. -/
  buses : Tbl BrgBus := []
  /-- locked sequences of the ordinary channels. -/
  seqs : Tbl BrgSeq := []
  /-- the lock-wait buffer, in arrival order (R467). -/
  lockWait : List BrgWait := []
  /-- commands that wait behind one of their channel: slot, OPCODE and channel, in order (R475). -/
  cmds : List (Nat × Nat × Nat) := []
  /-- sensor transactions in a flexport queue: number, port and transaction (R465); the next number. -/
  sens : Tbl (Nat × BrgTx) := []
  sensNext : Nat := 0
  deriving DecidableEq, Repr

/-- A Coil frame that this device terminates (R482 to R484): its header, its payload, and how it arrived. -/
structure CoilFrame where
  svc : Nat
  ttl : Nat
  cls : Nat
  dst : Nat
  src : Nat
  wa : Nat
  wb : Nat
  data : List Byte
  /-- the Ethernet port, the link of region 26 on it, and the Ethernet addresses of the frame. -/
  port : Nat
  link : Option Nat
  dmac : List Byte
  smac : List Byte
  /-- receive timestamp, and the cells that a DATA or ROUTER frame still holds. -/
  ts : Nat
  pid : Nat := 0
  deriving DecidableEq, Repr

/-- A transfer that this device sends (R498): the worker, CONFIG (5) or UPDATE (6), the object, its number and content,
the next byte that the receiver expects, the next byte to send, and the sends of the oldest chunk. -/
structure XferOut where
  did : Nat
  svc : Nat
  obj : Nat
  xfer : Nat
  data : List Byte
  acked : Nat := 0
  sent : Nat := 0
  sends : Nat := 0
  /-- the receiver answered BUSY: the transfer waits for the RESULT of another (R498). -/
  busy : Bool := false
  deriving DecidableEq, Repr

/-- A transfer that this device receives (R498). -/
structure XferIn where
  svc : Nat
  obj : Nat
  xfer : Nat
  src : Nat
  data : List Byte := []
  deriving DecidableEq, Repr

/-- Configuration of a worker under way (R499): the objects still to transfer, in order; the LOAD whose RESULT is awaited. -/
structure CfgProg where
  todo : List Nat := []
  waits : Option Nat := none
  deriving DecidableEq, Repr

/-- The peer delay measurement of a link (R501): t1 of the request under way, and the link delay in ns. -/
structure PDelay where
  t1 : Option Nat := none
  delay : Nat := 0
  deriving DecidableEq, Repr

/-- Coil beyond its registers (R476 to R504). -/
structure Coil where
  /-- received Coil frames that wait for termination (R165, R484). -/
  rx : List Pkt := []
  /-- frames terminated here that have not yet been acted on, the oldest first (R484). -/
  inbox : List CoilFrame := []
  /-- SEQ of the next TIME message per link (R501). -/
  seq : List Nat := []
  /-- worker: the provisional uplink's port, and the source address of the last ASSIGN (R492). -/
  prov : Option Nat := none
  asgMac : List Byte := []
  /-- manager: links whose worker has not yet applied region 26, with the worker's address (R492). -/
  boot : Tbl (List Byte) := []
  /-- remote-event FIFO, the oldest first: the four words of COL_REVT_HEAD (R503). -/
  revt : List (List Word) := []
  /-- transfers that this device sends and the one it receives per service (R498). -/
  xout : List XferOut := []
  xin : Tbl XferIn := []
  xnext : Nat := 1
  /-- root manager: the generation of region r that device d has reported, under 32 d + r (R497, R499). -/
  given : Tbl Nat := []
  /-- configuration of workers under way, by DID (R499). -/
  prog : Tbl CfgProg := []
  /-- a COMMAND of the manager that runs in CFG slot 3: the object, the transfer's number and its sender (R498). -/
  cmd : Option (Nat × Nat × Nat) := none
  /-- grandmasterIdentity of the last SYNC of each domain (R501). -/
  gm : Tbl Nat := []
  /-- link delays by link (R501). -/
  pdelay : Tbl PDelay := []
  deriving DecidableEq, Repr

/-- One Kiln lockstep pair beyond KLN_STATUS (R505 to R520). -/
structure KPair where
  /-- checkpoint slot that the last commit wrote, 0 or 1, and commits so far (R509). -/
  slot : Nat := 0
  commits : Nat := 0
  /-- bytes in the undo log; values in the input log; hashes in the output log (R510). -/
  undo : Nat := 0
  inLog : List Nat := []
  outLog : List Nat := []
  /-- a latent divergence waits for the pair's next commit (R519). -/
  latent : Bool := false
  deriving DecidableEq, Repr

/-- A failover (R511): the pair that failed, its cause, and, once it has begun, the pair that takes over. -/
structure Failover where
  failed : Nat
  cause : Nat
  onto : Option Nat := none
  /-- a spare is not used: the replay on it failed (R512). -/
  noSpare : Bool := false
  deriving DecidableEq, Repr

/-- Kiln (R505 to R520). -/
structure Kiln where
  pairs : List KPair := [{}, {}, {}, {}, {}]
  /-- failovers in order, the first one in progress (R513). -/
  queue : List Failover := []
  deriving DecidableEq, Repr

/-- Foot beyond its registers (R521 to R526). -/
structure Foot where
  /-- requester of the last FOOT_CMD_KEY write with the right key, and when (R522). -/
  key : Option (Requester × Nat) := none
  /-- last kick (R525). -/
  wdgLast : Nat := 0
  wdgExpired : Bool := false
  /-- AUX_ADDR, sampled at Foot power-on (R559). -/
  auxAddr : Nat := 0
  /-- transient faults of each pair since Foot power-on (R515). -/
  transients : List Nat := [0, 0, 0, 0, 0]
  /-- the wake latch: armed by a standby entry, and whether a wake is latched (R422, R423). -/
  wakeArmed : Bool := false
  wakeGot : Bool := false
  /-- safe image of each flexport (R523, R589): PERS, C_FUNC is STB, SAFE_STBY, and the personality's levels. -/
  safeImg : Tbl Nat := []
  deriving DecidableEq, Repr

/-- Craze beyond its registers: arm bits (R534) and injection (R540, R541). -/
structure Crz where
  /-- arm bits of the MSI-X target, one per group; all armed after warm reset. -/
  armHost : Nat := 2 ^ 64 - 1
  /-- arm bits of the Kiln target. -/
  armKiln : Nat := 2 ^ 64 - 1
  /-- the first injection key's writer and time (R540). -/
  key1 : Option (Requester × Nat) := none
  /-- the armed injection: DETECTOR, INDEX, ARG (R541). -/
  inj : Option (Nat × Nat × Nat) := none
  deriving DecidableEq, Repr

/-- A flash bank (R569, R570): its manifest from offset 0, and its parts by TYPE and TARGET_DID. -/
structure Bank where
  man : List Byte := []
  parts : List (Nat × Nat × List Byte) := []
  deriving DecidableEq, Repr

/-- Reset and boot beyond the registers (R554 to R572). -/
structure Boot where
  /-- SHA-256 of the running Kiln firmware (R400). -/
  fwHash : List Byte := []
  /-- the reset in force, cold or warm, and its cause; none once it is released (R556). -/
  rst : Option (Bool × Nat) := some (true, 0)
  /-- the model's clock at the last reset release (R556). -/
  relAt : Nat := 0
  /-- the boot step that is awaited: 0 none, 1 root PLL, 2 boot BIST, 3 firmware, 4 overflow training (R562). -/
  wait : Nat := 0
  /-- the root PLL is locked; the SerDes lanes of these Ethernet ports are (R561). -/
  pll : Bool := false
  lanes : List Nat := []
  /-- clock faults present: bit 0 CLK_REF, 1 CLK_ROOT, 2 CLK_DERIVED (R561). -/
  clk : Nat := 0
  /-- the bank that a WARM_RESTART names (R51). -/
  src : Option Nat := none
  /-- the reset in force ends a standby (R423). -/
  standby : Bool := false
  /-- the last release was that of a cold reset (R561). -/
  cold : Bool := true
  deriving DecidableEq, Repr


/-- Field update, as Kiln firmware keeps it (R543 to R553). -/
structure Upd where
  /-- the session's SESSION field. -/
  sess : Option Nat := none
  /-- a BEGIN that reached the checks of R549 has opened the session (R544, R549). -/
  opened : Bool := false
  /-- the model's clock at the session's last message (R544). -/
  last : Nat := 0
  /-- bytes received so far of the manifest (0xFFFF), a lock message (0xFFFE) and entries by index. -/
  objs : Tbl (List Byte) := []
  /-- the manifest that BEGIN verified. -/
  man : List Byte := []
  /-- parts staged and verified: entry index and device (R548). -/
  staged : List (Nat × Nat) := []
  /-- devices that have reported the success of their trial start (R551). -/
  reported : List Nat := []
  /-- refusals that workers have reported in the RESULT of a transfer: device and code (R549). -/
  refused : Tbl Nat := []
  /-- workers that have still to be ordered to revert (R551). -/
  toRevert : List Nat := []
  /-- what the restart from the old bank shows of a reversion: LAST_CODE and UPD_FAIL (R551). -/
  after : Option (Nat × Word) := none
  /-- workers of the cycle that have not committed (R552). -/
  uncommitted : List Nat := []
  /-- a trial that recovery boot ordered: this device decides on it alone (R572). -/
  alone : Bool := false
  /-- the trial start of this device has failed. -/
  failed : Bool := false
  deriving DecidableEq, Repr
/-- The state of the block: every register, table, queue, counter, mode and pin the manual gives it, as plain data,
and the queue of the commands that wait. -/
structure State where
  /-- The commands that wait, first in, first out. -/
  pending : List Instr
  /-- TCLK periods (R25) since VDD_FOOT power-on; the model's own clock, advanced by a step on an empty queue. -/
  now : Nat
  /-- Every register and window word that differs from its reset value, keyed by BAR0 offset (R573, R578); personality registers by persKey (R95). -/
  regs : Tbl Word
  /-- The 64-bit statistics counters that are not 0 (R8), keyed by the LO word's offset. -/
  counters : Tbl Nat
  /-- Shadow words that differ from 0: counter HI words (R8), entry snapshots (R248), clock and timestamp shadows (R80, R104), keyed by offset. -/
  shadows : Tbl Word
  /-- For each mirrored word whose two copies differ, the exclusive-or of primary and shadow copy (R64). -/
  mirror : Tbl Word
  /-- ARG0 to ARG7 latched by the pending command of a slot (R53), keyed by the slot's base offset. -/
  slotArgs : Tbl (List Word)
  /-- The word that the last read command returned. -/
  rdata : Word
  /-- What the block has sent to the outside, the newest first (the model's own record of its outputs). -/
  out : List Out
  /-- The model's own counter: every draw of a free value applies Config.free to it and advances it. -/
  fresh : Nat
  /-- Packets that wait for admission to an ingress pipeline, per ingress GPN (R15, R182). -/
  ing : Tbl (List Pkt)
  /-- Switch egress queues of GPN 128 to 156, class c of port g under 8g + c, head first (R310). -/
  eq : Tbl (List Pkt)
  /-- Configuration loader: commands, load buffer, manifest copy, banks of the time plan (R45 to R65). -/
  cfg : Cfg
  /-- Time base: domain clocks A and B, working time, slew update, hold rate (R66 to R78). -/
  tim : Tim
  /-- Cones that have been armed: latched settings, next target, firings, pulse (R85 to R91). -/
  cones : Tbl Cone
  /-- Lock groups with a release in progress (R150 to R155). -/
  lockgrps : Tbl LockGrp
  /-- Flexport engines FP0 to FP127 beyond their registers (R92 to R155); an unlisted port is idle. -/
  fxp : Tbl FxpPort
  /-- The eight transmit queues of each flexport, queue q of FPn under 8n + q, head first (R14, R99). -/
  fq : Tbl (List FxpItem)
  /-- Ethernet MACs E0 to E23 beyond their registers (R156 to R181, R323 to R329). -/
  mac : Tbl Mac
  /-- Node-table words with a parity error: node and word (R198). -/
  wdgBad : List (Nat × Nat)
  /-- Policer buckets; an unlisted policer's buckets are full (R218). -/
  pol : Tbl PolState
  /-- Rules with an uncorrectable error, bank and rule as 8192 b + r (R224). -/
  badRules : List Nat
  /-- Forwarding tables: learn queue, bad entries, prefix records, trie nodes (R231 to R245). -/
  tbl : Tbls
  /-- Signal router: lookup queue, route timers, limiters, containers (R252 to R291). -/
  srt : Srt
  /-- Reflex path: pins, pulses, generators, capture FIFOs, previous rule results (R292 to R309). -/
  rfx : Rfx
  /-- Shelf: cells of every packet, resequencers, residue lists (R318, R338 to R349). -/
  shf : Shf
  /-- Recirculated packets that wait for their next pass, per pipeline 0 and 1 (R201). -/
  recirc : Tbl (List Pkt)
  /-- Words 1 to 7 of switch groups that have been written and not yet committed (R319), keyed by offset. -/
  mcStage : Tbl Word
  /-- Glaze: SET flags of the freshness counters, receive secure channels, salts (R364, R374). -/
  glz : Glz
  /-- Saggar: OTP fields, root secret, key tree, key cache (R378 to R406). -/
  sag : Sag
  /-- Network clusters, consent ring, standby entry (R407 to R423). -/
  nmw : Nmw
  /-- Queue pairs beyond their registers (R433 to R448). -/
  qps : Tbl Qp
  /-- Bridge: tags, locked sequences, buses, error log (R450 to R475). -/
  brg : Brg
  /-- Coil links, transfers and time relay (R476 to R504). -/
  col : Coil
  /-- Kiln pairs, logs and failovers (R505 to R520). -/
  kiln : Kiln
  /-- Foot's key, watchdog, battery samples and safe image (R521 to R526). -/
  foot : Foot
  /-- Craze: arm bits of each group, injection key, armed injection, pending vectors (R534, R540, R541). -/
  crz : Crz
  /-- The xSPI flash's banks A and B (R569, R570); persistent. -/
  flash : List Bank
  /-- Reset and boot (R554 to R572). -/
  boot : Boot
  /-- Field update (R543 to R553). -/
  upd : Upd
  deriving DecidableEq, Repr

/-- The block right after VDD_FOOT power-on (R10, R556): every register at its reset value, every table empty. -/
def State.reset : State where
  pending := []
  now := 0
  regs := []
  counters := []
  shadows := []
  mirror := []
  slotArgs := []
  rdata := 0
  out := []
  fresh := 0
  ing := []
  eq := []
  cfg := {}
  tim := {}
  cones := []
  lockgrps := []
  fxp := []
  fq := []
  mac := []
  wdgBad := []
  pol := []
  badRules := []
  tbl := {}
  srt := {}
  rfx := {}
  shf := {}
  recirc := []
  mcStage := []
  glz := {}
  sag := {}
  nmw := {}
  qps := []
  brg := {}
  col := {}
  kiln := {}
  foot := {}
  crz := {}
  flash := [{}, {}]
  boot := {}
  upd := {}

end Sys2Proof.Machine
end

