-- ==== Sys2Proof/Machine/Regs.lean ====
section
/-! DEFINITION. Sys2Proof/Machine/Regs.lean: the named operations over registers, counters, free values and time. -/

namespace Sys2Proof.Machine
open Sys2Proof

/-! ### The end of a command -/

/-- A command's outcome: the next state t, with the queue and the model's clock as they were in s. -/
def done (s t : State) : Host.Outcome State Fault Refusal :=
  .next { t with pending := s.pending, now := s.now }

/-! ### Registers (R6, R7, R95) -/

/-- The stored word of a key. -/
def rd (s : State) (k : Nat) : Word := (tblFind s.regs k).getD (resetWord k)

/-- The personality that a flexport runs (FXP_CFG.PERS). -/
def persOf (s : State) (n : Nat) : Nat := fld (rd s (0x00100000 + 0x1000 * n)) 26 24

/-- The storage key of a BAR0 offset: personality registers are storage of the active personality (R95). -/
def keyOf (s : State) (off : Nat) : Nat :=
  if 0x00100000 ≤ off ∧ off < 0x00180000 ∧ 0x100 ≤ off % 0x1000 then
    persKey (if persOf s ((off - 0x00100000) / 0x1000) = 0 then 8 else persOf s ((off - 0x00100000) / 0x1000)) off
  else off

/-- The register store with key k at word w, in canonical form. -/
def putWord (m : Tbl Word) (k : Nat) (w : Word) : Tbl Word :=
  if w = resetWord k then tblErase m k else tblSet m k w

/-- Write a key's word: both copies where it is mirrored (R64). -/
def wr (k : Nat) (w : Word) (s : State) : State :=
  { s with regs := putWord s.regs k w, mirror := tblErase s.mirror k }

/-- Every word whose key satisfies p is at its reset value. -/
def dropWords (p : Nat → Bool) (s : State) : State := { s with regs := tblDrop p s.regs }

/-- The exclusive-or of the two copies of a mirrored word (R64). -/
def setMirror (k : Nat) (d : Word) (s : State) : State :=
  { s with mirror := if d = 0 then tblErase s.mirror k else tblSet s.mirror k d }

/-- The copies of the mirrored words whose key satisfies p agree (R65). -/
def mirrorAgree (p : Nat → Bool) (s : State) : State := { s with mirror := tblDrop p s.mirror }

/-- Flash bank b holds k (R569). -/
def setBank (b : Nat) (k : Bank) (s : State) : State := { s with flash := setAt s.flash b k }

/-- Field [hi:lo] of a key's word. -/
def rdF (s : State) (k hi lo : Nat) : Nat := fld (rd s k) hi lo

/-- Bit b of a key's word. -/
def rdB (s : State) (k b : Nat) : Bool := bit (rd s k) b

/-- Set field [hi:lo] of a key's word. -/
def wrF (k hi lo v : Nat) (s : State) : State := wr k (setFld (rd s k) hi lo v) s

/-- Set bit b of a key's word. -/
def wrB (k b : Nat) (v : Bool) (s : State) : State := wr k (setBit (rd s k) b v) s

/-- Write consecutive words from key k. -/
def wrWords (k : Nat) : List Word → State → State
  | [], s => s
  | w :: ws, s => wrWords (k + 4) ws (wr k w s)

/-- n consecutive words from key k. -/
def rdWords (s : State) (k : Nat) : Nat → List Word
  | 0 => []
  | n + 1 => rd s k :: rdWords s (k + 4) n

/-- CFG_LOCK is set: every RWL field is read-only for host software and Kiln firmware (R6, CFG_LOCK). -/
def locked (s : State) : Bool := bit (rd s 0x000A0200) 0

/-- A word after a write of w by access type (R6): RW and, while not locked, RWL fields take w; W1C bits clear, W1S bits set. -/
def accessWord (r : RegRow) (lockedNow : Bool) (old w : Word) : Word :=
  let m := rowMask r .rw ||| (if lockedNow then 0 else rowMask r .rwl)
  (mergeMask old m w &&& ~~~(w &&& rowMask r .w1c)) ||| (w &&& rowMask r .w1s)

/-- Set the word that a read command returns. -/
def setRdata (w : Word) (s : State) : State := { s with rdata := w }

/-- Set a shadow word (R8, R248). -/
def setShadow (k : Nat) (w : Word) (s : State) : State :=
  { s with shadows := if w = 0 then tblErase s.shadows k else tblSet s.shadows k w }

/-- Set consecutive shadow words. -/
def setShadows (k : Nat) : List Word → State → State
  | [], s => s
  | w :: ws, s => setShadows (k + 4) ws (setShadow k w s)

/-- A shadow word. -/
def shadow (s : State) (k : Nat) : Word := tblGet s.shadows k 0

/-! ### Counters (R8) -/

/-- The value of the 64-bit counter whose LO word has key k. -/
def counter (s : State) (k : Nat) : Nat := tblGet s.counters k 0

/-- Add n to a 64-bit counter. -/
def bumpN (k n : Nat) (s : State) : State :=
  { s with counters := tblPut s.counters k ((counter s k + n) % 2 ^ 64) }

/-- A 64-bit counter is 0 (R8). -/
def clearCounter (k : Nat) (s : State) : State := { s with counters := tblErase s.counters k }

/-- Count one. -/
def bump (k : Nat) (s : State) : State := bumpN k 1 s

/-- Add 1 to field [hi:lo] of a register, saturating at the field's greatest value. -/
def satInc (k hi lo : Nat) (s : State) : State :=
  if rdF s k hi lo + 1 < 2 ^ (hi + 1 - lo) then wrF k hi lo (rdF s k hi lo + 1) s else s

/-! ### Outputs and free values -/

/-- Send something to the outside. -/
def emit (o : Out) (s : State) : State := { s with out := o :: s.out }

/-- The next free value, cut to w bits. -/
def freeVal (s : State) (w : Nat) : Nat := Config.free s.fresh % 2 ^ w

/-- A free value has been drawn. -/
def drawn (s : State) : State := { s with fresh := s.fresh + 1 }

/-! ### Time (R66, R80, R82) -/

/-- Units of the clocks in one nanosecond. -/
def unitsPerNs : Nat := 2 ^ 32

/-- Working time is initialised: TIM_STATUS.WT_VALID (R72). -/
def wtValid (s : State) : Bool := bit (rd s 0x00060010) 31

/-- Whole nanoseconds of a clock. -/
def clkNs (c : Nat) : Nat := c / 2 ^ 32

/-- The seconds, the nanoseconds and the fraction of a clock (R66). -/
def clkSec (c : Nat) : Nat := c / 2 ^ 32 / 10 ^ 9 % 2 ^ 48
def clkSub (c : Nat) : Nat := c / 2 ^ 32 % 10 ^ 9
def clkFrac (c : Nat) : Nat := c / 2 ^ 16 % 2 ^ 16

/-- The three-word layout of a clock: nanoseconds, seconds [31:0], fraction and seconds [47:32]. -/
def clkWords (c : Nat) : List Word :=
  [w32 (clkSub c), w32 (clkSec c), w32 (clkFrac c * 2 ^ 16 + clkSec c / 2 ^ 32)]

/-- The clock that the three-word layout spells. -/
def clkOfWords (ns lo hi : Nat) : Nat :=
  ((hi % 2 ^ 16 * 2 ^ 32 + lo) * 10 ^ 9 + ns) * 2 ^ 32 + hi / 2 ^ 16 * 2 ^ 16

/-- A clock as a TS64 (R80). -/
def ts64 (c : Nat) : Nat := clkSec c % 2 ^ 32 * 2 ^ 32 + clkSub c

/-- A timestamp of now: working time in TS64; 0 before initialisation (R80). -/
def tsNow (s : State) : Nat := if wtValid s then ts64 s.tim.wt else 0

/-- NOW40 (R82). -/
def now40 (s : State) : Nat := clkNs s.tim.wt % 2 ^ 40

/-- TCLK periods of n microseconds (R25). -/
def usT (n : Nat) : Nat := 1200 * n

/-- TCLK periods of n milliseconds. -/
def msT (n : Nat) : Nat := 1200000 * n

/-! ### Regions -/

/-- CFG_REGION_STATE of a region. -/
def regState (r : Nat) : Nat := 0x000A0408 + 0x10 * r

/-- A region has been applied since warm reset: it has an active generation (R60, R565). -/
def regionApplied (s : State) (r : Nat) : Bool := rd s (0x000A0400 + 0x10 * r) != 0

/-- The active bank of a banked region, if it has one (R60). -/
def activeBank (s : State) (r : Nat) : Option Nat :=
  if regionApplied s r then some (rdF s (regState r) 8 8) else none

/-! ### Injection (R541) -/

/-- An armed injection of a detector, with its INDEX and ARG. -/
def injArmed (s : State) (det : Nat) : Option (Nat × Nat) :=
  match s.crz.inj with
  | some (d, i, a) => if d = det then some (i, a) else none
  | none => none

/-- The armed injection has acted: DONE is set (R541). -/
def injDone (s : State) : State :=
  wrB 0x00010014 29 true (wrB 0x00010014 30 false { s with crz := { s.crz with inj := none } })

/-- An injection of a detector is armed for an index. -/
def injFor (s : State) (det idx : Nat) : Bool :=
  match injArmed s det with
  | some (i, _) => i == idx
  | none => false


end Sys2Proof.Machine
end

