-- ==== Sys2Proof/Machine/Cells.lean ====
section
/-! DEFINITION. Sys2Proof/Machine/Cells.lean: what the switch's queues rest on: the MACs' link, gate and credit state
(R158, R169, R171, R326), Shelf cells and pools (R338 to R340), admission (R341, R342), the egress queues and their
sequence numbers (R311, R312, R345), residue lists (R317, R318). Nothing here signals an event. -/

namespace Sys2Proof.Machine
open Sys2Proof

/-! ### Ethernet ports -/

/-- A MAC's block: E0 to E23, SVC as 24. -/
def macBase (n : Nat) : Nat := 0x00180000 + 0x2000 * n

/-- The source address of a MAC: MAC_SA HI bytes 0-1, LO bytes 2-5; before region 27 writes it, 02-5A-47 and the UID (R492). -/
def macSa (s : State) (n : Nat) : List Byte :=
  let a := beBytes 2 (rd s (macBase n + 0x24)).toNat ++ beBytes 4 (rd s (macBase n + 0x20)).toNat
  if beNat a = 0 then [b8 0x02, b8 0x5A, b8 0x47] ++ beBytes 3 s.sag.uid else a

/-- A MAC beyond its registers. -/
def macOf (s : State) (n : Nat) : Mac := tblGet s.mac n {}

/-- Set a MAC beyond its registers. -/
def setMac (n : Nat) (m : Mac) (s : State) : State :=
  { s with mac := if m = {} then tblErase s.mac n else tblSet s.mac n m }

/-- MAC_STATUS of a MAC. -/
def macStatus (n : Nat) : Nat := macBase n + 0x04

/-- The link of a port is up. -/
def linkUp (s : State) (n : Nat) : Bool := bit (rd s (macStatus n)) 31

/-- The port's link is down, or the port sleeps (R178, R312). -/
def linkDown (s : State) (n : Nat) : Bool := !linkUp s n || bit (rd s (macStatus n)) 15

/-- MAX_FRAME of a port. -/
def maxFrame (s : State) (n : Nat) : Nat := rdF s (macBase n + 0x30) 13 0

/-- Counter j of a MAC, from +0x400 in steps of 8. -/
def macCtr (n j : Nat) : Nat := macBase n + 0x400 + 8 * j

/-- A port's rate in bits per 100 ns by MAC_STATUS.SPEED (R158). -/
def speedOf (code : Nat) : Nat :=
  match code with
  | 1 => 1 | 2 => 10 | 3 => 100 | 4 => 250 | 5 => 500 | 6 => 1000 | 7 => 2500 | 8 => 5000 | 9 => 10000
  | _ => 0

/-- The configured speed of a port in bits per 100 ns. -/
def portSpeed (s : State) (n : Nat) : Nat := speedOf (fld (rd s (macStatus n)) 27 24)

/-- The transmitter leaves low-power idle; its frame may start TW_TX later (R171). -/
def lpiWake (n : Nat) (s : State) : State :=
  if bit (rd s (macStatus n)) 29 then wrB (macStatus n) 29 false (setMac n { macOf s n with lpiWait := true } s) else s

/-- A PFC frame of MAC n (R169): the classes of its enable vector, and the time of each. -/
def pfcFrame (s : State) (n vec : Nat) (time : Nat → Nat) : List Byte :=
  [b8 0x01, b8 0x80, b8 0xC2, 0, 0, b8 0x01] ++ macSa s n ++ beBytes 2 0x8808 ++ beBytes 2 0x0101 ++ beBytes 2 vec
    ++ (List.range 8).flatMap (fun p => beBytes 2 (if nbit vec p then time p else 0)) ++ List.replicate 26 0

/-- Send a PFC frame, ahead of every queued frame (R169). -/
def pfcSend (n vec : Nat) (time : Nat → Nat) (s : State) : State :=
  if vec = 0 then s else bump (macCtr n 17) (emit (.eth n (pfcFrame s n vec time) false) (lpiWake n s))

/-- A port's scheduler registers (R323 to R329): block of port n, E0 to E23 as 0 to 23, then HOST, KILN, ROUTER, COIL. -/
def swcPort (n : Nat) : Nat := 0x00401000 + 0x100 * n

/-- Counter j of a switch port: 0 CT_FRAMES, 1 GATE_TOO_LONG, 2 GCL_TRUNC, 3 MC_RESIDUE_DROP, 4 MC_LINKDOWN_DROP,
5 LINKDOWN_FLUSH. -/
def swcCtr (n j : Nat) : Nat := swcPort n + 0xC0 + 8 * j

/-- The gate of class c of port n is open: SWC_GCL_STATUS.GATES. -/
def gateOpen (s : State) (n c : Nat) : Bool := rdB s (swcPort n + 0x80) c

/-- An egress queue of the switch. -/
def eqOf (s : State) (g c : Nat) : List Pkt := tblGet s.eq (8 * g + c) []

/-- Set an egress queue of the switch. -/
def setEq (g c : Nat) (l : List Pkt) (s : State) : State :=
  { s with eq := if l = [] then tblErase s.eq (8 * g + c) else tblSet s.eq (8 * g + c) l }

/-- The packets that the resequencer of a queue holds (R346). -/
def rsqOf (s : State) (q : Nat) : List Pkt := tblGet s.shf.rsq q []

/-- Set the packets that the resequencer of a queue holds. -/
def setRsq (q : Nat) (l : List Pkt) (s : State) : State :=
  { s with shf := { s.shf with rsq := if l = [] then tblErase s.shf.rsq q else tblSet s.shf.rsq q l } }

/-- A queue holds no packet and its OUTSTANDING is 0 (R38, R347). -/
def queueEmpty (s : State) (g c : Nat) : Bool := (eqOf s g c).isEmpty && (rsqOf s (8 * g + c)).isEmpty

/-- Credit of one class after t TCLK periods without transmission (R326): it rises at idleSlope (kbit/s) while the queue
waits or the credit is negative, is frozen while the gate is closed, and saturates. -/
def creditRise (credit : Int) (idle t : Nat) (waits gate : Bool) : Int :=
  let rise : Int := (idle * t * 65536 / 1200000 : Nat)
  if !gate then credit
  else if waits then min (credit + rise) (2 ^ 47)
  else if credit < 0 then min (credit + rise) 0
  else credit

/-- Bring the credits of port n up to the present (R326). -/
def cbsUpdate (n : Nat) (s : State) : State :=
  let m := macOf s n
  if s.now ≤ m.creditAt then s
  else
    let sched := rd s (swcPort n)
    if fld sched 15 8 = 0 then s
    else
      let cr := (List.range 8).map (fun c =>
        if bit sched (8 + c) then
          creditRise (m.credit.getD c 0) (rdF s (swcPort n + 0x40 + 8 * c) 27 0) (s.now - m.creditAt)
            (!queueEmpty s (128 + n) c) (gateOpen s n c)
        else 0)
      setMac n { m with credit := cr, creditAt := s.now } s

/-! ### Cells and pools (R338 to R340) -/

/-- Cells of a packet of len bytes, its FCS left out (R338). -/
def cellsOf (len : Nat) : Nat := (len + 4 + 255) / 256

/-- The cells of packet number pid. -/
def pktOf (s : State) (pid : Nat) : PktCells := tblGet s.shf.pkts pid {}

/-- Set the cells of packet number pid. -/
def setPkt (pid : Nat) (v : PktCells) (s : State) : State := { s with shf := { s.shf with pkts := tblSet s.shf.pkts pid v } }

/-- The sum of f over all packets. -/
def sumPkts (s : State) (f : PktCells → Nat) : Nat := s.shf.pkts.foldl (fun n e => n + f e.2) 0

/-- The sum of f over a packet's charges to queue q. -/
def sumCharge (q : Nat) (f : QCharge → Nat) (p : PktCells) : Nat :=
  p.queues.foldl (fun n e => if e.q = q then n + f e else n) 0

/-- The pool levels (R338, R341, R343, R346). -/
def sharedUsed (s : State) : Nat := sumPkts s (fun p => p.inflight + p.shared)
def hdrmUsed (s : State) : Nat := sumPkts s (·.hdrm)
def stagingUsed (s : State) : Nat := sumPkts s (·.staging)
def readbackUsed (s : State) : Nat := sumPkts s (·.readback)
def ovfUsed (s : State) : Nat := sumPkts s (·.ovf)
def rsqUsed (s : State) : Nat := s.shf.rsq.foldl (fun n e => n + e.2.length) 0

/-- USED, the guaranteed part, SUSED and OVF_USED of queue q (R357). -/
def usedQ (s : State) (q : Nat) : Nat := sumPkts s (sumCharge q (·.n))
def gusedQ (s : State) (q : Nat) : Nat := sumPkts s (sumCharge q (·.g))
def susedQ (s : State) (q : Nat) : Nat := sumPkts s (sumCharge q (·.s))
def ovfUsedQ (s : State) (q : Nat) : Nat := sumPkts s (fun p => if p.ovfq = q then p.ovf else 0)

/-- Ingress level of port index i, priority p (R340). -/
def ingLevel (s : State) (i p : Nat) : Nat := sumPkts s (fun c => if c.port = i ∧ c.cls = p then c.held else 0)

/-- SHARED_SIZE: before region 27 is applied, 121,344 cells (R565). -/
def sharedSize (s : State) : Nat := if regionApplied s 27 then rdF s 0x00480008 17 0 else 121344

/-- MIN of queue q: before region 27 is applied, 64 for class 7 of each Ethernet port (R565). -/
def minQ (s : State) (q : Nat) : Nat :=
  if regionApplied s 27 then rdF s (0x0F400000 + 0x10 * q) 17 0
  else if q % 8 = 7 ∧ 1024 ≤ q ∧ q < 1216 then 64 else 0

/-- Cells of the packet partition of overflow memory (R352). -/
def partitionCells (s : State) : Nat :=
  (rdF s 0x00480800 15 0 - rdF s 0x00000100 31 16 - rdF s 0x00000100 15 0) * 4096

/-- The index of an ingress GPN in TBL_PORT_CFG and in the switch port blocks. -/
def portIdx (g : Nat) : Nat := if 128 ≤ g ∧ g < 154 then g - 128 else if g = 155 then 26 else 27

/-- The ingress GPN of a packet; sources of the router count as ROUTER. -/
def ingressGpn (p : Pkt) : Nat := if p.kind < 4 then 155 else p.ingress % 256

/-- Give a packet its cells, charged as in flight if infl (R340). -/
def shfOpen (infl : Bool) (p : Pkt) (s : State) : Pkt × State :=
  let n := cellsOf p.bytes.length
  let k := s.shf.next
  ({ p with pid := k },
   setPkt k { n := n, port := portIdx (ingressGpn p), cls := p.cls, held := n, inflight := if infl then n else 0 }
     { s with shf := { s.shf with next := k + 1 } })

/-- A packet arrives (R340): it takes cells of the shared pool, or is dropped and counted in ARRIVAL_DROP. -/
def shfArrive (p : Pkt) (s : State) : Option Pkt × State :=
  if sharedSize s < sharedUsed s + cellsOf p.bytes.length then (none, bump (0x0F4D0000 + 8 * portIdx (ingressGpn p)) s)
  else
    let (p, s) := shfOpen true p s
    (some p, s)

/-- One more copy shares a packet's cells (R316). -/
def shfRef (pid : Nat) (s : State) : State :=
  if pid = 0 then s else setPkt pid { pktOf s pid with refs := (pktOf s pid).refs + 1 } s

/-- A copy has been sent or dropped; the cells are freed with the last one (R341). -/
def shfUnref (pid : Nat) (s : State) : State :=
  if pid = 0 then s
  else if (pktOf s pid).refs ≤ 1 then { s with shf := { s.shf with pkts := tblErase s.shf.pkts pid } }
  else setPkt pid { pktOf s pid with refs := (pktOf s pid).refs - 1 } s

/-- The packet's cells follow its length after a strip (R199). -/
def shfRetain (p : Pkt) (s : State) : State :=
  let c := pktOf s p.pid
  if p.pid = 0 then s
  else setPkt p.pid { c with n := cellsOf p.bytes.length, held := cellsOf p.bytes.length,
                             inflight := if c.inflight = 0 then 0 else cellsOf p.bytes.length } s

/-- Append a packet to an ingress: GPN g's waiting list (R15). -/
def ingAppend (g : Nat) (p : Pkt) (s : State) : State :=
  { s with ing := tblSet s.ing g (tblGet s.ing g [] ++ [p]) }

/-- A packet arrives at ingress GPN g, if Shelf has room. -/
def ingArrive (g : Nat) (p : Pkt) (s : State) : State :=
  match shfArrive p s with
  | (some p, s) => ingAppend g p s
  | (none, s) => s

/-! ### Admission (R341, R342) -/

/-- What a queue grants a packet: guaranteed part, the rest, and whether the rest is headroom or the packet is spilled. -/
structure Grant where
  g : Nat := 0
  x : Nat := 0
  hdrm : Bool := false
  spill : Bool := false
  deriving DecidableEq, Repr

/-- The limit that ALPHA_EXP sets on a queue's shared cells (R341). -/
def alphaLimit (free : Int) (e : Int) : Int := if e < 0 then free.tdiv (2 ^ e.natAbs : Nat) else free * (2 ^ e.natAbs : Nat)

/-- The decision of R341 for a packet of n cells and queue q. -/
def admitDecide (s : State) (q n : Nat) (lossless spillOk : Bool) : Option Grant :=
  let g := min n (minQ s q - gusedQ s q)
  let x := n - g
  let used := sharedUsed s
  if x = 0 then some { g := g }
  else if spillOk && decide (rdF s 0x00480004 17 0 < used + x) then some { spill := true }
  else if used + x ≤ sharedSize s ∧
      ((susedQ s q + x : Nat) : Int) ≤ alphaLimit ((sharedSize s : Int) - used) (signed 4 (rdF s (0x0F400004 + 0x10 * q) 27 24)) then
    some { g := g, x := x }
  else if lossless && decide (hdrmUsed s + x ≤ rdF s 0x00480000 17 0) then some { g := g, x := x, hdrm := true }
  else none

/-- A packet is lossless (R341): its ingress port sends PFC for its class. -/
def losslessPkt (s : State) (p : Pkt) : Bool :=
  let g := ingressGpn p
  let w := rd s (macBase (g - 128) + 0x50)
  decide (128 ≤ g) && decide (g < 152) && bit w 30 && nbit (fld w 23 16) p.cls

/-- The conditions of R342 that do not rest on the shared level; single: the packet has exactly one copy. -/
def spillOk (s : State) (g c : Nat) (p : Pkt) (single : Bool) : Bool :=
  let q := 8 * g + c
  let n := (pktOf s p.pid).n
  rdB s 0x00480000 31 && rdB s (0x0F400004 + 0x10 * q) 31 && bit (rd s 0x00480800) 31
    && decide (128 ≤ g) && decide (g ≤ 152) && single && !p.ct && p.mir.isNone
    && decide (stagingUsed s + n ≤ rdF s 0x00480004 31 19)
    && decide (ovfUsedQ s q + n ≤ rdF s (0x0F400008 + 0x10 * q) 27 0)
    && decide (ovfUsed s + n ≤ partitionCells s)

/-- Counter j of queue q: 0 ENQUEUED, 1 ADMIT_DROP, 2 SPILLED, 3 RESEQ_GAP, 4 RESEQ_LATE. -/
def queueCtr (q j : Nat) : Nat := 0x0F480000 + 0x40 * q + 8 * j

/-- Next sequence number to enqueue and to deliver (R345, R357). -/
def seqIn (q : Nat) : Nat := 0x0F41000C + 0x20 * q
def seqOut (q : Nat) : Nat := 0x0F410010 + 0x20 * q

/-- An admitted packet takes its number and enters the queue (R345); an injection discards it after that (R542, 0x12).
An enqueue wakes an Ethernet port from low-power idle (R171). -/
def shfPut (g c : Nat) (p : Pkt) (s : State) : State :=
  let q := 8 * g + c
  let n := (rd s (seqIn q)).toNat
  let s := bump (queueCtr q 0) (wr (seqIn q) (w32 (n + 1)) s)
  match injArmed s 0x12 with
  | some (i, _) =>
    if i = q then shfUnref p.pid (injDone s) else setEq g c (eqOf s g c ++ [{ p with seq := n }]) s
  | none => setEq g c (eqOf s g c ++ [{ p with seq := n }]) s

/-- The queue's wake of its port before a packet enters: credits and low-power idle. -/
def shfTouch (g : Nat) (s : State) : State :=
  if 128 ≤ g ∧ g < 152 then lpiWake (g - 128) (cbsUpdate (g - 128) s) else s

/-- The admission of R341 for queue c of port g: whether the queue admits the packet. Its in-flight charge is released
first; of several copies only the first one's rest is charged to a pool. -/
def shfAdmit (g c : Nat) (p : Pkt) (single : Bool) (s : State) : Bool × State :=
  let q := 8 * g + c
  let s := setPkt p.pid { pktOf s p.pid with inflight := 0 } s
  let k := pktOf s p.pid
  match admitDecide s q k.n (losslessPkt s p) (spillOk s g c p single) with
  | none => (false, s)
  | some gr =>
    let s := shfTouch g s
    if gr.spill then
      (true, shfPut g c { p with spilled := true, ready := false }
        (bump (queueCtr q 2) (setPkt p.pid { k with staging := k.n, ovf := k.n, ovfq := q } s)))
    else
      let first := k.queues.isEmpty
      (true, shfPut g c p (setPkt p.pid
        { k with shared := if first && !gr.hdrm then gr.x else k.shared, hdrm := if first && gr.hdrm then gr.x else k.hdrm,
                 queues := k.queues ++ [{ q := q, n := k.n, g := gr.g, s := if gr.hdrm then 0 else gr.x }] } s))

/-! ### Residue lists (R317, R318) -/

/-- Residue list of class c. -/
def residueOf (s : State) (c : Nat) : List (Nat × Pkt) := tblGet s.shf.residue c []

/-- Set the residue list of class c. -/
def setResidue (c : Nat) (l : List (Nat × Pkt)) (s : State) : State :=
  { s with shf := { s.shf with residue := if l = [] then tblErase s.shf.residue c else tblSet s.shf.residue c l } }

/-- The list without its first copy for port g, and that copy. -/
def residueTake (g : Nat) : List (Nat × Pkt) → Option (Pkt × List (Nat × Pkt))
  | [] => none
  | (k, p) :: t => if k = g then some (p, t) else (residueTake g t).map (fun r => (r.1, (k, p) :: r.2))

/-- Queue c of port g admits its oldest residue copies, as far as it can, at most n of them (R318). -/
def residueAdmit (g c : Nat) : Nat → State → State
  | 0, s => s
  | n + 1, s =>
    match residueTake g (residueOf s c) with
    | none => s
    | some (p, rest) =>
      match shfAdmit g c p false (setResidue c rest s) with
      | (true, s) => residueAdmit g c n s
      | (false, _) => s

/-- A packet or copy is offered to queue c of port g: residue copies go first, and while one still waits the queue takes
nothing behind it (R318). -/
def shfOffer (g c : Nat) (p : Pkt) (single : Bool) (s : State) : Bool × State :=
  let s := residueAdmit g c (residueOf s c).length s
  if (residueTake g (residueOf s c)).isSome then (false, s) else shfAdmit g c p single s

/-! ### Heads of queues (R345, R347) -/

/-- The packet that queue c of port g delivers next, if it is ready (R345, R347). -/
def shfHead (s : State) (g c : Nat) : Option Pkt :=
  let q := 8 * g + c
  let nxt := (rd s (seqOut q)).toNat
  match rsqOf s q with
  | p :: _ => if p.ready = true ∧ p.seq = nxt then some p else none
  | [] =>
    match eqOf s g c with
    | p :: _ => if p.spilled = false ∧ p.seq = nxt ∧ rsqUsed s < 65536 then some p else none
    | [] => none

/-- The head packet leaves the queue; its cells stay until it is sent. -/
def shfPop (g c : Nat) (s : State) : State :=
  let q := 8 * g + c
  let s := match rsqOf s q with
    | _ :: t => setRsq q t s
    | [] => setEq g c ((eqOf s g c).drop 1) s
  wr (seqOut q) (rd s (seqOut q) + 1) s

/-- Kiln firmware takes the packets of GPN 153, class 7 first, at most n of them (R310). -/
def kilnTake : Nat → State → State
  | 0, s => s
  | n + 1, s =>
    match [7, 6, 5, 4, 3, 2, 1, 0].find? (fun c => (shfHead s 153 c).isSome) with
    | none => s
    | some c =>
      match shfHead s 153 c with
      | none => s
      | some p => kilnTake n (shfUnref p.pid (emit (.kilnFrame p.ingress p.ts p.bytes) (shfPop 153 c s)))

/-- A packet with one copy is enqueued to queue c of port g (R311, R312, R341): whether the queue took it. -/
def shfTry (g c : Nat) (p : Pkt) (s : State) : Bool × State :=
  let (p, s) := if p.pid = 0 then shfOpen false p s else (p, s)
  if 128 ≤ g ∧ g < 152 ∧ linkDown s (g - 128) = true then (false, bump (swcCtr (g - 128) 5) (shfUnref p.pid s))
  else
    match shfOffer g c p true s with
    | (true, s) => (true, if g = 153 then kilnTake 1 s else s)
    | (false, s) => (false, bump (queueCtr (8 * g + c) 1) (shfUnref p.pid s))

/-- A packet with one copy is enqueued to queue c of port g. -/
def shfEnqueue (g c : Nat) (p : Pkt) (s : State) : State := (shfTry g c p s).2

/-- Drop a list of packets: their cells are freed. -/
def shfDropAll (l : List Pkt) (s : State) : State := l.foldl (fun s p => shfUnref p.pid s) s

/-- The queues of a port are flushed (R312, R349): every packet counts, read-backs are cancelled, and the next number to
deliver is the next to be enqueued; residue copies for the port are dropped (R318). -/
def shfFlush (g : Nat) (s : State) : State :=
  forN 8 0 (fun c s =>
    let q := 8 * g + c
    let l := rsqOf s q ++ eqOf s g c
    let lt := tblGet s.shf.late q []
    let gone := (residueOf s c).filter (fun e => e.1 = g)
    let s := bumpN (swcCtr (g - 128) 5) l.length (shfDropAll (l ++ lt) s)
    let s := bumpN (swcCtr (g - 128) 4) gone.length (shfDropAll (gone.map (·.2)) s)
    let s := setResidue c ((residueOf s c).filter (fun e => e.1 ≠ g)) s
    let s := { s with shf := { s.shf with late := tblErase s.shf.late q } }
    wr (seqOut q) (rd s (seqIn q)) (setEq g c [] (setRsq q [] s))) s

end Sys2Proof.Machine
end

