-- ==== Sys2Proof/Machine/Ops.lean ====
section
/-! DEFINITION. Sys2Proof/Machine/Ops.lean: the named operations over events, Coil frames, flexports, the safe state and
command slots that every command's meaning is written with. -/

namespace Sys2Proof.Machine
open Sys2Proof

/-! ### Craze: leaves, groups, targets (R527 to R537) -/

/-- The STATUS register and the bit of a leaf position (R529, R530); none where no source occupies it. -/
def leafHome (l : Nat) : Option (Nat × Nat) :=
  if l < 1536 then some (0x00100010 + 0x1000 * (l / 12), if l % 12 < 4 then l % 12 else l % 12 + 4)
  else if l < 1728 then some (0x00180010 + 0x2000 * ((l - 1536) / 8), (l - 1536) % 8)
  else if l < 1736 then some (0x001B0010, l - 1728)
  else if l < 1744 then some (0x000600E0, l - 1736)
  else if l < 1751 then some (0x00070040, l - 1744)
  else if l < 1760 then some (0x00090040, l - 1751)
  else if l < 1765 then some (0x00200040, l - 1760)
  else if l < 1768 then some (0x00240040, l - 1765)
  else if l < 1773 then some (0x00280440, l - 1768)
  else if l < 1781 then some (0x00300040, l - 1773)
  else if l < 1785 then some (0x00380040, l - 1781)
  else if l < 1790 then some (0x00080040, l - 1785)
  else if 1792 ≤ l ∧ l < 1800 then some (0x00400040, l - 1792)
  else if 1800 ≤ l ∧ l < 1808 then some (0x00480040, l - 1800)
  else if 1808 ≤ l ∧ l < 1814 then some (0x00050400, l - 1808)
  else if 1814 ≤ l ∧ l < 1820 then some (0x00500040, l - 1814)
  else if 1824 ≤ l ∧ l < 1856 then some (0x00480050, l - 1824)
  else if 1856 ≤ l ∧ l < 1866 then some (0x00040480, l - 1856)
  else if 1866 ≤ l ∧ l < 1874 then some (0x00030040, l - 1866)
  else if 1888 ≤ l ∧ l < 1896 then some (0x00020040, l - 1888)
  else if 1896 ≤ l ∧ l < 1900 then some (0x000B0080, l - 1896)
  else if 2016 ≤ l ∧ l < 2031 then some (0x00010040, l - 2016)
  else none

/-- Leaf positions by block and bit (R529). -/
def lfFxp (n b : Nat) : Nat := 12 * n + (if b < 4 then b else b - 4)
def lfMac (n b : Nat) : Nat := if n = 24 then 1728 + b else 1536 + 8 * n + b
def lfTim (b : Nat) : Nat := 1736 + b
def lfNmw (b : Nat) : Nat := 1744 + b
def lfCol (b : Nat) : Nat := 1751 + b
def lfWdg (b : Nat) : Nat := 1760 + b
def lfCls (b : Nat) : Nat := 1765 + b
def lfTbl (b : Nat) : Nat := 1768 + b
def lfSrt (b : Nat) : Nat := 1773 + b
def lfRfx (b : Nat) : Nat := 1781 + b
def lfBrg (b : Nat) : Nat := 1785 + b
def lfSwc (b : Nat) : Nat := 1792 + b
def lfShf (b : Nat) : Nat := 1800 + b
def lfGlz (b : Nat) : Nat := 1808 + b
def lfHst (b : Nat) : Nat := 1814 + b
def lfWm (m : Nat) : Nat := 1824 + m
def lfSag (b : Nat) : Nat := 1856 + b
def lfUpd (b : Nat) : Nat := 1866 + b
def lfKln (b : Nat) : Nat := 1888 + b
def lfFoot (b : Nat) : Nat := 1896 + b
def lfCrz (b : Nat) : Nat := 2016 + b

/-- A leaf's bit in one of its four registers: 0 STATUS, 1 LIVE, 2 ENABLE (R527). -/
def leafBit (s : State) (l reg : Nat) : Bool :=
  match leafHome l with
  | some (k, b) => bit (rd s (k + 4 * reg)) b
  | none => false

/-- Set a leaf's bit in one of its registers. -/
def setLeafBit (l reg : Nat) (v : Bool) (s : State) : State :=
  match leafHome l with
  | some (k, b) => wrB (k + 4 * reg) b v s
  | none => s

/-- Group g is pending (R532). -/
def grpPending (s : State) (g : Nat) : Bool :=
  (List.range 32).any (fun b => leafBit s (32 * g + b) 0 && leafBit s (32 * g + b) 2)

/-- Some leaf of group g has STATUS = 1. -/
def grpStatus (s : State) (g : Nat) : Bool := (List.range 32).any (fun b => leafBit s (32 * g + b) 0)

/-- CRZ_ROUTE_g. -/
def routeKey (g : Nat) : Nat := 0x00010100 + 4 * g

/-- Send an MSI-X vector of a function, or set its pending bit while its entry is masked (R534). -/
def sendVec (fn vec : Nat) (s : State) : State :=
  if rdB s (bar2Key fn (16 * vec + 12)) 0 then
    emit (.msixPending fn vec) (wrB (bar2Key fn (0x800 + 4 * (vec / 32))) (vec % 32) true s)
  else emit (.msix fn vec) s

/-- FOOT_FAULT bit b is set; FAULT_N is asserted while any is (R524). -/
def footFault (b : Nat) (s : State) : State := wrB 0x000B0040 b true s

/-- Signal the targets of group g as far as it is pending and they are armed (R534, R536); group 63 asserts FAULT_N
whatever ENABLE holds (R538). -/
def settleGroup (g : Nat) (s : State) : State :=
  let p := grpPending s g
  let r := rd s (routeKey g)
  let s := if p && bit r 28 && nbit s.crz.armHost g then
      sendVec (fld r 26 24) (fld r 21 16) { s with crz := { s.crz with armHost := nsetBit s.crz.armHost g false } }
    else s
  let s := if p && bit r 29 && nbit s.crz.armKiln g then
      emit (.kilnSignal g) { s with crz := { s.crz with armKiln := nsetBit s.crz.armKiln g false } }
    else s
  if (p && bit r 31) || (g == 63 && grpStatus s 63) then footFault 0 s else s

/-- FAULT_N is asserted (low) while any bit of FOOT_FAULT is set (R524). -/
def faultAsserted (s : State) : Bool := rd s 0x000B0040 != 0

/-- EVT_N is asserted while any group with EVT = 1 is pending (R536). -/
def evtAsserted (s : State) : Bool := (List.range 64).any (fun g => grpPending s g && bit (rd s (routeKey g)) 30)

/-- The DID of this device, 0 while unassigned (GLB_DID). -/
def ownDid (s : State) : Nat := rdF s 0x00000004 10 0

/-! ### Frames that leave over the Coil (R480 to R484) -/

/-- A Coil link's register at offset o (COL_LINK_CFG_l). -/
def colLink (l o : Nat) : Nat := 0x00090100 + 0x20 * l + o

/-- The state of a Coil link: 0 DOWN, 1 PROBING, 2 UP, 3 CFG_ERR. -/
def linkState (s : State) (l : Nat) : Nat := fld (rd s (colLink l 12)) 31 30

/-- The counters of the COL block, in their order. -/
def colCtr (j : Nat) : Nat := 0x00090400 + 8 * j

/-- The 16-byte Coil header (R482). -/
def coilHdr (svc cls ttl dst src len wa wb : Nat) : List Byte :=
  [b8 (0x10 + svc % 16), b8 (cls % 8 * 32 + ttl % 16)] ++ beBytes 2 (dst * 32) ++ beBytes 2 (src * 32)
    ++ beBytes 2 len ++ beBytes 4 wa ++ beBytes 4 wb

/-- A Coil frame leaves on a port, to an address, with a tag or none, under an EtherType (R480): counted, or counted in
OVERSIZE where it exceeds MAX_FRAME. op says what the egress MAC inserts into it (R501). -/
def coilOnPort (op n cls : Nat) (da tag : List Byte) (ety : Nat) (frame : List Byte) (s : State) : State :=
  let f := da ++ macSa s n ++ tag ++ beBytes 2 ety ++ frame
  if maxFrame s n < f.length + 4 then bump (colCtr 6) s
  else shfEnqueue (128 + n) cls { bytes := f, ingress := 156, cls := cls, kind := 15, timeOp := op } (bump (colCtr 0) s)

/-- ROLE of COL_STATUS: 0 standalone, 1 worker, 2 root manager (R477). -/
def role (s : State) : Nat := fld (rd s 0x00090004) 31 30

/-- The valid links (R479). -/
def linksOf (s : State) : List Nat := (List.range 8).filter (fun l => bit (rd s (colLink l 0)) 31)

/-- The port of a Coil link. -/
def linkPort (s : State) (l : Nat) : Nat := fld (rd s (colLink l 0)) 20 16

/-- The 802.1Q tag of a link's frames in a class, if they carry one (R480). -/
def linkTag (s : State) (l cls : Nat) : List Byte :=
  let cfg := rd s (colLink l 0)
  if bit cfg 29 then beBytes 2 0x8100 ++ beBytes 2 (cls % 8 * 2 ^ 13 + fld cfg 11 0) else []

/-- A Coil frame on a link's port (R480); in the bootstrap form toward a worker that has not applied region 26 (R492). -/
def coilOnLinkOp (op l cls : Nat) (frame : List Byte) (s : State) : State :=
  match tblFind s.col.boot l with
  | some mac => coilOnPort op (linkPort s l) 7 mac [] 0x88B5 frame s
  | none =>
    let pm := beBytes 2 (rdF s (colLink l 8) 15 0) ++ beBytes 4 (rd s (colLink l 4)).toNat
    coilOnPort op (linkPort s l) cls pm (linkTag s l cls) (rdF s 0x00090000 31 16) frame s

/-- A Coil frame on a link's port, sent as it is built. -/
def coilOnLink (l cls : Nat) (frame : List Byte) (s : State) : State := coilOnLinkOp 0 l cls frame s

/-- The link of the route to a DID, if the route is valid and its link is UP (R484). -/
def coilRoute (s : State) (did : Nat) : Option Nat :=
  let r := rd s (0x00092000 + 4 * (did % 2048))
  if bit r 31 && linkState s (fld r 2 0) == 2 then some (fld r 2 0) else none

/-- The provisional uplink of a worker in bootstrap mode (R492). -/
def coilProv (s : State) : Option Nat := if regionApplied s 26 then none else s.col.prov

/-- A frame that this device sends or transits toward a DID: on the route's link, else on the provisional uplink
(R484, R492); NO_ROUTE where there is neither. -/
def coilToward (did cls : Nat) (frame : List Byte) (s : State) : State :=
  match coilRoute s did with
  | some l => coilOnLink l cls frame s
  | none =>
    match coilProv s with
    | some n => coilOnPort 0 n 7 s.col.asgMac [] 0x88B5 frame s
    | none => bump (colCtr 4) s

/-- Send a frame that this device originates to a DID (R484); NO_ROUTE where no valid UP route exists. -/
def coilSend (did svc cls wa wb : Nat) (payload : List Byte) (s : State) : State :=
  coilToward did cls (coilHdr svc cls 15 did (ownDid s) payload.length wa wb ++ payload) s

/-- The 16-byte header of a bridge transaction (R454). -/
def brgHdr (ty : Nat) (lockedB priv : Bool) (tgt ch tag reqDid budget addr len code id : Nat) : List Byte :=
  [b8 (ty * 16 + b2n lockedB * 8 + b2n priv * 4 + tgt), b8 (ch * 16)] ++ beBytes 2 tag ++ beBytes 2 (reqDid * 32)
    ++ beBytes 2 budget ++ beBytes 4 addr ++ beBytes 2 len ++ [b8 code, b8 id]

/-- The DID of this device's manager, 0 if none: COL_STATUS.MANAGER_DID. -/
def mgrDid (s : State) : Nat := fld (rd s 0x00090004) 10 0

/-- A leaf's change goes to the manager as a bridge MSG (R503), if its group is forwarded and its ENABLE is 1 (R532). -/
def forwardEvent (l : Nat) (s : State) : State :=
  if mgrDid s ≠ 0 ∧ nbit ((rd s 0x00090320).toNat + 2 ^ 32 * (rd s 0x00090324).toNat) (l / 32) && leafBit s l 2 then
    coilSend (mgrDid s) 2 7 0 0
      (brgHdr 3 false false 0 0 0 (ownDid s) 0 0 16 0 0 ++
        [b8 1, b8 (l / 32)] ++ beBytes 2 l ++ beBytes 8 (tsNow s) ++ beBytes 4 0) (bump 0x00080900 s)
  else s

/-- An occurrence of a leaf: STATUS is set (R527), its change is forwarded and its group's targets are signalled. -/
def raiseLeaf (l : Nat) (s : State) : State :=
  let was := leafBit s l 0
  let s := setLeafBit l 0 true s
  let s := if was then s else forwardEvent l s
  settleGroup (l / 32) s

/-- LIVE of a leaf. -/
def setLive (l : Nat) (v : Bool) (s : State) : State := setLeafBit l 1 v s

/-! ### Flexport state shared with the safe state (R103, R523) -/

/-- A flexport's block (R95). -/
def fxpBase (n : Nat) : Nat := 0x00100000 + 0x1000 * n

/-- A flexport engine's state. -/
def port (s : State) (n : Nat) : FxpPort := tblGet s.fxp n {}

/-- Set a flexport engine's state. -/
def setPort (n : Nat) (p : FxpPort) (s : State) : State :=
  { s with fxp := if p = {} then tblErase s.fxp n else tblSet s.fxp n p }

/-- Transmit queue q of flexport n. -/
def fxq (s : State) (n q : Nat) : List FxpItem := tblGet s.fq (8 * n + q) []

/-- Set transmit queue q of flexport n. -/
def setFxq (n q : Nat) (l : List FxpItem) (s : State) : State :=
  { s with fq := if l = [] then tblErase s.fq (8 * n + q) else tblSet s.fq (8 * n + q) l }

/-- The pending frame returns to the head of its queue; a transmission in progress ends at the next bit boundary (R103). -/
def requeuePending (n : Nat) (s : State) : State :=
  match (port s n).pend with
  | some (q, it) =>
    let s := if (port s n).txing then emit (.fieldStop n) s else s
    setPort n { port s n with pend := none, txing := false, grp := false, errs := 0 } (setFxq n q ({ it with errs := (port s n).errs } :: fxq s n q) s)
  | none => s

/-! ### The safe state (R523) -/

/-- The safe state is in force: FOOT_SAFE.SAFE. -/
def safeOn (s : State) : Bool := bit (rd s 0x000B0020) 31

/-- Foot drives the pads of the safe image of flexport n (R523): the image word holds PERS in [2:0], C_FUNC STB in [3],
SAFE_STBY in [4], C_FUNC EN in [5], chip-select polarity in [12:8], CPOL in [13], BORROW in [14], and for PWMX generate
bits in [19:16] and SAFE_LVL in [23:20]. -/
def safePads (n : Nat) (s : State) : State :=
  let i := tblGet s.foot.safeImg n 0
  match nbits i 2 0 with
  | 1 => let s := emit (.fieldPin n 0 true) s
         if nbit i 4 && (nbit i 3 || nbit i 5) then emit (.fieldPin n 2 (nbit i 3)) s else s
  | 2 => emit (.fieldPin n 0 true) s
  | 3 => emit (.fieldPin n 0 false) s
  | 5 => let s := emit (.fieldPin n 3 (!nbit i 8)) (emit (.fieldPin n 0 (nbit i 13)) s)
         if nbit i 14 then forN 4 0 (fun c s => emit (.fieldPin (n + 1) c (!nbit i (9 + c))) s) s else s
  | 6 => forN 4 0 (fun c s => if nbit i (16 + c) then emit (.fieldPin n c (nbit i (20 + c))) s else s) s
  | _ => s

/-- Foot enters the safe state with a cause: 0 pin, 1 watchdog, 2 command, 3 Craze detector (R523): every flexport
transmitter is overridden, pending frames return to their queues (R103, R114, R149), and the SAFE leaf is set. -/
def enterSafe (cause : Nat) (s : State) : State :=
  let s := wrF 0x000B0020 29 28 cause (wrB 0x000B0020 31 true s)
  let s := forN 128 0 (fun n s => safePads n (requeuePending n s)) s
  raiseLeaf (lfFoot 0) (setLive (lfFoot 0) true s)

/-- An occurrence of a leaf of any block; a CRZ_DET leaf whose STATUS goes from 0 to 1 enters the safe state when
SAFE_ON_S is 1 (R539). -/
def raise (l : Nat) (s : State) : State :=
  let fresh := !leafBit s l 0
  let s := raiseLeaf l s
  if 2016 ≤ l && fresh && rdB s 0x00010000 31 then enterSafe 3 s else s

/-- Raise a leaf whose condition begins: LIVE and STATUS. -/
def raiseLive (l : Nat) (s : State) : State := raise l (setLive l true s)

/-! ### Ignored writes (R576) -/

/-- Record an ignored write in GLB_ACC_ERR: kind 0 partial byte enables, 1 requester not permitted. -/
def accErr (q : Requester) (kind off : Nat) (s : State) : State :=
  if rdB s 0x00000020 31 then wrB 0x00000020 30 true s
  else wr 0x00000020 (w32 (2 ^ 31 + (if q = .kiln then 2 ^ 29 else 0) + kind * 2 ^ 28 + off % 2 ^ 28)) s

/-! ### Requesters (R453, R576, R577) -/

/-- The requester has the rights of host function 0: itself, the manager, or another device through the bridge. -/
def hostRights : Requester → Bool
  | .host f => f == 0
  | .manager => true
  | .bridge _ => true
  | _ => false

/-- Host function 0 (or its rights) and Kiln firmware. -/
def hostOrKiln (q : Requester) : Bool := hostRights q || decide (q = .kiln)

/-- A register write that its command row carries out: recorded in GLB_ACC_ERR where the requester is not permitted (R576). -/
def regCmd (q : Requester) (ok : Bool) (off : Nat) (f : State → State) (s : State) : State :=
  if ok then f s else accErr q 1 off s

/-! ### Command slots (R52 to R55) -/

/-- Status codes (R55). -/
def cOk : Nat := 0x00
def cPending : Nat := 0x01
def cBadCommand : Nat := 0x02
def cNotPermitted : Nat := 0x03
def cKeyOrphaned : Nat := 0x10
def cKeyInvalid : Nat := 0x11
def cKeyUsage : Nat := 0x12
def cKeyCounter : Nat := 0x13
def cAuthFail : Nat := 0x20
def cFreshness : Nat := 0x21
def cTableFull : Nat := 0x30
def cNotFound : Nat := 0x31
def cBridgeTimeout : Nat := 0x40
def cFarError : Nat := 0x41
def cLockRetry : Nat := 0x42
def cRegionBusy : Nat := 0x50
def cSignature : Nat := 0x51
def cGeneration : Nat := 0x52
def cFormat : Nat := 0x53
def cSequence : Nat := 0x54
def cRefMotion : Nat := 0x60
def cRefBattery : Nat := 0x61
def cRefOwnerLock : Nat := 0x62
def cPartFailed : Nat := 0x63
def cInternal : Nat := 0xFF

/-- A slot's RES_STATUS. -/
def slotStatus (s : State) (base : Nat) : Word := rd s (base + 0x24)

/-- A command of the slot is pending: CODE is PENDING (R54). -/
def slotPending (s : State) (base : Nat) : Bool := fld (slotStatus s base) 7 0 == cPending

/-- The ticket of the slot's last accepted command. -/
def slotTicket (s : State) (base : Nat) : Nat := fld (slotStatus s base) 23 16

/-- The ticket after t: 0x01 to 0xFF, then 0x01 again (R53). -/
def nextTicket (t : Nat) : Nat := if t = 255 then 1 else t + 1

/-- A CMD write that is ignored sets REJECTED (R53). -/
def slotReject (base : Nat) (s : State) : State := wrB (base + 0x24) 30 true s

/-- The result words that a slot has for itself: eight, but six in slot 0 of BRG, whose RES6 and RES7 offsets BRG_EVT
takes (R475; DESIGN CHOICE). -/
def resWords (base : Nat) : Nat := if base = 0x00080000 then 6 else 8

/-- Clear the result words (0 while not VALID, R52). -/
def slotClear (base : Nat) (s : State) : State := wrWords (base + 0x28) (List.replicate (resWords base) 0) s

/-- An accepted CMD write (R53): the arguments are latched, any held result is discarded, the next ticket is given. -/
def slotAccept (base : Nat) (s : State) : State :=
  let t := nextTicket (slotTicket s base)
  let s := { s with slotArgs := tblSet s.slotArgs base (rdWords s (base + 0x04) 8) }
  slotClear base (wr (base + 0x24) (w32 (t * 2 ^ 16 + cPending)) s)

/-- Argument k latched by the slot's command. -/
def slotArg (s : State) (base k : Nat) : Nat := ((tblGet s.slotArgs base []).getD k 0).toNat

/-- The slot's pending command ends: the result is held with its code and result words (R54); INTERNAL is a Craze event (R55). -/
def slotResult (base code : Nat) (res : List Nat) (s : State) : State :=
  if slotPending s base then
    let t := slotTicket s base
    let s := wrWords (base + 0x28) ((padTo res 8 0).take (resWords base) |>.map w32) (wr (base + 0x24) (w32 (2 ^ 31 + t * 2 ^ 16 + code)) s)
    if code = cInternal then raise (lfCrz 14) s else s
  else s

/-- A CMD write to a slot (R53): rejected unless its writer is permitted and no command is pending; else accepted, and f
carries it out. -/
def slotCommand (base : Nat) (permitted : Bool) (f : State → State) (s : State) : State :=
  if permitted && !slotPending s base then f (slotAccept base s) else slotReject base s

/-- A command that its engine carries out at once: f gives the next state, the code and the result words. -/
def slotRun (base : Nat) (permitted : Bool) (f : State → State × Nat × List Nat) (s : State) : State :=
  slotCommand base permitted (fun s => let (t, c, r) := f s; slotResult base c r t) s

end Sys2Proof.Machine
end

