-- ==== Sys2Proof/Machine/BrgOps.lean ====
section
/-! DEFINITION. Sys2Proof/Machine/BrgOps.lean: the bridge's shared operations (R454 to R474): sending transactions, the
error log, reads that end, posted failures, and the ends of sensor transactions. -/

namespace Sys2Proof.Machine
open Sys2Proof

/-- The counters of the BRG block, in their order. -/
def brgCtr (j : Nat) : Nat := 0x00080900 + 8 * j

/-- Slot k of BRG (R475). -/
def brgSlot (k : Nat) : Nat := 0x00080000 + 0x80 * k

/-- BRG_CH_STATUS of a channel. -/
def chStatus (c : Nat) : Nat := 0x00080540 + 4 * c

/-- Change the bridge beyond its registers. -/
def modBrg (f : Brg → Brg) (s : State) : State := { s with brg := f s.brg }

/-- A transaction's bytes (R454). -/
def brgBytes (t : BrgTx) : List Byte :=
  brgHdr t.ty t.locked t.priv t.tgt t.ch t.tag t.req t.budget t.addr t.len t.code t.id ++ t.data

/-- The bridge transaction that bytes spell (R454, R455); none where they are no whole transaction or TYPE is reserved. -/
def brgParse (b : List Byte) : Option BrgTx :=
  let ty := byteAt b 0 / 16
  let len := beAt b 12 2
  let n := if ty = 0 ∨ ty = 2 ∨ ty = 3 then len else if ty = 1 ∧ byteAt b 0 % 4 = 1 then len else 0
  if b.length < 16 ∨ 8 < ty ∨ b.length < 16 + n ∨ 256 < len then none
  else some { ty := ty, locked := nbit (byteAt b 0) 3, priv := nbit (byteAt b 0) 2, tgt := byteAt b 0 % 4, ch := byteAt b 1 / 16,
              tag := beAt b 2 2 % 1024, req := beAt b 4 2 / 32, budget := beAt b 6 2, addr := beAt b 8 4, len := len,
              code := byteAt b 14, id := byteAt b 15, data := slice b 16 n }

/-- A non-posted type (R455). -/
def brgNonPosted (ty : Nat) : Bool := ty == 1 || ty == 4 || ty == 6

/-- Why this device cannot send so many payload bytes toward a DID: 1 no valid UP route (R484), 2 longer than the port's
MAX_FRAME (R480); none where it can. -/
def hopBad (s : State) (did len : Nat) : Option Nat :=
  let long (n tag : Nat) : Option Nat := if maxFrame s n < 34 + tag + len then some 2 else none
  match coilRoute s did with
  | some l => long (linkPort s l) (if (tblFind s.col.boot l).isSome then 0 else (linkTag s l 7).length)
  | none =>
    match coilProv s with
    | some n => long n 0
    | none => some 1

/-- A transaction leaves toward a device. -/
def brgOut (did : Nat) (t : BrgTx) (s : State) : State := coilSend did 2 7 0 0 (brgBytes t) s

/-! ### The error log (R472, R474) -/

/-- BRG_ERRLOG_STATUS, BRG_ERRLOG_HEAD and LOG_FULL follow the log. -/
def brgLogSync (s : State) : State :=
  let l := s.brg.log
  let s := wrWords 0x00080710 ((padTo (l.headD []) 4 0).take 4) (wr 0x00080700 (w32 l.length) s)
  let full := decide (16 ≤ l.length)
  if full && !leafBit s (lfBrg 2) 1 then raiseLive (lfBrg 2) s else setLive (lfBrg 2) full s

/-- The oldest entry of the log is removed (R474). -/
def errlogPop (s : State) : State := brgLogSync (modBrg (fun b => { b with log := b.log.drop 1 }) s)

/-- An error is recorded: the failing transaction, its target, who reports it, and the sub-code. -/
def brgLog (t : BrgTx) (target reporter sub : Nat) (s : State) : State :=
  if 16 ≤ s.brg.log.length then bump (brgCtr 6) s
  else
    let e := [w32 t.addr, w32 (t.code * 2 ^ 24 + t.ch % 16 * 2 ^ 20 + t.ty % 16 * 2 ^ 16 + target % 2048),
              w32 (reporter % 2048 * 2 ^ 16 + sub % 64 * 2 ^ 10 + t.tag % 1024), w32 (clkSub s.tim.wt)]
    brgLogSync (modBrg (fun b => { b with log := b.log ++ [e] }) s)

/-! ### The requester's reads (R452, R459, R460) -/

/-- The outcome of a failing read is recorded: LAST_CODE, LAST_TAG, the log and RD_ERR (R460). -/
def brgReadFailed (t : BrgTx) (target reporter sub : Nat) (s : State) : State :=
  let s := wrF (chStatus t.ch) 19 10 (t.tag % 1024) (wrF (chStatus t.ch) 7 0 t.code s)
  raise (lfBrg 0) (brgLog t target reporter sub s)

/-- A read is answered to the host, by RD_ERR_MODE where it failed (R460), or to Kiln firmware. -/
def brgReadAnswer (r : BrgRead) (s : State) : State :=
  let ws := r.words.map (·.2)
  match r.who with
  | .host tag =>
    if r.code = cOk then emit (.pcieCpl tag true ws) s
    else if rdB s 0x00080404 15 then emit (.pcieCpl tag false []) s
    else emit (.pcieCpl tag true (ws.map (fun _ => 0xFFFFFFFF))) s
  | .kiln tag => emit (.kilnNote "bridge read" (tag :: r.code :: ws.map (·.toNat))) s
  | .slot _ => s
  | .far t =>
    brgOut t.req { t with ty := 2, code := r.code, id := 0, data := if r.code = cOk then bytesOfWords ws else [],
                          len := if r.code = cOk then 4 * ws.length else 0, budget := 0 } s

/-- One piece of a read ends with a code and its data; with the last piece the read is answered. Words stand under the
word number of their address. -/
def brgPiece (who : BrgWho) (t : BrgTx) (code : Nat) (data : List Byte) (s : State) : State :=
  match s.brg.reads.find? (fun r => r.who == who) with
  | none => s
  | some r =>
    let n := (t.len + 3) / 4
    let got := padTo (wordsOf n data) n 0
    let r := { r with
      words := (List.range n).foldl (fun m i => tblSet m (t.addr / 4 + i) (got.getD i 0)) r.words
      left := r.left - 1
      code := if r.code = cOk then code else r.code }
    if r.left = 0 then brgReadAnswer r (modBrg (fun b => { b with reads := b.reads.filter (fun x => x.who != who) }) s)
    else modBrg (fun b => { b with reads := b.reads.map (fun x => if x.who = who then r else x) }) s

/-- The target DID and the TYPE of the failing transaction that an ERR names: those of the posted transaction with its
channel and number (R474). BRIDGE_TIMEOUT reports the LOCK of a bus of the reporter (R469). -/
def errTarget (s : State) (t : BrgTx) (reporter : Nat) : Nat × Nat :=
  if t.code = cBridgeTimeout then (reporter, 4)
  else tblGet s.brg.sent (1024 * t.ch + t.tag) (reporter, if t.tgt = 2 then 7 else 0)

/-- An ERR report of a posted transaction reaches its requester (R473): counted, logged, raised, and kept for FENCE. -/
def brgErrIn (t : BrgTx) (reporter : Nat) (s : State) : State :=
  let e := errTarget s t reporter
  let t := { t with ty := e.2 }
  let s := modBrg (fun b => { b with fenceErr := b.fenceErr.filter (· != t.ch) ++ [t.ch] }) s
  raise (lfBrg 1) (brgLog t e.1 reporter (if t.code = cFarError then t.id else 0) (bump (brgCtr 5) s))

/-- A posted transaction fails at this device (R473): ERR to its requester. -/
def brgPostedFail (t : BrgTx) (code sub : Nat) (s : State) : State :=
  let e := { t with ty := 8, code := code, id := if code = cFarError then sub else 0, data := [], len := 0, budget := 0 }
  if t.req = ownDid s then brgErrIn e (ownDid s) s else brgOut t.req e (bump (brgCtr 0) s)

/-! ### Locked sequences and slot commands at the requester (R466, R468, R475) -/

/-- Bus b of this device is free again: its holder is gone. -/
def busFree (b : Nat) (s : State) : State := modBrg (fun g => { g with buses := tblErase g.buses b }) s

/-- The locked sequence of channel c is over: the near bus is free, and the channel is neither acquiring nor locked. -/
def seqEnd (c : Nat) (s : State) : State :=
  let s := match tblFind s.brg.buses 0 with
    | some b => if b.did = ownDid s ∧ b.ch = c then busFree 0 s else s
    | none => s
  wrF (chStatus c) 31 30 0 (modBrg (fun g => { g with seqs := tblErase g.seqs c }) s)

/-- Channel c has lost its LOCK (R468): the near bus is free; it backs off, or its command ends after RETRY_MAX losses. -/
def lockLost (c : Nat) (q : BrgSeq) (s : State) : State :=
  let s := bump (brgCtr 4) (seqEnd c s)
  if rdF s 0x00080404 3 0 ≤ q.losses + 1 then slotResult (brgSlot q.slot) cLockRetry [] s
  else modBrg (fun g => { g with seqs := tblSet g.seqs c { q with phase := 2, losses := q.losses + 1, tag := none } }) s

/-- The LOCK of channel c is answered with a code (R466, R468). -/
def lockAnswer (c : Nat) (q : BrgSeq) (code sub : Nat) (s : State) : State :=
  if code = cOk then
    let s := modBrg (fun g => { g with
      seqs := tblSet g.seqs c { q with phase := 3 }
      buses := tblSet g.buses 0 { did := ownDid s, ch := c, est := true } }) s
    slotResult (brgSlot q.slot) cOk [] (wrF (chStatus c) 31 30 2 s)
  else if code = cLockRetry then lockLost c q s
  else slotResult (brgSlot q.slot) code (if code = cFarError then [sub] else []) (seqEnd c s)

/-- A FENCE of channel c ends (R475): an ERR for the channel since the previous FENCE makes it fail. -/
def fenceAnswer (c slot code sub : Nat) (s : State) : State :=
  let bad := s.brg.fenceErr.contains c
  let s := modBrg (fun g => { g with fenceErr := g.fenceErr.filter (· != c) }) s
  if code ≠ cOk then slotResult (brgSlot slot) code (if code = cFarError then [sub] else []) s
  else slotResult (brgSlot slot) (if bad then cFarError else cOk) [] s

/-- The non-posted transaction of a slot's command ends (R466, R470, R475). A LOCK that has been withdrawn is over already. -/
def slotAnswer (slot : Nat) (t : BrgTx) (code sub : Nat) (data : List Byte) (s : State) : State :=
  match t.ty with
  | 4 =>
    match tblFind s.brg.seqs t.ch with
    | some q => if q.phase = 1 ∧ q.tag = some t.tag then lockAnswer t.ch q code sub s else s
    | none => s
  | 6 => slotResult (brgSlot slot) code (if code = cLockRetry then [leNat (data.take 4)] else if code = cFarError then [sub] else []) s
  | _ => fenceAnswer t.ch slot code sub s

/-- An own non-posted transaction ends with a code (R459, R460, R472). -/
def npEnd (np : BrgNp) (code sub reporter : Nat) (data : List Byte) (s : State) : State :=
  let t := { np.tx with code := code }
  match np.who with
  | .slot k =>
    let s := if code = cOk ∨ code = cLockRetry then s else brgLog t np.did reporter sub s
    slotAnswer k np.tx code sub data s
  | who =>
    let s := if code = cOk then s else brgReadFailed t np.did reporter sub s
    brgPiece who np.tx code data s

/-- A completion of a non-posted transaction goes to its requester (R459), or ends the requester's own one here. -/
def brgAnswer (t : BrgTx) (code sub : Nat) (data : List Byte) (s : State) : State :=
  if t.req = ownDid s then
    match tblFind s.brg.opens t.tag with
    | some np => npEnd np code sub (ownDid s) data (modBrg (fun b => { b with opens := tblErase b.opens t.tag }) s)
    | none => s
  else
    brgOut t.req { t with ty := 2, code := code, id := if code = cFarError then sub else 0, data := data,
                          len := data.length, budget := 0 } s

/-- A transaction fails on its way (R472, R473): a non-posted one is answered, a posted one reported; of a completion or a
report nothing more is heard. -/
def brgLost (t : BrgTx) (sub : Nat) (s : State) : State :=
  if brgNonPosted t.ty then brgAnswer t cFarError sub [] s
  else if t.ty = 2 ∨ t.ty = 8 then s
  else brgPostedFail t cFarError sub s

/-! ### Sensor transactions at the target (R465) -/

/-- A sensor transaction cannot be carried out: FAR_ERROR with a sub-code. -/
def sensorRefuse (t : BrgTx) (sub : Nat) (s : State) : State :=
  if t.ty = 1 then brgAnswer t cFarError sub [] s else brgPostedFail t cFarError sub s

/-- The sensor transaction with number k ends without its SPIC transaction. -/
def sensorFail (k sub : Nat) (s : State) : State :=
  match tblFind s.brg.sens k with
  | some (_, t) => sensorRefuse t sub (modBrg (fun b => { b with sens := tblErase b.sens k }) s)
  | none => s

/-- The sensor transaction with number k ends: its MISO bytes go to the requester; a WRITE's are discarded (R464, R465). -/
def sensorDone (k : Nat) (miso : List Byte) (s : State) : State :=
  match tblFind s.brg.sens k with
  | some (_, t) =>
    let s := modBrg (fun b => { b with sens := tblErase b.sens k }) s
    if t.ty = 1 then brgAnswer t cOk 0 miso s else s
  | none => s

end Sys2Proof.Machine
end

