-- ==== Sys2Proof/Machine/Aes.lean ====
section
/-! DEFINITION. Sys2Proof/Machine/Aes.lean: AES-128 and AES-256 (FIPS 197), CMAC (SP 800-38B), GCM (SP 800-38D) and key
unwrapping (RFC 3394), as Glaze and Saggar use them (R358, R367, R368, R395). -/

namespace Sys2Proof.Machine

/-- Multiply by x in the field of AES. -/
def xtime (a : Nat) : Nat := if a < 128 then 2 * a else (2 * a - 256) ^^^ 0x1B

/-- Multiply in the field of AES: n bits of b are left. -/
def gmulAux : Nat → Nat → Nat → Nat
  | 0, _, _ => 0
  | n + 1, a, b => (if b % 2 = 1 then a else 0) ^^^ gmulAux n (xtime a) (b / 2)

/-- Multiply in the field of AES. -/
def gmul (a b : Nat) : Nat := gmulAux 8 a b

/-- The S-box, 256 bytes as one number, the first byte the most significant. -/
def sboxNum : Nat :=
  0x637c777bf26b6fc53001672bfed7ab76ca82c97dfa5947f0add4a2af9ca472c0b7fd9326363ff7cc34a5e5f171d8311504c723c31896059a071280e2eb27b27509832c1a1b6e5aa0523bd6b329e32f8453d100ed20fcb15b6acbbe394a4c58cfd0efaafb434d338545f9027f503c9fa851a3408f929d38f5bcb6da2110fff3d2cd0c13ec5f974417c4a77e3d645d197360814fdc222a908846eeb814de5e0bdbe0323a0a4906245cc2d3ac629195e479e7c8376d8dd54ea96c56f4ea657aae08ba78252e1ca6b4c6e8dd741f4bbd8b8a703eb5664803f60e613557b986c11d9ee1f8981169d98e949b1e87e9ce5528df8ca1890dbfe6426841992d0fb054bb16

/-- The S-box of a byte. -/
def sbox (a : Nat) : Nat := sboxNum / 256 ^ (255 - a) % 256

/-- The inverse S-box of a byte. -/
def invSbox (a : Nat) : Nat := ((List.range 256).find? (fun x => sbox x == a)).getD 0

/-- Exclusive or of two byte lists. -/
def xorB (a b : List Byte) : List Byte := List.zipWith (· ^^^ ·) a b

/-- The key schedule: n words behind the ones listed (newest first); nk words per key, i the next word's number. -/
def aesExpand : Nat → Nat → Nat → List (List Nat) → List (List Nat)
  | 0, _, _, w => w
  | n + 1, nk, i, w =>
    let t := w.getD 0 []
    let t1 :=
      if i % nk = 0 then
        match t with
        | [a, b, c, d] => [sbox b ^^^ ([1, 2, 4, 8, 16, 32, 64, 128, 27, 54].getD (i / nk - 1) 0), sbox c, sbox d, sbox a]
        | _ => t
      else if nk = 8 ∧ i % nk = 4 then t.map sbox else t
    aesExpand n nk (i + 1) (List.zipWith (· ^^^ ·) (w.getD (nk - 1) []) t1 :: w)

/-- The words of a key. -/
def keyWords : Nat → List Nat → List (List Nat)
  | 0, _ => []
  | n + 1, k => k.take 4 :: keyWords n (k.drop 4)

/-- The round keys of a key of 16 or 32 bytes, 16 numbers each. -/
def aesKeys (key : List Byte) : List (List Nat) :=
  let nk := key.length / 4
  let nr := nk + 6
  let w := (aesExpand (4 * (nr + 1) - nk) nk nk (keyWords nk (key.map (·.toNat))).reverse).reverse
  (List.range (nr + 1)).map (fun r => (slice w (4 * r) 4).flatten)

/-- Row shift: byte i of the result is byte of column (i/4 + i%4), row i%4. -/
def shiftRows (s : List Nat) : List Nat := (List.range 16).map (fun i => s.getD ((4 * (i / 4 + i % 4) + i % 4) % 16) 0)

/-- Inverse row shift. -/
def invShiftRows (s : List Nat) : List Nat := (List.range 16).map (fun i => s.getD ((4 * (i / 4 + 4 - i % 4) + i % 4) % 16) 0)

/-- Column mix with the row (a, b, c, d) of the circulant matrix. -/
def mixWith (a b c d : Nat) (s : List Nat) : List Nat :=
  (List.range 16).map (fun i =>
    let k := 4 * (i / 4)
    let r := i % 4
    gmul (s.getD (k + r) 0) a ^^^ gmul (s.getD (k + (r + 1) % 4) 0) b ^^^
      gmul (s.getD (k + (r + 2) % 4) 0) c ^^^ gmul (s.getD (k + (r + 3) % 4) 0) d)

/-- The middle and the last rounds of encryption. -/
def aesRounds : List (List Nat) → List Nat → List Nat
  | [], s => s
  | [k], s => List.zipWith (· ^^^ ·) k (shiftRows (s.map sbox))
  | k :: ks, s => aesRounds ks (List.zipWith (· ^^^ ·) k (mixWith 2 3 1 1 (shiftRows (s.map sbox))))

/-- AES encryption of one 16-byte block. -/
def aesEnc (key blk : List Byte) : List Byte :=
  match aesKeys key with
  | k0 :: ks => (aesRounds ks (List.zipWith (· ^^^ ·) k0 (blk.map (·.toNat)))).map b8
  | [] => blk

/-- The rounds of decryption, with the round keys from the last but one downward. -/
def aesInvRounds : List (List Nat) → List Nat → List Nat
  | [], s => s
  | [k], s => List.zipWith (· ^^^ ·) k ((invShiftRows s).map invSbox)
  | k :: ks, s => aesInvRounds ks (mixWith 14 11 13 9 (List.zipWith (· ^^^ ·) k ((invShiftRows s).map invSbox)))

/-- AES decryption of one 16-byte block. -/
def aesDec (key blk : List Byte) : List Byte :=
  match (aesKeys key).reverse with
  | kn :: ks => (aesInvRounds ks (List.zipWith (· ^^^ ·) kn (blk.map (·.toNat)))).map b8
  | [] => blk

/-- Double a 16-byte block in the field of CMAC. -/
def cmacDbl (b : List Byte) : List Byte :=
  let n := beNat b
  beBytes 16 (if n < 2 ^ 127 then 2 * n else (2 * n - 2 ^ 128) ^^^ 0x87)

/-- The chaining of CMAC over n full blocks. -/
def cbcMac (key : List Byte) : Nat → List Byte → List Byte → List Byte
  | 0, x, _ => x
  | n + 1, x, m => cbcMac key n (aesEnc key (xorB x (m.take 16))) (m.drop 16)

/-- AES-CMAC of a message: 16 bytes. -/
def cmac (key m : List Byte) : List Byte :=
  let k1 := cmacDbl (aesEnc key (List.replicate 16 0))
  let n := if m.length = 0 then 0 else (m.length - 1) / 16
  let lastB := m.drop (16 * n)
  let x := cbcMac key n (List.replicate 16 0) m
  let l := if lastB.length = 16 then xorB lastB k1 else xorB (padTo (lastB ++ [b8 0x80]) 16 0) (cmacDbl k1)
  aesEnc key (xorB x l)

/-- Multiplication of GHASH: k bits of x are left, from the most significant. -/
def ghMulAux : Nat → Nat → Nat → Nat
  | 0, _, _ => 0
  | k + 1, x, v => (if x.testBit k then v else 0) ^^^ ghMulAux k x (if v % 2 = 1 then (v / 2) ^^^ (0xE1 * 2 ^ 120) else v / 2)

/-- GHASH over n blocks. -/
def ghash (h : Nat) : Nat → Nat → List Byte → Nat
  | 0, y, _ => y
  | n + 1, y, m => ghash h n (ghMulAux 128 (y ^^^ beNat (padTo (m.take 16) 16 0)) h) (m.drop 16)

/-- A byte string filled with zeros to whole blocks. -/
def pad16 (m : List Byte) : List Byte := m ++ List.replicate ((16 - m.length % 16) % 16) 0

/-- Counter-mode keystream over a text, from counter block number c behind a 12-byte IV. -/
def gctr (key iv : List Byte) : Nat → Nat → List Byte → List Byte
  | 0, _, _ => []
  | n + 1, c, m => xorB (m.take 16) (aesEnc key (iv ++ beBytes 4 c)) ++ gctr key iv n (c + 1) (m.drop 16)

/-- The 16-byte tag of GCM over associated data and ciphertext. -/
def gcmTag (key iv aad ct : List Byte) : List Byte :=
  let h := beNat (aesEnc key (List.replicate 16 0))
  let m := pad16 aad ++ pad16 ct ++ beBytes 8 (8 * aad.length) ++ beBytes 8 (8 * ct.length)
  xorB (aesEnc key (iv ++ beBytes 4 1)) (beBytes 16 (ghash h (m.length / 16) 0 m))

/-- GCM encryption with a 12-byte IV: ciphertext and tag. -/
def gcmSeal (key iv aad pt : List Byte) : List Byte × List Byte :=
  let ct := gctr key iv ((pt.length + 15) / 16) 2 pt
  (ct, gcmTag key iv aad ct)

/-- GCM decryption: the plaintext, if the tag is right. -/
def gcmOpen (key iv aad ct tag : List Byte) : Option (List Byte) :=
  if gcmTag key iv aad ct = tag then some (gctr key iv ((ct.length + 15) / 16) 2 ct) else none

/-- One step of RFC 3394 unwrapping for block i of pass j. -/
def kwStep (kek : List Byte) (n j i : Nat) (ar : List Byte × List (List Byte)) : List Byte × List (List Byte) :=
  let a := xorB ar.1 (beBytes 8 (n * j + i))
  let b := aesDec kek (a ++ ar.2.getD (i - 1) [])
  (b.take 8, setAt ar.2 (i - 1) (b.drop 8))

/-- One step of RFC 3394 wrapping for block i of pass j. -/
def kwStepW (kek : List Byte) (n j i : Nat) (ar : List Byte × List (List Byte)) : List Byte × List (List Byte) :=
  let b := aesEnc kek (ar.1 ++ ar.2.getD (i - 1) [])
  (xorB (b.take 8) (beBytes 8 (n * j + i)), setAt ar.2 (i - 1) (b.drop 8))

/-- The 8-byte blocks of a byte string. -/
def blocks8 : Nat → List Byte → List (List Byte)
  | 0, _ => []
  | n + 1, m => m.take 8 :: blocks8 n (m.drop 8)

/-- RFC 3394 unwrapping: the key data, if the integrity value is right. -/
def kwUnwrap (kek ct : List Byte) : Option (List Byte) :=
  let n := ct.length / 8 - 1
  let r := (List.range 6).foldl (fun ar j0 =>
      (List.range n).foldl (fun ar i0 => kwStep kek n (5 - j0) (n - i0) ar) ar)
    (ct.take 8, blocks8 n (ct.drop 8))
  if r.1 = List.replicate 8 (b8 0xA6) then some r.2.flatten else none

/-- RFC 3394 wrapping of key data. -/
def kwWrap (kek m : List Byte) : List Byte :=
  let n := m.length / 8
  let r := (List.range 6).foldl (fun ar j =>
      (List.range n).foldl (fun ar i0 => kwStepW kek n j (i0 + 1) ar) ar)
    (List.replicate 8 (b8 0xA6), blocks8 n m)
  r.1 ++ r.2.flatten

end Sys2Proof.Machine
end

