-- ==== Sys2Proof/Machine/Sha.lean ====
section
/-! DEFINITION. Sys2Proof/Machine/Sha.lean: SHA-256 (FIPS 180-4), HMAC-SHA-256 (FIPS 198-1) and the two CRCs of the
manual, as the engines of R43, R256, R374, R386 and the field buses use them. -/

namespace Sys2Proof.Machine

/-- The 64 round constants of SHA-256. -/
def shaK : List Nat := [
  0x428a2f98,0x71374491,0xb5c0fbcf,0xe9b5dba5,0x3956c25b,0x59f111f1,0x923f82a4,0xab1c5ed5,
  0xd807aa98,0x12835b01,0x243185be,0x550c7dc3,0x72be5d74,0x80deb1fe,0x9bdc06a7,0xc19bf174,
  0xe49b69c1,0xefbe4786,0x0fc19dc6,0x240ca1cc,0x2de92c6f,0x4a7484aa,0x5cb0a9dc,0x76f988da,
  0x983e5152,0xa831c66d,0xb00327c8,0xbf597fc7,0xc6e00bf3,0xd5a79147,0x06ca6351,0x14292967,
  0x27b70a85,0x2e1b2138,0x4d2c6dfc,0x53380d13,0x650a7354,0x766a0abb,0x81c2c92e,0x92722c85,
  0xa2bfe8a1,0xa81a664b,0xc24b8b70,0xc76c51a3,0xd192e819,0xd6990624,0xf40e3585,0x106aa070,
  0x19a4c116,0x1e376c08,0x2748774c,0x34b0bcb5,0x391c0cb3,0x4ed8aa4a,0x5b9cca4f,0x682e6ff3,
  0x748f82ee,0x78a5636f,0x84c87814,0x8cc70208,0x90befffa,0xa4506ceb,0xbef9a3f7,0xc67178f2]

/-- The initial hash words of SHA-256. -/
def shaInit : List Nat := [0x6a09e667,0xbb67ae85,0x3c6ef372,0xa54ff53a,0x510e527f,0x9b05688c,0x1f83d9ab,0x5be0cd19]

/-- Rotate a 32-bit number right. -/
def rotr (n x : Nat) : Nat := x >>> n ||| (x <<< (32 - n)) % 2 ^ 32

/-- The message schedule: k words behind the sixteen of the block; the window is held newest first. -/
def shaSched : Nat → List Nat → List Nat
  | 0, w => w
  | k + 1, w =>
    let w15 := w.getD 14 0
    let w2 := w.getD 1 0
    let s0 := (rotr 7 w15 ^^^ rotr 18 w15) ^^^ (w15 >>> 3)
    let s1 := (rotr 17 w2 ^^^ rotr 19 w2) ^^^ (w2 >>> 10)
    shaSched k ((w.getD 15 0 + s0 + w.getD 6 0 + s1) % 2 ^ 32 :: w)

/-- One round for each (constant, word) pair over the eight working variables. -/
def shaRounds : List (Nat × Nat) → Nat → Nat → Nat → Nat → Nat → Nat → Nat → Nat → List Nat
  | [], a, b, c, d, e, f, g, h => [a, b, c, d, e, f, g, h]
  | (k, w) :: t, a, b, c, d, e, f, g, h =>
    let s1 := (rotr 6 e ^^^ rotr 11 e) ^^^ rotr 25 e
    let ch := (e &&& f) ^^^ ((2 ^ 32 - 1 - e) &&& g)
    let t1 := h + s1 + ch + k + w
    let s0 := (rotr 2 a ^^^ rotr 13 a) ^^^ rotr 22 a
    let mj := ((a &&& b) ^^^ (a &&& c)) ^^^ (b &&& c)
    shaRounds t ((t1 + s0 + mj) % 2 ^ 32) a b c ((d + t1) % 2 ^ 32) e f g

/-- The hash words after one 64-byte block. -/
def shaBlock (h : List Nat) (blk : List Byte) : List Nat :=
  let w0 := (List.range 16).map (fun i => beAt blk (4 * i) 4)
  let w := (shaSched 48 w0.reverse).reverse
  match h with
  | [a, b, c, d, e, f, g, i] =>
    List.zipWith (fun x y => (x + y) % 2 ^ 32) h (shaRounds (List.zip shaK w) a b c d e f g i)
  | _ => h

/-- The hash words after n blocks. -/
def shaBlocks : Nat → List Nat → List Byte → List Nat
  | 0, h, _ => h
  | n + 1, h, m => shaBlocks n (shaBlock h (m.take 64)) (m.drop 64)

/-- SHA-256 of a byte string: 32 bytes. -/
def sha256 (m : List Byte) : List Byte :=
  let z := (119 - m.length % 64) % 64
  let p := m ++ (b8 0x80 :: List.replicate z 0) ++ beBytes 8 (8 * m.length)
  (shaBlocks (p.length / 64) shaInit p).flatMap (beBytes 4)

/-- HMAC-SHA-256 of a message under a key. -/
def hmac256 (key m : List Byte) : List Byte :=
  let k0 := padTo (if 64 < key.length then sha256 key else key) 64 0
  sha256 (k0.map (· ^^^ 0x5C) ++ sha256 (k0.map (· ^^^ 0x36) ++ m))

/-- One bit of a reflected CRC. -/
def crcBit (poly r : Nat) : Nat := if r % 2 = 1 then (r / 2) ^^^ poly else r / 2

/-- A byte into a reflected 32-bit CRC register. -/
def crcByte (poly r : Nat) (b : Byte) : Nat :=
  crcBit poly (crcBit poly (crcBit poly (crcBit poly (crcBit poly (crcBit poly (crcBit poly (crcBit poly (r ^^^ b.toNat))))))))

/-- The Ethernet FCS of a frame (IEEE 802.3), as the four bytes that follow it. -/
def fcs (m : List Byte) : List Byte :=
  leBytes 4 (m.foldl (crcByte 0xEDB88320) (2 ^ 32 - 1) ^^^ (2 ^ 32 - 1))

end Sys2Proof.Machine
end

