-- ==== Sys2Proof/Machine/Keys.lean ====
section
/-! DEFINITION. Sys2Proof/Machine/Keys.lean: the key tree as the other engines use it: a node's state, its key by the
derivation of R386, the usage check of R385. -/

namespace Sys2Proof.Machine
open Sys2Proof

/-- A node of the key tree; nodes 0 to 2 are fixed and exist once there is a root (R384). -/
def nodeOf (s : State) (h : Nat) : Node :=
  match h with
  | 0 => { st := 3, depth := 0, len256 := true, usage := 0x08, gen := 1 }
  | 1 => { st := 3, depth := 1, len256 := true, usage := 0x20, gen := 1, label := Config.fixedLabel 1 % 2 ^ 32 }
  | 2 => { st := 3, depth := 1, len256 := true, usage := 0, gen := 1, label := Config.fixedLabel 2 % 2 ^ 32 }
  | k + 3 => if k < 5 then { st := 3, depth := 1, gen := 1 } else tblGet s.sag.nodes (k + 3) {}

/-- The 43-byte input of the key derivation (R386). -/
def kdfInput (uid : Nat) (n : Node) : List Byte :=
  beBytes 4 1 ++ [0x53, 0x41, 0x47, 0x47, 0x41, 0x52, 0x2E, 0x4B, 0x44, 0x46].map b8 ++ [b8 0] ++
    beBytes 4 n.label ++ beBytes 16 uid ++ beBytes 4 n.gen ++ beBytes 4 (if n.len256 then 0x100 else 0x80)

/-- The key of a node: the root, an injected value, or derived from the parent's key; f bounds the depth (R384, R386). -/
def nodeKey (s : State) : Nat → Nat → Option (List Byte)
  | 0, _ => none
  | f + 1, h =>
    let n := nodeOf s h
    if h = 0 then s.sag.root
    else if n.injected then some n.value
    else (nodeKey s f n.parent).map (fun k => (hmac256 k (kdfInput s.sag.uid n)).take (if n.len256 then 32 else 16))

/-- The lifecycle state (R392): 0 BLANK, 1 PROVISIONED, 2 IN_FIELD, 3 RETURNED, 4 DECOMMISSIONED. -/
def lifecycle (s : State) : Nat :=
  if s.sag.decom then 4
  else if s.sag.returned || s.sag.zeroised then 3
  else if s.sag.inField then 2
  else if s.sag.prov then 1
  else 0

/-- The lifecycle state or an open debug access refuses every use of a node (R392, R403). -/
def keyRefused (s : State) (h : Nat) : Bool :=
  s.sag.refuse || decide (lifecycle s = 4) || (decide (lifecycle s = 3) && h != 1)

/-- The key of a handle for an operation that requires a usage bit, or the code it fails with (R365, R380, R385, R389,
R392, R403). -/
def useKey (s : State) (usage h : Nat) : Except Nat (List Byte) :=
  let n := nodeOf s h
  if keyRefused s h then .error cNotPermitted
  else if n.st = 2 then .error cKeyOrphaned
  else if 4096 ≤ h ∨ n.st = 0 ∨ s.sag.root = none then .error cKeyInvalid
  else
    match nodeKey s 9 h with
    | none => .error cKeyInvalid
    | some k => if nbit n.usage usage then .ok k else .error cKeyUsage

/-- A command's use of a key: outside its usage a fixed node gives NOT_PERMITTED (R384). -/
def commandKey (s : State) (usage h : Nat) : Except Nat (List Byte) :=
  match useKey s usage h with
  | .ok k => .ok k
  | .error c => .error (if c = cKeyUsage ∧ h < 8 then cNotPermitted else c)

/-- Usage bits (R385). -/
def uCmac : Nat := 0
def uGcm : Nat := 1
def uHmac : Nat := 2
def uKdf : Nat := 3
def uWrap : Nat := 4
def uSign : Nat := 5

end Sys2Proof.Machine
end

