-- ==== Sys2Proof/Machine/Glaze.lean ====
section
/-! DEFINITION. Sys2Proof/Machine/Glaze.lean: Glaze's data-path operations: verification and generation of secured PDUs
(R358 to R367) and MACsec protection and validation (R368 to R373). -/

namespace Sys2Proof.Machine
open Sys2Proof

/-! ### Freshness counters (R362, R364) -/

/-- Window words of freshness counter c. -/
def fvKey (c : Nat) : Nat := 0x02020000 + 0x10 * (c % 65536)

/-- LATEST of a counter. -/
def fvLatest (s : State) (c : Nat) : Nat := (rd s (fvKey c)).toNat * 2 ^ 32 + (rd s (fvKey c + 4)).toNat

/-- BITMAP of a counter. -/
def fvBitmap (s : State) (c : Nat) : Nat := (rd s (fvKey c + 8)).toNat * 2 ^ 32 + (rd s (fvKey c + 12)).toNat

/-- Set a counter's LATEST and BITMAP. -/
def setFv (c latest bitmap : Nat) (s : State) : State :=
  wrWords (fvKey c) [w32 (latest / 2 ^ 32), w32 latest, w32 (bitmap / 2 ^ 32), w32 bitmap] s

/-- The counter after freshness value v has been used (R362, R363). -/
def fvUse (c v : Nat) (s : State) : State :=
  let l := fvLatest s c
  let b := fvBitmap s c
  if l < v then setFv c v (if 64 ≤ v - l then 1 else (b <<< (v - l) ||| 1) % 2 ^ 64) s
  else setFv c l ((b ||| 1 <<< (l - v)) % 2 ^ 64) s

/-- The smallest v ≥ lo with v mod m = r. -/
def leastCongruent (lo m r : Nat) : Nat := lo + (r % m + m - lo % m) % m

/-- The freshness value stands outside the window or has been used (R362): fwd FWD_WIN, w REPLAY_W, bits the width. -/
def fvBad (s : State) (c v fwd w bits : Nat) : Bool :=
  let l := fvLatest s c
  decide (l + fwd < v) || decide (2 ^ bits ≤ v)
    || (decide (v ≤ l) && decide (l - v < 64) && nbit (fvBitmap s c) (l - v))
    || decide (v + w < l + 1)

/-! ### Profiles (R358) -/

/-- Word w of profile p. -/
def profW (s : State) (p w : Nat) : Nat := (rd s (0x02000000 + 0x20 * p + 4 * w)).toNat

/-- Counter slot j of profile p (R377). -/
def profCtr (p j : Nat) : Nat := 0x02200000 + 0x40 * p + 8 * j

/-- The freshness counter that a profile selects for an identifier value (R359). -/
def profFv (s : State) (p idv : Nat) : Nat :=
  (nbits (profW s p 1) 15 0 + (idv % 65536 &&& nbits (profW s p 2) 31 16)) % 65536

/-- The next occasion of the Glaze memories has an injected uncorrectable error (R542, 0x0C): window offset and bits. -/
def glzEcc (off len : Nat) (s : State) : Bool × State :=
  match injArmed s 0x0C with
  | some (bits, a) =>
    if off ≤ a ∧ a < off + len then
      if 2 ≤ bits then (true, raise (lfGlz 5) (injDone s)) else (false, injDone s)
    else (false, s)
  | none => (false, s)

/-- Bits from..from+n-1 of a byte string numbered from bit 7 of its first byte, as a number. -/
def bitsMsb (m : List Byte) (frm n : Nat) : Nat := beNat m / 2 ^ (8 * m.length - frm - n) % 2 ^ n

/-- The outcome of a verification: a code and the authentic PDU. -/
structure Verified where
  code : Nat
  data : List Byte
  deriving DecidableEq, Repr

/-- Verification of a TYPE 0 secured PDU (R361, R362). -/
def verifyPdu (p idv : Nat) (key pdu : List Byte) (s : State) : State × Verified :=
  let w0 := profW s p 0
  let macB := nbits w0 23 16
  let fvB := nbits w0 15 8
  let txB := nbits w0 7 0
  let t := (txB + macB + 7) / 8
  let c := profFv s p idv
  let fwd := profW s p 3
  let rw := nbits (profW s p 4) 6 0
  let bad (j code : Nat) : State × Verified := (bump (profCtr p j) s, { code := code, data := [] })
  if pdu.length < t then bad 2 cAuthFail
  else
    let a := pdu.length - t
    let tr := pdu.drop a
    let rx := bitsMsb tr 0 txB
    let cand := if txB = fvB then rx else leastCongruent (fvLatest s c + 1 - rw) (2 ^ txB) rx
    if fvBad s c cand fwd rw fvB then bad 3 cFreshness
    else
      let did := if nbit w0 28 then idv else nbits (profW s p 2) 15 0
      let mac := cmac key (beBytes 4 did ++ pdu.take a ++ beBytes (fvB / 8) cand)
      if bitsMsb mac 0 macB = bitsMsb tr txB macB then
        (bump (profCtr p 0) (fvUse c cand s), { code := cOk, data := pdu.take a })
      else bad 1 cAuthFail

/-- Verification of a CAN XL frame under CiA 613-2 (R367). -/
def verifyXl (p idv af : Nat) (key pdu : List Byte) (s : State) : State × Verified :=
  let r := Config.xlOpen key (nbits (profW s p 0) 26 25) idv af pdu
  let c := profFv s p idv
  if fvBad s c r.1 (profW s p 3) (nbits (profW s p 4) 6 0) Config.xlFvBits then
    (bump (profCtr p 3) s, { code := cFreshness, data := [] })
  else if r.2.1 then (bump (profCtr p 0) (fvUse c r.1 s), { code := cOk, data := r.2.2 })
  else (bump (profCtr p 1) s, { code := cAuthFail, data := [] })

/-- Glaze verifies an item with profile p (R362, R365): isXl says it is a CAN XL item. -/
def glzVerify (p idv : Nat) (isXl : Bool) (af : Nat) (pdu : List Byte) (s : State) : State × Verified :=
  let (ecc, s) := glzEcc (0x02000000 + 0x20 * p) 0x20 s
  let (ecc2, s) := glzEcc (fvKey (profFv s p idv)) 0x10 s
  let w0 := profW s p 0
  let fail (code : Nat) : State × Verified := (bump (profCtr p 4) s, { code := code, data := [] })
  if ecc || ecc2 then fail cInternal
  else if !nbit w0 31 then fail cKeyInvalid
  else if (nbits w0 30 29 == 1) != isXl then fail cKeyUsage
  else
    match useKey s (if nbits w0 30 29 = 1 then uGcm else uCmac) (nbits (profW s p 1) 27 16) with
    | .error c => fail c
    | .ok key =>
      if nbit w0 27 && !(s.glz.fvSet.contains (profFv s p idv)) then
        (bump (profCtr p 3) s, { code := cFreshness, data := [] })
      else if nbits w0 30 29 = 1 then verifyXl p idv af key pdu s
      else verifyPdu p idv key pdu s

/-- Glaze generates the trailer of a send (R363), or the protected data of a CAN XL frame (R367): the bytes to send, or
none where the generation fails. -/
def glzGenerate (p idv : Nat) (isXl : Bool) (af : Nat) (pdu : List Byte) (s : State) : State × Option (List Byte) :=
  let (ecc, s) := glzEcc (0x02000000 + 0x20 * p) 0x20 s
  let w0 := profW s p 0
  let ty := nbits w0 30 29
  let c := profFv s p idv
  let dropG : State × Option (List Byte) := (bump (profCtr p 6) s, none)
  if ecc || !nbit w0 31 then dropG
  else if (ty == 1) != isXl then dropG
  else
    match useKey s (if ty = 1 then uGcm else uCmac) (nbits (profW s p 1) 27 16) with
    | .error _ => dropG
    | .ok key =>
      let fvB := if ty = 1 then Config.xlFvBits else nbits w0 15 8
      if nbit w0 27 && !(s.glz.fvSet.contains c) then dropG
      else if 2 ^ fvB ≤ fvLatest s c + 1 then (raise (lfGlz 1) (bump (profCtr p 6) s), none)
      else
        let v := fvLatest s c + 1
        let s := bump (profCtr p 5) (fvUse c v s)
        if ty = 1 then (s, some (Config.xlSeal key (nbits w0 26 25) idv af v pdu))
        else
          let macB := nbits w0 23 16
          let txB := nbits w0 7 0
          let t := (txB + macB + 7) / 8
          let did := if nbit w0 28 then idv else nbits (profW s p 2) 15 0
          let mac := cmac key (beBytes 4 did ++ pdu ++ beBytes (fvB / 8) v)
          let bits := v % 2 ^ txB * 2 ^ macB + bitsMsb mac 0 macB
          (s, some (pdu ++ beBytes t (bits * 2 ^ (8 * t - txB - macB))))

/-! ### MACsec (R368 to R373) -/

/-- A MACsec register of En. -/
def msecKey (n o : Nat) : Nat := 0x00051000 + 0x40 * n + o

/-- Window words of SA k of En. -/
def saKey (n k : Nat) : Nat := 0x02300000 + 0x800 * n + 0x10 * k

/-- State of an SA: 0 EMPTY, 1 INSTALLED, 2 IN_USE, 3 ORPHANED. -/
def saState (s : State) (n k : Nat) : Nat := fld (rd s (saKey n k)) 31 30

/-- Next PN of an SA. -/
def saPn (s : State) (n k : Nat) : Nat := (rd s (saKey n k + 4)).toNat * 2 ^ 32 + (rd s (saKey n k + 8)).toNat

/-- Set the next PN of an SA. -/
def setSaPn (n k pn : Nat) (s : State) : State := wrWords (saKey n k + 4) [w32 (pn / 2 ^ 32), w32 pn] s

/-- MACsec counter j of En (R377). -/
def msecCtr (n j : Nat) : Nat := 0x02310000 + 0x100 * n + 8 * j

/-- The frame's EtherType matches a valid BYPASS entry, or is 0x888E (R370, R371). -/
def msecBypass (s : State) (n et : Nat) : Bool :=
  et == 0x888E || (List.range 4).any (fun i =>
    let w := rd s (msecKey n (0x10 + 4 * i))
    bit w 31 && fld w 15 0 == et)

/-- The GCM nonce of a MACsec frame (IEEE 802.1AE): SCI and PN, or with XPN the SSCI and PN XORed with the salt. -/
def msecNonce (xpn : Bool) (sci ssci salt pn : Nat) : List Byte :=
  if xpn then beBytes 12 ((ssci * 2 ^ 64 + pn) ^^^ salt) else beBytes 12 (sci * 2 ^ 32 + pn % 2 ^ 32)

/-- The encoding AN of En, if a transmit SA is in use: MSEC_STATUS TX_INUSE and AN. -/
def msecTxAn (s : State) (n : Nat) : Option Nat :=
  let w := rd s (msecKey n 0x20)
  if bit w 31 then some (fld w 29 28) else none

/-- The confidentiality offset of En. -/
def msecOff (s : State) (n : Nat) : Nat :=
  match rdF s (msecKey n 0) 23 22 with
  | 1 => 30
  | 2 => 50
  | _ => 0

/-- Largest PN of a suite. -/
def pnMax (xpn : Bool) : Nat := if xpn then 2 ^ 64 - 1 else 2 ^ 32 - 1

/-- Glaze protects a frame (FCS left off) that En transmits (R370, R373), or drops it. -/
def macsecProtect (n : Nat) (f : List Byte) (s : State) : State × Option (List Byte) :=
  let cfg := rd s (msecKey n 0)
  if !bit cfg 31 || msecBypass s n (beAt f 12 2) || beAt f 12 2 == 0x8808 then (s, some f)
  else
    match msecTxAn s n with
    | none => (raise (lfGlz 4) (bump (msecCtr n 11) s), none)
    | some an =>
      let k := 64 + an
      let xpn := bit cfg 26
      let pn := saPn s n k
      if saState s n k = 3 then (bump (msecCtr n 13) s, none)
      else if pnMax xpn < pn then (bump (msecCtr n 12) (raiseLive (lfGlz 3) s), none)
      else
        match useKey s uGcm (fld (rd s (saKey n k)) 11 0) with
        | .error _ => (bump (msecCtr n 13) s, none)
        | .ok key =>
          let sci := (rd s (msecKey n 8)).toNat * 2 ^ 32 + (rd s (msecKey n 12)).toNat
          let incl := bit cfg 24
          let enc := bit cfg 30
          let body := f.drop 12
          let tci := (if incl then 0x20 else 0) + (if enc then 0x0C else 0) + an
          let sl := if body.length < 48 then body.length else 0
          let tag := beBytes 2 0x88E5 ++ [b8 tci, b8 sl] ++ beBytes 4 (pn % 2 ^ 32) ++ (if incl then beBytes 8 sci else [])
          let off := if enc then msecOff s n else body.length
          let aad := f.take 12 ++ tag ++ body.take off
          let r := gcmSeal key (msecNonce xpn sci (rd s (saKey n k + 12)).toNat (tblGet s.glz.salts (128 * n + k) 0) pn)
            aad (body.drop off)
          let near := if xpn then 0xC000000000000000 else 0xC0000000
          let s := setSaPn n k (pn + 1) s
          let s := if pn + 1 = near then raise (lfGlz 2) s else s
          (bump (msecCtr n (if enc then 10 else 9)) s, some (f.take 12 ++ tag ++ body.take off ++ r.1 ++ r.2))

/-- The packet number of a received frame: with XPN the upper half is recovered from the next PN (IEEE 802.1AE). -/
def rxPn (xpn : Bool) (next low : Nat) : Nat :=
  if xpn then
    let hi := next / 2 ^ 32
    if low < 2 ^ 31 ∧ 2 ^ 31 ≤ next % 2 ^ 32 then (hi + 1) * 2 ^ 32 + low else hi * 2 ^ 32 + low
  else low

/-- Glaze validates a received frame of En (R371, R372, R373): the frame to deliver with MACSEC_VALIDATED, or none. -/
def macsecValidate (n : Nat) (f : List Byte) (s : State) : State × Option (List Byte × Bool) :=
  let cfg := rd s (msecKey n 0)
  let val := fld cfg 29 28
  let et := beAt f 12 2
  if val = 0 then (if et = 0x88E5 then bump (msecCtr n 1) s else s, some (f, false))
  else if msecBypass s n et then (s, some (f, false))
  else if et ≠ 0x88E5 then
    if val = 2 then (bump (msecCtr n 7) s, none) else (bump (msecCtr n 7) s, some (f, false))
  else
    let tci := byteAt f 14
    let hasSci := tci.testBit 5
    let enc := tci.testBit 3
    let an := tci % 4
    let hl := if hasSci then 16 else 8
    let fail (j : Nat) (body : List Byte) : State × Option (List Byte × Bool) :=
      (bump (msecCtr n j) s, if val = 1 ∧ enc = false then some (f.take 12 ++ body, false) else none)
    let sl := byteAt f 15 % 64
    let len := if sl ≠ 0 ∧ 12 + hl + sl + 16 ≤ f.length then sl else f.length - 12 - hl - 16
    let body := (f.drop (12 + hl)).take len
    match (List.range 16).find? (fun c =>
        let sc := tblGet s.glz.rxsc (16 * n + c) {}
        sc.en && (if hasSci then sc.sci == beAt f 20 8 else sc.implicit)) with
    | none => fail 6 body
    | some c =>
      let k := 4 * c + an
      let sc := tblGet s.glz.rxsc (16 * n + c) {}
      if saState s n k = 3 then (bump (msecCtr n 8) s, none)
      else if saState s n k ≠ 2 then fail 6 body
      else
        let xpn := bit cfg 26
        let next := saPn s n k
        let pn := rxPn xpn next (beAt f 16 4)
        let low := max 1 (next - (rd s (msecKey n 4)).toNat)
        if bit cfg 27 && decide (pn < low) then (bump (msecCtr n 3) s, none)
        else
          match useKey s uGcm (fld (rd s (saKey n k)) 11 0) with
          | .error _ => (bump (msecCtr n 8) s, none)
          | .ok key =>
            let off := if enc then msecOff s n else body.length
            let aad := f.take (12 + hl) ++ body.take off
            let nonce := msecNonce xpn sc.sci (rd s (saKey n k + 12)).toNat (tblGet s.glz.salts (128 * n + k) 0) pn
            match gcmOpen key nonce aad (body.drop off) ((f.drop (12 + hl + len)).take 16) with
            | some pt =>
              let s := if next ≤ pn then setSaPn n k (pn + 1) s else s
              (bump (msecCtr n (if pn < low then 2 else 0)) s, some (f.take 12 ++ body.take off ++ pt, true))
            | none => fail (if val = 1 then 4 else 5) body

end Sys2Proof.Machine
end

