-- ==== Sys2Proof/Machine/Shelf.lean ====
section
/-! DEFINITION. Sys2Proof/Machine/Shelf.lean: watermarks (R355, R356), PFC generation (R169), Shelf's live conditions, and
the commands of Shelf and overflow memory: spill, resequencing, training, scrub (R343 to R354). -/

namespace Sys2Proof.Machine
open Sys2Proof

/-- A source's LIVE follows a condition; STATUS is set when it begins. -/
def liveTo (l : Nat) (v : Bool) (s : State) : State :=
  if v then (if leafBit s l 1 then s else raiseLive l s) else setLive l false s

/-! ### Watermarks (R355) -/

/-- A watermark whose registers lie at b sees a level: the state, and whether a crossing that EV_UP or EV_DOWN selects
took place. WM_LVL holds the level seen last. -/
def wmSee (b lvl : Nat) (s : State) : State × Bool :=
  if rdB s b 31 then
    let old := rdF s (b + 0x14) 27 0
    let thr := rdF s (b + 4) 27 0
    let above := rdB s (b + 0xC) 31
    let up := !above && decide (old < thr) && decide (thr ≤ lvl)
    let down := above && decide ((lvl : Int) < (thr : Int) - rdF s (b + 8) 27 0)
    let s := wrF (b + 0x14) 27 0 lvl (wrF (b + 0x10) 27 0 (max lvl (rdF s (b + 0x10) 27 0)) s)
    let s := if up then wrB (b + 0xC) 31 true (wrB (b + 0xC) 30 true s) else s
    let s := if down then wrB (b + 0xC) 31 false (wrB (b + 0xC) 29 true s) else s
    (s, (up && rdB s b 30) || (down && rdB s b 29))
  else (s, false)

/-- Registers of watermark monitor m. -/
def wmKey (m : Nat) : Nat := 0x00481000 + 0x20 * m

/-- The level that SRC and INDEX select (R356). -/
def wmLevel (s : State) (src idx : Nat) : Nat :=
  match src with
  | 0 => sharedUsed s
  | 1 => usedQ s idx + ovfUsedQ s idx
  | 2 => hdrmUsed s
  | 3 => ingLevel s (idx / 8) (idx % 8)
  | 4 => ovfUsed s
  | 5 => rsqUsed s
  | 6 => stagingUsed s
  | _ => 0

/-- SRC and INDEX of a monitor are in range (R356). -/
def wmSourceOk (src idx : Nat) : Bool :=
  match src with
  | 1 => decide (idx < 1280)
  | 3 => decide (idx < 224)
  | 7 => false
  | _ => true

/-- Every monitor sees its level; its leaf is LIVE while it is ABOVE. -/
def wmSettle (s : State) : State :=
  forN 32 0 (fun m s =>
    if rdB s (wmKey m) 31 then
      let (t, ev) := wmSee (wmKey m) (wmLevel s (rdF s (wmKey m) 26 24) (rdF s (wmKey m) 10 0)) s
      let t := setLive (lfWm m) (rdB t (wmKey m + 0xC) 31) t
      if ev then raise (lfWm m) t else t
    else s) s

/-! ### PFC generation (R169) -/

/-- Thresholds of class p of a port. -/
def xoffOf (s : State) (n p : Nat) : Nat := rdF s (macBase n + 0x60 + 4 * p) 31 16
def xonOf (s : State) (n p : Nat) : Nat := rdF s (macBase n + 0x60 + 4 * p) 15 0

/-- The classes of PRIO_EN of a port that sends PFC. -/
def pfcClasses (s : State) (n : Nat) : List Nat :=
  let w := rd s (macBase n + 0x50)
  if bit w 30 then (List.range 8).filter (fun p => nbit (fld w 23 16) p) else []

/-- A set of classes as a bit vector. -/
def classBits (l : List Nat) : Nat := l.foldl (fun v p => v + 2 ^ p) 0

/-- Port n compares its ingress levels with XOFF and XON and sends the PFC frames that are due (R169). -/
def pfcCheck (n : Nat) (s : State) : State :=
  let cl := pfcClasses s n
  if cl = [] then s
  else
    let lvl := fun p => ingLevel s n p
    let m := macOf s n
    let past := cl.filter (fun p => xoffOf s n p ≤ lvl p)
    let fresh := past.filter (fun p => !nbit m.xoff p)
    let under := cl.filter (fun p => nbit m.xoff p && decide (lvl p < xonOf s n p))
    let q := rdF s (macBase n + 0x50) 15 0
    let s := if fresh = [] then s else pfcSend n (classBits past) (fun _ => q) s
    let s := pfcSend n (classBits under) (fun _ => 0) s
    let x := (List.range 8).foldl (fun v p => if past.contains p then nsetBit v p true else if under.contains p then nsetBit v p false else v) m.xoff
    setMac n { macOf s n with xoff := x } s

/-- What follows from the levels at the end of a command that moves packets: PFC, live conditions and watermarks. -/
def shfSettle (s : State) : State :=
  let s := forN 24 0 pfcCheck s
  let s := liveTo (lfShf 3) (decide (0 < stagingUsed s) && decide (rdF s 0x00480004 31 19 ≤ stagingUsed s)) s
  let s := liveTo (lfShf 4) (bit (rd s 0x00480800) 31 && decide (partitionCells s ≤ ovfUsed s)) s
  let s := liveTo (lfShf 5) (decide (65536 ≤ rsqUsed s)) s
  let s := liveTo (lfShf 7) (decide (0 < hdrmUsed s)) s
  let s := liveTo (lfSwc 1) ((List.range 8).any (fun c =>
    (residueOf s c) != [] && decide (rdF s (0x00400100 + 4 * c) 30 16 ≤ (residueOf s c).length))) s
  wmSettle s

/-! ### Overflow memory (R343 to R354) -/

/-- An uncorrectable error of overflow memory is counted and logged: partition 0 Kiln, 1 capture, 2 packet (R353, R354). -/
def ovfUncorr (part : Nat) (scrub : Bool) (addr : Nat) (s : State) : State :=
  let s := raise (lfShf 1) (bump (if scrub then 0x00480918 else 0x00480908) s)
  let s := if part = 0 then raise (lfCrz 2) s else s
  if rdB s 0x00480810 31 then wrB 0x00480810 30 true s
  else wrWords 0x00480810 [w32 (2 ^ 31 + part * 2 ^ 28 + b2n scrub * 2 ^ 27), w32 addr, w32 (addr / 2 ^ 32 % 16)] s

/-- A single-bit error is corrected and counted (R353). -/
def ovfCorr (scrub : Bool) (s : State) : State :=
  if scrub then bump 0x00480910 s else raise (lfShf 0) (bump 0x00480900 s)

/-- Replace the packet with number k of queue q wherever it is held. -/
def mapSeq (q k : Nat) (f : Pkt → Pkt) (s : State) : State :=
  let g := fun l : List Pkt => l.map (fun p => if p.seq = k then f p else p)
  let s := setRsq q (g (rsqOf s q)) (setEq (q / 8) (q % 8) (g (eqOf s (q / 8) (q % 8))) s)
  { s with shf := { s.shf with late := tblSet s.shf.late q (g (tblGet s.shf.late q [])) } }

/-- The spilled packet with number k of queue q, wherever it is held. -/
def findSeq (s : State) (q k : Nat) : Option Pkt :=
  (rsqOf s q ++ eqOf s (q / 8) (q % 8) ++ tblGet s.shf.late q []).find? (fun p => p.seq = k && p.spilled)

/-- SPILL_WRITE_DONE (R343): the packet's cells are in overflow memory from byte address addr, and its staging cells are
freed. An injection into a line of it leaves its error there (R542, 0x08). -/
def execSpillWriteDone (q : Fin 1280) (seq : Word) (addr : Nat) (s : State) : Host.Outcome State Fault Refusal :=
  done s (match findSeq s q seq.toNat with
    | some p =>
      let c := pktOf s p.pid
      if c.staging = 0 then s
      else
        let s := setPkt p.pid { c with staging := 0, held := 0 } s
        shfSettle (match injArmed s 0x08 with
          | some (bits, a) =>
            if addr ≤ a ∧ a < addr + 256 * c.n then mapSeq q seq.toNat (fun p => { p with ovfErr := some (bits, a) }) (injDone s) else s
          | none => s)
    | none => s)

/-- The read-back of a taken packet takes its cells, once its write is done and the pool has room (R346). -/
def readIssue (p : Pkt) (s : State) : State :=
  let c := pktOf s p.pid
  if p.spilled = true ∧ c.staging = 0 ∧ c.readback = 0 ∧ readbackUsed s + c.n ≤ 4096 then
    setPkt p.pid { c with readback := c.n } s
  else s

/-- RESEQ_TAKE (R346): the resequencer takes the packet at the head of queue q, within its window. -/
def execReseqTake (q : Fin 1280) (s : State) : Host.Outcome State Fault Refusal :=
  done s (match eqOf s (q / 8) (q % 8) with
    | p :: rest =>
      if (rsqOf s q).length < rdF s (0x0F400004 + 0x10 * q) 11 0 ∧ rsqUsed s < 65536 then
        shfSettle (readIssue p (setRsq q (rsqOf s q ++ [p]) (setEq (q / 8) (q % 8) rest s)))
      else s
    | [] => s)

/-- A packet that was skipped has become ready (R348): it is discarded and counted. -/
def reseqLate (q : Nat) (p : Pkt) (s : State) : State :=
  let l := (tblGet s.shf.late q []).filter (fun x => x.seq ≠ p.seq)
  bump (queueCtr q 4) (shfUnref p.pid
    { s with shf := { s.shf with late := if l = [] then tblErase s.shf.late q else tblSet s.shf.late q l } })

/-- READBACK_DONE (R344, R348, R353): a read-back ends with corr corrected lines, or fails uncorrectably at an address. -/
def execReadbackDone (q : Fin 1280) (seq : Word) (corr : Nat) (bad : Option Nat) (s : State) : Host.Outcome State Fault Refusal :=
  done s (match findSeq s q seq.toNat with
    | some p =>
      let s := readIssue p s
      let c := pktOf s p.pid
      let taken := (rsqOf s q).any (fun x => x.seq = seq.toNat) || (tblGet s.shf.late q []).any (fun x => x.seq = seq.toNat)
      if taken = false ∨ c.readback = 0 then s
      else
        let bad := bad.or (p.ovfErr.bind (fun e => if 2 ≤ e.1 then some e.2 else none))
        let corr := corr + (match p.ovfErr with | some (1, _) => 1 | _ => 0)
        let s := forN corr 0 (fun _ s => ovfCorr false s) s
        shfSettle (match bad with
          | some a =>
            let s := setRsq q ((rsqOf s q).filter (fun x => x.seq ≠ seq.toNat)) (ovfUncorr 2 false a s)
            let l := (tblGet s.shf.late q []).filter (fun x => x.seq ≠ seq.toNat)
            shfUnref p.pid { s with shf := { s.shf with late := if l = [] then tblErase s.shf.late q else tblSet s.shf.late q l } }
          | none =>
            let s := setPkt p.pid { c with ovf := 0 } s
            if (tblGet s.shf.late q []).any (fun x => x.seq = seq.toNat) then reseqLate q p s
            else setRsq q ((rsqOf s q).map (fun x => if x.seq = seq.toNat then { x with ready := true } else x)) s)
    | none => s)

/-- RESEQ_GAP (R348): the next number of queue q is not ready; it is skipped. -/
def execReseqGap (q : Fin 1280) (s : State) : Host.Outcome State Fault Refusal :=
  done s (
    let nxt := (rd s (seqOut q)).toNat
    if rd s (seqOut q) = rd s (seqIn q) ∨ (shfHead s (q / 8) (q % 8)).isSome = true then s
    else
      let here := (rsqOf s q ++ eqOf s (q / 8) (q % 8)).filter (fun p => p.seq = nxt)
      let s := setRsq q ((rsqOf s q).filter (fun p => p.seq ≠ nxt)) s
      let s := setEq (q / 8) (q % 8) ((eqOf s (q / 8) (q % 8)).filter (fun p => p.seq ≠ nxt)) s
      let l := tblGet s.shf.late q [] ++ here
      let s := { s with shf := { s.shf with late := if l = [] then tblErase s.shf.late q else tblSet s.shf.late q l } }
      shfSettle (raise (lfShf 2) (bump (queueCtr q 3) (wr (seqOut q) (rd s (seqOut q) + 1) s))))

/-- Overflow memory passes its training, with the fitted density in MiB, or fails (R351, R352). -/
def ovfTrained (pass : Bool) (densityMib : Nat) (s : State) : State :=
  if pass then setLive (lfShf 6) false (wr 0x00480800 (w32 (2 ^ 31 + densityMib * 7 / 8)) s)
  else liveTo (lfShf 6) true (wr 0x00480800 (w32 (2 ^ 30)) s)

/-- OVF_RETRAIN (R351): a retraining hold begins or ends: HOLD. -/
def execOvfRetrain (begins : Bool) (s : State) : Host.Outcome State Fault Refusal :=
  done s (if bit (rd s 0x00480800) 31 then wrB 0x00480800 29 begins s else s)

/-- The partition that a byte address of overflow memory lies in (R352): Kiln first, then capture, then packet. -/
def ovfPartition (s : State) (addr : Nat) : Nat :=
  if addr < rdF s 0x00000100 31 16 * 2 ^ 20 then 0
  else if addr < (rdF s 0x00000100 31 16 + rdF s 0x00000100 15 0) * 2 ^ 20 then 1 else 2

/-- PATROL_SCRUB (R353): the scrub visits the line at addr and finds so many bits of a word in error; an injection armed
for the line acts (R541, R542). -/
def execPatrolScrub (addr : Nat) (bits : Fin 3) (s : State) : Host.Outcome State Fault Refusal :=
  done s (
    let (bits, s) := match injArmed s 0x08 with
      | some (i, a) => if a / 64 = addr / 64 then (max bits.val i, injDone s) else (bits.val, s)
      | none => (bits.val, s)
    if bits = 0 then s
    else if bits = 1 then ovfCorr true s
    else ovfUncorr (ovfPartition s addr) true addr s)

/-- WM_MAX_READ (R355): the peak since the last read is returned, and the peak becomes the current level. hst: a queue
pair's watermark; else a monitor of the SHF block. -/
def execWmMaxRead (hst : Bool) (m : Fin 1024) (s : State) : Host.Outcome State Fault Refusal :=
  done s (
    let b := if hst then 0x00540000 + 0x20 * m.val else wmKey (m % 32)
    setRdata (rd s (b + 0x10)) (if rdB s b 31 then wr (b + 0x10) (rd s (b + 0x14)) s else wr (b + 0x10) 0 s))

end Sys2Proof.Machine
end

