-- ==== Sys2Proof/Machine/Router.lean ====
section
/-! DEFINITION. Sys2Proof/Machine/Router.lean: the signal router's operations: bank fields, destinations and the check of
R260, transmit queues (R277, R278), images, containers (R286, R287), signal moves (R266 to R270), timers. -/

namespace Sys2Proof.Machine
open Sys2Proof

/-! ### Banks and counters -/

/-- Counter j of the SRT block. -/
def srtCtr (j : Nat) : Nat := 0x00300100 + 8 * j

/-- Word w of a router-bank entry at window offset o. -/
def bw (s : State) (b o w : Nat) : Nat := (rd s (bankBase b + o + 4 * w)).toNat

/-- Window offsets within a bank (R291). -/
def oRoute (r : Nat) : Nat := 0x00200000 + 0x10 * r
def oDesc (d : Nat) : Nat := 0x00600000 + 0x10 * d
def oVprof (v : Nat) : Nat := 0x00E00000 + 0x20 * v
def oImg (i : Nat) : Nat := 0x01000000 + 0x20 * i
def oGroup (g : Nat) : Nat := 0x01200000 + 0x80 * g
def oTo (t : Nat) : Nat := 0x01280000 + 0x10 * t
def oLim (l : Nat) : Nat := 0x01281000 + 8 * l
def oStream (v : Nat) : Nat := 0x01290000 + 0x10 * v
def oTap (t : Nat) : Nat := 0x01291000 + 0x10 * t
def oSrc (k : Nat) : Nat := 0x01292000 + 8 * k
def oBank : Nat := 0x01293000
def oTxq (p : Nat) : Nat := 0x01293100 + 4 * p

/-- An injected error of the router memories (R542, 0x0B) meets a read of words at a window key: true where it is
uncorrectable; MEM_ECC is then raised and counted. -/
def srtEcc (k len : Nat) (s : State) : Bool × State :=
  match injArmed s 0x0B with
  | some (bits, a) =>
    if k ≤ a ∧ a < k + len then
      if 2 ≤ bits then (true, bump (srtCtr 18) (raise (lfSrt 6) (injDone s))) else (false, injDone s)
    else (false, s)
  | none => (false, s)

/-! ### Identifiers (R253, R359) -/

/-- IDE of a CAN ID field. -/
def idIde (id : Nat) : Bool := nbit id 31

/-- The CAN identifier that an ID field holds, right-aligned. -/
def idCan (id : Nat) : Nat := if idIde id then nbits id 28 0 else nbits id 28 18

/-- The ID field of a CAN identifier. -/
def canId (ext : Bool) (id : Nat) : Nat := if ext then 2 ^ 31 + id % 2 ^ 29 else id % 2 ^ 11 * 2 ^ 18

/-- The identifier value of an item (R359). -/
def idvOf (kind id : Nat) : Nat := if kind ≤ 1 then idCan id else id

/-! ### The live pool (R274) -/

/-- Byte o of the live pool. -/
def poolByte (s : State) (o : Nat) : Byte :=
  b8 (nbits (rd s (0x0E000000 + o / 4 * 4)).toNat (8 * (o % 4) + 7) (8 * (o % 4)))

/-- Set byte o of the live pool. -/
def setPoolByte (o : Nat) (v : Byte) (s : State) : State :=
  wrF (0x0E000000 + o / 4 * 4) (8 * (o % 4) + 7) (8 * (o % 4)) v.toNat s

/-- n bytes of the live pool from o. -/
def poolBytes (s : State) (o : Nat) : Nat → List Byte
  | 0 => []
  | n + 1 => poolByte s o :: poolBytes s (o + 1) n

/-- Write bytes into the live pool from o. -/
def setPoolBytes (o : Nat) : List Byte → State → State
  | [], s => s
  | v :: vs, s => setPoolBytes (o + 1) vs (setPoolByte o v s)

/-- Word w of the control entry of image i in bank b (R273). -/
def imgW (s : State) (b i w : Nat) : Nat := bw s b (oImg i) w

/-- Start of an image in the live pool. -/
def imgBase (s : State) (b i : Nat) : Nat := 8 * nbits (imgW s b i 2) 18 0

/-- LEN of an image. -/
def imgLen (s : State) (b i : Nat) : Nat := nbits (imgW s b i 3) 11 0

/-- MODE of an image: 0 REQUEST, 1 CYCLIC, 2 ON_CHANGE, 3 MIXED. -/
def imgMode (s : State) (b i : Nat) : Nat := nbits (imgW s b i 0) 29 28

/-- Key of an image's state word: [31] CHANGED, [30] WAITING, [29] MDT_RUNNING. -/
def imgState (i : Nat) : Nat := 0x0E440000 + 8 * i

/-! ### Transmit queues of the flexports (R14, R101, R142, R277, R278) -/

/-- Counter j of the common flexport counters: 0 RX_FRAMES, 1 TX_FRAMES, 2 RX_OVERRUN, 3 TX_ABANDONED,
4 QUIESCE_ABORT, 5 IGNORED. -/
def fxpCtr (n j : Nat) : Nat := fxpBase n + 0x40 + 8 * j

/-- Counter j of a flexport's personality counters. -/
def persCtr (s : State) (n j : Nat) : Nat := keyOf s (fxpBase n + 0x140 + 8 * j)

/-- A personality register of flexport n at block offset o. -/
def persReg (s : State) (n o : Nat) : Nat := keyOf s (fxpBase n + o)

/-- The engine runs: FXP_STATUS.RUNNING. -/
def running (s : State) (n : Nat) : Bool := bit (rd s (fxpBase n + 4)) 31

/-- The port's cluster is offline: FXP_STATUS.OFFLINE. -/
def offline (s : State) (n : Nat) : Bool := bit (rd s (fxpBase n + 4)) 30

/-- CANX operating state (R115). -/
def opState (s : State) (n : Nat) : Nat := fld (rd s (persReg s n 0x118)) 31 28

/-- Key of lock group g's registers. -/
def lgKey (g o : Nat) : Nat := 0x00063000 + 0x40 * g + o

/-- Flexport n runs a personality that takes part in lock groups (R150): CANX, LIN as commander, SPIC, PWMX generate. -/
def lgEligible (s : State) (n : Nat) : Bool :=
  match persOf s n with
  | 1 => true
  | 2 => bit (rd s (persReg s n 0x100)) 31
  | 5 => true
  | 6 => (List.range 4).any (fun c => fld (rd s (persReg s n (0x100 + 0x10 * c))) 31 30 == 2)
  | _ => false

/-- Flexport n is listed in LG_MEMBER of group g. -/
def lgListed (s : State) (g n : Nat) : Bool := bit (rd s (lgKey g (4 + 4 * (n / 32)))) (n % 32)

/-- Flexport n is a member of lock group g, which is enabled, its personality takes part and its cluster is not offline
(R59, R150). -/
def lgMember (s : State) (g n : Nat) : Bool :=
  rdB s (lgKey g 0) 31 && lgListed s g n && lgEligible s n && !offline s n

/-- The held queues of a flexport: QMASK of its lock group (R151). -/
def heldMask (s : State) (n : Nat) : Nat :=
  match (List.range 16).find? (fun g => lgMember s g n) with
  | some g => rdF s (lgKey g 0) 7 0
  | none => 0

/-- Queue q of flexport n is held by its lock group. -/
def held (s : State) (n q : Nat) : Bool := nbit (heldMask s n) q

/-- The port may take a frame into its pending slot: engine running, on its bus, transmit not held (R99, R103, R115, R118). -/
def canTake (s : State) (n : Nat) : Bool :=
  running s n && !offline s n && !safeOn s && !(port s n).quiesce &&
    (match persOf s n with
     | 1 => opState s n == 2
     | 3 => true
     | 5 => true
     | _ => false)

/-- All eight queues of a flexport are empty. -/
def fxqEmpty (s : State) (n : Nat) : Bool := (List.range 8).all (fun q => (fxq s n q).isEmpty)

/-- A generate channel of a PWMX port takes a frame at once (R148): abandoned with a period below 2, else latched. -/
def pwmTake (n : Nat) (it : FxpItem) (s : State) : State :=
  let c := it.frame.id % 4
  let per := beAt it.frame.data 0 3
  let high := beAt it.frame.data 3 3
  if per < 2 ∨ it.frame.data.length ≠ 6 then raise (lfFxp n 1) (bump (fxpCtr n 3) s)
  else
    let p := port s n
    bump (fxpCtr n 1) (setPort n { p with pwmNext := setAt p.pwmNext c (some (per, high)) } s)

/-- LIN: the entry of an identifier that publishes it (R128). -/
def linPublish (s : State) (n id : Nat) : Option Nat :=
  (List.range 64).find? (fun i =>
    let w := rd s (persReg s n (0x200 + 4 * i))
    fld w 14 12 == 1 && fld w 5 0 == id)

/-- PWMX: channel c generates. -/
def pwmGen (s : State) (n c : Nat) : Bool := fld (rd s (persReg s n (0x100 + 0x10 * c))) 31 30 == 2

/-- Replace the waiting frame of image i in a queue, if there is one (R277). -/
def replaceImg (i : Nat) (it : FxpItem) : List FxpItem → Option (List FxpItem)
  | [] => none
  | x :: xs => if x.img = some i then some (it :: xs) else (replaceImg i it xs).map (x :: ·)

/-- DEPTH of flexport n's queues (R278); 0 selects 16. -/
def fxpDepth (s : State) (b n : Nat) : Nat :=
  let d := nbits (bw s b (oTxq n) 0) 5 0
  if d = 0 then 16 else d

/-- Register o of network cluster c (R407). -/
def ncKey (c o : Nat) : Nat := 0x00071000 + 0x80 * c + o

/-- The enabled network cluster that flexport n belongs to. -/
def ncOfFxp (s : State) (n : Nat) : Option Nat :=
  (List.range 16).find? (fun c => rdB s (ncKey c 0) 31 && bit (rd s (ncKey c (0x10 + 4 * (n / 32)))) (n % 32))

/-- State of network cluster c: NC_STATUS.STATE (R412). -/
def ncState (s : State) (c : Nat) : Nat := fld (rd s (ncKey c 0x48)) 31 29

/-- What the NMW block holds of cluster c beyond its registers. -/
def ncOf (s : State) (c : Nat) : NmwC := tblGet s.nmw.clusters c {}

/-- Set what the NMW block holds of cluster c. -/
def setNc (c : Nat) (v : NmwC) (s : State) : State :=
  { s with nmw := { s.nmw with clusters := if v = {} then tblErase s.nmw.clusters c else tblSet s.nmw.clusters c v } }

/-- A wake event is latched; the first one stays (R414). -/
def ncLatch (c : Nat) (bus : Option Nat) (s : State) : State :=
  setNc c { ncOf s c with latch := (ncOf s c).latch.or (some bus) } s

/-- A frame enqueued to a member flexport is a local wake where TX_WAKE = 1, in CONFIRM and ASLEEP (R415). -/
def txWake (n : Nat) (s : State) : State :=
  match ncOfFxp s n with
  | some c => if rdB s (ncKey c 0) 30 && (ncState s c == 2 || ncState s c == 3) then ncLatch c none s else s
  | none => s

/-- Append a frame to a queue; it becomes pending at once where slot and queues were empty (R101). -/
def fxpAppend (n q : Nat) (it : FxpItem) (s : State) : State :=
  let s := txWake n s
  if persOf s n = 6 ∧ running s n = true ∧ offline s n = false ∧ safeOn s = false ∧ held s n q = false then pwmTake n it s
  else if (port s n).pend.isNone && fxqEmpty s n && canTake s n && !held s n q then
    setPort n { port s n with pend := some (q, it), errs := 0 } s
  else setFxq n q (fxq s n q ++ [it]) s

/-- Enqueue a frame to queue q of flexport n under the router's rules (R128, R142, R277, R278). -/
def fxpEnqueue (b n q : Nat) (it : FxpItem) (s : State) : State :=
  let pers := persOf s n
  if pers = 4 ∨ (pers = 6 ∧ pwmGen s n (it.frame.id % 4) = false) ∨ (pers = 6 ∧ 4 ≤ it.frame.id)
      ∨ (pers = 2 ∧ linPublish s n it.frame.id = none) then
    bump (fxpCtr n 3) s
  else
    match it.img.bind (fun i => replaceImg i it (fxq s n q)) with
    | some l => bump (srtCtr 6) (setFxq n q l (txWake n s))
    | none =>
      if fxpDepth s b n ≤ (fxq s n q).length then
        let s := raise (lfSrt 3) (bump (srtCtr 5) s)
        if nbit (bw s b (oTxq n) 0) 31 then setFxq n q ((fxq s n q).drop 1 ++ [it]) s else s
      else fxpAppend n q it s

/-! ### The check of R260 and the output frame -/

/-- The CAN FD length at or above n. -/
def fdLen (n : Nat) : Nat := ([0, 1, 2, 3, 4, 5, 6, 7, 8, 12, 16, 20, 24, 32, 48, 64].find? (fun l => decide (n ≤ l))).getD 64

/-- What leaves the router: identifier, EXT, FMT, KIND and content. -/
structure OutFrame where
  kind : Nat
  ext : Nat
  id : Nat
  fmt : Nat
  data : List Byte
  rtr : Bool := false
  dlc : Nat := 0
  sdt : Nat := 0
  af : Nat := 0
  sec : Bool := false
  ts : Nat := 0
  src : Nat := 0x300
  deriving DecidableEq, Repr

/-- The field-bus frame that flexport n sends for an output, if the output passes the check of R260. -/
def fieldFrame (b n : Nat) (o : OutFrame) (s : State) : Option FieldFrame :=
  let len := o.data.length
  match persOf s n with
  | 1 =>
    let mode := rd s (persReg s n 0x100)
    if o.fmt = 3 then
      if o.kind = 1 ∧ 1 ≤ len ∧ len ≤ 2048 ∧ bit mode 30 = true ∧ o.rtr = false then
        some { fmt := .xl, id := idCan o.id, sdt := o.sdt, vcid := o.ext, af := o.af, sec := o.sec, data := o.data }
      else none
    else if o.kind ≠ 0 then none
    else if o.fmt = 0 then
      if len ≤ 8 then
        some { fmt := .cc, id := idCan o.id, ext := idIde o.id, rtr := o.rtr, dlc := if o.rtr then o.dlc else len, data := o.data }
      else none
    else if len ≤ 64 ∧ bit mode 31 = true ∧ o.rtr = false then
      some { fmt := .fd, id := idCan o.id, ext := idIde o.id, brs := o.fmt == 2,
             data := padTo o.data (fdLen len) (b8 (nbits (bw s b oBank 0) 7 0)) }
    else none
  | 2 =>
    if (o.kind = 0 ∨ o.kind = 2 ∨ o.kind = 3) ∧ 1 ≤ len ∧ len ≤ 8 ∧ o.rtr = false then
      some { fmt := .lin, id := o.id % 64, data := o.data }
    else none
  | 3 =>
    if o.kind = 4 ∧ max 60 len ≤ 1518 ∧ o.rtr = false then some { fmt := .t1s, id := 0, data := padTo o.data 60 0 } else none
  | 4 => some { fmt := .sent, id := o.id, data := o.data }
  | 5 => if o.kind = 3 ∧ o.rtr = false then some { fmt := .spic, id := o.id, data := o.data } else none
  | 6 => if o.kind = 3 ∧ o.rtr = false then some { fmt := .pwmx, id := o.id, data := o.data } else none
  | _ => none

/-- A frame that fails its check is dropped (R260). -/
def formatDrop (s : State) : State := raise (lfSrt 2) (bump (srtCtr 4) s)

/-- A Mehryr message (R285) of an output; ts none leaves the timestamp out. -/
def mehryrMsg (o : OutFrame) (ts : Option Nat) : List Byte :=
  let flags := match o.kind with
    | 0 => b2n (o.fmt == 1 || o.fmt == 2) * 8 + b2n (o.fmt == 2) * 4 + b2n o.rtr
    | 1 => b2n o.sec * 8
    | _ => 0
  [b8 (o.kind * 32 + b2n ts.isSome * 16 + flags), b8 o.ext] ++ beBytes 2 o.data.length ++ beBytes 4 o.id
    ++ (match ts with | some t => beBytes 8 t | none => [])
    ++ (if o.kind = 1 then [b8 o.sdt, 0, 0, 0] ++ beBytes 4 o.af else [])
    ++ padTo o.data ((o.data.length + 3) / 4 * 4) 0

/-- A message timestamp of ACF: seconds × 10^9 + nanoseconds of a TS64 (R283). -/
def acfTs (ts : Nat) : List Byte := beBytes 8 (ts / 2 ^ 32 * 10 ^ 9 + ts % 2 ^ 32)

/-- An ACF message (R283) of an output, if its KIND can travel in one (R282). -/
def acfMsg (o : OutFrame) (mtv : Bool) : Option (List Byte) :=
  let len := o.data.length
  let pad := (4 - len % 4) % 4
  let body := padTo o.data (len + pad) 0
  let hdr (ty total : Nat) : List Byte := beBytes 2 (ty * 512 + total / 4)
  if o.rtr then none
  else
    match o.kind with
    | 0 =>
      let fl := pad * 64 + b2n mtv * 32 + b2n (idIde o.id) * 8 + b2n (o.fmt == 2) * 4 + b2n (o.fmt == 1 || o.fmt == 2) * 2
      let t := if mtv then acfTs o.ts else []
      let total := 4 + t.length + 4 + body.length
      some (hdr (if mtv then 1 else 2) total ++ [b8 fl, b8 (o.ext % 32)] ++ t ++ beBytes 4 (idCan o.id) ++ body)
    | 2 =>
      let fl := pad * 64 + b2n mtv * 32 + o.ext % 32
      some (hdr 3 (12 + body.length) ++ [b8 fl, b8 (o.id % 64)] ++ (if mtv then acfTs o.ts else List.replicate 8 0) ++ body)
    | _ => none

/-- Hand a frame in at GPN 155 for admission to pipeline 1; direct names a port and queue that replace the lookup (R262). -/
def handIn (bytes : List Byte) (cls ts : Nat) (direct : Option (Nat × Nat)) (s : State) : State :=
  ingArrive 155 { bytes := bytes, ingress := 155, cls := cls, ts := ts, direct := direct } s

/-- Deliver an output to a DEST and transmit queue (R260, R262): img names the image it was built from. -/
def deliver (b dest txq : Nat) (o : OutFrame) (img : Option Nat) (s : State) : State :=
  let did := dest / 256 % 2048
  let g := dest % 256
  if did ≠ 0 ∧ did ≠ ownDid s then coilSend did 1 txq (txq * 2 ^ 24 + g) 0 (mehryrMsg o (some o.ts)) s
  else if g < 128 then
    match fieldFrame b g o s with
    | some f => fxpEnqueue b g txq { frame := f, img := img } s
    | none => formatDrop s
  else if o.rtr then formatDrop s
  else if g < 152 then handIn o.data txq o.ts (some (g, txq)) s
  else if g = 155 then handIn o.data txq o.ts none s
  else if g = 152 then
    shfEnqueue 152 txq { bytes := o.data, ingress := o.src, kind := o.kind, ext := o.ext, id := o.id, ts := o.ts,
                         cls := txq, qp := o.id % 1024 } s
  else bump (srtCtr 17) s

/-! ### Containers (R286, R287) -/

/-- The Internet checksum of a byte string: one's complement sum of its 16-bit words. -/
def inetSum : Nat → List Byte → Nat
  | 0, _ => 0
  | n + 1, m => beNat (padTo (m.take 2) 2 0) + inetSum n (m.drop 2)

/-- Fold a sum to 16 bits. -/
def inetFold (n : Nat) : Nat := let a := n % 65536 + n / 65536; let b := a % 65536 + a / 65536; b % 65536 + b / 65536

/-- The Internet checksum field over a byte string. -/
def inetCsum (m : List Byte) : Nat := 65535 - inetFold (inetSum ((m.length + 1) / 2) m)

/-- A container's messages and sequence number. -/
def contOf (s : State) (i : Nat) : Cont := tblGet s.srt.conts i {}

/-- Set a container's messages and sequence number. -/
def setCont (i : Nat) (c : Cont) (s : State) : State := { s with srt := { s.srt with conts := tblSet s.srt.conts i c } }

/-- The frame of a container (R286): template, messages, and the fields written into the copy. -/
def contFrame (s : State) (b i : Nat) : List Byte :=
  let w6 := imgW s b i 6
  let w7 := imgW s b i 7
  let c := contOf s i
  let msgs := c.msgs.flatten
  let f := poolBytes s (imgBase s b i) (nbits w6 23 16) ++ msgs
  let ch := nbits w7 15 8
  let f := if nbits w6 31 30 = 0 then
      patch (patch f (ch + 1) [b8 (byteAt f (ch + 1) / 8 * 8 + msgs.length / 256 % 8), b8 msgs.length]) (ch + 3) [b8 c.seq]
    else patch (patch f (ch + 2) (beBytes 2 msgs.length)) (ch + 12) (beBytes 2 c.seq ++ beBytes 2 c.msgs.length)
  let l3 := nbits w7 31 24
  let l4 := nbits w7 23 16
  let v6 := byteAt f l3 / 16 == 6
  let f := if l3 = 255 then f
    else if v6 then patch f (l3 + 4) (beBytes 2 (f.length - l3 - 40))
    else
      let f := patch (patch f (l3 + 2) (beBytes 2 (f.length - l3))) (l3 + 10) [0, 0]
      patch f (l3 + 10) (beBytes 2 (inetCsum (slice f l3 (4 * (byteAt f l3 % 16)))))
  let f := if l4 = 255 then f
    else
      let f := patch (patch f (l4 + 4) (beBytes 2 (f.length - l4))) (l4 + 6) [0, 0]
      if l3 ≠ 255 ∧ v6 = true then
        let ps := slice f (l3 + 8) 32 ++ beBytes 4 (f.length - l4) ++ [0, 0, 0, b8 17]
        let k := inetCsum (ps ++ f.drop l4)
        patch f (l4 + 6) (beBytes 2 (if k = 0 then 65535 else k))
      else f
  padTo f 60 0

/-- A send of an image has been made: CHANGED and WAITING are cleared, MDT starts, the sends are counted (R275, R291). -/
def sendMade (b i : Nat) (s : State) : State :=
  let w := setBit (setBit (setBit (rd s (imgState i)) 31 false) 30 false) 29 (decide (0 < nbits (imgW s b i 4) 31 16))
  wr (imgState i + 4) (rd s (imgState i + 4) + 1) (wr (imgState i) w s)

/-- Send a container that holds at least one message (R286, R287). -/
def containerSend (b i : Nat) (s : State) : State :=
  let c := contOf s i
  if c.msgs = [] then s
  else
    let w0 := imgW s b i 0
    let f := contFrame s b i
    let s := setCont i { msgs := [], seq := (c.seq + 1) % (if nbits (imgW s b i 6) 31 30 = 0 then 2 ^ 8 else 2 ^ 16) } s
    let s := bump (srtCtr 13) (sendMade b i s)
    deliver b (nbits w0 18 0) (nbits w0 25 23)
      { kind := nbits (imgW s b i 2) 23 21, ext := nbits (imgW s b i 2) 31 24, id := imgW s b i 1, fmt := nbits w0 27 26,
        data := f, ts := tsNow s } (some i) s

/-- Place a message in container i (R287). -/
def containerPlace (b i : Nat) (o : OutFrame) (s : State) : State :=
  let w6 := imgW s b i 6
  let mtv := nbit w6 29
  match (if nbits w6 31 30 = 0 then acfMsg o mtv else if o.rtr then none else some (mehryrMsg o (if mtv then some o.ts else none))) with
  | none => formatDrop s
  | some m =>
    let cap := imgLen s b i - nbits w6 23 16
    if cap < m.length then bump (srtCtr 14) s
    else
      let s := if cap < (contOf s i).msgs.flatten.length + m.length then containerSend b i s else s
      let c := contOf s i
      let s := setCont i { c with msgs := c.msgs ++ [m], flush := c.flush || decide (0 < nbits w6 15 0) } s
      if imgMode s b i = 2 ∨ imgMode s b i = 3 then
        if bit (rd s (imgState i)) 29 then wrB (imgState i) 30 true s else containerSend b i s
      else s

/-! ### Images (R269, R273 to R279) -/

/-- The descriptors of bank b whose target update bit lies in image i: their DUPD positions (R269). -/
def imgUpdBits (s : State) (b i : Nat) : List Nat :=
  (tblRange s.regs (bankBase b + 0x00600000) (bankBase b + 0x00E00000)).filterMap (fun e =>
    if e.1 % 16 = 12 ∧ bit e.2 16 = true ∧ fld (rd s (e.1 - 4)) 31 16 = i then some (fld e.2 15 2) else none)

/-- Set bit p of image bytes at pool offset base. -/
def setImgBit (base p : Nat) (v : Bool) (s : State) : State :=
  setPoolByte (base + p / 8) (b8 (nsetBit (poolByte s (base + p / 8)).toNat (p % 8) v)) s

/-- Take an image for a send: its content, with its target update bits then cleared in the live content (R269). -/
def imgTake (b i : Nat) (s : State) : List Byte × State :=
  let base := imgBase s b i
  (poolBytes s base (imgLen s b i), (imgUpdBits s b i).foldl (fun s p => setImgBit base p false s) s)

/-- A send from image i (R261, R275, R277, R279, R363): through Glaze where AUTH_EN is 1, then into its container or to
its destination. A container image is sent if it holds a message. -/
def imageSend (b i : Nat) (s : State) : State :=
  let w0 := imgW s b i 0
  if !nbit w0 31 then s
  else if nbit w0 30 then containerSend b i s
  else
    let kind := nbits (imgW s b i 2) 23 21
    let id := imgW s b i 1
    let (raw, s) := imgTake b i s
    let s := sendMade b i s
    let body := if kind = 1 then raw.drop 8 else raw
    let af := if kind = 1 then beAt raw 4 4 else 0
    let (s, sec, out) := if nbit w0 22 then
        let p := nbits (imgW s b i 3) 23 12
        let (s, r) := glzGenerate p (idvOf kind id) (kind == 1) af body s
        (s, kind == 1, r)
      else (s, false, some body)
    match out with
    | none => s
    | some d =>
      let o : OutFrame :=
        { kind := kind, ext := nbits (imgW s b i 2) 31 24, id := id, fmt := nbits w0 27 26, data := d,
          sdt := if kind = 1 then byteAt raw 0 else 0, af := af, sec := sec, ts := tsNow s }
      if nbit w0 21 then containerPlace b (nbits (imgW s b i 5) 15 0) o s
      else deliver b (nbits w0 18 0) (nbits w0 25 23) o (some i) s

/-- A write has triggered image i: it is CHANGED and, in ON_CHANGE and MIXED, sent or kept waiting for MDT (R270, R275). -/
def imageChanged (b i : Nat) (s : State) : State :=
  let s := wrB (imgState i) 31 true s
  if imgMode s b i = 2 ∨ imgMode s b i = 3 then
    if bit (rd s (imgState i)) 29 then wrB (imgState i) 30 true s else imageSend b i s
  else s

/-- A request for a send of image i (R279): in any MODE, ignoring MDT. -/
def imageRequest (i : Nat) (s : State) : State :=
  match activeBank s 20 with
  | some b => imageSend b i s
  | none => s

/-- The images of bank b in use, ascending: those whose control word 0 has VALID. -/
def imgsInUse (s : State) (b : Nat) : List Nat :=
  (tblRange s.regs (bankBase b + 0x01000000) (bankBase b + 0x01200000)).filterMap (fun e =>
    if e.1 % 32 = 0 ∧ bit e.2 31 = true then some ((e.1 - bankBase b - 0x01000000) / 32) else none)

/-- Cone c has fired for the k-th time since it was armed (counting from 0): its due images are sent in ascending index (R275, R276). -/
def conePdus (c k : Nat) (s : State) : State :=
  match activeBank s 20 with
  | none => s
  | some b =>
    (imgsInUse s b).foldl (fun s i =>
      let w4 := imgW s b i 4
      if (imgMode s b i = 1 ∨ imgMode s b i = 3) ∧ nbits w4 15 9 = c
          ∧ k % (nbits w4 7 0 + 1) = nbits (imgW s b i 5) 31 24 then imageSend b i s else s) s

/-! ### Signal moves (R266 to R270) -/

/-- Bit p of a PDU (R266). -/
def sigBit (d : List Byte) (p : Nat) : Bool := nbit (byteAt d (p / 8)) (p % 8)

/-- The bit positions of a signal, in the order of the walk of R266. -/
def sigWalk : Nat → Nat → Bool → List Nat
  | 0, _, _ => []
  | n + 1, p, be => p :: sigWalk n (if be then (if p % 8 = 0 then p + 15 else p - 1) else p + 1) be

/-- The number that bits spell, the first the most significant. -/
def bitsBe : List Bool → Nat
  | [] => 0
  | b :: t => b2n b * 2 ^ t.length + bitsBe t

/-- The value of a signal (R266). -/
def sigExtract (d : List Byte) (pos len : Nat) (be : Bool) : Nat :=
  let bs := (sigWalk len pos be).map (sigBit d)
  bitsBe (if be then bs else bs.reverse)

/-- Every bit of a signal lies within a PDU of n bytes. -/
def sigInside (n pos len : Nat) (be : Bool) : Bool := (sigWalk len pos be).all (fun p => decide (p / 8 < n))

/-- Write a signal's value into image bytes at pool offset base, along the same walk. -/
def sigDeposit (base pos len : Nat) (be : Bool) (v : Nat) (s : State) : State :=
  let ps := sigWalk len pos be
  (List.zip (List.range len) ps).foldl (fun s e =>
    setImgBit base e.2 (nbit v (if be then len - 1 - e.1 else e.1)) s) s

/-- Divide by 2^n, toward zero or to nearest with ties away from zero (R268). -/
def shiftRound (v : Int) (n : Nat) (nearest : Bool) : Int :=
  if nearest ∧ 0 < n then v.sign * ((v.natAbs + 2 ^ (n - 1)) / 2 ^ n : Nat) else v.tdiv (2 ^ n : Nat)

/-- The target value of a move (R268): none where it is skipped; with the counters it adds to (range, invalid, saturated). -/
def moveValue (src : Nat) (slen : Nat) (ssigned : Bool) (conv : Nat) (rng inv : Bool) (dlen : Nat) (dsigned : Bool)
    (vp : Nat → Nat) : Option Nat × Bool × Bool × Bool :=
  let ctl := vp 7
  if inv && src == vp 4 % 2 ^ slen then (some (vp 5 % 2 ^ dlen), false, true, false)
  else
    let x : Int := if ssigned then signed slen src else src
    let mn : Int := if ssigned then signed 32 (vp 2) else vp 2
    let mx : Int := if ssigned then signed 32 (vp 3) else vp 3
    let out := rng && (decide (x < mn) || decide (mx < x))
    let act := nbits ctl 7 6
    if out && act == 0 then (none, true, false, false)
    else if out && act == 1 then (some (vp 5 % 2 ^ dlen), true, false, false)
    else
      let x := if out then (if x < mn then mn else mx) else x
      let y : Int := if conv = 1 then shiftRound (x * signed 32 (vp 0)) (nbits ctl 4 0) (nbit ctl 5) + signed 32 (vp 1) else x
      let lo : Int := if dsigned then -(2 ^ (dlen - 1) : Nat) else 0
      let hi : Int := if dsigned then (2 ^ (dlen - 1) : Nat) - 1 else (2 ^ dlen : Nat) - 1
      let z := clampI lo hi y
      (some (unsigned dlen z), out, false, z != y)

/-- Write a target value and set the target update bit (R269): whether the write triggers the image (R270). -/
def moveWrite (b d : Nat) (pos len : Nat) (be : Bool) (v : Nat) (s : State) : State × Bool :=
  let w0 := bw s b (oDesc d) 0
  let w3 := bw s b (oDesc d) 3
  let i := nbits (bw s b (oDesc d) 2) 31 16
  let base := imgBase s b i
  let old := sigExtract (poolBytes s base (imgLen s b i)) pos len be
  let s := sigDeposit base pos len be v s
  let s := if nbit w3 16 then setImgBit base (nbits w3 15 2) true s else s
  (s, nbits w0 7 6 == 1 || (nbits w0 7 6 == 2 && old != v))

/-- One signal move of bank b's descriptor d from a PDU (R266 to R270): the image it triggers, if any. -/
def signalMove (b d : Nat) (pdu : List Byte) (s : State) : State × Option Nat :=
  let (ecc, s) := srtEcc (bankBase b + oDesc d) 16 s
  let w0 := bw s b (oDesc d) 0
  let w1 := bw s b (oDesc d) 1
  let w2 := bw s b (oDesc d) 2
  let w3 := bw s b (oDesc d) 3
  let conv := nbits w0 9 8
  let spos := nbits w0 31 18
  let sl := nbits w0 17 12 + 1
  let i := nbits w2 31 16
  if ecc then (s, none)
  else if nbit w3 31 && !decide (nbits w3 30 17 / 8 < pdu.length) then (bump (srtCtr 8) s, none)
  else if nbit w3 31 && !sigBit pdu (nbits w3 30 17) then (s, none)
  else if conv = 2 then
    if pdu.length < spos / 8 + sl then (bump (srtCtr 8) s, none)
    else
      let (s, t) := moveWrite b d (nbits w1 31 18) (8 * sl) false (leNat (slice pdu (spos / 8) sl)) s
      (bump (srtCtr 7) s, if t then some i else none)
  else if !sigInside pdu.length spos sl (nbit w0 11) then (bump (srtCtr 8) s, none)
  else
    let dl := nbits w1 17 12 + 1
    let r := moveValue (sigExtract pdu spos sl (nbit w0 11)) sl (nbit w0 10) conv (nbit w0 5) (nbit w0 4) dl (nbit w1 10)
      (fun k => bw s b (oVprof (nbits w2 15 0)) k)
    let s := if r.2.1 then bump (srtCtr 9) s else s
    let s := if r.2.2.1 then bump (srtCtr 10) s else s
    let s := if r.2.2.2 then bump (srtCtr 11) s else s
    match r.1 with
    | none => (s, none)
    | some v =>
      let (s, t) := moveWrite b d (nbits w1 31 18) dl (nbit w1 11) v s
      (bump (srtCtr 7) s, if t then some i else none)

/-- The moves of n descriptors from d upward (R259 step 4): the images they trigger. -/
def signalMoves (b : Nat) (pdu : List Byte) : Nat → Nat → State → State × List Nat
  | 0, _, s => (s, [])
  | n + 1, d, s =>
    let (s, t) := signalMove b d pdu s
    let (s, l) := signalMoves b pdu n (d + 1) s
    (s, t.toList ++ l)

/-- The default write of a descriptor at its route's timeout (R268, R281): the image it triggers. -/
def defaultMove (b d : Nat) (s : State) : State × Option Nat :=
  let w0 := bw s b (oDesc d) 0
  let w1 := bw s b (oDesc d) 1
  let w2 := bw s b (oDesc d) 2
  let i := nbits w2 31 16
  if !nbit w0 3 then (s, none)
  else
    let def6 := bw s b (oVprof (nbits w2 15 0)) 6
    let dl := nbits w1 17 12 + 1
    let (s, t) := if nbits w0 9 8 = 2 then
        moveWrite b d (nbits w1 31 18) (8 * dl) false (leNat (beBytes dl def6)) s
      else moveWrite b d (nbits w1 31 18) dl (nbit w1 11) (def6 % 2 ^ dl) s
    (s, if t then some i else none)

/-- The default writes of n descriptors from d upward. -/
def defaultMoves (b : Nat) : Nat → Nat → State → State × List Nat
  | 0, _, s => (s, [])
  | n + 1, d, s =>
    let (s, t) := defaultMove b d s
    let (s, l) := defaultMoves b n (d + 1) s
    (s, t.toList ++ l)

/-- The sends on change that moves have made due, in ascending image index, each image once (R259). -/
def triggeredSends (b : Nat) (l : List Nat) (s : State) : State :=
  ((imgsInUse s b).filter (fun i => l.contains i)).foldl (fun s i => imageChanged b i s) s

/-! ### Route timers (R281) -/

/-- Start or restart a route's timer with a time in µs. -/
def timerStart (r us : Nat) (s : State) : State :=
  { s with srt := { s.srt with timers := tblSet s.srt.timers r (s.now + usT us) } }

/-- The routes of a bank in use, with their timeout profile. -/
def routesTimed (s : State) (b : Nat) : List (Nat × Nat) :=
  (tblRange s.regs (bankBase b + 0x00200000) (bankBase b + 0x00600000)).filterMap (fun e =>
    if e.1 % 16 = 0 ∧ bit e.2 31 = true ∧ fld (rd s (e.1 + 8)) 23 19 ≠ 0 then
      some ((e.1 - bankBase b - 0x00200000) / 16, fld (rd s (e.1 + 8)) 23 19) else none)

/-- A bank of region 20 becomes active: the timer of each of its routes starts, with FIRST (R281). -/
def timersActivate (b : Nat) (s : State) : State :=
  (routesTimed s b).foldl (fun s e =>
    let first := nbits (bw s b (oTo e.2) 1) 23 0
    timerStart e.1 (if first = 0 then nbits (bw s b (oTo e.2) 0) 23 0 else first) s) { s with srt := { s.srt with reached := [] } }

/-- An image is unchanged between two banks (R274). -/
def imgUnchanged (s : State) (b i : Nat) : Bool :=
  let o := 1 - b
  nbit (imgW s o i 0) 31 && imgLen s b i == imgLen s o i && imgMode s b i == imgMode s o i
    && nbits (imgW s b i 4) 15 9 == nbits (imgW s o i 4) 15 9 && nbits (imgW s b i 4) 7 0 == nbits (imgW s o i 4) 7 0
    && imgBase s b i == imgBase s o i

/-- Word-wise copy of an image's initial content of bank b into the live pool. -/
def imgInit (b i : Nat) (s : State) : State :=
  let base := imgBase s b i
  let n := (imgLen s b i + 3) / 4
  let last := (imgLen s b i) % 4
  let s := forN n 0 (fun k s =>
    let v := rd s (bankBase b + 0x01400000 + base + 4 * k)
    if k + 1 = n ∧ last ≠ 0 then
      wr (0x0E000000 + base + 4 * k) (mergeMask (rd s (0x0E000000 + base + 4 * k)) (fmask (8 * last - 1) 0) v) s
    else wr (0x0E000000 + base + 4 * k) v s) s
  wrF (imgState i) 31 29 0 s

/-- At the boundary every new or changed image starts from its initial content (R62, R274); first says no bank was active. -/
def imagesActivate (b : Nat) (first : Bool) (s : State) : State :=
  (imgsInUse s b).foldl (fun s i => if !first && imgUnchanged s b i then s else imgInit b i s) s

end Sys2Proof.Machine
end

