-- ==== Sys2Proof/Machine/FxpEngine.lean ====
section
/-! DEFINITION. Sys2Proof/Machine/FxpEngine.lean: the flexport engines' operations (R92 to R155): configuration limits,
starting and stopping, the CANX operating states and error counters, the pending slot, LIN slots, lock groups. -/

namespace Sys2Proof.Machine
open Sys2Proof

/-- A timestamp of an instant that lies age ns before now: 0 before initialisation (R80). -/
def stampAgo (s : State) (age : Nat) : Nat := if wtValid s then ts64 (s.tim.wt - age * 2 ^ 32) else 0

/-! ### Configuration limits of the personalities (R96) -/

/-- One CANX phase breaks a limit of R108: BRP, TSEG1, TSEG2, SJW; least quanta, least bit time. -/
def phaseBad (brp t1 t2 sjw quanta bitTime : Nat) : Bool :=
  decide (1 + t1 + t2 < quanta) || decide (t1 < sjw) || decide (t2 < sjw) || decide (brp * (1 + t1 + t2) < bitTime)

/-- A CANX configuration breaks a limit (R108). -/
def canxBad (s : State) (n : Nat) : Bool :=
  let m := rd s (persReg s n 0x100)
  let nbt := rd s (persReg s n 0x104)
  let d := rd s (persReg s n 0x108)
  let x := rd s (persReg s n 0x10C)
  let p := rd s (persReg s n 0x110)
  let xl := (fld x 28 24 + 1) * (fld x 22 16 + fld x 13 8 + 3)
  phaseBad (fld nbt 31 24 + 1) (fld nbt 23 16 + 1) (fld nbt 14 8 + 1) (fld nbt 6 0 + 1) 8 160 || fld nbt 23 16 == 0
    || (bit m 31 && phaseBad (fld d 28 24 + 1) (fld d 22 16 + 1) (fld d 13 8 + 1) (fld d 5 0 + 1) 5 20)
    || (bit m 30 && phaseBad (fld x 28 24 + 1) (fld x 22 16 + 1) (fld x 13 8 + 1) (fld x 5 0 + 1) 5 (if bit m 29 then 8 else 16))
    || (bit m 29 && (fld p 5 0 == 0 || decide (fld p 21 16 ≤ fld p 5 0) || fld p 5 0 + fld p 21 16 != xl
        || decide (fld p 5 0 + fld p 21 16 ≤ fld p 29 24) || !bit m 30 || !bit m 28))
    || (bit m 26 && bit m 25) || fld m 23 22 == 3 || fld m 21 20 == 3

/-- LIN: entry i of flexport n. -/
def linEnt (s : State) (n i : Nat) : Word := rd s (persReg s n (0x200 + 4 * i))

/-- LIN: first entry of table t. -/
def linBase (s : State) (n t : Nat) : Nat :=
  let w := rd s (persReg s n (0x10C + 4 * (t / 4 % 2)))
  fld w (8 * (t % 4) + 5) (8 * (t % 4))

/-- LIN: nominal frame time of an entry in bits: break, delimiter, sync, identifier, data and checksum (R126). -/
def linFrameBits (cfg e : Word) : Nat := fld cfg 27 23 + fld cfg 22 21 + 1 + 20 + 10 * (fld e 8 6 + 2)

/-- LIN: some slot is shorter than 1.4 times its frame, a table has no END, or a responder lists an identifier twice (R126). -/
def linTablesBad (s : State) (n : Nat) : Bool :=
  let cfg := rd s (persReg s n 0x100)
  let es := (List.range 64).map (fun i => linEnt s n i)
  if bit cfg 31 then
    es.any (fun e => fld e 14 12 != 0 &&
      decide (5 * (fld e 31 19 * 16000) < 7 * (linFrameBits cfg e * fld cfg 17 0)))
      || (List.range 8).any (fun t => !(es.drop (linBase s n t)).any (fun e => bit e 15))
  else
    let ids := (es.filter (fun e => fld e 14 12 != 0)).map (fun e => fld e 5 0)
    ids.any (fun i => decide (1 < ids.count i))

/-- LIN: a configuration breaks a limit (R125, R126). -/
def linBad (s : State) (n : Nat) : Bool :=
  let cfg := rd s (persReg s n 0x100)
  let tm := rd s (persReg s n 0x104)
  decide (fld cfg 17 0 < 8000) || decide (160000 < fld cfg 17 0) || decide (fld cfg 27 23 < 13) || decide (26 < fld cfg 27 23)
    || decide (fld tm 31 16 < 250) || decide (5000 < fld tm 31 16) || decide (fld tm 15 0 < 4000) || decide (10000 < fld tm 15 0)
    || linTablesBad s n

/-- SPIC: port n + 1, whose pins BORROW lends, lies in the same cluster, is OFF and not enabled (R144). -/
def borrowBad (s : State) (n : Nat) : Bool :=
  n % 8 == 7 || persOf s (n + 1) != 0 || bit (rd s (fxpBase (n + 1))) 31

/-- The pins of port n are lent to port n - 1 (R144). -/
def lent (s : State) (n : Nat) : Bool :=
  n % 8 != 0 && persOf s (n - 1) == 5 && bit (rd s (persReg s (n - 1) 0x100)) 28

/-- The configuration of flexport n breaks a limit of its personality (R96). -/
def persBad (s : State) (n : Nat) : Bool :=
  match persOf s n with
  | 0 => false
  | 1 => canxBad s n
  | 2 => linBad s n
  | 3 =>
    let c := rd s (persReg s n 0x100)
    fld c 23 16 == 0 || decide (32 < fld c 23 16) || fld c 7 0 == 0 || fld (rd s (persReg s n 0x104)) 15 8 == 0
  | 4 =>
    let c := rd s (persReg s n 0x100)
    decide (fld c 15 0 < 480) || decide (14400 < fld c 15 0) || fld c 27 25 == 0 || fld c 27 25 == 7 || fld c 29 28 == 3
  | 5 =>
    let c := rd s (persReg s n 0x100)
    fld c 12 0 % 2 == 1 || decide (fld c 12 0 < 4) || decide (4096 < fld c 12 0) || decide (fld c 20 16 < 7)
      || (bit c 28 && borrowBad s n)
  | 6 => (List.range 4).any (fun c =>
      let d := fld (rd s (persReg s n (0x100 + 0x10 * c))) 31 30
      d == 3 || (d == 2 && decide (fld (rd s (persReg s n (0x104 + 0x10 * c))) 23 0 < 2)))
  | _ => true

/-- Region 0 enables flexport n: ENABLED of its unit descriptor (R20, R92). -/
def fxpPermitted (s : State) (n : Nat) : Bool := bit (rd s (0x8000 + 32 * (32 + n) + 0x10)) 0

/-! ### CANX operating states and error counters (R112, R115 to R122) -/

/-- TEC of a CANX port. -/
def tecOf (s : State) (n : Nat) : Nat := fld (rd s (persReg s n 0x118)) 16 8

/-- REC of a CANX port. -/
def recOf (s : State) (n : Nat) : Nat := fld (rd s (persReg s n 0x118)) 7 0

/-- FREEZE of a CANX port. -/
def freezeOn (s : State) (n : Nat) : Bool := bit (rd s (persReg s n 0x11C)) 0

/-- Set OPSTATE. -/
def setOp (n st : Nat) (s : State) : State := wrF (persReg s n 0x118) 31 28 st s

/-- FPn_C by C_FUNC: high for standby under STB, low under EN (R112). -/
def canxPinC (n : Nat) (s : State) : State :=
  let m := rd s (persReg s n 0x100)
  let stby := bit (rd s (persReg s n 0x11C)) 2 || !running s n || (safeOn s && bit m 19)
  match fld m 21 20 with
  | 0 => emit (.fieldPin n 2 stby) s
  | 1 => emit (.fieldPin n 2 (!stby)) s
  | _ => s

/-- The port enters FROZEN: the pending frame returns to its queue, TEC and REC stay (R119). -/
def canxFrozen (n : Nat) (s : State) : State := setOp n 5 (requeuePending n s)

/-- The port enters INTEGRATING, or FROZEN at once while FREEZE is 1 (R115, R119). -/
def canxIntegrate (n : Nat) (s : State) : State := if freezeOn s n then canxFrozen n s else setOp n 1 s

/-- A frame of a port that takes part in its bus has ended: with FREEZE = 1 the port enters FROZEN (R119). -/
def canxFrameEnd (n : Nat) (s : State) : State :=
  if freezeOn s n && (opState s n == 2) then canxFrozen n s else s

/-- The lock group that holds flexport n as a member. -/
def lgOf (s : State) (n : Nat) : Option Nat := (List.range 16).find? (fun g => lgMember s g n)

/-- Set TEC and REC (R116): ERRSTATE, ERR_WARNING, ERR_PASSIVE and, above 255, BUS_OFF with its recovery (R118). -/
def setErrCtrs (n tec rec : Nat) (s : State) : State :=
  let t0 := tecOf s n
  let r0 := recOf s n
  let t := min tec 511
  let r := min rec 255
  let off := decide (255 < t)
  let pas := decide (127 < t) || decide (127 < r)
  let pas0 := decide (127 < t0) || decide (127 < r0)
  let k := persReg s n 0x118
  let s := wrF k 16 8 t (wrF k 7 0 r (wrF k 27 26 (if off then 2 else if pas then 1 else 0) s))
  let warn := decide (96 ≤ t) || decide (96 ≤ r)
  let s := setLive (lfFxp n 8) warn (setLive (lfFxp n 9) (pas && !off) s)
  let s := if warn && decide (t0 < 96) && decide (r0 < 96) then raise (lfFxp n 8) s else s
  let s := if pas && !off && !pas0 then raise (lfFxp n 9) s else s
  if off then
    let s := raiseLive (lfFxp n 10) (setOp n 6 (requeuePending n s))
    let s := bump (persCtr s n 6) s
    setPort n { port s n with recovering := fld (rd s (persReg s n 0x100)) 23 22 == 0 } s
  else s

/-- Counter of a CANX error type, from +0x140 (R116). -/
def canErrCtr : CanErr → Nat
  | .bit1 => 0
  | .bit0 => 0
  | .stuff => 1
  | .form => 2
  | .crc => 3
  | .ack => 4

/-- LEC code of a CANX error type. -/
def canErrCode : CanErr → Nat
  | .stuff => 1
  | .form => 2
  | .ack => 3
  | .bit1 => 4
  | .bit0 => 5
  | .crc => 6

/-! ### The pending slot (R99 to R103) -/

/-- A pending frame is abandoned (R102). -/
def txAbandon (n : Nat) (s : State) : State :=
  let s := setPort n { port s n with pend := none, txing := false, grp := false, errs := 0 } s
  raise (lfFxp n 1) (bump (fxpCtr n 3) s)

/-- A transmit error of the pending frame: abandoned at RETRY_LIMIT, else it stays pending (R102). -/
def txError (n : Nat) (s : State) : State :=
  let lim := fld (rd s (fxpBase n + 0x30)) 7 0
  let e := (port s n).errs + 1
  if lim ≠ 0 ∧ lim ≤ e then txAbandon n s
  else setPort n { port s n with errs := e, txing := false, grp := false } s

/-- The highest non-empty queue of flexport n among those of a mask: its number and head. -/
def fxqHighest (s : State) (n : Nat) (take : Nat → Bool) : Option (Nat × FxpItem) :=
  ([7, 6, 5, 4, 3, 2, 1, 0].filter take).findSome? (fun q => (fxq s n q).head?.map (fun it => (q, it)))

/-- Take the head of queue q as the pending frame; another pending frame returns to its queue (R99, R151). -/
def takePending (n q : Nat) (it : FxpItem) (grp : Bool) (s : State) : State :=
  let s := requeuePending n s
  setPort n { port s n with pend := some (q, it), errs := it.errs, grp := grp } (setFxq n q ((fxq s n q).drop 1) s)

/-- The slot's part of a selection point (R99): take the highest waiting frame, or preempt the pending one by a higher queue. -/
def selectPending (n : Nat) (s : State) : State :=
  match fxqHighest s n (fun q => !held s n q), (port s n).pend with
  | some (q, it), none => takePending n q it false s
  | some (q, it), some (q0, _) => if q0 < q ∧ (port s n).grp = false then takePending n q it false s else s
  | none, _ => s

/-- SPIC: the pending frame names a chip select that exists and is a whole number of words, 1 to 256 bytes (R145). -/
def spicValid (s : State) (n : Nat) (f : FieldFrame) : Bool :=
  let c := rd s (persReg s n 0x100)
  let wb := (fld c 20 16 + 8) / 8
  let cs := f.id % 8
  (cs == 0 || (bit c 28 && decide (cs ≤ 4))) && decide (1 ≤ f.data.length) && decide (f.data.length ≤ 256)
    && f.data.length % wb == 0

/-- The pending frame's transmission starts. -/
def txStart (n : Nat) (s : State) : State :=
  match (port s n).pend with
  | some (_, it) =>
    if persOf s n == 5 && !spicValid s n it.frame then
      let s := raise (lfFxp n 8) (bump (persCtr s n 0) (setPort n { port s n with pend := none, txing := false, grp := false } s))
      match it.bridge with
      | some k => sensorFail k 4 s
      | none => s
    else emit (.fieldStart n it.frame) (setPort n { port s n with txing := true } s)
  | none => s

/-- The transmit timestamp of a success (R104). -/
def txStamp (n q ts : Nat) (s : State) : State :=
  wrWords (fxpBase n + 0x20) [w32 ts, w32 (ts / 2 ^ 32), w32 (2 ^ 31 + q % 8)] s

/-! ### Lock groups (R150 to R155) -/

/-- A lock group's release in progress. -/
def lgState (s : State) (g : Nat) : LockGrp := tblGet s.lockgrps g {}

/-- Set a lock group's release; ACTIVE follows it (R152). -/
def setLg (g : Nat) (v : LockGrp) (s : State) : State :=
  let v := if v.aligned = [] ∧ v.late = [] ∧ v.retryWait = [] then { v with ctrl := none } else v
  let s := { s with lockgrps := if v = {} then tblErase s.lockgrps g else tblSet s.lockgrps g v }
  wrB (lgKey g 0x14) 28 (v.aligned != [] || v.retryWait != []) s

/-- LG_CTRL that a release of group g in progress runs under (R150). -/
def lgCtl (s : State) (g : Nat) : Word := (lgState s g).ctrl.getD (rd s (lgKey g 0))

/-- An aligned member has finished, abandoned or lost its frame (R152). -/
def lgLeave (n : Nat) (s : State) : State :=
  (List.range 16).foldl (fun s g =>
    if (lgState s g).aligned.contains n then
      setLg g { lgState s g with aligned := (lgState s g).aligned.filter (· != n) } s else s) s

/-- One aborted member stops: its frame stays pending (R154). -/
def lgStop (n : Nat) (s : State) : State :=
  let s := if (port s n).txing then emit (.fieldStop n) s else s
  setPort n { port s n with txing := false } s

/-- An aligned member has lost arbitration or suffered a transmit error (R153, R154); kept says its frame stays pending. -/
def lgFail (n : Nat) (kept : Bool) (s : State) : State :=
  match (List.range 16).find? (fun g => (lgState s g).aligned.contains n) with
  | none => s
  | some g =>
    if bit (lgCtl s g) 30 then
      let v := lgState s g
      let others := v.aligned.filter (· != n)
      let s := others.foldl (fun s m => lgStop m s) s
      let wait := (if kept then n :: others else others)
      bump (lgKey g 0x28) (setLg g { v with aligned := [], retryWait := wait, atSel := [] } s)
    else lgLeave n s

/-- LIN: the oldest frame with an identifier, from queue 7 down among the queues of a mask (R128). -/
def linFind (s : State) (n id : Nat) (take : Nat → Bool) : Option (Nat × FxpItem) :=
  ([7, 6, 5, 4, 3, 2, 1, 0].filter take).findSome? (fun q =>
    ((fxq s n q).find? (fun it => it.frame.id == id)).map (fun it => (q, it)))

/-- LIN: take that frame out of its queue as the pending frame; the frames of other identifiers keep their places. -/
def linTake (n q id : Nat) (it : FxpItem) (grp : Bool) (s : State) : State :=
  let s := requeuePending n s
  let l := fxq s n q
  let i := l.findIdx (fun x => x.frame.id == id)
  setPort n { port s n with pend := some (q, it), errs := it.errs, grp := grp } (setFxq n q (l.eraseIdx i) s)

/-- LIN: the pending frame is sent as the response of its identifier (R128). -/
def linRespond (n : Nat) (s : State) : State :=
  match (port s n).pend with
  | some (_, it) =>
    let p := port s n
    emit (.fieldStart n it.frame) (setPort n { p with txing := true, linLast := tblSet p.linLast it.frame.id it.frame.data } s)
  | none => s

/-- A generate channel applies its latched setting and starts a period (R148, R152). -/
def pwmStart (n c : Nat) (s : State) : State :=
  let p := port s n
  let v := (p.pwmNext.getD c none).getD (p.pwmCur.getD c (0, 0))
  emit (.pwmSet n c v.1 v.2) (setPort n { p with pwmCur := setAt p.pwmCur c v, pwmNext := setAt p.pwmNext c none } s)

/-- A PWMX member takes every frame of its held queues and restarts its periods (R148, R152). -/
def pwmRelease (n mask : Nat) (s : State) : State :=
  let s := [7, 6, 5, 4, 3, 2, 1, 0].foldl (fun s q =>
    if nbit mask q then (fxq s n q).foldl (fun s it => pwmTake n it s) (setFxq n q [] s) else s) s
  forN 4 0 (fun c s => if pwmGen s n c then pwmStart n c s else s) s

/-- A member that stands at a selection point starts its group frame (R151, R152). -/
def lgStart (n : Nat) (s : State) : State :=
  if persOf s n = 2 then
    match (port s n).pend with
    | some (_, it) => linRespond n (emit (.linHeader n it.frame.id) s)
    | none => s
  else txStart n s

/-- A member may take part in a release now. -/
def lgCan (s : State) (n : Nat) : Bool :=
  (persOf s n == 2 && running s n && (port s n).linRun && !safeOn s && !(port s n).quiesce) || canTake s n

/-- One member's part of a release: the head of its highest held queue becomes pending; it starts now if it stands at a
selection point, else at its next one, counted in LG_LATE (R151, R152). -/
def lgMemberRelease (g mask n : Nat) (ready : List Nat) (s : State) : State :=
  if persOf s n = 6 then
    if running s n && !safeOn s then pwmRelease n mask s else s
  else
    match fxqHighest s n (nbit mask) with
    | none => s
    | some (q, it) =>
      if !lgCan s n then s
      else if ready.contains n && !(port s n).txing then
        let s := lgStart n (if persOf s n = 2 then linTake n q it.frame.id it true s else takePending n q it true s)
        if (port s n).txing then setLg g { lgState s g with aligned := (lgState s g).aligned ++ [n] } s else s
      else
        let s := bump (lgKey g 0x30) s
        setLg g { lgState s g with late := (lgState s g).late.filter (· != n) ++ [n] } s

/-- A release of group g (R151, R152, R155); ready names the ports that stand at a selection point. -/
def lgRelease (g : Nat) (ready : List Nat) (s : State) : State :=
  if !rdB s (lgKey g 0) 31 || s.cfg.planFirst then s
  else if (lgState s g).aligned != [] || (lgState s g).retryWait != [] then wrB (lgKey g 0x14) 31 true s
  else
    let mask := rdF s (lgKey g 0) 7 0
    let s := wrF (lgKey g 0x14) 3 0 0 (bump (lgKey g 0x20) s)
    ((List.range 128).filter (lgMember s g)).foldl (fun s n => lgMemberRelease g mask n ready s) s

/-- The group of a member whose late group frame waits for its next selection point. -/
def lgLateOf (s : State) (n : Nat) : Option Nat := (List.range 16).find? (fun g => (lgState s g).late.contains n)

/-- The group whose retry a member's frame waits for. -/
def lgRetryOf (s : State) (n : Nat) : Option Nat := (List.range 16).find? (fun g => (lgState s g).retryWait.contains n)

/-- A late member's group frame becomes pending at its selection point (R151, R152). -/
def lgLateTake (g n : Nat) (s : State) : State :=
  let s := setLg g { lgState s g with late := (lgState s g).late.filter (· != n) } s
  match fxqHighest s n (nbit (fld (lgCtl s g) 7 0)) with
  | some (q, it) => takePending n q it true s
  | none => s

/-- A selection point of flexport n (R99, R152, R154): the slot is filled and the pending frame starts. -/
def selectionPoint (n : Nat) (s : State) : State :=
  if !canTake s n || (port s n).txing then s
  else
    match lgRetryOf s n with
    | some g =>
      let v := lgState s g
      setLg g { v with atSel := v.atSel.filter (· != n) ++ [n] } s
    | none =>
      match lgLateOf s n with
      | some g => txStart n (lgLateTake g n s)
      | none => txStart n (selectPending n s)

/-! ### Starting and stopping an engine (R58, R96, R103) -/

/-- LIN: the port is in bus sleep: LIVE of BUS_SLEEP. -/
def linAsleep (s : State) (n : Nat) : Bool := leafBit s (lfFxp n 13) 1

/-- LIN: the port enters bus sleep (R132). -/
def linSleepNow (n : Nat) (s : State) : State :=
  let s := setPort n { port s n with linRun := false, linSleepReq := false, linHdr := none } s
  emit (.fieldPin n 2 false) (raiseLive (lfFxp n 13) s)

/-- LIN: the port leaves bus sleep; a commander restarts its schedule 100 ms later (R132). -/
def linWakeNow (n : Nat) (s : State) : State :=
  let cmdr := bit (rd s (persReg s n 0x100)) 31
  let s := emit (.fieldPin n 2 true) (setLive (lfFxp n 13) false s)
  setPort n { port s n with linRestart := cmdr, linRun := false } s

/-- The engine of flexport n starts under its personality (R96, R115). -/
def engineStart (n : Nat) (s : State) : State :=
  let s := setPort n { port s n with quiesce := false, disabling := false, recovering := false, txing := false, grp := false } s
  let s := wrB (fxpBase n + 4) 31 (persOf s n != 0) s
  match persOf s n with
  | 1 =>
    let s := setLive (lfFxp n 8) false (setLive (lfFxp n 9) false (setLive (lfFxp n 10) false s))
    let k := persReg s n 0x118
    canxPinC n (canxIntegrate n (wrF k 16 0 0 (wrF k 27 26 0 s)))
  | 2 =>
    let cmdr := bit (rd s (persReg s n 0x100)) 31
    let k := persReg s n 0x108
    let act := fld (rd s k) 2 0
    emit (.fieldPin n 2 true) (setLive (lfFxp n 13) false
      (setPort n { port s n with linLast := [], linRun := cmdr, linSlot := linBase s n act, linRet := none, linReq := none,
                                 linSleepReq := false, linRestart := false, linHdr := none } s))
  | 3 =>
    let c := rd s (persReg s n 0x100)
    let coord := bit c 31 && fld c 28 24 == 0
    let s := wrB (persReg s n 0x108) 31 coord s
    emit (.fieldPin n 3 false) (setLive (lfFxp n 8) (bit c 31 && !coord) (setPort n { port s n with backoff := 0 } s))
  | 4 => setLive (lfFxp n 10) true (setPort n { port s n with cal := 0, sentWait := none, slow := [] } s)
  | 6 => forN 4 0 (fun c s =>
      if pwmGen s n c then
        let v := (fld (rd s (persReg s n (0x104 + 0x10 * c))) 23 0, fld (rd s (persReg s n (0x108 + 0x10 * c))) 23 0)
        emit (.pwmSet n c v.1 v.2) (setPort n { port s n with pwmCur := setAt (port s n).pwmCur c v,
                                                              pwmNext := setAt (port s n).pwmNext c none } s)
      else s) (setPort n { port s n with pwmCnt := [0, 0, 0, 0] } s)
  | _ => s

/-- The engine of flexport n stops: cut says it was still busy and its partial frame is lost (R58, R96, R103). -/
def engineStop (n : Nat) (cut : Bool) (s : State) : State :=
  let s := if cut then raise (lfFxp n 3) (bump (fxpCtr n 4) s) else s
  let s := lgLeave n (requeuePending n s)
  let s := setPort n { port s n with quiesce := false, disabling := false, recovering := false, linRun := false, linHdr := none } s
  let s := wrB (fxpBase n + 4) 31 false s
  match persOf s n with
  | 1 => canxPinC n (emit (.fieldPin n 0 true) (setLive (lfFxp n 10) false (setOp n 0 s)))
  | 2 => emit (.fieldPin n 2 false) (emit (.fieldPin n 0 true) s)
  | 3 => emit (.fieldPin n 3 true) s
  | _ => s

/-- An enabling write's effect with the configuration held (R92, R96, R144). -/
def engineEnable (n : Nat) (s : State) : State :=
  if !fxpPermitted s n then s
  else if persBad s n || lent s n then raiseLive (lfFxp n 2) s
  else engineStart n (setLive (lfFxp n 2) false (wrB (fxpBase n) 31 true s))

/-- The safe state ends for flexport n: a commander restarts its active table, PWMX outputs return (R149). -/
def engineSafeEnd (n : Nat) (s : State) : State :=
  if !running s n then s
  else
    match persOf s n with
    | 1 => canxPinC n s
    | 2 =>
      let run := bit (rd s (persReg s n 0x100)) 31 && !linAsleep s n
      setPort n { port s n with linRun := run, linSlot := linBase s n (fld (rd s (persReg s n 0x108)) 2 0), linRet := none } s
    | 6 => forN 4 0 (fun c s => if pwmGen s n c then pwmStart n c s else s) s
    | _ => s

end Sys2Proof.Machine
end

