-- ==== Sys2Proof/Machine/Pins.lean ====
section
/-! DEFINITION. Sys2Proof/Machine/Pins.lean: PIO pins: who may drive one and how requests are arbitrated (R292 to R294). -/

namespace Sys2Proof.Machine
open Sys2Proof

/-- Offset o of PIO pin p's registers. -/
def pioKey (p o : Nat) : Nat := 0x00381000 + 0x40 * p + o

/-- A pin's state beyond its registers. -/
def pinOf (s : State) (p : Nat) : PioPin := tblGet s.rfx.pins p {}

/-- Set a pin's state. -/
def setPin (p : Nat) (v : PioPin) (s : State) : State :=
  { s with rfx := { s.rfx with pins := if v = {} then tblErase s.rfx.pins p else tblSet s.rfx.pins p v } }

/-- Driven level of a pin: PIO_STATE [30]. -/
def drivenLevel (s : State) (p : Nat) : Bool := rdB s (pioKey p 8) 30

/-- The owner of a pin admits a driver (R293): 0 host or Kiln, 1 Cone, 2 reflex, 3 MAC. -/
def ownerAdmits (owner drv : Nat) : Bool :=
  match owner, drv with
  | 0, 0 => true
  | 1, 1 => true
  | 2, 2 => true
  | 3, d => decide (d ≤ 2)
  | 4, 3 => true
  | _, _ => false

/-- A request that is discarded (R293, R294). -/
def pinConflict (p : Nat) (s : State) : State := raise (lfRfx 0) (bump (pioKey p 0x28) s)

/-- A reflex pulse, generator or FOLLOW rule controls the pin (R294, R302). -/
def reflexBusy (s : State) (p : Nat) : Bool :=
  (pinOf s p).pulse.isSome || (pinOf s p).pwm.isSome || s.rfx.follow.contains p

/-- The pin takes a level from a driver. -/
def drivePin (drv p : Nat) (level : Bool) (s : State) : State :=
  if rdB s (pioKey p 0) 31 then
    let s := wrF (pioKey p 8) 29 28 (if drv = 3 then 3 else drv) (wrB (pioKey p 8) 30 level s)
    emit (.pio p level) s
  else s

/-- A driver requests a level of a pin (R293, R294). -/
def pinRequest (drv p : Nat) (level : Bool) (s : State) : State :=
  if !ownerAdmits (rdF s (pioKey p 0) 30 28) drv then pinConflict p s
  else if drv ≠ 2 ∧ reflexBusy s p = true then pinConflict p s
  else drivePin drv p level s

end Sys2Proof.Machine
end

