-- ==== Sys2Proof/Machine/MacOps.lean ====
section
/-! DEFINITION. Sys2Proof/Machine/MacOps.lean: the Ethernet MACs' operations shared with other blocks: link state, speed,
PFC frames (R168, R169) and TC10 (R178, R179). -/

namespace Sys2Proof.Machine
open Sys2Proof

/-- TC10 is in use on a port. -/
def tc10On (s : State) (n : Nat) : Bool := rdB s (macBase n + 0x90) 31

/-- Assert or deassert a port's SLEEP_PIO (R178, R293). -/
def sleepPio (n : Nat) (v : Bool) (s : State) : State :=
  let w := rd s (macBase n + 0x90)
  pinRequest 3 (fld w 29 24) (v == bit w 23) s

/-- A write of 1 to TC10_CTRL.SLEEP (R178): no further frame starts, SLEEP_PIO is asserted. -/
def tc10Sleep (n : Nat) (s : State) : State :=
  if tc10On s n then sleepPio n true (setMac n { macOf s n with sleepReq := true } s) else s

/-- The port leaves TC10 sleep: SLEEP_PIO is deasserted (R179); LINK_DOWN is LIVE until the link is up. -/
def tc10Wake (n : Nat) (s : State) : State :=
  if tc10On s n then
    let down := rdB s (macStatus n) 15
    let s := wrB (macStatus n) 15 false (setMac n { macOf s n with sleepReq := false } s)
    let s := if down then setLive (lfMac n 0) true s else s
    sleepPio n false (setLive (lfMac n 6) false s)
  else s

end Sys2Proof.Machine
end

