-- ==== Sys2Proof/Machine/Nmw.lean ====
section
/-! DEFINITION. Sys2Proof/Machine/Nmw.lean: network clusters: ring messages, sleep commit, wake and validation (R407 to
R421), and the wake masks. -/

namespace Sys2Proof.Machine
open Sys2Proof

/-! ### Clusters -/

/-- Counter j of cluster c: 0 SLEEPS, 1 ABORTS, 2 FALSE_WAKES, 3 MEMBER_LOST, 4 SLEEP_FLUSH, 5 TOKEN_LOST. -/
def ncCtr (c j : Nat) : Nat := ncKey c 0x50 + 8 * j

/-- Set NC_STATUS.STATE. -/
def setNcState (c st : Nat) (s : State) : State := wrF (ncKey c 0x48) 31 29 st s

/-- NODE of cluster c. -/
def ncNode (s : State) (c : Nat) : Nat := fld (rd s (ncKey c 0)) 28 24

/-- The flexports that belong to cluster c. -/
def ncFxps (s : State) (c : Nat) : List Nat :=
  (List.range 128).filter (fun n => bit (rd s (ncKey c (0x10 + 4 * (n / 32)))) (n % 32))

/-- The Ethernet ports that belong to cluster c. -/
def ncEths (s : State) (c : Nat) : List Nat := (List.range 24).filter (fun n => bit (rd s (ncKey c 0x20)) n)

/-- The carriers of cluster c: GPN and ring image. -/
def ncCarriers (s : State) (c : Nat) : List (Nat × Nat) :=
  (List.range 8).filterMap (fun k =>
    let w := rd s (ncKey c (0x24 + 4 * k))
    if bit w 31 then some (fld w 23 16, fld w 15 0) else none)

/-- The enabled cluster of Ethernet port n. -/
def ncOfEth (s : State) (n : Nat) : Option Nat :=
  (List.range 16).find? (fun c => rdB s (ncKey c 0) 31 && bit (rd s (ncKey c 0x20)) n)

/-- The required set of cluster c (R411); NC_PRESENT shows it. -/
def ncRequired (s : State) (c : Nat) : Nat :=
  (List.range 32).foldl (fun m b => nsetBit m b (bit (rd s (ncKey c 4)) b && !nbit (ncOf s c).missing b)) 0

/-- NC_PRESENT and the LIVE bit of RING_MEMBER_LOST follow the missing set. -/
def ncPresent (c : Nat) (s : State) : State :=
  let s := wr (ncKey c 0x4C) (w32 (ncRequired s c)) s
  setLive (lfNmw 0) ((List.range 16).any (fun c => (ncOf s c).missing != 0)) s

/-- The next member of the required set above NODE, wrapping at 31. -/
def ncSuccessor (s : State) (c : Nat) : Nat :=
  let req := ncRequired s c
  let n := ncNode s c
  ((List.range 32).map (fun k => (n + 1 + k) % 32)).find? (fun m => nbit req m) |>.getD n

/-! ### Ring messages (R409, R410) -/

/-- One ring message on one carrier: on a flexport through its ring image, on Ethernet as a frame of GPN 153 in class 7. -/
def ringOn (car : Nat × Nat) (msg : List Byte) (s : State) : State :=
  if car.1 < 128 then
    match activeBank s 20 with
    | some b =>
      let off := if persOf s car.1 = 3 then 14 else 0
      imageRequest car.2 (setPoolBytes (imgBase s b car.2 + off) msg s)
    | none => s
  else if car.1 < 152 then
    let f := padTo ([b8 0x03, 0, b8 0x5A, b8 0x47, b8 0x38, b8 0x4E] ++ macSa s (car.1 - 128) ++ beBytes 2 0x88B7 ++ msg) 60 0
    let p : Pkt := { bytes := f, ingress := 153, cls := 7, ts := tsNow s, direct := some (car.1, 7) }
    ingArrive 153 p s
  else s

/-- The device originates a ring message on every carrier of cluster c: SEQ increments. -/
def ringSend (c ty dst consent : Nat) (s : State) : State :=
  let seq := (fld (rd s (ncKey c 0x48)) 7 0 + 1) % 256
  let msg := [b8 (ty * 32 + ncNode s c), b8 dst, b8 seq, b8 c] ++ beBytes 4 consent
  (ncCarriers s c).foldl (fun s car => ringOn car msg s) (wrF (ncKey c 0x48) 7 0 seq s)

/-- The CONSENT bits that the device sends: those of the last message received, its own bit replaced (R411). -/
def ncConsent (s : State) (c : Nat) : Nat := nsetBit (ncOf s c).consent (ncNode s c) (bit (rd s (ncKey c 0x44)) 0)

/-- Pass RING to the successor and await its ring message within T_TOKEN (R411). -/
def ringPass (c : Nat) (s : State) : State :=
  let d := ncSuccessor s c
  ringSend c 1 d (ncConsent s c) (setNc c { ncOf s c with await := if d = ncNode s c then none else some d } s)

/-- WAKE or ALIVE: the device's own consent bit only. -/
def ringOwn (c ty : Nat) (s : State) : State :=
  ringSend c ty 0 (nsetBit 0 (ncNode s c) (bit (rd s (ncKey c 0x44)) 0)) s

/-! ### Sleep and wake of member ports (R414, R416) -/

/-- A CANX port freezes (R119, R420). -/
def canxFreeze (n : Nat) (busy : Bool) (s : State) : State :=
  let s := wrB (persReg s n 0x11C) 0 true s
  if (opState s n == 2 && !busy && !(port s n).txing) || opState s n == 1 then canxFrozen n s else s

/-- FREEZE is written to 0: a frozen port integrates (R122). -/
def canxUnfreeze (n : Nat) (s : State) : State :=
  let s := wrB (persReg s n 0x11C) 0 false s
  if opState s n == 5 then setOp n 1 s else s

/-- The frames in a flexport's transmit queues are dropped; their number (R59, R414). -/
def fxqFlush (n : Nat) (s : State) : Nat × State :=
  let s := if (port s n).txing then s else requeuePending n s
  let k := ((List.range 8).map (fun q => (fxq s n q).length)).sum
  let sens := (List.range 8).flatMap (fun q => (fxq s n q).filterMap (·.bridge))
  (k, sens.foldl (fun s k => sensorFail k 3 s) (forN 8 0 (fun q s => setFxq n q [] s) s))

/-- One member port goes to sleep (R414). -/
def portSleep (n : Nat) (s : State) : State :=
  if n < 128 then
    match persOf s n with
    | 1 => canxFreeze n false s
    | 2 => if bit (rd s (persReg s n 0x100)) 31 && !linAsleep s n then
             setPort n { port s n with linSleepReq := true } s else s
    | 3 =>
      let s := wrB (fxpBase n + 4) 31 false (requeuePending n s)
      emit (.fieldPin n 3 true) { s with nmw := { s.nmw with t1sAsleep := s.nmw.t1sAsleep.filter (· != n) ++ [n] } }
    | _ => s
  else tc10Sleep (n - 128) s

/-- One member port leaves sleep; pulse says a sleeping LIN port sends a wake pulse (R416, R425). -/
def portWake (n : Nat) (pulse : Bool) (s : State) : State :=
  if n < 128 then
    match persOf s n with
    | 1 => canxUnfreeze n s
    | 2 =>
      if linAsleep s n then
        let s := linWakeNow n s
        if pulse then emit (.linWakePulse n (fld (rd s (persReg s n 0x104)) 31 16)) s else s
      else s
    | 3 =>
      if s.nmw.t1sAsleep.contains n then
        engineStart n { s with nmw := { s.nmw with t1sAsleep := s.nmw.t1sAsleep.filter (· != n) } }
      else s
    | _ => s
  else if bit (rd s (macStatus (n - 128))) 15 || (macOf s (n - 128)).sleepReq then tc10Wake (n - 128) s
  else s

/-- The members of cluster c as GPNs. -/
def ncMembers (s : State) (c : Nat) : List Nat := ncFxps s c ++ (ncEths s c).map (· + 128)

/-- Cluster c wakes to AWAKE (R416). -/
def clusterWake (c : Nat) (s : State) : State :=
  let woke := (ncOf s c).woke
  let s := setNcState c 1 (setNc c { ncOf s c with latch := none, woke := none, awakeAt := s.now, await := none } s)
  let s := (ncMembers s c).foldl (fun s n => portWake n (woke != some n) s) s
  ringOwn c 3 s

/-- The sleep of cluster c aborts (R413): own says the device's own wake event aborts it, so that it sends WAKE. -/
def sleepAbort (c : Nat) (own : Bool) (s : State) : State :=
  let s := setNcState c 1 (setNc c { ncOf s c with latch := none, awakeAt := s.now } s)
  let s := if own then ringOwn c 3 s else s
  ringPass c (raise (lfNmw 3) (bump (ncCtr c 1) s))

/-- One cluster's latched wake event takes effect (R413 to R417). -/
def ncSettle (c : Nat) (s : State) : State :=
  match (ncOf s c).latch with
  | none => s
  | some ev =>
    match ncState s c, ev with
    | 2, _ => sleepAbort c true s
    | 3, none => clusterWake c (raise (lfNmw 2) s)
    | 3, some n =>
      let s := setNcState c 4 (setNc c { ncOf s c with latch := none, woke := some n } s)
      portWake n false (raise (lfNmw 2) s)
    | 4, none => clusterWake c s
    | _, _ => setNc c { ncOf s c with latch := none } s

/-- What follows at the end of a command that moves frames: Shelf's levels, and latched wake events, cluster by cluster. -/
def nmwSettle (s : State) : State :=
  let s := shfSettle s
  if s.nmw.clusters.all (fun e => e.2.latch.isNone) then s else forN 16 0 ncSettle s

/-- Foot's false-wake register of flexport n (R419). -/
def fwKey (n : Nat) : Nat := 0x000B0400 + 4 * n

/-- A wake event of flexport n is muted: it is counted and does not wake (R419). -/
def muted (s : State) (n : Nat) : Bool := bit (rd s (fwKey n)) 1

/-- A bus wake of flexport n (R415); confirm says the event is valid in CONFIRM as well. -/
def busWake (n : Nat) (confirm : Bool) (s : State) : State :=
  match ncOfFxp s n with
  | none => s
  | some c =>
    if ncState s c = 3 ∨ (confirm = true ∧ ncState s c = 2) then
      if muted s n then satInc (fwKey n) 7 3 s else ncSettle c (ncLatch c (some n) s)
    else s

/-- A bus wake of Ethernet port n (R415, R426). -/
def busWakeEth (n : Nat) (s : State) : State :=
  match ncOfEth s n with
  | none => s
  | some c => if ncState s c = 3 then ncSettle c (ncLatch c (some (128 + n)) s) else s

/-- A local wake of cluster c, valid in CONFIRM, ASLEEP and CHECK (R415). -/
def localWake (c : Nat) (s : State) : State :=
  if ncState s c = 2 ∨ ncState s c = 3 ∨ ncState s c = 4 then ncSettle c (ncLatch c none s) else s

/-- Cluster c in CHECK passes validation (R418). -/
def ncValidated (c : Nat) (s : State) : State :=
  if ncState s c = 4 then
    let s := match (ncOf s c).woke with
      | some n => if n < 128 then wrF (fwKey n) 15 8 0 s else s
      | none => s
    clusterWake c s
  else s

/-- A frame of flexport n has found a valid route: it validates a wake in CHECK (R418). -/
def ncRouted (n : Nat) (s : State) : State :=
  match ncOfFxp s n with
  | some c => ncValidated c s
  | none => s

/-! ### Wake masks (R421) -/

/-- DLC of a CAN frame. -/
def dlcOf (f : FieldFrame) : Nat :=
  match f.fmt with
  | .cc => if f.rtr then f.dlc else f.data.length
  | .fd => ([0, 1, 2, 3, 4, 5, 6, 7, 8, 12, 16, 20, 24, 32, 48, 64].findIdx (· == f.data.length))
  | _ => f.data.length - 1

/-- A frame matches a wake mask of eight words (R421). -/
def maskMatch (w : Nat → Nat) (f : FieldFrame) : Bool :=
  let xl := nbit (w 0) 29
  let ide := nbit (w 0) 30
  let id := if f.fmt = .xl then nbits (canId false f.id) 28 0 else nbits (canId f.ext f.id) 28 0
  let m := nbits (w 1) 28 0
  let byteOk (k : Nat) : Bool :=
    let sh := 8 * (3 - k % 4)
    let mb := nbits (w (4 + k / 4)) (sh + 7) sh
    mb == 0 || (decide (k < f.data.length) && (byteAt f.data k &&& mb) == (nbits (w (2 + k / 4)) (sh + 7) sh &&& mb))
  nbit (w 0) 31 && ((f.fmt == .xl) == xl) && (!xl || (!ide && w 4 == 0 && w 5 == 0)) && (xl || f.ext == ide)
    && (id &&& m) == (nbits (w 0) 28 0 &&& m) && (!nbit (w 6) 31 || dlcOf f == nbits (w 6) 3 0)
    && (!f.rtr || (w 4 == 0 && w 5 == 0)) && (List.range 8).all byteOk

/-- Word w of wake mask k of flexport n (R428). -/
def wakeMaskKey (n k w : Nat) : Nat := 0x00078000 + 0x100 * n + 0x20 * k + 4 * w

/-- A frame matches one of the eight wake masks of flexport n. -/
def wakeMatch (s : State) (n : Nat) (f : FieldFrame) : Bool :=
  (List.range 8).any (fun k => maskMatch (fun w => (rd s (wakeMaskKey n k w)).toNat) f)

/-- A flexport frame that matches a ring identifier or the ring EtherType is copied into Kiln's ring FIFO (R410). -/
def ringCopy (n : Nat) (f : FieldFrame) (wake : Bool) (s : State) : State :=
  let hit := (List.range 16).any (fun c => rdB s (ncKey c 0) 31 &&
    ((f.fmt == .cc && !f.ext && !f.rtr && f.data.length == 8 && f.id / 32 * 32 == fld (rd s (ncKey c 0)) 10 0)
      || (f.fmt == .t1s && beAt f.data 12 2 == 0x88B7)))
  let msg := if f.fmt = .t1s then slice f.data 14 8 else f.data
  if hit then { s with nmw := { s.nmw with ring := s.nmw.ring ++ [(n, msg, wake)] } } else s

/-! ### Commands -/

/-- A RING for this node (R411): SLEEP_IND where all consent, MIN_AWAKE_MS has passed and no wake is latched, else RING. -/
def ringToken (c : Nat) (s : State) : State :=
  let consent := ncConsent s c
  let all := (List.range 32).all (fun b => !nbit (ncRequired s c) b || nbit consent b)
  let long := decide ((ncOf s c).awakeAt + msT (rdF s (ncKey c 0x0C) 15 0) ≤ s.now)
  if all && long && (ncOf s c).latch.isNone then
    setNcState c 2 (ringSend c 2 0 consent (setNc c { ncOf s c with await := none } s))
  else ringPass c s

/-- An accepted ring message (R409 to R413, R418). -/
def ringAccept (c gpn : Nat) (msg : List Byte) (wake : Bool) (s : State) : State :=
  let src := byteAt msg 0 % 32
  let v := ncOf s c
  let s := setNc c { v with consent := beAt msg 4 4, missing := nsetBit v.missing src false,
                            await := if v.await = some src then none else v.await } s
  let s := ncPresent c (wrF (ncKey c 0x48) 28 24 src s)
  let s := ((ncCarriers s c).filter (fun k => k.1 != gpn)).foldl (fun s car => ringOn car msg s) s
  let s := if wake then s else ncValidated c s
  match byteAt msg 0 / 32, ncState s c with
  | 1, 1 => if byteAt msg 1 % 32 = ncNode s c then ringToken c s else s
  | 2, 1 => setNcState c 2 (setNc c { ncOf s c with latch := none, await := none } s)
  | 3, 2 => sleepAbort c false s
  | 3, 3 => clusterWake c (raise (lfNmw 2) s)
  | _, _ => s

/-- RING_MSG_RX (R409 to R413, R416, R418): the message at the head of Kiln's ring FIFO is taken. -/
def execRingMsgRx (s : State) : Host.Outcome State Fault Refusal :=
  done s (match s.nmw.ring with
    | [] => s
    | (gpn, msg, wake) :: rest =>
      let s := { s with nmw := { s.nmw with ring := rest } }
      let c := byteAt msg 3 % 16
      if rdB s (ncKey c 0) 31 && (ncCarriers s c).any (fun k => k.1 == gpn) then nmwSettle (ringAccept c gpn msg wake s)
      else bump 0x00070018 s)

/-- RING_SUCCESSOR_TIMEOUT (R411): the awaited successor is marked missing and RING goes to the next member. -/
def execRingSuccessorTimeout (c : Fin 16) (s : State) : Host.Outcome State Fault Refusal :=
  done s (match (ncOf s c).await with
    | some d =>
      if ncState s c = 1 then
        let s := setNc c { ncOf s c with missing := nsetBit (ncOf s c).missing d true, await := none } s
        ringPass c (raise (lfNmw 0) (ncPresent c (bump (ncCtr c 3) s)))
      else s
    | none => s)

/-- TOKEN_LOST (R411): ALIVE, then RING to the successor. -/
def execTokenLost (c : Fin 16) (s : State) : Host.Outcome State Fault Refusal :=
  done s (if ncState s c = 1 then raise (lfNmw 6) (bump (ncCtr c 5) (ringPass c (ringOwn c 0 s))) else s)

/-- SLEEP_COMMIT (R414): the window ends; a latched wake event aborts, else the members go to sleep. -/
def execSleepCommit (c : Fin 16) (s : State) : Host.Outcome State Fault Refusal :=
  done s (if ncState s c ≠ 2 then s
    else if (ncOf s c).latch.isSome then ncSettle c s
    else
      let s := raise (lfNmw 1) (bump (ncCtr c 0) s)
      let s := (ncFxps s c).foldl (fun s n => let r := fxqFlush n s; bumpN (ncCtr c 4) r.1 r.2) s
      setNcState c 3 ((ncMembers s c).foldl (fun s n => portSleep n s) s))

/-- NC_WAKE (R415): a local wake; host function 0 writes it. -/
def execNcWake (req : Requester) (c : Fin 16) (s : State) : Host.Outcome State Fault Refusal :=
  done s (regCmd req (hostRights req) (ncKey c 0x44) (localWake c) s)

/-- NC_CONSENT_WRITE (R411, R415): the device's consent; 0 is a local wake. -/
def execNcConsentWrite (req : Requester) (c : Fin 16) (v : Bool) (s : State) : Host.Outcome State Fault Refusal :=
  done s (regCmd req (hostRights req) (ncKey c 0x44) (fun s =>
    let s := wrB (ncKey c 0x44) 0 v s
    if v then s else localWake c s) s)

/-- The LIVE bit of WAKE_MUTED: some port is muted. -/
def mutedLive (s : State) : State := setLive (lfNmw 5) ((List.range 128).any (muted s)) s

/-- A false wake of flexport n is counted; at FW_THRESH it is reported and the port muted (R418, R419). -/
def falseWake (n : Nat) (s : State) : State :=
  let s := satInc (fwKey n) 15 8 (satInc (fwKey n) 31 16 s)
  let th := rdF s 0x00070010 7 0
  if th ≠ 0 ∧ rdF s (fwKey n) 15 8 = th then
    let s := raise (lfNmw 4) s
    if rdF s 0x00070010 31 16 ≠ 0 then
      raise (lfNmw 5) (mutedLive (wrF (fwKey n) 7 3 0 (wrB (fwKey n) 1 true s)))
    else s
  else s

/-- WAKE_VALIDATION_TIMEOUT (R418, R419, R426): the wake is false; the port goes back to sleep. -/
def execWakeValidationTimeout (c : Fin 16) (s : State) : Host.Outcome State Fault Refusal :=
  done s (if ncState s c ≠ 4 then s
    else
      let s1 := bump (ncCtr c 2) s
      let s2 := match (ncOf s1 c).woke with
        | some n => if n < 128 then falseWake n (portSleep n s1) else portSleep n s1
        | none => s1
      setNcState c 3 (setNc c { ncOf s2 c with woke := none, latch := none } s2))

/-- A mute ends: FW_RUN is cleared (R419). -/
def muteEnd (n : Nat) (s : State) : State := mutedLive (wrF (fwKey n) 15 8 0 (wrB (fwKey n) 1 false s))

/-- WAKE_MUTE_END (R419). -/
def execWakeMuteEnd (port : Fin 128) (s : State) : Host.Outcome State Fault Refusal :=
  done s (if muted s port then muteEnd port s else s)

/-- FOOT_FW_CLEAR (R419): FW_TOTAL and FW_RUN are cleared and any mute ends. -/
def execFootFwClear (req : Requester) (port : Fin 128) (s : State) : Host.Outcome State Fault Refusal :=
  done s (regCmd req (hostOrKiln req || decide (req = .aux)) (fwKey port)
    (fun s => muteEnd port (wrF (fwKey port) 31 16 0 s)) s)

/-- T1S_ENERGY_DETECT (R415): energy on a sleeping T1S member port is a bus wake. -/
def execT1sEnergyDetect (port : Fin 128) (s : State) : Host.Outcome State Fault Refusal :=
  done s (if persOf s port = 3 ∧ s.nmw.t1sAsleep.contains port.val = true then
      nmwSettle (busWake port false (raise (lfFxp port 10) s)) else s)

end Sys2Proof.Machine
end

