-- ==== Sys2Proof/Machine/BrgLocks.lean ====
section
/-! DEFINITION. Sys2Proof/Machine/BrgLocks.lean: the bridge's requests, sensor transactions, locked sequences, semaphores and
slot commands (R459 to R475): everything but the transactions that read and write registers. -/

namespace Sys2Proof.Machine
open Sys2Proof

/-! ### Sending (R454 to R460) -/

/-- Channel c holds an established sequence: its transactions carry LOCKED (R466). -/
def chLocked (s : State) (c : Nat) : Bool :=
  match tblFind s.brg.seqs c with
  | some q => q.phase == 3
  | none => false

/-- A target DID that names this device: 0 in the bridge map, or the own DID. -/
def brgLocal (s : State) (did : Nat) : Bool := did == 0 || did == ownDid s

/-- A DID that no window may name (R453). -/
def didBad (s : State) (did : Nat) : Bool := did == 0 || did == 0x7FF || did == ownDid s

/-- The number of the next posted transaction of a channel. -/
def brgNext (s : State) (ch : Nat) : Nat := tblGet s.brg.posted ch 0

/-- A posted transaction of this device as it leaves (R454): with the channel's running number. -/
def brgOwn (s : State) (t : BrgTx) : BrgTx := { t with tag := brgNext s t.ch, req := ownDid s, locked := chLocked s t.ch }

/-- The running number of a channel goes on, and the bridge keeps where its transaction went. -/
def brgCount (did : Nat) (t : BrgTx) (s : State) : State :=
  modBrg (fun b => { b with
    posted := tblPut b.posted t.ch ((brgNext s t.ch + 1) % 1024)
    sent := tblSet b.sent (1024 * t.ch + brgNext s t.ch) (did, t.ty) }) s

/-- A posted transaction of this device leaves; a failure of the first hop is reported at once (R473). -/
def brgPost (did : Nat) (t : BrgTx) (s : State) : State :=
  let u := brgOwn s t
  let s := brgCount did t s
  match hopBad s did (16 + u.data.length) with
  | some sub => brgPostedFail u cFarError sub s
  | none => brgOut did u (bump (brgCtr 0) s)

/-- A non-posted transaction waits for a tag (R459). -/
def brgRequest (did : Nat) (t : BrgTx) (who : BrgWho) (s : State) : State :=
  let t := { t with req := ownDid s, locked := chLocked s t.ch }
  modBrg (fun b => { b with wait := b.wait ++ [{ did := did, tx := t, who := who }] }) s

/-- Open non-posted transactions of channel c. -/
def npOpen (s : State) (c : Nat) : Nat := (s.brg.opens.filter (fun e => e.2.tx.ch == c)).length

/-! ### Waiting at the target (R456, R457, R467) -/

/-- The bus that a transaction needs: the bridge target port or a SPIC port. -/
def brgBus (t : BrgTx) : Nat := if t.tgt = 1 then 1 + t.addr / 2 ^ 24 else 0

/-- A transaction may not pass an earlier one of its channel that waits (R456). -/
def brgBehind (ws : List BrgWait) (t : BrgTx) : Bool :=
  ws.any (fun w => w.tx.req == t.req && w.tx.ch == t.ch && (!brgNonPosted w.tx.ty || brgNonPosted t.ty))

/-- The bus of a transaction is held by another requester (R467). A zero-length READ of this device itself needs none. -/
def brgHeld (s : State) (t : BrgTx) : Bool :=
  if t.req = ownDid s ∧ t.tgt = 0 ∧ t.ty = 1 then false
  else match tblFind s.brg.buses (brgBus t) with
  | some b => !(b.did == t.req && b.ch == t.ch)
  | none => false

/-- A WRITE or READ waits in the lock-wait buffer; PRIV transactions pass (R467). -/
def brgWaits (s : State) (t : BrgTx) : Bool := !t.priv && (brgBehind s.brg.lockWait t || brgHeld s t)

/-- A transaction goes to the lock-wait buffer; one that finds it full is answered or reported (R467). -/
def brgPark (t : BrgTx) (env : WrEnv) (s : State) : State :=
  if s.brg.lockWait.length < 64 then
    modBrg (fun b => { b with lockWait := b.lockWait ++ [{ bus := brgBus t, tx := t, env := env }] }) s
  else if brgNonPosted t.ty then brgAnswer t cLockRetry 0 [] s
  else brgPostedFail t cLockRetry 0 s

/-! ### Sensor transactions (R465) -/

/-- The sensor port of a transaction is no running SPIC port, or its cluster is offline. -/
def sensorBad (s : State) (t : BrgTx) : Bool :=
  let n := t.addr / 2 ^ 24
  decide (128 ≤ n) || persOf s n != 5 || !running s n || offline s n

/-- A sensor transaction is enqueued to its port, whatever the queue's DEPTH. -/
def sensorArrive (t : BrgTx) (s : State) : State :=
  if sensorBad s t then sensorRefuse t 3 s
  else
    let n := t.addr / 2 ^ 24
    let k := s.brg.sensNext
    let s := modBrg (fun b => { b with sens := tblSet b.sens k (n, t), sensNext := k + 1 }) s
    fxpAppend n (t.addr / 2 ^ 21 % 8) { frame := { fmt := .spic, id := t.id, data := t.data }, bridge := some k } s

/-! ### Locks at the target (R466 to R468) -/

/-- The channel of this device that is acquiring: it has reserved the near bus and has no grant yet. -/
def acquiring (s : State) : Option (Nat × BrgSeq) := s.brg.seqs.find? (fun e => e.2.phase == 1)

/-- An UNLOCK arrives: it frees the bus that its channel holds, or withdraws the channel's LOCK (R466). -/
def unlockArrive (t : BrgTx) (s : State) : State :=
  let b := brgBus t
  let s := match tblFind s.brg.buses b with
    | some h => if h.did = t.req ∧ h.ch = t.ch then busFree b s else s
    | none => s
  modBrg (fun g => { g with lockWait := g.lockWait.filter (fun w =>
    !(w.tx.ty == 4 && w.bus == b && w.tx.req == t.req && w.tx.ch == t.ch)) }) s

/-- The UNLOCK of a channel's sequence goes to the far bus (R466). -/
def sendUnlock (c : Nat) (q : BrgSeq) (s : State) : State :=
  let t : BrgTx := { ty := 5, ch := c, tgt := if q.bus = 0 then 0 else 1, addr := if q.bus = 0 then 0 else (q.bus - 1) * 2 ^ 24 }
  if brgLocal s q.did then unlockArrive { t with req := ownDid s } s else brgPost q.did t s

/-- The device abandons its own acquisition (R468): the LOCK is withdrawn, and channel c has lost. -/
def lockWithdraw (c : Nat) (q : BrgSeq) (s : State) : State :=
  let s := match q.tag with
    | some _ => sendUnlock c q s
    | none => modBrg (fun b => { b with wait := b.wait.filter (fun np => !(np.tx.ty == 4 && np.tx.ch == c)) }) s
  lockLost c q s

/-- A LOCK takes its bus if it is free, or waits for it (R467). -/
def lockTake (t : BrgTx) (s : State) : State :=
  if brgHeld s t then brgPark t {} s
  else brgAnswer t cOk 0 [] (modBrg (fun g => { g with buses := tblSet g.buses (brgBus t) { did := t.req, ch := t.ch, est := true } }) s)

/-- A LOCK arrives (R467, R468, R470). While this device is acquiring, the lower DID wins. -/
def lockArrive (t : BrgTx) (s : State) : State :=
  if t.priv then brgAnswer t cNotPermitted 0 [] s
  else if brgBehind s.brg.lockWait t then brgPark t {} s
  else if t.tgt = 1 ∧ sensorBad s t then brgAnswer t cFarError 3 [] s
  else
    match acquiring s with
    | some (c, q) =>
      if t.req = ownDid s then lockTake t s
      else if t.req < ownDid s then lockTake t (lockWithdraw c q s)
      else brgAnswer t cLockRetry 0 [] s
    | none => lockTake t s

/-! ### Semaphores (R470) -/

/-- The word of semaphore n. -/
def semKey (n : Nat) : Nat := 0x0008C000 + 4 * n

/-- A SEM_ACQ arrives: a free semaphore is taken; a held one gives its holder. -/
def semAcqArrive (t : BrgTx) (s : State) : State :=
  if 64 ≤ t.id then brgAnswer t cBadCommand 0 [] s
  else
    let w := rd s (semKey t.id)
    if bit w 31 then brgAnswer t cLockRetry 0 (leBytes 4 (fld w 26 0)) s
    else brgAnswer t cOk 0 [] (wr (semKey t.id) (w32 (2 ^ 31 + t.req % 2048 * 2 ^ 16 + t.ch % 16)) s)

/-- A SEM_REL arrives: its holder frees the semaphore; of any other requester it is reported. -/
def semRelArrive (t : BrgTx) (s : State) : State :=
  let w := rd s (semKey (t.id % 64))
  if t.id < 64 ∧ bit w 31 ∧ fld w 26 16 = t.req ∧ fld w 3 0 = t.ch then wr (semKey t.id) 0 s
  else brgPostedFail t cNotPermitted 0 s

/-! ### Issue of non-posted transactions (R459, R460) -/

/-- A non-posted transaction that this device performs for itself: a sensor READ, a LOCK, a SEM_ACQ or a zero-length READ. -/
def localArrive (t : BrgTx) (s : State) : State :=
  match t.ty with
  | 4 => lockArrive t s
  | 6 => semAcqArrive t s
  | _ =>
    if brgWaits s t then brgPark t {} s
    else if t.tgt = 1 then sensorArrive t s
    else brgAnswer t cOk 0 [] s

/-- A request leaves with a tag and its budget; a failure of the first hop ends it at once. -/
def brgIssue (tag : Nat) (np : BrgNp) (s : State) : State :=
  let t := { np.tx with tag := tag, req := ownDid s, budget := rdF s 0x00080400 15 0 }
  let s := modBrg (fun b => { b with
    wait := b.wait.erase np
    opens := tblSet b.opens tag { np with tx := t }
    seqs := if t.ty = 4 then b.seqs.map (fun e => if e.1 = t.ch then (e.1, { e.2 with tag := some tag }) else e) else b.seqs }) s
  if brgLocal s np.did then localArrive t s
  else
    match hopBad s np.did (16 + t.data.length) with
    | some sub => brgAnswer t cFarError sub [] s
    | none => brgOut np.did t (bump (brgCtr 1) s)

/-! ### The bridge map (R463) -/

/-- Entry i of the bridge map: target DID, port, queue and chip select; none where it is not VALID or beyond the map. -/
def mapEntry (s : State) (i : Nat) : Option (Nat × Nat × Nat × Nat) :=
  let w := rd s (0x00084000 + 8 * i)
  if i < 4096 ∧ bit w 31 then
    some (fld w 18 8, fld w 6 0, fld w 25 23, rdF s (0x00084004 + 8 * i) 2 0)
  else none

/-- BRG_WIN_CFG and BRG_WIN_BASE of a window. -/
def winCfg (s : State) (w : Nat) : Word := rd s (0x00080800 + 0x10 * w)
def winBase (s : State) (w : Nat) : Word := rd s (0x00080804 + 0x10 * w)

/-- The device and the bus that a window leads to, for LOCK and FENCE: of a SENSOR window, those of its first map entry. -/
def winTarget (s : State) (w : Nat) : Option (Nat × Nat) :=
  let c := winCfg s w
  if bit c 31 = false then none
  else if bit c 30 then
    match mapEntry s (fld (winBase s w) 11 0) with
    | some (did, p, _, _) => if did = 0x7FF ∨ (did ≠ 0 ∧ did = ownDid s) then none else some (did, 1 + p)
    | none => none
  else if didBad s (fld c 10 0) then none
  else some (fld c 10 0, 0)

/-! ### Slot commands (R475) -/

/-- A LOCK, UNLOCK or FENCE of channel c is pending, or a command already waits for it. -/
def chBusy (s : State) (c : Nat) : Bool :=
  (match tblFind s.brg.seqs c with
    | some q => decide (q.phase < 3)
    | none => false)
  || (s.brg.wait ++ s.brg.opens.map (·.2)).any (fun np => np.tx.ch == c && np.tx.ty == 1 &&
    (match np.who with
      | .slot _ => true
      | _ => false))
  || s.brg.cmds.any (fun x => x.2.2 == c)

/-- A sequence that waits for the near bus reserves it and sends its LOCK (R466, R468). -/
def lockStart (c : Nat) (q : BrgSeq) (s : State) : State :=
  match tblFind s.brg.buses 0 with
  | some _ => s
  | none =>
    let s := modBrg (fun g => { g with
      buses := tblSet g.buses 0 { did := ownDid s, ch := c }
      seqs := tblSet g.seqs c { q with phase := 1, tag := none } }) s
    brgRequest q.did { ty := 4, ch := c, tgt := if q.bus = 0 then 0 else 1, addr := if q.bus = 0 then 0 else (q.bus - 1) * 2 ^ 24 }
      (.slot q.slot) (wrF (chStatus c) 31 30 1 s)

/-- LOCK: a sequence on the bus of a window. -/
def lockCmd (k c : Nat) (s : State) : State :=
  match winTarget s (slotArg s (brgSlot k) 0 % 16) with
  | none => slotResult (brgSlot k) cBadCommand [] s
  | some (did, bus) =>
    if (tblFind s.brg.seqs c).isSome then slotResult (brgSlot k) cSequence [] s
    else
      let q : BrgSeq := { did := did, bus := bus, slot := k }
      lockStart c q (modBrg (fun g => { g with seqs := tblSet g.seqs c q }) s)

/-- UNLOCK: the sequence of a channel ends. -/
def unlockCmd (k c : Nat) (s : State) : State :=
  match tblFind s.brg.seqs c with
  | some q => if q.phase = 3 then slotResult (brgSlot k) cOk [] (seqEnd c (sendUnlock c q s)) else slotResult (brgSlot k) cSequence [] s
  | none => slotResult (brgSlot k) cSequence [] s

/-- FENCE: a zero-length READ follows the writes of a channel. -/
def fenceCmd (k c : Nat) (s : State) : State :=
  let a := slotArg s (brgSlot k) 0
  let did := if c < 12 then (winTarget s (a % 16)).map (·.1)
    else if didBad s (a / 2 ^ 16 % 2048) then none else some (a / 2 ^ 16 % 2048)
  match did with
  | none => slotResult (brgSlot k) cBadCommand [] s
  | some d => brgRequest d { ty := 1, ch := c, priv := decide (12 ≤ c) } (.slot k) s

/-- SEM_ACQUIRE and SEM_RELEASE of channel c. -/
def semCmd (rel : Bool) (k c : Nat) (s : State) : State :=
  let did := slotArg s (brgSlot k) 0 % 2048
  let n := slotArg s (brgSlot k) 1 % 64
  if did = 0 ∨ did = 0x7FF then slotResult (brgSlot k) cBadCommand [] s
  else if rel then
    let t : BrgTx := { ty := 7, priv := true, tgt := 2, ch := c, id := n }
    slotResult (brgSlot k) cOk [] (if did = ownDid s then semRelArrive (brgOwn s t) (brgCount did t s) else brgPost did t s)
  else brgRequest did { ty := 6, priv := true, tgt := 2, ch := c, id := n } (.slot k) s

/-- A slot's command begins. -/
def brgCmdRun (k op c : Nat) (s : State) : State :=
  match op with
  | 1 => lockCmd k c s
  | 2 => unlockCmd k c s
  | 3 => fenceCmd k c s
  | 16 => semCmd false k c s
  | _ => semCmd true k c s

/-- The channel of a command is outside its permitted range: LOCK and UNLOCK take ordinary channels; the privileged
channels are Kiln firmware's. -/
def brgChBad (k op c : Nat) : Bool := decide (12 ≤ c) && (decide (op < 3) || decide (k < 2))

/-- A CMD write to slot k of BRG (R53, R475); op and the channel are taken from OPCODE and PARAM. -/
def brgCommand (req : Requester) (k op param : Nat) (s : State) : State :=
  let sem := op == 16 || op == 17
  let c := if sem then 12 + param % 4 else param % 16
  slotCommand (brgSlot k) (if k < 2 then hostRights req else decide (req = .kiln)) (fun s =>
    if !(op == 1 || op == 2 || op == 3 || sem) || (sem && decide (k < 2)) || brgChBad k op c then slotResult (brgSlot k) cBadCommand [] s
    else if chBusy s c then modBrg (fun b => { b with cmds := b.cmds ++ [(k, op, c)] }) s
    else brgCmdRun k op c s) s

/-- Commands whose channel is free begin, and sequences that wait for a free near bus start (R466, R475); n bounds their
number. -/
def brgStart : Nat → State → State
  | 0, s => s
  | n + 1, s =>
    match s.brg.cmds.find? (fun x => !chBusy (modBrg (fun b => { b with cmds := b.cmds.takeWhile (· != x) }) s) x.2.2) with
    | some x => brgStart n (brgCmdRun x.1 x.2.1 x.2.2 (modBrg (fun b => { b with cmds := b.cmds.erase x }) s))
    | none =>
      match s.brg.seqs.find? (fun e => e.2.phase == 0) with
      | some (c, q) => if (tblFind s.brg.buses 0).isNone then brgStart n (lockStart c q s) else s
      | none => s

end Sys2Proof.Machine
end

