-- ==== Sys2Proof/Machine/Reflex.lean ====
section
/-! DEFINITION. Sys2Proof/Machine/Reflex.lean: the reflex path (R292 to R309): taps and slots, rules and their actions,
pulses and generators, capture units. -/

namespace Sys2Proof.Machine
open Sys2Proof

/-! ### Conditions and rules (R297 to R299) -/

/-- What happens in one DCLK cycle: edges of pins (pin, rising) and slots written. -/
structure Cycle where
  edges : List (Nat × Bool) := []
  slots : List Nat := []

/-- Word w of rule r. -/
def ruleW (s : State) (r w : Nat) : Nat := (rd s (0x00388000 + 0x20 * r + 4 * w)).toNat

/-- Word w of slot t. -/
def slotKey (t w : Nat) : Nat := 0x0038B000 + 0x10 * t + 4 * w

/-- A PWMX channel of a flexport captures (R298). -/
def pwmCaps (s : State) (n c : Nat) : Bool :=
  persOf s n == 6 && fld (rd s (persReg s n (0x100 + 0x10 * c))) 31 30 == 1

/-- Last completed period, high time and stuck flag of a capture source (R298): none where it names no capture. -/
def capSource (s : State) (src : Nat) : Option (Nat × Nat × Bool) :=
  if src < 0x40 then
    some ((rd s (pioKey src 0x0C)).toNat, (rd s (pioKey src 0x10)).toNat, rdB s (pioKey src 8) 25)
  else if 0x100 ≤ src ∧ src < 0x300 ∧ pwmCaps s ((src - 0x100) / 4) (src % 4) = true then
    let n := (src - 0x100) / 4
    let c := src % 4
    some (fld (rd s (persReg s n (0x104 + 0x10 * c))) 23 0, fld (rd s (persReg s n (0x108 + 0x10 * c))) 23 0,
          leafBit s (lfFxp n (8 + c)) 1)
  else none

/-- Duty in units of 2^-16 (R306). -/
def dutyOf (period high : Nat) : Nat := if period = 0 then 0 else high * 65536 / period

/-- A condition's truth, before its inversion (R298). -/
def condRaw (s : State) (cy : Cycle) (w lo hi : Nat) : Bool :=
  let src := nbits w 26 16
  let rng (x : Nat) : Bool := decide (lo ≤ x) && decide (x ≤ hi)
  match nbits w 31 28 with
  | 1 => (pinOf s (src % 64)).level
  | 2 => cy.edges.contains (src % 64, true)
  | 3 => cy.edges.contains (src % 64, false)
  | 4 => cy.edges.contains (src % 64, true) || cy.edges.contains (src % 64, false)
  | 5 => (capSource s src).any (fun c => rng c.1)
  | 6 => (capSource s src).any (fun c => rng c.2.1)
  | 7 => (capSource s src).any (fun c => rng (dutyOf c.1 c.2.1))
  | 8 =>
    let v := signed 32 (rd s (slotKey (src % 256) 0)).toNat
    bit (rd s (slotKey (src % 256) 3)) 31 && decide (signed 32 lo ≤ v) && decide (v ≤ signed 32 hi)
  | 9 => cy.slots.contains (src % 256)
  | 10 => (capSource s src).any (fun c => c.2.2)
  | _ => false

/-- A condition of a rule: words k to k + 2. -/
def condOf (s : State) (cy : Cycle) (r k : Nat) : Bool :=
  let w := ruleW s r k
  condRaw s cy w (ruleW s r (k + 1)) (ruleW s r (k + 2)) != nbit w 27

/-- A rule's result (R297). -/
def ruleResult (s : State) (cy : Cycle) (r : Nat) : Bool :=
  let a := condOf s cy r 1
  let b := condOf s cy r 4
  match nbits (ruleW s r 0) 29 28 with
  | 0 => a
  | 1 => a && b
  | 2 => a || b
  | _ => a != b

/-- The valid rules, ascending. -/
def rulesValid (s : State) : List Nat :=
  (tblRange s.regs 0x00388000 0x0038A000).filterMap (fun e =>
    if e.1 % 32 = 0 ∧ bit e.2 31 = true then some ((e.1 - 0x00388000) / 32) else none)

/-! ### Actions (R300 to R303) -/

/-- Stop a pin's generator. -/
def pwmHalt (p : Nat) (s : State) : State :=
  setPin p { pinOf s p with pwm := none, pwmNext := none } (wrB (pioKey p 8) 27 false s)

/-- The high time of a PWM action (R301): slot t, scale entry k, period per. -/
def pwmHigh (s : State) (t k per : Nat) : Nat :=
  let v := signed 32 (rd s (slotKey t 0)).toNat
  let mul := signed 32 (rd s (0x0038A000 + 0x10 * k)).toNat
  let off := signed 32 (rd s (0x0038A000 + 0x10 * k + 4)).toNat
  let sh := fld (rd s (0x0038A000 + 0x10 * k + 8)) 4 0
  (clampI 0 per ((v * mul).tdiv (2 ^ sh : Nat) + off)).toNat

/-- A generator starts a period (R301). -/
def pwmPeriod (p per high : Nat) (s : State) : State :=
  let s := setPin p { pinOf s p with pwm := some (per, high), pwmNext := none } s
  let s := wr (pioKey p 0x24) (w32 high) (wrB (pioKey p 8) 27 true s)
  emit (.pioPwm p per high) (pinRequest 2 p (decide (0 < high)) s)

/-- A rule's pin action (R300). -/
def ruleAct (r : Nat) (res : Bool) (s : State) : State :=
  let w0 := ruleW s r 0
  let p := nbits w0 21 16
  let ap := nbits w0 15 0
  let per := nbits (ruleW s r 7) 23 0
  let plain (l : Bool) (s : State) : State :=
    pinRequest 2 p l (setPin p { pinOf (pwmHalt p s) p with pulse := none } (wrB (pioKey p 8) 26 false (pwmHalt p s)))
  match nbits w0 27 24 with
  | 1 => plain true s
  | 2 => plain false s
  | 3 => plain (!drivenLevel s p) s
  | 4 => setPin p { pinOf (plain true s) p with pulse := some false } (wrB (pioKey p 8) 26 true (plain true s))
  | 5 => setPin p { pinOf (plain false s) p with pulse := some true } (wrB (pioKey p 8) 26 true (plain false s))
  | 6 => plain res s
  | 7 =>
    let h := pwmHigh s (nbits ap 15 8) (nbits ap 5 0) per
    let s := setPin p { pinOf s p with pulse := none } (wrB (pioKey p 8) 26 false s)
    if (pinOf s p).pwm.isSome then setPin p { pinOf s p with pwmNext := some (per, h) } s else pwmPeriod p per h s
  | 8 => plain (nbit ap 0) s
  | _ => s

/-- The rules that act on their pins in a cycle: the lowest of each pin among those that fire and the FOLLOW rules (R299). -/
def ruleWinners : List (Nat × Nat) → List Nat → List Nat
  | [], _ => []
  | (r, p) :: t, taken => if taken.contains p then ruleWinners t taken else r :: ruleWinners t (p :: taken)

/-- One DCLK cycle of the rules (R299): fired rules are counted, pins take their actions, injections reach the router. -/
def reflexCycle (cy : Cycle) (s : State) : State :=
  if s.rfx.suspended then s
  else
    let rules := rulesValid s
    let now := rules.filter (ruleResult s cy)
    let fired := now.filter (fun r => !s.rfx.prev.contains r)
    let act (r : Nat) : Nat := nbits (ruleW s r 0) 27 24
    let onPin := rules.filter (fun r =>
      (fired.contains r && decide (1 ≤ act r) && decide (act r ≤ 8)) || act r == 6)
    let win := ruleWinners (onPin.map (fun r => (r, nbits (ruleW s r 0) 21 16))) []
    let follow := (rules.filter (fun r => act r == 6)).map (fun r => nbits (ruleW s r 0) 21 16)
    let s := { s with rfx := { s.rfx with prev := now, follow := follow } }
    let s := fired.foldl (fun s r => bump (0x0038C000 + 8 * r) s) s
    let s := win.foldl (fun s r => ruleAct r (now.contains r) s) s
    (fired.filter (fun r => act r == 9)).foldl (fun s r => imageRequest (nbits (ruleW s r 0) 15 0) s) s

/-- An event reaches the rules: the cycle in which it is seen, and the next cycle, in which edge and update conditions
are false again (R299). -/
def reflexEvent (cy : Cycle) (s : State) : State := reflexCycle {} (reflexCycle cy s)

/-! ### Taps (R290, R296) -/

/-- The EtherType of an Ethernet frame after at most one 802.1Q tag (R253). -/
def etherType1 (f : List Byte) : Nat := if beAt f 12 2 = 0x8100 then beAt f 16 2 else beAt f 12 2

/-- Word w of the source configuration of a source code in bank b (R255): the stream entry's for a VI. -/
def srcCfg (s : State) (b src w : Nat) : Nat :=
  let raw := if src < 0x80 then bw s b (oSrc src) w
    else if 0x100 ≤ src ∧ src < 0x200 then bw s b (oStream (src - 0x100)) (2 + w)
    else if src = 0x200 then bw s b (oSrc 128) w
    else if 0x400 ≤ src then bw s b (oSrc 129) w else 0
  let w0 := if src < 0x80 then bw s b (oSrc src) 0
    else if 0x100 ≤ src ∧ src < 0x200 then bw s b (oStream (src - 0x100)) 2
    else if src = 0x200 then bw s b (oSrc 128) 0
    else if 0x400 ≤ src then bw s b (oSrc 129) 0 else 0
  if nbit w0 31 then raw else 0

/-- The item of a frame that flexport n has received (R252, R253); an XL item's ID is its priority identifier. -/
def itemOf (n : Nat) (rx : RxFrame) : RItem :=
  let f := rx.frame
  let base : RItem := { src := n, kind := 0, data := f.data, ts := rx.ts, wake := rx.wake }
  match f.fmt with
  | .cc => { base with id := canId f.ext f.id, rtr := f.rtr, dlc := f.dlc }
  | .fd => { base with id := canId f.ext f.id, fdf := true, brs := f.brs }
  | .xl => { base with kind := 1, ext := f.vcid, sdt := f.sdt, af := f.af, sec := f.sec, id := canId false f.id }
  | .lin => { base with kind := 2, id := f.id % 64 }
  | .t1s => { base with kind := 4, id := etherType1 f.data }
  | _ => { base with kind := 3, id := f.id }

/-- The item as bank b keys it: an XL item of a source that keys by acceptance field has it as ID (R253, R255). -/
def keyItem (s : State) (b : Nat) (it : RItem) : RItem :=
  if it.kind = 1 ∧ it.src < 0x80 ∧ nbit (srcCfg s b it.src 0) 23 = true then { it with id := it.af } else it

/-- Tap t of bank b places its field of an item in slot t, if it matches and the field lies within the frame (R290). -/
def tapWrite (b t : Nat) (verified : Bool) (it : RItem) (s : State) : State × Bool :=
  let w0 := bw s b (oTap t) 0
  let w2 := bw s b (oTap t) 2
  let len := nbits w0 4 0 + 1
  let pos := nbits w2 13 0
  let be := nbit w0 12
  if nbit w0 31 && nbit w0 30 == verified && nbits w0 22 16 == it.src && nbits w0 15 13 == it.kind
      && bw s b (oTap t) 1 == it.id && nbits w2 31 24 == it.ext && sigInside it.data.length pos len be then
    let v := sigExtract it.data pos len be
    let v := if nbit w0 11 then unsigned 32 (signed len v) else v
    (wrWords (slotKey t 0) [w32 v, w32 it.ts, w32 (it.ts / 2 ^ 32), w32 (2 ^ 31)] s, true)
  else (s, false)

/-- The taps of one kind (verified or not) act on an item; the slots written reach the rules (R290, R296, R305). -/
def tapsAct (verified : Bool) (it : RItem) (s : State) : State :=
  match activeBank s 20 with
  | none => s
  | some b =>
    let it := keyItem s b it
    let taps := (tblRange s.regs (bankBase b + 0x01291000) (bankBase b + 0x01292000)).filterMap (fun e =>
      if e.1 % 16 = 0 ∧ bit e.2 31 = true then some ((e.1 - bankBase b - 0x01291000) / 16) else none)
    let r := taps.foldl (fun (x : State × List Nat) t =>
      let y := tapWrite b t verified it x.1
      (y.1, if y.2 then x.2 ++ [t] else x.2)) (s, [])
    if r.2 = [] then r.1 else reflexEvent { slots := r.2 } r.1

/-! ### Receive hand-off (R97, R98) -/

/-- Items leave flexport n's receive FIFO for the lookup queue while it has room (R98, R257). -/
def pumpPort (n : Nat) : Nat → State → State
  | 0, s => s
  | k + 1, s =>
    match (port s n).fifo with
    | [] => s
    | rx :: rest =>
      if 1024 ≤ s.srt.lq.length then s
      else
        let it := itemOf n rx
        let s := setPort n { port s n with fifo := rest } { s with srt := { s.srt with lq := s.srt.lq ++ [it] } }
        pumpPort n k s

/-- LQ_FULL is LIVE while the lookup queue is full (R257). -/
def lqLive (s : State) : State :=
  if 1024 ≤ s.srt.lq.length then (if leafBit s (lfSrt 7) 1 then s else raiseLive (lfSrt 7) s) else setLive (lfSrt 7) false s

/-- A frame received without error goes to the router, or is dropped where the receive FIFO is full (R97, R98); taps
see it in either case (R290), and a ring message that is handed over is copied (R410). -/
def handOff (n : Nat) (rx : RxFrame) (s : State) : State :=
  if 4 ≤ (port s n).fifo.length then tapsAct false (itemOf n rx) (raise (lfFxp n 0) (bump (fxpCtr n 2) s))
  else
    let s := bump (fxpCtr n 0) (setPort n { port s n with fifo := (port s n).fifo ++ [rx] } s)
    let s := tapsAct false (itemOf n rx) s
    lqLive (pumpPort n 4 (ringCopy n rx.frame rx.wake s))

/-! ### Commands -/

/-- A capture unit writes an edge's timestamp into its FIFO (R307). -/
def capTimestamp (p : Nat) (rising : Bool) (s : State) : State :=
  let cfg := rd s (pioKey p 0)
  let sel := fld cfg 18 17
  if bit cfg 19 && (if rising then nbit sel 0 else nbit sel 1) then
    let v := pinOf s p
    if 16 ≤ v.fifo.length then raise (lfRfx 1) (bump (pioKey p 0x30) s)
    else setPin p { v with fifo := v.fifo ++ [(rising, tsNow s)] } s
  else s

/-- PIO_INPUT_CHANGE (R298, R299, R307): the filtered levels change, capture units timestamp the edges, rules evaluate. -/
def execPioInputChange (edges : List (Fin 64 × Bool)) (s : State) : Host.Outcome State Fault Refusal :=
  let es := edges.map (fun e => (e.1.val, e.2))
  let t := es.foldl (fun s e =>
    let s := setPin e.1 { pinOf s e.1 with level := e.2 } (wrB (pioKey e.1 8) 31 e.2 s)
    capTimestamp e.1 e.2 s) s
  done s (nmwSettle (reflexEvent { edges := es } t))

/-- REFLEX_PULSE_END (R300, R302): the pin takes the other level. -/
def execReflexPulseEnd (pin : Fin 64) (s : State) : Host.Outcome State Fault Refusal :=
  done s (match (pinOf s pin).pulse with
    | some l => pinRequest 2 pin l (setPin pin { pinOf s pin with pulse := none } (wrB (pioKey pin 8) 26 false s))
    | none => s)

/-- REFLEX_PWM_PERIOD (R301): a period starts with the latched P and h, if any were latched. -/
def execReflexPwmPeriod (pin : Fin 64) (s : State) : Host.Outcome State Fault Refusal :=
  done s (match (pinOf s pin).pwm with
    | some (per, h) =>
      let n := (pinOf s pin).pwmNext.getD (per, h)
      pwmPeriod pin n.1 n.2 s
    | none => s)

/-- PIO_OUT_WRITE (R293): host function 0 and Kiln firmware request a level. -/
def execPioOutWrite (req : Requester) (pin : Fin 64) (level : Bool) (s : State) : Host.Outcome State Fault Refusal :=
  done s (if req = .host 0 ∨ req = .kiln then pinRequest 0 pin level s else accErr req 1 (pioKey pin 4) s)

/-- CAP_PERIOD_DONE (R306): period, high time and duty are updated together, and conditions read them. -/
def execCapPeriodDone (pin : Fin 64) (period high : Word) (s : State) : Host.Outcome State Fault Refusal :=
  let k := pin.val
  let t := wr (pioKey k 0x14) (w32 (dutyOf period.toNat high.toNat % 2 ^ 16))
    (wr (pioKey k 0x10) high (wr (pioKey k 0x0C) period (wrB (pioKey k 8) 25 false s)))
  let any := (List.range 64).any (fun q => rdB t (pioKey q 8) 25)
  done s (nmwSettle (reflexEvent {} (setLive (lfRfx 2) any t)))

/-- CAP_STUCK (R306): the three values read 0 and STUCK becomes LIVE. -/
def execCapStuck (pin : Fin 64) (s : State) : Host.Outcome State Fault Refusal :=
  let k := pin.val
  let t := wr (pioKey k 0x14) 0 (wr (pioKey k 0x10) 0 (wr (pioKey k 0x0C) 0 (wrB (pioKey k 8) 25 true s)))
  done s (nmwSettle (reflexEvent {} (raiseLive (lfRfx 2) t)))

/-- CAP_TS_READ (R307): the head timestamp is removed; its seconds and information go to the shadows. -/
def execCapTsRead (pin : Fin 64) (s : State) : Host.Outcome State Fault Refusal :=
  let k := pin.val
  done s (match (pinOf s k).fifo with
    | [] => setRdata 0 (wr (pioKey k 0x20) (setBit (rd s (pioKey k 0x20)) 31 false) s)
    | (r, ts) :: rest =>
      let s := setPin k { pinOf s k with fifo := rest } s
      let s := wr (pioKey k 0x1C) (w32 (ts / 2 ^ 32)) s
      let s := wr (pioKey k 0x20) (w32 (2 ^ 31 + b2n r * 2 ^ 30 + rest.length)) s
      setRdata (w32 ts) s)

end Sys2Proof.Machine
end

