-- ==== Sys2Proof/Machine/Mac.lean ====
section
/-! DEFINITION. Sys2Proof/Machine/Mac.lean: the Ethernet MACs and the service port (R156 to R181): receive checks and
steering, PFC, low-power idle, TC10. -/

namespace Sys2Proof.Machine
open Sys2Proof

/-! ### Headers -/

/-- A TPID of a VLAN tag (R164). -/
def isTpid (t : Nat) : Bool := t == 0x8100 || t == 0x88A8

/-- The filter EtherType (R164): after at most two tags, or the TPID of the third tag. -/
def filterEt (f : List Byte) : Nat :=
  if isTpid (beAt f 12 2) then (if isTpid (beAt f 16 2) then beAt f 20 2 else beAt f 16 2) else beAt f 12 2

/-- The offset of what follows the filter EtherType. -/
def filterOff (f : List Byte) : Nat :=
  if isTpid (beAt f 12 2) then (if isTpid (beAt f 16 2) then 22 else 18) else 14

/-- The outer tag's PCP and VID, if the frame carries one (R164). -/
def outerTag (f : List Byte) : Option (Nat × Nat) :=
  if isTpid (beAt f 12 2) then some (beAt f 14 2 / 2 ^ 13, beAt f 14 2 % 2 ^ 12) else none

/-- Broadcast and group addresses. -/
def isBcast (f : List Byte) : Bool := beAt f 0 6 == 2 ^ 48 - 1
def isGroup (f : List Byte) : Bool := byteAt f 0 % 2 == 1

/-- A queue pair is enabled (R166, R436). -/
def qpEnabled (s : State) (q : Nat) : Bool := bit (rd s (0x00510000 + 0x40 * (q % 1024))) 31

/-- Port n carries Coil frames (R165 step 2): a link of region 26, or a bootstrap link of a worker (R492). -/
def coilConfigured (s : State) (n : Nat) : Bool :=
  (List.range 8).any (fun l => bit (rd s (colLink l 0)) 31 && fld (rd s (colLink l 0)) 20 16 == n)
def coilBootstrap (s : State) (n : Nat) : Bool :=
  fld (rd s 0x00090004) 31 30 == 1 && !regionApplied s 26 && rdF s (macBase n) 31 28 != 0 && linkUp s n

/-- A received frame goes to the Coil (R165 step 2). -/
def coilSteer (s : State) (n : Nat) (f : List Byte) : Bool :=
  (coilConfigured s n && filterEt f == rdF s 0x00090000 31 16)
    || ((coilConfigured s n || coilBootstrap s n) && beAt f 12 2 == 0x88B5)

/-- A frame carries a domainNumber of an enabled 802.1AS domain (R165 step 3). -/
def ptpSteer (s : State) (f : List Byte) : Bool :=
  filterEt f == 0x88F7 &&
    (List.range 2).any (fun d => rdB s (0x00060040 + 4 * d) 31 && rdF s (0x00060040 + 4 * d) 6 0 == byteAt f (filterOff f + 4))

/-! ### Filters (R166) -/

/-- Filter i of port n matches a frame. -/
def filtMatch (s : State) (n : Nat) (f : List Byte) (i : Nat) : Bool :=
  let b := macBase n + 0x200 + 0x10 * i
  let m := rd s (b + 4)
  let w := match outerTag f with
    | some (pcp, vid) => w32 (filterEt f * 2 ^ 16 + pcp * 2 ^ 13 + 2 ^ 12 + vid)
    | none => w32 (filterEt f * 2 ^ 16)
  let da := match fld (rd s (b + 8)) 28 27 with
    | 1 => !isGroup f
    | 2 => isGroup f && !isBcast f
    | 3 => isBcast f
    | _ => true
  bit (rd s (b + 8)) 31 && (w &&& m) == (rd s b &&& m) && da

/-- The first matching valid filter's action word. -/
def filtFirst (s : State) (n : Nat) (f : List Byte) : Option Word :=
  ((List.range 32).find? (filtMatch s n f)).map (fun i => rd s (macBase n + 0x200 + 0x10 * i + 8))

/-- The class of step 6: PCP_MAP of the outer tag, else DEFAULT_TC (R165). -/
def defaultClass (s : State) (n : Nat) (f : List Byte) : Nat :=
  match outerTag f with
  | some (pcp, _) => rdF s (macBase n + 0x34) (3 * pcp + 2) (3 * pcp)
  | none => rdF s (macBase n + 0x30) 23 21

/-! ### Delivery -/

/-- A frame goes to Kiln firmware at GPN 153; a ring message enters Kiln's ring FIFO (R408, R410). -/
def toKiln (n c : Nat) (p : Pkt) (s : State) : State :=
  match shfArrive p s with
  | (none, s) => s
  | (some p, s) =>
    match shfTry 153 c p s with
    | (false, s) => s
    | (true, s) =>
      if filterEt p.bytes = 0x88B7 then
        { s with nmw := { s.nmw with ring := s.nmw.ring ++ [(128 + n, slice p.bytes 14 8, false)] } }
      else s

/-- A frame goes directly to a queue pair at GPN 152 (R166); toward a disabled one it is dropped. -/
def toHostQp (n c qp : Nat) (p : Pkt) (s : State) : State :=
  if qpEnabled s qp then
    match shfArrive { p with qp := qp } s with
    | (some p, s) => shfEnqueue 152 c p s
    | (none, s) => s
  else bump (macCtr n 9) s

/-- PFC acts on a port (R168, R170): each enabled class is paused or released; an ignored class takes only time 0. -/
def pfcRx (n : Nat) (f : List Byte) (s : State) : State :=
  let off := filterOff f
  let vec := beAt f (off + 2) 2
  let s := bump (macCtr n 11) s
  forN 8 0 (fun p s =>
    if nbit (rdF s (macBase n + 0x50) 23 16) p && nbit vec p then
      let t := beAt f (off + 4 + 2 * p) 2
      if nbit (macOf s n).storm p then
        if t = 0 then s else setMac n { macOf s n with stormAt := setAt (macOf s n).stormAt p s.now } s
      else wrB (macStatus n) (16 + p) (t != 0) s
    else s) s

/-- A good frame is steered by R165, with its Pkt. -/
def macSteer (n : Nat) (p : Pkt) (s : State) : State :=
  let f := p.bytes
  let pcls := defaultClass s n f
  let pass (c : Nat) (s : State) : State := ingArrive (128 + n) { p with cls := c } s
  if filterEt f = 0x8808 then
    if beAt f (filterOff f) 2 = 0x0101 ∧ rdB s (macBase n + 0x50) 31 = true then pfcRx n f s
    else bump (macCtr n 10) s
  else if coilSteer s n f then
    match shfArrive { p with cls := 7 } s with
    | (some p, s) => { s with col := { s.col with rx := s.col.rx ++ [p] } }
    | (none, s) => s
  else if ptpSteer s f then toKiln n pcls { p with cls := pcls } s
  else if filterEt f = 0x88CC then
    let s := match filtFirst s n f with
      | some w => if fld w 26 24 = 1 then toHostQp n (fld w 23 21) (fld w 9 0) { p with cls := fld w 23 21 } s else s
      | none => s
    toKiln n pcls { p with cls := pcls } s
  else
    match filtFirst s n f with
    | none => pass pcls s
    | some w =>
      let c := fld w 23 21
      match fld w 26 24 with
      | 1 => toHostQp n c (fld w 9 0) { p with cls := c } s
      | 2 => toKiln n c { p with cls := c } s
      | 3 => bump (macCtr n 9) s
      | _ => pass (if bit w 20 then c else pcls) s

/-- A frame that proves bad while it may be cut through waits for the pipeline as a bad packet, if its steering is PASS
(R162, R314). -/
def macBad (n : Nat) (p : Pkt) (s : State) : State :=
  let f := p.bytes
  let steered := filterEt f == 0x8808 || coilSteer s n f || ptpSteer s f || filterEt f == 0x88CC
  let c := match filtFirst s n f with
    | none => some (defaultClass s n f)
    | some w => if fld w 26 24 = 1 ∨ fld w 26 24 = 2 ∨ fld w 26 24 = 3 then none
                else some (if bit w 20 then fld w 23 21 else defaultClass s n f)
  match steered, c, fld (rd s (msecKey n 0)) 29 28 with
  | false, some c, 0 => ingArrive (128 + n) { p with cls := c, bad := true } s
  | _, _, _ => s

/-- A receive timestamp of a MAC (R81, R177): the time at the device point less TS_CORR_RX, cut to nanoseconds. -/
def macRxStamp (s : State) (n age : Nat) : Nat :=
  if wtValid s then
    ts64 (((s.tim.wt : Int) - (age * 2 ^ 32 : Nat) - signed 32 (rd s (macBase n + 0x40)).toNat * (2 ^ 24 : Nat)).toNat)
  else 0

/-- The MAC counts a frame that has passed its checks. -/
def macCountRx (n : Nat) (f : List Byte) (s : State) : State :=
  let s := bump (macCtr n 1) s
  if isBcast f then bump (macCtr n 3) s else if isGroup f then bump (macCtr n 2) s else s

/-- MAC_RX_FRAME (R159 to R166): En receives a frame, its FCS left off; fcs says what it carried. -/
def execMacRxFrame (port : Fin 24) (bytes : List Byte) (fcs : FcsKind) (line : RxLine) (s : State) :
    Host.Outcome State Fault Refusal :=
  done s (
    let n := port.val
    if !linkUp s n then s
    else
      let s := bumpN (macCtr n 24) line.fecUncorr (bumpN (macCtr n 23) line.fecCorr (bumpN (macCtr n 12) line.lpi s))
      let s := if 0 < line.fecUncorr then raise (lfMac n 2) s else s
      let s := bumpN (macCtr n 0) (bytes.length + 4) s
      let (fcs, s) := if injFor s 0x10 n then (FcsKind.bad, injDone s) else (fcs, s)
      if line.fifoFull then raise (lfMac n 3) (bump (macCtr n 8) s)
      else if bytes.length + 4 < 64 then bump (macCtr n 5) s
      else
        let mx := maxFrame s n
        let long := decide (mx < bytes.length + 4)
        let p : Pkt := { bytes := if long then bytes.take (mx - 4) else bytes, ingress := 128 + n,
                         ts := macRxStamp s n line.age, flags := if long then 4 else 0 }
        if long then
          let s := bump (macCtr n 6) s
          if rdF s (macBase n + 0x30) 31 30 = 1 then
            match macsecValidate n p.bytes s with
            | (s, some (f, v)) => nmwSettle (macSteer n { p with bytes := f, validated := v } (macCountRx n f s))
            | (s, none) => s
          else nmwSettle (macBad n { p with flags := 0 } s)
        else
          match fcs with
          | .stomped => nmwSettle (macBad n p (bump (macCtr n 7) s))
          | .bad => nmwSettle (macBad n p (bump (macCtr n 4) s))
          | .good =>
            let s := macCountRx n bytes s
            match macsecValidate n bytes s with
            | (s, some (f, v)) => nmwSettle (macSteer n { p with bytes := f, validated := v } s)
            | (s, none) => s)

/-! ### Priority flow control (R168 to R170) -/

/-- PFC_PAUSE_EXPIRY (R168): the pause of class p of port n runs out. -/
def execPfcPauseExpiry (port : Fin 24) (p : Fin 8) (s : State) : Host.Outcome State Fault Refusal :=
  done s (wrB (macStatus port) (16 + p) false s)

/-- PFC_STORM (R170): class p has been paused for WD_MS; PFC for it is ignored. -/
def execPfcStorm (port : Fin 24) (p : Fin 8) (s : State) : Host.Outcome State Fault Refusal :=
  done s (
    let n := port.val
    if rdF s (macBase n + 0x54) 15 0 ≠ 0 ∧ rdB s (macStatus n) (16 + p) = true then
      let m := macOf s n
      let s := setMac n { m with storm := nsetBit m.storm p true, stormAt := setAt m.stormAt p s.now } s
      raiseLive (lfMac n 4) (bump (macCtr n 25) (wrB (macStatus n) (16 + p) false s))
    else s)

/-- Classes whose storm has ended: none has arrived for WD_MS; PFC_STORM is LIVE while a class is ignored (R170). -/
def stormEnd (n : Nat) (s : State) : State :=
  let m := macOf s n
  if m.storm = 0 then s
  else
    let wd := msT (rdF s (macBase n + 0x54) 15 0)
    let left := classBits ((List.range 8).filter (fun p => nbit m.storm p && decide (s.now < m.stormAt.getD p 0 + wd)))
    setLive (lfMac n 4) (left != 0) (setMac n { m with storm := left } s)

/-- PFC_REFRESH (R169): the PFC frame is sent again for the classes that have stayed at or above XON. -/
def execPfcRefresh (port : Fin 24) (s : State) : Host.Outcome State Fault Refusal :=
  done s (
    let n := port.val
    let cl := (pfcClasses s n).filter (fun p => nbit (macOf s n).xoff p && decide (xonOf s n p ≤ ingLevel s n p))
    let q := rdF s (macBase n + 0x50) 15 0
    nmwSettle (pfcSend n (classBits cl) (fun _ => q) s))

/-! ### Low-power idle (R171, R172) -/

/-- LPI_ENTER (R171, R172): the port has been idle for LPI_IDLE µs. -/
def execLpiEnter (port : Fin 24) (s : State) : Host.Outcome State Fault Refusal :=
  done s (
    let n := port.val
    let e := rd s (macBase n + 0x80)
    let mode := rdF s (macBase n) 31 28
    if bit e 31 && decide (3 ≤ mode) && decide (mode ≤ 6) && linkUp s n && !rdB s (macStatus n) 29
        && (!bit e 30 || rdB s (macBase n + 0x84) 31) && (List.range 8).all (fun c => queueEmpty s (128 + n) c) then
      bump (macCtr n 21) (wrB (macStatus n) 29 true s)
    else s)

/-- LPI_WAKE_DONE (R171): TW_TX has passed since the wake. -/
def execLpiWakeDone (port : Fin 24) (s : State) : Host.Outcome State Fault Refusal :=
  done s (setMac port { macOf s port with lpiWait := false } s)

/-! ### TC10 (R178, R179) -/

/-- TC10_SLEEP (R178): a write of 1 to TC10_CTRL.SLEEP. -/
def execTc10Sleep (req : Requester) (port : Fin 24) (s : State) : Host.Outcome State Fault Refusal :=
  done s (regCmd req (hostOrKiln req) (macBase port + 0x94) (tc10Sleep port) s)

/-- TC10_WAKE_CMD (R179): a write of 1 to TC10_CTRL.WAKE. -/
def execTc10WakeCmd (req : Requester) (port : Fin 24) (s : State) : Host.Outcome State Fault Refusal :=
  done s (regCmd req (hostOrKiln req) (macBase port + 0x94) (tc10Wake port) s)

/-- TC10_WAKE (R179, R415): WAKE_PIO of a port is asserted, or released. -/
def execTc10Wake (port : Fin 24) (level : Bool) (s : State) : Host.Outcome State Fault Refusal :=
  done s (
    if !tc10On s port then s
    else if level then
      nmwSettle (busWakeEth port (tc10Wake port (raiseLive (lfMac port 5) s)))
    else setLive (lfMac port 5) false s)

/-! ### Service port (R180) -/

/-- SVC_RX_FRAME (R180): the service port receives a frame; full says that its receive buffer has no room. -/
def execSvcRxFrame (bytes : List Byte) (fcs : FcsKind) (full : Bool) (s : State) : Host.Outcome State Fault Refusal :=
  done s (
    let s := bumpN (macCtr 24 0) (bytes.length + 4) s
    if bytes.length + 4 < 64 then bump (macCtr 24 5) s
    else if maxFrame s 24 < bytes.length + 4 then bump (macCtr 24 6) s
    else
      match fcs with
      | .stomped => bump (macCtr 24 7) s
      | .bad => bump (macCtr 24 4) s
      | .good =>
        let s := macCountRx 24 bytes s
        let et := beAt bytes 12 2
        if slice bytes 0 6 = macSa s 24 ∨ isBcast bytes = true ∨ beAt bytes 0 2 = 0x3333
            ∨ et = 0x0800 ∨ et = 0x0806 ∨ et = 0x86DD then
          if full then bump (macCtr 24 8) s else emit (.kilnFrame 256 0 bytes) s
        else bump (macCtr 24 9) s)

end Sys2Proof.Machine
end

