-- ==== Sys2Proof/Machine/Hst.lean ====
section
/-! DEFINITION. Sys2Proof/Machine/Hst.lean: Slip queue pairs (R433 to R449): doorbells, sends and their writebacks,
delivery, interrupts, capture and control classes. -/

namespace Sys2Proof.Machine
open Sys2Proof

/-! ### Queue pairs -/

/-- Runtime register o of queue pair q. -/
def qpKey (q o : Nat) : Nat := 0x00510000 + 0x40 * q + o

/-- HST_QP_CFG of queue pair q. -/
def qpCfg (s : State) (q : Nat) : Word := rd s (0x00520000 + 4 * q)

/-- Owner function, CLASS and TX_MODE of a queue pair (R433). -/
def qpOwner (s : State) (q : Nat) : Nat := fld (qpCfg s q) 30 28
def qpClass (s : State) (q : Nat) : Nat := fld (qpCfg s q) 27 26
def qpTxMode (s : State) (q : Nat) : Nat := fld (qpCfg s q) 25 24

/-- A queue pair's state beyond its registers. -/
def qpOf (s : State) (q : Nat) : Qp := tblGet s.qps q {}

/-- Set a queue pair's state beyond its registers. -/
def setQp (q : Nat) (v : Qp) (s : State) : State := { s with qps := if v = {} then tblErase s.qps q else tblSet s.qps q v }

/-- Counter j of a queue pair: 0 TX_SENDS, 1 TX_BAD_DESC, 2 RX_ITEMS, 3 NO_BUF_DROP, 4 FULL_DROP, 5 MARK_PRESSURE,
6 PARITY_ERR, 7 DB_ERR. -/
def qpCtr (q j : Nat) : Nat := 0x00530000 + 0x40 * q + 8 * j

/-- ENABLE, BUSY and ERROR of QP_CTRL. -/
def qpEn (s : State) (q : Nat) : Bool := rdB s (qpKey q 0) 31
def qpBusy (s : State) (q : Nat) : Bool := rdB s (qpKey q 0) 30
def qpErr (s : State) (q : Nat) : Bool := rdB s (qpKey q 0) 29

/-- The queue pair serves its rings: enabled and not in ERROR (R435). -/
def qpRuns (s : State) (q : Nat) : Bool := qpEn s q && !qpErr s q

/-- Ring size and buffer size of a queue pair (R434). -/
def qpRing (s : State) (q : Nat) : Nat := 2 ^ rdF s (qpKey q 0) 19 16
def qpBuf (s : State) (q : Nat) : Nat := 64 * rdF s (qpKey q 0) 8 0

/-- The 64-bit ring base at offset o. -/
def qpBase (s : State) (q o : Nat) : Nat := (rd s (qpKey q o)).toNat + 2 ^ 32 * (rd s (qpKey q (o + 4))).toNat

/-- The distance from index a to index b of free-running 16-bit counts. -/
def idxDist (a b : Nat) : Nat := (b + 65536 - a % 65536) % 65536

/-- A queue pair's registers are written by its owner function, or by host function 0 (R430, R431). -/
def qpMay (s : State) (q : Nat) (r : Requester) : Bool :=
  match r with
  | .host f => f.val == 0 || f.val == qpOwner s q
  | r => hostRights r

/-- The level of a queue pair's watermark (R449): entries not consumed, or the words of the capture ring. -/
def capWords (i : SlipItem) : Nat := (i.bytes.length + 7) / 8 + 4
def capUsed (s : State) (q : Nat) : Nat := (qpOf s q).cap.foldl (fun n i => n + capWords i) 0
def qpLevel (s : State) (q : Nat) : Nat :=
  if qpClass s q = 1 then capUsed s q else idxDist (qpOf s q).cqCons (rdF s (qpKey q 0x30) 15 0)

/-- QP_WM is LIVE while a pending bit is set (R449). -/
def qpWmLive (s : State) : State := setLive (lfHst 5) ((List.range 32).any (fun w => rd s (0x00500100 + 4 * w) != 0)) s

/-- The watermark of queue pair q sees its level; CAP_STATUS shows the ring words in use. -/
def qpSettle (q : Nat) (s : State) : State :=
  let s := if qpClass s q = 1 then
      let m := (qpOf s q).capMark
      wr (qpKey q 0x3C) (w32 (m.getD 0)) (wr (qpKey q 0x38) (w32 (b2n m.isSome * 2 ^ 31 + capUsed s q)) s)
    else s
  let (s, ev) := wmSee (0x00540000 + 0x20 * q) (qpLevel s q) s
  if ev then qpWmLive (raise (lfHst 5) (wrB (0x00500100 + 4 * (q / 32)) (q % 32) true s)) else s

/-! ### Interrupts (R445) -/

/-- Send the receive vector, or the transmit vector, of a queue pair: its interrupt is then disarmed. -/
def qpAnnounce (q : Nat) (tx : Bool) (s : State) : State :=
  let v := rd s (qpKey q 4)
  if tx then sendVec (qpOwner s q) (fld v 21 16) (setQp q { qpOf s q with armedTx := false, unannTx := 0 } s)
  else sendVec (qpOwner s q) (fld v 29 24) (setQp q { qpOf s q with armed := false, unann := 0 } s)

/-- Send the vectors whose count is reached, or whose delay is 0; expired: ITR_US has passed. -/
def qpIrq (q : Nat) (expired : Bool) (s : State) : State :=
  let v := rd s (qpKey q 4)
  let due := fun n : Nat => decide (0 < n) && (decide (max 1 (fld v 7 0) ≤ n) || fld v 15 8 == 0 || expired)
  let s := if bit v 31 && (qpOf s q).armed && due (qpOf s q).unann then qpAnnounce q false s else s
  if bit v 23 && (qpOf s q).armedTx && due (qpOf s q).unannTx then qpAnnounce q true s else s

/-! ### Sends (R437 to R439) -/

/-- Write the writebacks that are complete, in ring order, at most n of them; TX_HEAD follows (R439). -/
def wbDrain (q : Nat) : Nat → State → State
  | 0, s => s
  | n + 1, s =>
    match (qpOf s q).wbs with
    | [] => s
    | w :: rest =>
      if w.wait then s
      else
        let ts := w.ts.getD 0
        let words := [w32 (ts / 2 ^ 32), w32 ts,
                      w32 (2 ^ 31 + b2n w.ts.isSome * 2 ^ 30 + b2n w.flushed * 2 ^ 29 + w.code)]
        let s := setQp q { qpOf s q with wbs := rest, unannTx := (qpOf s q).unannTx + 1 } s
        let s := emit (.pcieWrite (qpOwner s q) (qpBase s q 8 + 32 * (w.eop % qpRing s q) + 16) (bytesOfWords words)) s
        wbDrain q n (wrF (qpKey q 0x2C) 15 0 (w.eop + 1) s)

/-- Writebacks that are due are written and announced. -/
def wbFlush (q : Nat) (s : State) : State := qpIrq q false (wbDrain q (qpOf s q).wbs.length s)

/-- The first frame of a send starts on an Ethernet port with a transmit timestamp, or the send has ended otherwise
(R439). -/
def sendDone (q eop : Nat) (ts : Option Nat) (s : State) : State :=
  let v := qpOf s q
  if v.wbs.any (fun w => w.eop = eop && w.wait) then
    wbFlush q (setQp q { v with wbs := v.wbs.map (fun w => if w.eop = eop ∧ w.wait = true then { w with wait := false, ts := ts } else w) } s)
  else s

/-- A packet that carries a send has ended without a transmit timestamp. -/
def sendLost (p : Pkt) (s : State) : State :=
  match p.send with
  | some (q, e) => sendDone q e none s
  | none => s

/-- Discarded sends of so many descriptors each: writebacks that carry FLUSHED (R436, R448). -/
def sendsFlushed (q : Nat) : List Nat → State → State
  | [], s => s
  | n :: t, s =>
    let v := qpOf s q
    let k := min (max 1 n) (idxDist v.txNext v.txProd)
    if k = 0 then s
    else
      sendsFlushed q t (setQp q { v with txNext := (v.txNext + k) % 65536,
                                         wbs := v.wbs ++ [{ eop := (v.txNext + k - 1) % 65536, flushed := true }] } s)

/-- A send breaks a limit of R437. -/
def sendBad (s : State) (q : Nat) (ds : List SendDesc) : Bool :=
  match ds with
  | [] => true
  | d :: _ =>
    let len := ds.foldl (fun n x => n + x.len) 0
    let mode := qpTxMode s q
    let seg := d.seg.val
    decide (16 < ds.length) || !d.sop || ds.dropLast.any (·.eop) || (ds.drop 1).any (·.sop) || !((ds.getLast?.map (·.eop)).getD false)
      || ds.any (fun x => x.len == 0 || decide (65535 < x.len)) || decide (4 < seg)
      || (match mode with
          | 0 => decide ((if seg = 0 then 9600 else d.h + 65535) < len)
          | 1 => decide (2048 < len) || seg != 0
          | 2 => decide (4096 < len) || seg != 0
          | _ => true)

/-- A send's item enters the lookup queue, or waits while it is full (R257, R438). -/
def lqItem (it : RItem) (s : State) : State :=
  if s.srt.held = [] ∧ s.srt.lq.length < 1024 then { s with srt := { s.srt with lq := s.srt.lq ++ [it] } }
  else { s with srt := { s.srt with held := s.srt.held ++ [it] } }

/-- A good send is handed on (R437): to pipeline 0 at GPN 152, to the router, or to Kiln firmware. -/
def sendHand (q eop : Nat) (d : SendDesc) (data : List Byte) (s : State) : State :=
  match qpTxMode s q with
  | 0 =>
    let p : Pkt := { bytes := data, ingress := 152 + 256 * qpOwner s q, cls := d.tc, ts := tsNow s, sub := qpOwner s q,
                     seg := d.seg, mss := d.mss, hdrLen := d.h, send := if d.tsReq then some (q, eop) else none }
    match shfArrive p s with
    | (some p, s) => ingAppend 152 p s
    | (none, s) => sendLost p s
  | 1 => lqLive (lqItem { src := 0x400 + q, kind := 3, id := d.pduId, data := data, ts := tsNow s } s)
  | _ => emit (.kilnFrame (0x400 + q) (tsNow s) data) s

/-- SLIP_SEND (R437 to R439): the device has read the descriptors and the data of the next send of a queue pair; dataOk
says the host returned no poisoned or unsuccessful completion. -/
def execSlipSend (q : Fin 1024) (ds : List SendDesc) (data : List Byte) (dataOk : Bool) (s : State) :
    Host.Outcome State Fault Refusal :=
  done s (
    let v := qpOf s q
    let n := ds.length
    if !qpRuns s q || decide (idxDist v.txNext v.txProd < n) || n == 0
        || (qpTxMode s q == 1 && (s.srt.held != [] || decide (1024 ≤ s.srt.lq.length))) then s
    else
      let d := ds.headD {}
      let eop := (v.txNext + n - 1) % 65536
      let bad := sendBad s q ds || decide (data.length ≠ ds.foldl (fun n x => n + x.len) 0)
      let code := if bad then cBadCommand else if !dataOk then cFarError else cOk
      let ok := code == cOk
      let s := setQp q { v with txNext := (v.txNext + n) % 65536,
                                wbs := v.wbs ++ [{ eop := eop, wait := ok && d.tsReq && qpTxMode s q == 0, code := code }] } s
      let s := if ok then sendHand q eop d data (bump (qpCtr q 0) s) else bump (qpCtr q 1) s
      shfSettle (wbFlush q s))

/-- SEND_TS_TIMEOUT (R439): a writeback has waited 1 ms for its timestamp. -/
def execSendTsTimeout (q : Fin 1024) (s : State) : Host.Outcome State Fault Refusal :=
  done s (match (qpOf s q).wbs with
    | w :: _ => sendDone q w.eop none s
    | [] => s)

/-! ### Doorbells (R435) -/

/-- The queue pair goes to ERROR. -/
def qpError (q : Nat) (s : State) : State := raise (lfHst 0) (bump (qpCtr q 7) (wrB (qpKey q 0) 29 true s))

/-- TX_DOORBELL. -/
def execTxDoorbell (req : Requester) (q : Fin 1024) (idx : BitVec 16) (s : State) : Host.Outcome State Fault Refusal :=
  done s (regCmd req (qpMay s q req) (qpKey q 0x20) (fun s =>
    let v := qpOf s q
    let head := rdF s (qpKey q 0x2C) 15 0
    if !qpRuns s q then s
    else if qpRing s q < idxDist head idx.toNat ∨ idxDist head idx.toNat < idxDist head v.txProd then qpError q s
    else setQp q { v with txProd := idx.toNat } s) s)

/-- RXB_DOORBELL. -/
def execRxbDoorbell (req : Requester) (q : Fin 1024) (idx : BitVec 16) (s : State) : Host.Outcome State Fault Refusal :=
  done s (regCmd req (qpMay s q req) (qpKey q 0x24) (fun s =>
    let v := qpOf s q
    if !qpRuns s q then s
    else if qpRing s q < idxDist v.rxbNext idx.toNat ∨ idxDist v.rxbNext idx.toNat < idxDist v.rxbNext v.rxbProd then qpError q s
    else setQp q { v with rxbProd := idx.toNat } s) s)

/-- CQ_DOORBELL: the consumer index, and with ARM = 1 the interrupt is armed again (R445). -/
def execCqDoorbell (req : Requester) (q : Fin 1024) (idx : BitVec 16) (arm : Bool) (s : State) : Host.Outcome State Fault Refusal :=
  done s (regCmd req (qpMay s q req) (qpKey q 0x28) (fun s =>
    let v := qpOf s q
    let tail := rdF s (qpKey q 0x30) 15 0
    if !qpRuns s q then s
    else if qpRing s q < idxDist idx.toNat tail ∨ idxDist v.cqCons tail < idxDist idx.toNat tail then qpError q s
    else
      let s := setQp q { v with cqCons := idx.toNat, armed := v.armed || arm, armedTx := v.armedTx || arm } s
      qpSettle q (qpIrq q false s)) s)

/-! ### Delivery (R441 to R444) -/

/-- The words of a completion entry (R441). -/
def cqEntry (s : State) (q : Nat) (it : SlipItem) (sop eop trunc : Bool) (bytes buf : Nat) : List Word :=
  let tail := rdF s (qpKey q 0x30) 15 0
  let l := it.bytes.length
  let phase := b2n (tail / qpRing s q % 2 == 0)
  let vb := if eop && !trunc then l - 8 * ((l + 7) / 8 - 1) else 0
  let poison := eop && it.poison.isSome
  [ w32 (phase * 2 ^ 31 + b2n sop * 2 ^ 30 + b2n eop * 2 ^ 29 + b2n poison * 2 ^ 28 + b2n trunc * 2 ^ 27 + it.kind % 8 * 2 ^ 24
      + vb * 2 ^ 20 + b2n (it.ts != 0) * 2 ^ 19 + it.cls % 8 * 2 ^ 16 + bytes % 65536),
    w32 (buf % 65536 * 65536 + (if poison then it.poison.getD 0 % 2 ^ 14 else 0)),
    w32 it.id, w32 (it.ext % 256 * 2 ^ 24 + it.source % 2 ^ 11 * 2 ^ 8), w32 (it.ts / 2 ^ 32), w32 it.ts, w32 it.seq,
    w32 (if eop && !trunc then l else 0) ]

/-- Write one completion entry. -/
def cqWrite (q : Nat) (it : SlipItem) (sop eop trunc : Bool) (bytes buf : Nat) (s : State) : State :=
  let tail := rdF s (qpKey q 0x30) 15 0
  let s := emit (.pcieWrite (qpOwner s q) (qpBase s q 0x18 + 32 * (tail % qpRing s q)) (bytesOfWords (cqEntry s q it sop eop trunc bytes buf))) s
  let s := wrF (qpKey q 0x30) 15 0 (tail + 1) s
  qpIrq q false (setQp q { qpOf s q with unann := (qpOf s q).unann + 1 } s)

/-- Write the next buffers of the item in delivery, to the addresses that their descriptors hold (R442); after its last
buffer a captured item is delivered and RD advances (R446). -/
def slipWrite (q : Nat) : List Nat → State → State
  | [], s => s
  | a :: t, s =>
    match (qpOf s q).cur with
    | none => s
    | some (it, off) =>
      let part := slice it.bytes off (qpBuf s q)
      let last := decide (it.bytes.length ≤ off + qpBuf s q)
      let v := qpOf s q
      let s := emit (.pcieWrite (qpOwner s q) a (padTo part ((part.length + 63) / 64 * 64) 0)) s
      let rd := if last ∧ qpClass s q = 1 then (v.capRd + 1) % 2 ^ 32 else v.capRd
      let s := setQp q { v with cur := if last then none else some (it, off + qpBuf s q), rxbNext := (v.rxbNext + 1) % 65536,
                                capRd := rd } s
      let s := cqWrite q it (off == 0) last false part.length v.rxbNext s
      slipWrite q t (if last then bump (qpCtr q 2) s else s)

/-- The item in delivery is ended at once with a cut EOP entry (R444). -/
def slipCut (q : Nat) (s : State) : State :=
  match (qpOf s q).cur with
  | none => s
  | some (it, off) =>
    let b := (qpOf s q).rxbNext
    if off = 0 then setQp q { qpOf s q with cur := none } s
    else cqWrite q it false true true 0 b (setQp q { qpOf s q with cur := none, rxbNext := (b + 1) % 65536 } s)

/-- Room for a whole item: buffers posted, and completion entries free (R444). -/
def slipRoom (s : State) (q : Nat) (it : SlipItem) : Bool :=
  let v := qpOf s q
  let n := max 1 ((it.bytes.length + qpBuf s q - 1) / qpBuf s q)
  qpRuns s q && decide (0 < qpBuf s q) && decide (n ≤ idxDist v.rxbNext v.rxbProd)
    && decide (n + idxDist v.cqCons (rdF s (qpKey q 0x30) 15 0) ≤ qpRing s q)

/-- A parity error injected into a queue pair's next word (R443, R542): the item is poisoned. -/
def slipParity (q : Nat) (it : SlipItem) (s : State) : SlipItem × State :=
  if injFor s 0x0E q then ({ it with poison := it.poison.or (some 0) }, raise (lfHst 1) (bump (qpCtr q 6) (injDone s))) else (it, s)

/-- Start the delivery of an item to the buffers at addrs. -/
def slipStart (q : Nat) (it : SlipItem) (addrs : List Nat) (s : State) : State :=
  slipWrite q addrs (setQp q { qpOf s q with cur := some (it, 0) } s)

/-- A capture ring accepts an item, or says it does not fit (R446, R447). -/
def capAccept (q : Nat) (it : SlipItem) (s : State) : Bool × State :=
  let v := qpOf s q
  if fld (qpCfg s q) 15 0 * 128 < capUsed s q + capWords it then (false, s)
  else (true, setQp q { v with cap := v.cap ++ [{ it with seq := v.capNext }], capNext := (v.capNext + 1) % 2 ^ 32 } s)

/-- An item of GPN 152 or of Kiln firmware reaches its queue pair (R440, R444, R447); it says whether it was taken. -/
def slipItem (q : Nat) (held : Bool) (it : SlipItem) (addrs : List Nat) (s : State) : Bool × State :=
  let (it, s) := slipParity q it s
  if qpClass s q = 1 then
    if !qpRuns s q then (false, if held then s else raise (lfHst 2) (bump (qpCtr q 3) s))
    else
      match capAccept q it s with
      | (true, s) => (true, s)
      | (false, s) =>
        if held then (false, s)
        else if (qpOf s q).capMark.isSome then (false, raise (lfHst 3) (bump (qpCtr q 5) s))
        else (false, raise (lfHst 4) (bump (qpCtr q 4) s))
  else if slipRoom s q it then (true, slipStart q it addrs s)
  else (false, if held then s else raise (lfHst 2) (bump (qpCtr q 3) s))

/-- The item of a packet of GPN 152 (R441). -/
def itemOfPkt (c : Nat) (p : Pkt) : SlipItem :=
  { bytes := p.bytes, kind := p.kind, cls := c, id := p.id, ext := p.ext, source := p.ingress, ts := p.ts, seq := p.flow % 4096 }

/-- SLIP_DELIVER (R440 to R447): the engine takes an item and writes it into the buffers whose addresses the buffer ring
holds; with fewer addresses than the item needs it stays in delivery. poison names a word that failed its check. -/
def execSlipDeliver (work : SlipWork) (q : Fin 1024) (addrs : List Nat) (poison : Option Nat) (s : State) :
    Host.Outcome State Fault Refusal :=
  done s (
    let mark (it : SlipItem) : SlipItem := { it with poison := it.poison.or poison }
    let par (k : Nat) (s : State) : State := if poison.isSome then raise (lfHst 1) (bump (qpCtr k 6) s) else s
    match work with
    | .queue =>
      match [7, 6, 5, 4, 3, 2, 1, 0].find? (fun c => (shfHead s 152 c).isSome) with
      | none => s
      | some c =>
        match shfHead s 152 c with
        | none => s
        | some p =>
          if (qpOf s (p.qp % 1024)).cur.isSome then s
          else
            let r := slipItem (p.qp % 1024) false (mark (itemOfPkt c p)) addrs (par (p.qp % 1024) (shfPop 152 c s))
            shfSettle (qpSettle (p.qp % 1024) (shfUnref p.pid r.2))
    | .kiln bytes =>
      if (qpOf s q).cur.isSome || qpClass s q == 0 then s
      else qpSettle q (slipItem q true (mark { bytes := bytes, kind := 3, cls := 7, ts := tsNow s }) addrs (par q s)).2
    | .capture =>
      match (qpOf s q).cap.find? (fun i => i.seq = (qpOf s q).capRd), (qpOf s q).cur with
      | some it, none =>
        if slipRoom s q it then
          qpSettle q (slipStart q (mark it) addrs s)
        else s
      | _, _ => s
    | .resume => if qpRuns s q then qpSettle q (slipWrite q addrs s) else s)

/-- QP_ITR_EXPIRY (R445): ITR_US has passed since the first unannounced entry. -/
def execQpItrExpiry (q : Fin 1024) (s : State) : Host.Outcome State Fault Refusal := done s (qpIrq q true s)

/-! ### Enabling, disabling, flush (R434, R436, R448) -/

/-- The values of R434 are out of range; a CAPTURE queue pair needs overflow memory (R567). -/
def qpBadCfg (s : State) (q : Nat) : Bool :=
  let w := rd s (qpKey q 0)
  let sz := 2 ^ fld w 19 16
  !bit (qpCfg s q) 31 || decide (fld w 19 16 < 4) || decide (fld w 8 0 < 4) || decide (256 < fld w 8 0)
    || qpBase s q 0x08 % (32 * sz) != 0 || qpBase s q 0x10 % (16 * sz) != 0 || qpBase s q 0x18 % (32 * sz) != 0
    || (qpClass s q == 1 && !bit (rd s 0x00480800) 31)

/-- QP_ENABLE (R434). -/
def execQpEnable (req : Requester) (q : Fin 1024) (s : State) : Host.Outcome State Fault Refusal :=
  done s (regCmd req (qpMay s q req) (qpKey q 0) (fun s =>
    if qpEn s q || qpBusy s q then s
    else if qpBadCfg s q then wrB (qpKey q 0) 29 true s
    else
      let s := wrF (qpKey q 0x30) 15 0 0 (wrF (qpKey q 0x2C) 15 0 0 (setQp q {} s))
      qpSettle q (wrB (qpKey q 0) 31 true (wrB (qpKey q 0) 29 false s))) s)

/-- The queue pair stops (R436): unstarted sends are discarded with a FLUSHED writeback, an item in delivery is cut. -/
def qpStop (q : Nat) (sends : List Nat) (s : State) : State :=
  let s := wrB (qpKey q 0) 30 true (wrB (qpKey q 0) 31 false s)
  qpSettle q (wbFlush q (sendsFlushed q sends (slipCut q s)))

/-- QP_DISABLE (R436): sends gives the descriptors of each send that has not been read. -/
def execQpDisable (req : Requester) (q : Fin 1024) (sends : List Nat) (s : State) : Host.Outcome State Fault Refusal :=
  done s (regCmd req (qpMay s q req) (qpKey q 0) (fun s =>
    if qpEn s q then qpStop q sends s else s) s)

/-- QP_QUIESCED (R436): no further write is issued for the disabled queue pair. -/
def execQpQuiesced (q : Fin 1024) (s : State) : Host.Outcome State Fault Refusal :=
  done s (
    if qpBusy s q && !qpEn s q then
      let v := qpOf s q
      let s := wbFlush q (setQp q { v with wbs := v.wbs.map (fun w => { w with wait := false }) } s)
      wrB (qpKey q 0) 30 false s
    else s)

/-- QP_FLUSH (R448): a CONTROL queue pair is emptied in both directions. -/
def execQpFlush (req : Requester) (q : Fin 1024) (sends : List Nat) (s : State) : Host.Outcome State Fault Refusal :=
  done s (regCmd req (qpMay s q req) (qpKey q 0) (fun s =>
    if qpClass s q = 2 ∧ qpRuns s q = true then qpSettle q (wbFlush q (sendsFlushed q sends (slipCut q s))) else s) s)

/-! ### Capture (R446, R447) -/

/-- CAP_MARK: the mark is set at RD. -/
def execCapMark (req : Requester) (q : Fin 1024) (s : State) : Host.Outcome State Fault Refusal :=
  done s (regCmd req (qpMay s q req) (qpKey q 0) (fun s =>
    if qpClass s q = 1 ∧ qpRuns s q = true then
      qpSettle q (setQp q { qpOf s q with capMark := some (qpOf s q).capRd } s) else s) s)

/-- CAP_REWIND: an item in delivery is cut and RD goes to the mark. -/
def execCapRewind (req : Requester) (q : Fin 1024) (s : State) : Host.Outcome State Fault Refusal :=
  done s (regCmd req (qpMay s q req) (qpKey q 0) (fun s =>
    match (qpOf s q).capMark with
    | some m =>
      if qpClass s q = 1 ∧ qpRuns s q = true then
        let s := slipCut q s
        qpSettle q (setQp q { qpOf s q with capRd := m } s)
      else s
    | none => s) s)

/-- The item numbered a lies before the item numbered b. -/
def seqBefore (a b : Nat) : Bool := decide (0 < (b + 2 ^ 32 - a) % 2 ^ 32) && decide ((b + 2 ^ 32 - a) % 2 ^ 32 < 2 ^ 31)

/-- CAP_RELEASE: every delivered item numbered n or below is freed; a freed mark is cancelled. -/
def execCapRelease (req : Requester) (q : Fin 1024) (n : Word) (s : State) : Host.Outcome State Fault Refusal :=
  done s (regCmd req (qpMay s q req) (qpKey q 0x34) (fun s =>
    if qpClass s q = 1 ∧ qpRuns s q = true then
      let v := qpOf s q
      let keep := v.cap.filter (fun i => seqBefore n.toNat i.seq || !seqBefore i.seq v.capRd)
      let gone := match v.capMark with
        | some m => v.cap.any (fun i => i.seq = m) && !keep.any (fun i => i.seq = m)
        | none => false
      qpSettle q (setQp q { v with cap := keep, capMark := if gone then none else v.capMark } s)
    else s) s)

/-! ### Function resets (R432) -/

/-- Every queue pair of function f is disabled, without writebacks or completions. -/
def fnQpsOff (f : Nat) (s : State) : State :=
  (s.regs.filterMap (fun e => if 0x00510000 ≤ e.1 ∧ e.1 < 0x00520000 ∧ e.1 % 0x40 = 0 ∧ bit e.2 31 = true then
      some ((e.1 - 0x00510000) / 0x40) else none)).foldl (fun s q =>
    if qpOwner s q = f then
      setQp q { qpOf s q with cur := none, wbs := [] } (wrB (qpKey q 0) 30 true (wrB (qpKey q 0) 31 false s))
    else s) s

/-- FUNCTION_FLR (R432): an FLR or hot reset of function f, of all functions with f = 0, clears its MSI-X table as well; a
clear of Bus Master Enable acts on its queue pairs only. -/
def execFunctionFlr (f : Fin 8) (busMaster : Bool) (s : State) : Host.Outcome State Fault Refusal :=
  done s (
    let fns := if f.val = 0 ∧ busMaster = false then List.range 8 else [f.val]
    fns.foldl (fun s g =>
      let s := fnQpsOff g s
      if busMaster then s
      else dropWords (fun k => decide (bar2Key g 0 ≤ k) && decide (k < bar2Key g 0x1000)) s) s)

end Sys2Proof.Machine
end

