-- ==== Sys2Proof/Machine/Ports.lean ====
section
/-! DEFINITION. Sys2Proof/Machine/Ports.lean: the Ethernet egress ports: header rewrites (R246, R335), segmentation
(R173 to R175), mirroring (R320 to R322), cut-through (R38, R163, R313), transmission (R161, R162, R176), port scheduling
(R323 to R326), gate lists (R327 to R329), residue commands (R318) and FRER state (R332 to R334). -/

namespace Sys2Proof.Machine
open Sys2Proof

/-! ### Rewrites -/

/-- Add to a 16-bit one's complement checksum field for a 16-bit word that changes from a to b (R246). -/
def csumUpdate (c a b : Nat) : Nat := 65535 - inetFold ((65535 - c) + (65535 - a) + b)

/-- TTL or hop limit of the IP header at l3. -/
def ttlOf (f : List Byte) (l3 : Nat) : Nat := if byteAt f l3 / 16 = 6 then byteAt f (l3 + 7) else byteAt f (l3 + 8)

/-- The TTL or hop limit decremented, with the IPv4 header checksum updated incrementally. -/
def decTtl (f : List Byte) (l3 : Nat) : List Byte :=
  if byteAt f l3 / 16 = 6 then patch f (l3 + 7) [b8 (byteAt f (l3 + 7) - 1)]
  else
    let old := beAt f (l3 + 8) 2
    patch (patch f (l3 + 8) [b8 (byteAt f (l3 + 8) - 1)]) (l3 + 10) (beBytes 2 (csumUpdate (beAt f (l3 + 10) 2) old (old - 256)))

/-- The rewrite of a next-hop entry (R246): DA, the port's own address with SET_SA, the VID of an outer tag with SET_VID,
TTL with DEC_TTL. -/
def nhRewrite (nh : List Word) (sa : List Byte) (l3 : Nat) (f : List Byte) : List Byte :=
  match nh with
  | [w0, w1, w2, w3] =>
    let f := patch f 0 (beBytes 4 w2.toNat ++ beBytes 2 (fld w3 31 16))
    let f := if bit w0 29 then patch f 6 sa else f
    let f := if bit w1 31 && isTpid (beAt f 12 2) then patch f 14 (beBytes 2 (beAt f 14 2 / 4096 * 4096 + fld w1 11 0)) else f
    if bit w0 30 && l3 != 255 then decTtl f l3 else f
  | _ => f

/-- The place of an R-tag: after the last VLAN tag that follows the outer Ethernet header, looking at n tags at most (R335). -/
def rtagPos (f : List Byte) : Nat → Nat → Nat
  | 0, p => p
  | n + 1, p => if isTpid (beAt f p 2) then rtagPos f n (p + 4) else p

/-- A frame with its R-tag as a port sends it: with tag (some number), or without one (R335). -/
def rtagApply (tag : Option Nat) (f : List Byte) : List Byte :=
  let p := rtagPos f 4 12
  let rest := if beAt f p 2 = 0xF1C1 then f.drop (p + 6) else f.drop p
  match tag with
  | some n => f.take p ++ beBytes 2 0xF1C1 ++ [0, 0] ++ beBytes 2 n ++ rest
  | none => f.take p ++ rest

/-- A clock at the transmit timestamp point of En, in units of 2^-32 ns (R81, R177). -/
def atTxPoint (s : State) (n clk : Nat) : Nat :=
  ((clk : Int) + signed 32 (rd s (macBase n + 0x44)).toNat * (2 ^ 24 : Nat)).toNat

/-- The transmit timestamp of a frame of En that starts now (R80, R81, R177); none before initialisation. -/
def macTxStamp (s : State) (n : Nat) : Option Nat := if wtValid s then some (ts64 (atTxPoint s n s.tim.wt)) else none

/-- What En inserts into a TIME frame of the Coil at its transmit timestamp point (R501). -/
def timeInsert (s : State) (n op : Nat) (f : List Byte) : List Byte :=
  let o := if beAt f 12 2 = 0x8100 then 34 else 30
  let clk (c : Nat) : List Byte := beBytes 6 (clkSec c) ++ beBytes 4 (clkSub c) ++ beBytes 2 (clkFrac c)
  match op with
  | 1 => patch f o (clk (atTxPoint s n s.tim.domA))
  | 2 => patch f o (clk (atTxPoint s n s.tim.domB))
  | 3 => patch f (o + 8) (beBytes 8 ((macTxStamp s n).getD 0))
  | _ => f

/-- The departure of a PDELAY_REQ on En is kept for the link's measurement (R501). -/
def timeDepart (n : Nat) (p : Pkt) (s : State) : State :=
  match p.timeOp, (linksOf s).find? (fun l => linkPort s l == n) with
  | 4, some l =>
    { s with col := { s.col with pdelay := tblSet s.col.pdelay l { tblGet s.col.pdelay l {} with t1 := macTxStamp s n } } }
  | _, _ => s

/-- The frame that port n sends for a packet, before segmentation and MACsec. -/
def egressBytes (s : State) (n : Nat) (p : Pkt) : List Byte :=
  let f := timeInsert s n p.timeOp (nhRewrite p.nh (macSa s n) p.l3 p.bytes)
  match p.frer with
  | some (st, num) => rtagApply (if bit (rd s (0x0F030004 + 0x10 * st)) n then num else none) f
  | none => f

/-! ### Segmentation (R173 to R175) -/

/-- A TCP or UDP checksum over a segment: pseudo-header and L4 bytes. -/
def l4Csum (f : List Byte) (l3 l4 proto : Nat) : Nat :=
  let len := f.length - l4
  let ps := if byteAt f l3 / 16 = 6 then slice f (l3 + 8) 32 ++ beBytes 4 len ++ [0, 0, 0, b8 proto]
            else slice f (l3 + 12) 8 ++ [0, b8 proto] ++ beBytes 2 len
  inetCsum (ps ++ f.drop l4)

/-- Segment k of a send with its header rewritten (R174). -/
def segment (ty l3 l4 mss : Nat) (hdr part : List Byte) (k : Nat) (last : Bool) : List Byte :=
  let f := hdr ++ part
  let v6 := ty == 2 || ty == 4
  let f := if v6 then patch f (l3 + 4) (beBytes 2 (f.length - l3 - 40))
    else
      let f := patch f (l3 + 2) (beBytes 2 (f.length - l3))
      let f := patch (patch f (l3 + 4) (beBytes 2 (beAt f (l3 + 4) 2 + k))) (l3 + 10) [0, 0]
      patch f (l3 + 10) (beBytes 2 (inetCsum (slice f l3 (4 * (byteAt f l3 % 16)))))
  if ty ≤ 2 then
    let fl := byteAt f (l4 + 13)
    let fl := if last then fl else nsetBit (nsetBit fl 0 false) 3 false
    let fl := if k = 0 then fl else nsetBit fl 7 false
    let f := patch (patch f (l4 + 4) (beBytes 4 (beAt f (l4 + 4) 4 + k * mss))) (l4 + 13) [b8 fl]
    let f := patch f (l4 + 16) [0, 0]
    patch f (l4 + 16) (beBytes 2 (l4Csum f l3 l4 6))
  else
    let zero := beAt f (l4 + 6) 2 == 0 && !v6
    let f := patch (patch f (l4 + 4) (beBytes 2 (8 + part.length))) (l4 + 6) [0, 0]
    if zero then f
    else
      let c := l4Csum f l3 l4 17
      patch f (l4 + 6) (beBytes 2 (if c = 0 then 65535 else c))

/-- The segments of a send from payload bytes on, at most n of them. -/
def segments (ty l3 l4 mss : Nat) (hdr : List Byte) : Nat → Nat → List Byte → List (List Byte)
  | 0, _, _ => []
  | n + 1, k, rest =>
    let part := rest.take mss
    let more := rest.drop mss
    segment ty l3 l4 mss hdr part k more.isEmpty :: (if more.isEmpty then [] else segments ty l3 l4 mss hdr n (k + 1) more)

/-- The MACsec expansion that port n adds to a frame (R369). -/
def msecExpansion (s : State) (n : Nat) (f : List Byte) : Nat :=
  let cfg := rd s (msecKey n 0)
  if !bit cfg 31 || msecBypass s n (beAt f 12 2) || beAt f 12 2 == 0x8808 then 0 else if bit cfg 24 then 32 else 24

/-- The limits of R173 and R175 that a segmentation send meets at port n. -/
def segOk (s : State) (n : Nat) (p : Pkt) : Bool :=
  decide (54 ≤ p.hdrLen) && decide (p.hdrLen ≤ 254) && decide (64 ≤ p.mss) && decide (p.mss ≤ 9216)
    && decide (p.bytes.length ≤ p.hdrLen + 65535) && decide (p.hdrLen < p.bytes.length)
    && p.l3 != 255 && p.l4 != 255 && decide (p.l4 < p.hdrLen)
    && decide (p.hdrLen + p.mss + 4 + msecExpansion s n p.bytes ≤ maxFrame s n)

/-- The frames that port n sends for a packet: one, or its segments, or none where R175 drops the send. An R-tag that the
port inserts or removes moves the offsets of the header (R335). -/
def egressFrames (s : State) (n : Nat) (p : Pkt) : List (List Byte) :=
  let f := egressBytes s n p
  if p.seg = 0 then [f]
  else if segOk s n p then
    let moved (k : Nat) : Nat := k + f.length - p.bytes.length
    let payload := f.drop (moved p.hdrLen)
    segments p.seg (moved p.l3) (moved p.l4) p.mss (f.take (moved p.hdrLen)) ((payload.length + p.mss - 1) / p.mss) 0 payload
  else []

/-- Transmitted bytes of a frame with padding, MACsec and FCS. -/
def wireBytes (s : State) (n : Nat) (f : List Byte) : Nat := max 60 f.length + msecExpansion s n f + 4

/-- The wire length of a packet at port n (R325). -/
def wireLen (s : State) (n : Nat) (p : Pkt) : Nat :=
  (egressFrames s n p).foldl (fun k f => k + wireBytes s n f + 20) 0

/-- The wire time of so many bytes at port n, in ns, rounded up; 0 where the speed is not known. -/
def wireNs (s : State) (n len : Nat) : Nat :=
  let v := portSpeed s n
  if v = 0 then 0 else (len * 800 + v - 1) / v

/-! ### Coil DATA (R486) -/

/-- A packet leaves for another device as DATA: mode 0 LOOKUP, 1 DIRECTED with a GPN, 2 GROUP. A packet that arrived by DATA
keeps its ORIG_SPN, and its TTL goes on. -/
def coilDataTx (did mode arg cls : Nat) (p : Pkt) (s : State) : State :=
  match coilRoute s did with
  | none => bump (colCtr 4) s
  | some l =>
    if p.orig.isSome ∧ p.ttl = 0 then bump (colCtr 3) s
    else
      let f := nhRewrite p.nh (macSa s (fld (rd s (colLink l 0)) 20 16)) p.l3 p.bytes
      let orig := p.orig.getD (ownDid s * 256 + p.ingress % 256)
      coilOnLink l cls (coilHdr 0 cls (if p.orig.isSome then p.ttl - 1 else 15) did (ownDid s) f.length
        (mode * 2 ^ 30 + arg) orig ++ f) s

/-! ### Mirroring (R320 to R322) and cut-through (R38, R163, R313) -/

/-- Register o of mirror session m. -/
def mirKey (m o : Nat) : Nat := 0x00400200 + 0x40 * m + o

/-- A mirror copy is dropped (R314, R322). -/
def mirDrop (m : Nat) (ev : Bool) (s : State) : State :=
  let s := bump (mirKey m 0x28) s
  if ev then raise (lfSwc 7) s else s

/-- Port m meets the conditions of R38 and R163 for a frame that arrives at En and leaves in class c; idle names the ports
whose MAC is not transmitting. -/
def ctPortOk (s : State) (idle : List (Fin 24)) (n m c : Nat) (f : List Byte) : Bool :=
  decide (n < 24) && decide (m < 24) && idle.any (fun i => i.val == m) && linkUp s m && !linkDown s m
    && queueEmpty s (128 + m) c && !rdB s (macStatus m) 29 && !(macOf s m).lpiWait && !(macOf s m).sleepReq
    && decide (portSpeed s m ≤ portSpeed s n) && !rdB s (macStatus m) (16 + c)
    && decide (maxFrame s n + msecExpansion s m f ≤ maxFrame s m)

/-- A mirror copy for session m of bytes f (R320 to R322). ct: the original is cut through, with the idle ports (R41). -/
def mirCopy (m : Nat) (p : Pkt) (f : List Byte) (ct : Option (List (Fin 24))) (s : State) : State :=
  let cfg := rd s (mirKey m 0)
  if !bit cfg 31 then s
  else
    let tr := rdF s (mirKey m 8) 13 0
    let g := if tr = 0 then f else f.take (tr - 4)
    let dest := fld cfg 18 0
    let c := fld cfg 28 26
    let q : Pkt := { bytes := g, ingress := p.ingress, cls := p.cls, ts := p.ts, flow := p.flow, l3 := p.l3, l4 := p.l4, flags := p.flags,
                     seg := p.seg, mss := p.mss, hdrLen := p.hdrLen, mir := some m, qp := rdF s (mirKey m 4) 9 0 }
    let whole := tr == 0 || decide (f.length ≤ tr - 4)
    let n := dest % 256 - 128
    if dest / 256 ≠ 0 ∧ dest / 256 ≠ ownDid s then
      if p.bad then mirDrop m false s else bump (mirKey m 0x20) (coilDataTx (dest / 256) 1 (dest % 256) c q s)
    else if dest % 256 = 152 then
      if p.bad then mirDrop m false s
      else if !qpEnabled s q.qp || q.seg != 0 then mirDrop m true s
      else
        let (q, s) := shfOpen false q s
        match shfOffer 152 c q false s with
        | (true, s) => bump (mirKey m 0x20) s
        | (false, s) => mirDrop m true (shfUnref q.pid s)
    else if 128 ≤ dest % 256 ∧ n < 24 then
      let cut := match ct with
        | some idle => whole && ctPortOk s idle (p.ingress % 256 - 128) n c f
        | none => false
      if p.bad then
        if cut then bump (macCtr n 22) (emit (.eth n g true) (bump (mirKey m 0x20) s)) else mirDrop m false s
      else if linkDown s n || (q.seg == 0 && decide (maxFrame s n < g.length + 4)) then mirDrop m true s
      else
        let (q, s) := shfOpen false { q with ct := cut } s
        match shfOffer (128 + n) c q false s with
        | (true, s) => bump (mirKey m 0x20) (if cut then bump (swcCtr n 0) s else s)
        | (false, s) => mirDrop m true (shfUnref q.pid s)
    else mirDrop m true s

/-- Mirror copies of a set of sessions. -/
def mirCopies (l : List Nat) (p : Pkt) (f : List Byte) (ct : Option (List (Fin 24))) (s : State) : State :=
  l.foldl (fun s m => mirCopy m p f ct s) s

/-- The enabled sessions whose ING (o = 0x0C) or EGR (o = 0x10) names port n. -/
def mirSessions (s : State) (o n : Nat) : List Nat :=
  (List.range 4).filter (fun m => bit (rd s (mirKey m 0)) 31 && bit (rd s (mirKey m o)) n)

/-! ### Transmission -/

/-- En transmits one frame of a packet (R161, R162, R176, R321, R370): padded, mirrored, protected, counted. -/
def macEmit (n : Nat) (p : Pkt) (f : List Byte) (s : State) : State :=
  let f := padTo f 60 0
  if maxFrame s n < wireBytes s n f ∧ p.bad = false then bump (macCtr n 19) s
  else
    let s := if p.mir.isSome then s else mirCopies (mirSessions s 0x10 n) { p with seg := 0 } f none s
    match macsecProtect n f s with
    | (s, none) => s
    | (s, some w) =>
      let s := emit (.eth n w (p.bad || nbit p.flags 2)) s
      let s := bump (macCtr n 14) (bumpN (macCtr n 13) (w.length + 4) s)
      let s := if isBcast w then bump (macCtr n 16) s else if isGroup w then bump (macCtr n 15) s else s
      let s := if p.seg = 0 then s else bump (macCtr n 18) s
      if p.bad then bump (macCtr n 22) s else s

/-- En transmits a packet that has left its queue: its frames, the send that waits for it, its cells. -/
def macSend (n : Nat) (p : Pkt) (s : State) : State :=
  let fs := egressFrames s n p
  let s := if fs = [] then bump (macCtr n 26) s else s
  let s := match p.send with
    | some (q, e) => sendDone q e (if fs = [] then none else macTxStamp s n) s
    | none => s
  shfUnref p.pid (fs.foldl (fun s f => macEmit n p f s) (timeDepart n p s))

/-! ### Port scheduling (R323 to R326) -/

/-- Gate list of port n in bank b: control word, entry e, MAXWIN of a class. -/
def gclCtl (b n : Nat) : Nat := 0x0F100000 + 0x20000 * b + 0x1000 * n
def gclGates (s : State) (b n e : Nat) : Nat := fld (rd s (gclCtl b n + 0x800 + 8 * e)) 7 0
def gclInterval (s : State) (b n e : Nat) : Nat := (rd s (gclCtl b n + 0x800 + 8 * e + 4)).toNat
def gclLen (s : State) (b n : Nat) : Nat := rdF s (gclCtl b n) 8 0

/-- The bank of the running list: SWC_GCL_STATUS.BANK. -/
def gclBank (s : State) (n : Nat) : Nat := rdF s (swcPort n + 0x80) 30 30

/-- The instant in ns after the cycle start at which entry e begins. -/
def gclOffset (s : State) (b n : Nat) : Nat → Nat
  | 0 => 0
  | e + 1 => gclOffset s b n e + gclInterval s b n e

/-- The entry after the last of a run of entries from e on in which class c is open, looking at k entries. -/
def gclRun (s : State) (b n c : Nat) : Nat → Nat → Nat
  | 0, e => e
  | k + 1, e => if nbit (gclGates s b n e) c then gclRun s b n c k (e + 1) else e

/-- The end of class c's open window in clock units; none while the gates hold after the list (R329). -/
def windowEnd (s : State) (n c : Nat) : Option Nat :=
  match (macOf s n).gcl with
  | none => none
  | some e =>
    let b := gclBank s n
    let len := gclLen s b n
    if len ≤ e then none
    else some ((macOf s n).gclStart + gclOffset s b n (gclRun s b n c (len - e) e) * unitsPerNs)

/-- The gate of class c lets a packet of port n start now (R328, R329). -/
def gateLets (s : State) (n c : Nat) (p : Pkt) : Bool :=
  gateOpen s n c &&
    match windowEnd s n c with
    | none => true
    | some e => decide (s.tim.wt + wireNs s n (wireLen s n p) * unitsPerNs ≤ e)

/-- Class c of port n is eligible (R323). -/
def eligible (s : State) (n c : Nat) : Bool :=
  match shfHead s (128 + n) c with
  | none => false
  | some p =>
    !rdB s (macStatus n) (16 + c)
      && (!bit (rd s (swcPort n)) (8 + c) || decide (0 ≤ (macOf s n).credit.getD c 0))
      && gateLets s n c p

/-- A head frame longer than MAXWIN of its class is dropped under a running list (R329), at most k of them. -/
def gateTooLong (n c : Nat) : Nat → State → State
  | 0, s => s
  | k + 1, s =>
    match shfHead s (128 + n) c with
    | none => s
    | some p =>
      if (macOf s n).gcl.isSome ∧ (rd s (gclCtl (gclBank s n) n + 4 + 4 * c)).toNat < wireNs s n (wireLen s n p) then
        gateTooLong n c k (sendLost p (shfUnref p.pid (raise (lfSwc 2) (bump (swcCtr n 1) (shfPop (128 + n) c s)))))
      else s

/-- The member after c, downward and wrapping (R325). -/
def nextMember (mask c : Nat) : Nat :=
  (((List.range 8).map (fun k => (c + 15 - k) % 8)).find? (fun m => nbit mask m)).getD c

/-- The DWRR choice of R325: at most k members are looked at. -/
def dwrrPick (n mask : Nat) : Nat → State → Option Nat × State
  | 0, s => (none, s)
  | k + 1, s =>
    let m := macOf s n
    let c := if nbit mask m.turn then m.turn else nextMember mask m.turn
    let d : Int := m.deficit.getD c 0 + (if nbit m.visited c then 0 else ((rdF s (swcPort n + 0x20 + 4 * c) 17 0 : Nat) : Int))
    let len : Int := (shfHead s (128 + n) c).elim 0 (fun p => ((wireLen s n p : Nat) : Int))
    if eligible s n c && decide (len ≤ d) then
      (some c, setMac n { m with turn := c, visited := nsetBit m.visited c true, deficit := setAt m.deficit c (d - len) } s)
    else
      let d := if queueEmpty s (128 + n) c then 0 else d
      dwrrPick n mask k (setMac n { m with turn := nextMember mask c, visited := nsetBit m.visited c false,
                                           deficit := setAt m.deficit c d } s)

/-- The class that port n serves next (R324). -/
def portPick (n : Nat) (s : State) : Option Nat × State :=
  let mask := rdF s (swcPort n) 23 16
  let top := ([7, 6, 5, 4, 3, 2, 1, 0].find? (fun c => nbit mask c)).getD 0
  let grp := (List.range 8).any (fun c => nbit mask c && eligible s n c)
  match [7, 6, 5, 4, 3, 2, 1, 0].find? (fun c => if nbit mask c then c == top && grp else eligible s n c) with
  | none => (none, s)
  | some c => if nbit mask c then dwrrPick n mask (((List.range 8).filter (nbit mask)).length + 1) s else (some c, s)

/-- The credits of port n over a transmission of class c of len wire bytes (R326): the class falls at sendSlope, the others
rise; a positive credit of an empty queue is set to 0. -/
def cbsSend (n c len : Nat) (s : State) : State :=
  let sched := rd s (swcPort n)
  if fld sched 15 8 = 0 then s
  else
    let m := macOf s n
    let t := wireNs s n len * 6 / 5
    let rate : Int := (portSpeed s n * 10000 : Nat)
    let cr := (List.range 8).map (fun k =>
      let idle := rdF s (swcPort n + 0x40 + 8 * k) 27 0
      if !bit sched (8 + k) then 0
      else if k = c then
        let v := m.credit.getD k 0 - (if rate = 0 then 0 else ((len * 8 * 65536 : Nat) : Int) * (rate - idle) / rate)
        let v := clampI (-(2 ^ 47)) (2 ^ 47) v
        if queueEmpty s (128 + n) k && decide (0 < v) then 0 else v
      else creditRise (m.credit.getD k 0) idle t (!queueEmpty s (128 + n) k) (gateOpen s n k))
    setMac n { m with credit := cr, creditAt := s.now + t } s

/-- The port may start a frame: link up, no sleep requested, awake from low-power idle (R171, R178). -/
def portMay (s : State) (n : Nat) : Bool :=
  linkUp s n && !linkDown s n && !(macOf s n).sleepReq && !rdB s (macStatus n) 29 && !(macOf s n).lpiWait

/-- The packet at the head of class c leaves and is transmitted. -/
def portServe (n c : Nat) (s : State) : State :=
  match shfHead s (128 + n) c with
  | none => s
  | some p => macSend n p (cbsSend n c (wireLen s n p) (shfPop (128 + n) c s))

/-- PORT_SELECT (R323 to R329): a selection point of En. -/
def execPortSelect (port : Fin 24) (s : State) : Host.Outcome State Fault Refusal :=
  done s (
    let n := port.val
    if portMay s n then
      let s := forN 8 0 (fun c s => gateTooLong n c (eqOf s (128 + n) c).length s) (cbsUpdate n s)
      match portPick n s with
      | (some c, s) => nmwSettle (portServe n c s)
      | (none, s) => nmwSettle s
    else s)

/-! ### Gate lists (R327, R328) -/

/-- The gates of port n take a state. -/
def setGates (n : Nat) (entry gates : Nat) (s : State) : State :=
  let s := cbsUpdate n s
  wrF (swcPort n + 0x80) 23 16 entry (wrF (swcPort n + 0x80) 7 0 gates s)

/-- A cycle starts at a working time, in clock units (R328). -/
def gclStart (n at_ : Nat) (s : State) : State :=
  match activeBank s 21 with
  | none => s
  | some b =>
    if rdB s (gclCtl b n) 31 && decide (0 < gclLen s b n) then
      let cut := match (macOf s n).gcl with
        | some e => decide (e < gclLen s (gclBank s n) n)
        | none => false
      let s := if cut then raise (lfSwc 3) (bump (swcCtr n 2) s) else s
      let s := setGates n 0 (gclGates s b n 0) s
      let s := wrB (swcPort n + 0x80) 31 true (wrF (swcPort n + 0x80) 30 30 b s)
      setMac n { macOf s n with gcl := some 0, gclStart := at_ } s
    else s

/-- GCL_ENTRY (R328): the interval of the running entry ends; after the last one the gates hold. -/
def execGclEntry (port : Fin 24) (s : State) : Host.Outcome State Fault Refusal :=
  done s (
    let n := port.val
    let b := gclBank s n
    match (macOf s n).gcl with
    | none => s
    | some e =>
      if gclLen s b n ≤ e then s
      else
        let s := setMac n { macOf s n with gcl := some (e + 1) } s
        if e + 1 < gclLen s b n then setGates n (e + 1) (gclGates s b n (e + 1)) s else s)

/-! ### Residue lists and groups (R318, R319) -/

/-- The GPN of a port index: E0 to E23, HOST, KILN, ROUTER, COIL. -/
def gpnOf (i : Nat) : Nat := if i < 26 then 128 + i else i + 129

/-- A residue copy for a port is dropped and counted (R318). -/
def residueDrop (g : Nat) (p : Pkt) (s : State) : State := bump (swcCtr (portIdx g) 3) (shfUnref p.pid s)

/-- RESIDUE_ADMIT (R318): the queue of class c of a port admits its oldest residue copy. -/
def execResidueAdmit (port : Fin 28) (c : Fin 8) (s : State) : Host.Outcome State Fault Refusal :=
  done s (shfSettle (kilnTake 1 (residueAdmit (gpnOf port) c 1 s)))

/-- RESIDUE_EXPIRY (R318): the oldest copy of class c has waited RESIDUE_US and is dropped. -/
def execResidueExpiry (c : Fin 8) (s : State) : Host.Outcome State Fault Refusal :=
  done s (match residueOf s c with
    | [] => s
    | (g, p) :: rest => shfSettle (raise (lfSwc 0) (residueDrop g p (setResidue c rest s))))

/-- MC_GROUP_COMMIT (R319): a write to word 0 of group g commits it with the words staged for it. -/
def execMcGroupCommit (req : Requester) (g : Fin 4096) (w : Word) (s : State) : Host.Outcome State Fault Refusal :=
  done s (regCmd req (hostOrKiln req) (0x0F000000 + 0x20 * g) (fun s =>
    if locked s then s
    else
      let b := 0x0F000000 + 0x20 * g.val
      let s := (tblRange s.mcStage b (b + 0x20)).foldl (fun s e => wr e.1 e.2 s) (wr b w s)
      { s with mcStage := tblDrop (fun k => decide (b ≤ k) && decide (k < b + 0x20)) s.mcStage }) s)

/-! ### FRER (R331 to R334) -/

/-- Keys of stream st: configuration, state, counter j (0 PASSED, 1 DISCARDED, 2 OUT_OF_ORDER, 3 ROGUE, 4 LOST, 5 TAGLESS,
6 RESETS, 7 GENERATED). -/
def strCfg (st : Nat) : Nat := 0x0F030000 + 0x10 * st
def strKey (st : Nat) : Nat := 0x0F040000 + 0x20 * st
def strCtr (st j : Nat) : Nat := 0x0F080000 + 0x40 * st + 8 * j

/-- FUNC and stream of a flow class (R331). -/
def frerMap (s : State) (flow : Nat) : Nat × Nat :=
  let w := rd s (0x0F020000 + 4 * flow)
  (fld w 31 30, fld w 11 0)

/-- Generation (R332): the packet's number. -/
def frerGenerate (st : Nat) (s : State) : Nat × State :=
  let n := rdF s (strKey st) 15 0
  (n, bump (strCtr st 7) (wrF (strKey st) 15 0 (n + 1) s))

/-- Zero bits among the d oldest of hist bits of h (R333). -/
def zerosOut (h d hist : Nat) : Nat := ((List.range hist).filter (fun i => decide (hist ≤ i + d) && !nbit h i)).length

/-- Vector recovery (R333): whether the packet passes. -/
def frerRecover (st seq : Nat) (s : State) : Bool × State :=
  let hist := fld (rd s (strCfg st)) 29 24 + 1
  let rcv := rdF s (strKey st + 4) 15 0
  let h := (rd s (strKey st + 8)).toNat + 2 ^ 32 * (rd s (strKey st + 12)).toNat
  let d : Int := signed 16 (unsigned 16 ((seq : Int) - rcv))
  let put (h : Nat) (s : State) : State := wrWords (strKey st + 8) [w32 h, w32 (h / 2 ^ 32)] s
  let pass (s : State) : Bool × State := (true, bump (strCtr st 0) s)
  let drop (s : State) : Bool × State := (false, bump (strCtr st 1) s)
  if rdB s (strKey st + 4) 31 then
    pass (put 1 (wr (strKey st + 4) (w32 seq) s))
  else if (hist : Int) ≤ d ∨ d ≤ -(hist : Int) then drop (raise (lfSwc 4) (bump (strCtr st 3) s))
  else if d ≤ 0 then
    if nbit h d.natAbs then drop s else pass (bump (strCtr st 2) (put (h + 2 ^ d.natAbs) s))
  else
    let k := d.natAbs
    let lost := zerosOut h k hist
    let s := if k = 1 then s else bump (strCtr st 2) s
    let s := if lost = 0 then s else raise (lfSwc 6) (bumpN (strCtr st 4) lost s)
    pass (put ((h * 2 ^ k + 1) % 2 ^ hist) (wrF (strKey st + 4) 15 0 seq s))

/-- A flow class maps to stream st with FUNC REC or REC_GEN (R331). -/
def recovering (s : State) (st : Nat) : Bool :=
  (tblRange s.regs 0x0F020000 0x0F024000).any (fun e => bit e.2 31 && fld e.2 11 0 == st)

/-- FRER_RESET_TIMEOUT (R334): no packet of a recovering stream has passed for RESET_MS. -/
def execFrerResetTimeout (st : Fin 4096) (s : State) : Host.Outcome State Fault Refusal :=
  done s (
    if rdB s (strKey st + 4) 31 || !recovering s st then s
    else raise (lfSwc 5) (bump (strCtr st 6) (wrB (strKey st + 4) 31 true s)))

/-- FRER_FORCE_RESET (R334): a write of 1 to RESET in the stream state. -/
def execFrerForceReset (req : Requester) (st : Fin 4096) (s : State) : Host.Outcome State Fault Refusal :=
  done s (regCmd req (hostOrKiln req) (strKey st + 4) (wrB (strKey st + 4) 31 true) s)

end Sys2Proof.Machine
end

