-- ==== Sys2Proof/Machine/Wedge.lean ====
section
/-! DEFINITION. Sys2Proof/Machine/Wedge.lean: the Wedge parser (R182 to R198): one pass through the parse graph. -/

namespace Sys2Proof.Machine
open Sys2Proof

/-- Word w of node n (R184). -/
def nodeW (s : State) (n w : Nat) : Nat := (rd s (0x00201000 + 0x80 * n + 4 * w)).toNat

/-- What one parse produces (R188, R189). -/
structure Parse where
  /-- field vector: a byte, or none where its presence bit is 0. -/
  fv : List (Option Byte) := List.replicate 128 none
  flags : Nat := 0
  hstack : List (Nat × Nat) := []
  l3 : Nat := 255
  l4 : Nat := 255
  /-- the claimed end of the innermost header whose claim passed. -/
  claim : Option Nat := none
  /-- bytes of an opaque SecTAG's ICV, and the end of its header. -/
  icv : Option Nat := none
  acf : Nat := 255
  stream : Nat := 0
  rtag : Option Nat := none
  /-- a node word with a parity error was read (R198). -/
  parity : Bool := false
  deriving DecidableEq, Repr

/-- Flag positions (R196). -/
def flDepth : Nat := 0
def flConflict : Nat := 1
def flOversize : Nat := 2
def flUnknown : Nat := 3
def flFragment : Nat := 4
def flIpCsum : Nat := 5
def flTagExcess : Nat := 6
def flRtag : Nat := 7
def flMacsec : Nat := 8
def flOpaque : Nat := 9
def flTunnel : Nat := 10
def flAcf : Nat := 11
def flDoip : Nat := 12
def flAbsent : Nat := 13

/-- Set a flag. -/
def Parse.flag (r : Parse) (k : Nat) : Parse := { r with flags := nsetBit r.flags k true }

/-- A packet byte as the parser receives it: 0 at or beyond the physical end or the byte window. -/
def wByte (f : List Byte) (win k : Nat) : Nat := if k < win then byteAt f k else 0

/-- A 16-bit window in network byte order. -/
def wWin (f : List Byte) (win k : Nat) : Nat := wByte f win k * 256 + wByte f win (k + 1)

/-- The number of ones among the low 16 bits. -/
def popcount (v : Nat) : Nat := ((List.range 16).filter (nbit v)).length

/-- The length of a header at offset o (R185 step 1). -/
def hdrLength (w1 : Nat) (f : List Byte) (win o : Nat) : Nat :=
  let v := Nat.land (wWin f win (o + nbits w1 23 16) >>> nbits w1 27 24) (nbits w1 15 8)
  match nbits w1 31 30 with
  | 1 => nbits w1 7 0 + v * 2 ^ nbits w1 29 28
  | 2 => nbits w1 7 0 + popcount v * 2 ^ nbits w1 29 28
  | _ => nbits w1 7 0

/-- The fixed handling of a header type (R187). -/
def fixedHandling (ty o len win : Nat) (csum : Bool) (f : List Byte) (r : Parse) : Parse :=
  match ty with
  | 0x03 => { r.flag flRtag with rtag := some (wWin f win (o + 2)) }
  | 0x04 => if nbit (wByte f win o) 3 then { r.flag flOpaque with icv := some (o + len) } else r
  | 0x05 =>
    let r := if r.l3 = 255 then { r with l3 := o } else r
    if csum && decide (o + len ≤ f.length) && decide (o + len ≤ win) && inetCsum (slice f o len) != 0 then r.flag flIpCsum else r
  | 0x06 => if r.l3 = 255 then { r with l3 := o } else r
  | 0x08 => if r.l3 ≠ 255 ∧ r.l4 = 255 then { r with l4 := o } else r
  | 0x09 => if r.l3 ≠ 255 ∧ r.l4 = 255 then { r with l4 := o } else r
  | 0x0A => r.flag flTunnel
  | 0x0B => r.flag flTunnel
  | 0x0C => { r with stream := beNat ((List.range 8).map (fun k => b8 (wByte f win (o + 4 + k)))) }
  | 0x0D => let r := r.flag flAcf
            if r.acf = 255 then { r with acf := o } else r
  | 0x0E => r.flag flDoip
  | _ => r

/-- Copy n bytes from packet offset o into the field vector from d upward (R185 step 4, R188). -/
def extractBytes (f : List Byte) (win : Nat) : Nat → Nat → Nat → Parse → Parse
  | 0, _, _, r => r
  | n + 1, o, d, r =>
    let r := if o < f.length ∧ o < win then { r with fv := r.fv.set d (f[o]?) } else { r.flag flAbsent with fv := r.fv.set d none }
    extractBytes f win n (o + 1) (d + 1) r

/-- The extractions of node n for a header at offset o, in index order. -/
def extractAll (s : State) (n : Nat) (f : List Byte) (win o : Nat) (r : Parse) : Parse :=
  (List.range 8).foldl (fun r k =>
    let w := nodeW s n (24 + k)
    if nbit w 31 then extractBytes f win (nbits w 15 12 + 1) (o + nbits w 23 16) (nbits w 30 24) r else r) r

/-- The claimed end of a header at offset o, if CHK_EN is 1 (R194). -/
def claimEnd (s : State) (n : Nat) (f : List Byte) (win o : Nat) : Option Nat :=
  let w4 := nodeW s n 4
  if nbit w4 31 then
    let k := o + nbits w4 23 16
    let v := if nbit w4 30 then wWin f win k * 65536 + wWin f win (k + 2) else wWin f win k
    let m := if nbit w4 30 then nodeW s n 5 else nodeW s n 5 % 65536
    some (o + Nat.land v m * 2 ^ nbits w4 29 28 + nbits w4 15 8)
  else none

/-- The next node after a header, or none where the parse ends; the flag says UNKNOWN_NEXT (R185 step 7). -/
def nextNode (s : State) (n : Nat) (f : List Byte) (win o len : Nat) : Option Nat × Bool :=
  let w2 := nodeW s n 2
  let sel := Nat.land (wWin f win (if nbit w2 31 then o + len - 2 else o + nbits w2 23 16)) (w2 % 65536)
  match (List.range 8).find? (fun j =>
      let t := nodeW s n (8 + 2 * j)
      nbit (nodeW s n (9 + 2 * j)) 31 && Nat.land sel (t % 65536) == Nat.land (t / 65536) (t % 65536)) with
  | some j => (some (nodeW s n (9 + 2 * j) % 64), false)
  | none =>
    match nbits (nodeW s n 6) 31 30 with
    | 0 => (none, false)
    | 2 => (some (nodeW s n 6 % 64), false)
    | _ => (none, true)

/-- The walk of R185 from node n at offset o. fuel: one header each. -/
def parseWalk (s : State) (f : List Byte) (win maxH : Nat) : Nat → Nat → Nat → Parse → Parse
  | 0, _, _, r => r
  | fuel + 1, n, o, r =>
    let w0 := nodeW s n 0
    let r := if s.wdgBad.any (fun e => e.1 == n) then { r with parity := true } else r
    if !nbit w0 31 then r.flag flUnknown
    else
      let ty := nbits w0 23 16
      let len := hdrLength (nodeW s n 1) f win o
      let phys := f.length
      let tags := (r.hstack.filter (fun h => h.1 == 2)).length
      if maxH ≤ r.hstack.length ∨ (win < o + len ∧ o + len ≤ phys) then r.flag flDepth
      else if ty = 2 ∧ 4 ≤ tags then r.flag flTagExcess
      else
        let r := { r with hstack := r.hstack ++ [(ty, o)], flags := Nat.lor r.flags (nbits w0 15 8 * 65536) }
        let r := fixedHandling ty o len win (nbit w0 30) f r
        let r := extractAll s n f win o r
        let short := decide (len < nodeW s n 7 % 256) || len == 0 || decide (phys < o + len)
        let bad := short || (match claimEnd s n f win o with
          | some e => decide (phys < e) || decide (e < o + len)
          | none => false)
        if bad then r.flag flConflict
        else
          let r := match claimEnd s n f win o with
            | some e => if ty = 0x0D then r else { r with claim := some e }
            | none => r
          if r.icv.isSome then r
          else
            let w3 := nodeW s n 3
            if nbit w3 31 && Nat.land (wWin f win (o + nbits w3 23 16)) (w3 % 65536) != 0 then r.flag flFragment
            else if ty = 1 ∧ wWin f win (o + len - 2) < 0x0600 then r.flag flUnknown
            else
              match nextNode s n f win o len with
              | (some m, _) => parseWalk s f win maxH fuel m (o + len) r
              | (none, true) => r.flag flUnknown
              | (none, false) => r

/-- The parse of one pass of a packet from a start node; OVERSIZE and MACSEC_VALIDATED come with the packet (R185, R196). -/
def parsePass (s : State) (start : Nat) (p : Pkt) : Parse :=
  let cfg := rd s 0x00200000
  let r := parseWalk s p.bytes (16 * fld cfg 12 8) (fld cfg 19 16 + 1) 18 start 0 {}
  let r := if nbit p.flags flOversize then r.flag flOversize else r
  if p.validated then r.flag flMacsec else r

/-- PAYLOAD_END of a parse (R187, R194). -/
def payloadEnd (f : List Byte) (r : Parse) : Nat :=
  let e := r.claim.getD f.length
  match r.icv with
  | some h => max h (min e (f.length - 16))
  | none => e

/-- The packet with the metadata of a parse (R189). -/
def withParse (p : Pkt) (r : Parse) : Pkt :=
  { p with flags := r.flags, hstack := r.hstack, l3 := r.l3, l4 := r.l4, pend := payloadEnd p.bytes r, acf := r.acf, stream := r.stream,
           rtag := r.rtag.getD p.rtag, rtagSeen := p.rtagSeen || r.rtag.isSome }

/-- Counter j of pipeline q: 0 PARSED, 1 DEPTH_EXCEEDED, 2 LENGTH_CONFLICT, 3 LC_DROP, 4 RECIRC_PASSES, 5 RECIRC_LIMIT_DROP,
6 RECIRC_FULL_DROP, 7 RECIRC_STRIP_DROP, 8 PARITY_DROP. -/
def wdgCtr (q j : Nat) : Nat := 0x00200100 + 0x80 * q + 8 * j

/-- The start node of an ingress source index (R182). -/
def startNode (s : State) (i : Nat) : Nat := rdF s (0x00200010 + 4 * (i / 4)) (8 * (i % 4) + 5) (8 * (i % 4))

end Sys2Proof.Machine
end

