-- ==== Sys2Proof/Machine/Classify.lean ====
section
/-! DEFINITION. Sys2Proof/Machine/Classify.lean: keys, range comparators, rules, policers (R205 to R220), and the commands
that clear class and policer conditions (R216). -/

namespace Sys2Proof.Machine
open Sys2Proof

/-- Bank windows of region 18 (R224). -/
def clsRule (b r : Nat) : Nat := 0x04000000 + 0x00200000 * b + 0x100 * r
def clsComp (b i : Nat) : Nat := 0x04400000 + 0x4000 * b + 0x10 * i
def clsProf (b p : Nat) : Nat := 0x04410000 + 0x400 * b + 0x20 * p
def clsSel (b i : Nat) : Nat := 0x04410200 + 0x400 * b + 4 * (i / 8)
def clsClass (b c : Nat) : Nat := 0x04420000 + 0x20000 * b + 0x20 * c
def clsPol (b i : Nat) : Nat := 0x04500000 + 0x40000 * b + 0x10 * i

/-- Counter j of class c: 0 MATCHED, 1 OCTETS, 2 DROPPED, 3 SDU_DROP. -/
def clsCtr (c j : Nat) : Nat := 0x04600000 + 0x20 * c + 8 * j

/-- BLOCKED of class c, and MAR_LATCHED of policer i. -/
def blockedKey (c : Nat) : Nat := 0x04680000 + 4 * (c / 32)
def isBlocked (s : State) (c : Nat) : Bool := bit (rd s (blockedKey c)) (c % 32)
def marKey (i : Nat) : Nat := 0x04580008 + 0x10 * i

/-- Field-vector byte k as a number. -/
def fvByte (r : Parse) (k : Nat) : Nat := ((r.fv.getD k none).getD 0).toNat

/-- The 32-bit chunk that a source code selects (R205). -/
def chunk (p : Pkt) (r : Parse) (code : Nat) : Nat :=
  if code < 0x20 then
    fvByte r (4 * code) * 2 ^ 24 + fvByte r (4 * code + 1) * 2 ^ 16 + fvByte r (4 * code + 2) * 2 ^ 8 + fvByte r (4 * code + 3)
  else if code < 0x24 then
    (List.range 32).foldl (fun v i => v * 2 + b2n (r.fv.getD (32 * (code - 0x20) + i) none).isSome) 0
  else
    match code with
    | 0x40 => p.ingress % 2 ^ 11 * 2 ^ 21 + p.cls % 8 * 2 ^ 18 + p.pass % 4 * 2 ^ 16 + p.rtagTag % 256 * 2 ^ 8 + p.hstack.length % 32
    | 0x41 => p.flags
    | 0x42 => p.l3 * 2 ^ 24 + p.l4 * 2 ^ 16 + p.acf * 2 ^ 8 + (p.hstack.getLast?.map (·.1)).getD 0
    | 0x43 => p.stream / 2 ^ 32
    | 0x44 => p.stream % 2 ^ 32
    | 0x45 => p.rtag * 2 ^ 16 + p.pend % 2 ^ 16
    | _ => 0

/-- The result of range comparator i of bank b (R208). -/
def compTrue (s : State) (b i : Nat) (p : Pkt) (r : Parse) : Bool :=
  let w := rd s (clsComp b i)
  let lo := (rd s (clsComp b i + 4)).toNat
  let hi := (rd s (clsComp b i + 8)).toNat
  let v := chunk p r (fld w 23 16)
  if !bit w 31 then false
  else if bit w 30 then decide (lo ≤ v) && decide (v ≤ hi)
  else
    let v := if bit w 29 then v / 65536 else v % 65536
    decide (lo % 65536 ≤ v) && decide (v ≤ hi % 65536)

/-- The key of a profile: 20 chunks (R205). -/
def keyOfProfile (s : State) (b prof : Nat) (p : Pkt) (r : Parse) : List Nat :=
  (List.range 20).map (fun c => chunk p r (rdF s (clsProf b prof + 4 * (c / 4)) (8 * (c % 4) + 7) (8 * (c % 4))))

/-- A range reference holds: not enabled, or the comparator's result XOR INV (R209, R210). -/
def refHolds (s : State) (b ref : Nat) (p : Pkt) (r : Parse) : Bool :=
  !nbit ref 11 || (compTrue s b (ref % 1024) p r != nbit ref 10)

/-- Rule i of bank b matches (R209). -/
def ruleMatch (s : State) (b prof : Nat) (key : List Nat) (p : Pkt) (r : Parse) (i : Nat) : Bool :=
  let o := clsRule b i
  let w0 := rd s (o + 160)
  let w2 := (rd s (o + 168)).toNat
  let w3 := (rd s (o + 172)).toNat
  bit w0 31 && fld w0 30 27 == prof && !s.badRules.contains (8192 * b + i)
    && (List.range 20).all (fun c =>
        let m := (rd s (o + 80 + 4 * c)).toNat
        Nat.land (key.getD c 0) m == Nat.land (rd s (o + 4 * c)).toNat m)
    && refHolds s b (nbits w2 11 0) p r && refHolds s b (nbits w2 27 16) p r
    && refHolds s b (nbits w3 11 0) p r && refHolds s b (nbits w3 27 16) p r

/-- The valid rules of bank b, ascending. -/
def rulesOf (s : State) (b : Nat) : List Nat :=
  (tblRange s.regs (clsRule b 0) (clsRule b 8192)).filterMap (fun e =>
    if e.1 % 256 = 160 ∧ bit e.2 31 = true then some ((e.1 - clsRule b 0) / 256) else none)

/-- A rule memory error injected (R542, 0x0A) meets a read of its bank: with two bits the rule no longer matches. -/
def ruleEcc (b : Nat) (s : State) : State :=
  match injArmed s 0x0A with
  | some (bits, a) =>
    if a / 8192 % 2 = b then
      let s := injDone s
      if 2 ≤ bits then raise (lfCls 2) { s with badRules := s.badRules ++ [8192 * b + a % 8192] } else s
    else s
  | none => s

/-- What classification decides: class, colour (0 green, 1 yellow, 2 red), QSEL, TC and EQUEUE (R209 to R211). -/
structure Verdict where
  cls : Nat
  colour : Nat := 0
  qsel : Nat := 0
  tc : Nat := 0
  equeue : Nat := 0
  deriving DecidableEq, Repr

/-- Classification of a pass under key profile prof of its bank (R209). -/
def classify (s : State) (prof : Nat) (p : Pkt) (r : Parse) : Verdict :=
  let b := p.bank
  let key := keyOfProfile s b prof p r
  match (rulesOf s b).find? (ruleMatch s b prof key p r) with
  | some i =>
    let w0 := rd s (clsRule b i + 160)
    { cls := fld w0 11 0, colour := fld w0 13 12, qsel := fld w0 15 14, tc := fld w0 18 16, equeue := rdF s (clsRule b i + 164) 10 0 }
  | none => { cls := rdF s (clsProf b prof + 20) 11 0 }

/-- The key profile of an ingress source index on a first pass (R206). -/
def profileSel (s : State) (b i : Nat) : Nat := rdF s (clsSel b i) (4 * (i % 8) + 3) (4 * (i % 8))

/-! ### Policers (R217 to R219) -/

/-- DCLK cycles of the model's clock. -/
def dclk (s : State) : Nat := s.now * 4 / 3

/-- A bucket refilled over n DCLK cycles at a rate in kbit/s, cut to its burst; levels in 2^-16 bytes (R218). -/
def refill (level rate n burst : Nat) : Nat := min (burst * 65536) (level + rate * n * 65536 / 12800000)

/-- Policer i of bank b meters a packet of pass length len with pre-colour pre: the colour (R218). -/
def meter (b i len pre : Nat) (s : State) : Nat × State :=
  let w0 := rd s (clsPol b i)
  let w1 := rd s (clsPol b i + 4)
  let w2 := rd s (clsPol b i + 8)
  let cbs := fld w2 23 0
  let pbs := rdF s (clsPol b i + 12) 23 0
  let st := tblGet s.pol i { tc := cbs * 65536, tp := pbs * 65536, last := dclk s }
  let n := dclk s - st.last
  let tc := refill st.tc (fld w0 27 0) n cbs
  let tp := refill st.tp (fld w1 27 0) n pbs
  let size : Int := ((len : Int) + signed 8 (fld w2 31 24)) * 65536
  let aware := bit w0 31
  let take := fun v : Nat => ((v : Int) - size).toNat
  let (colour, tc, tp) :=
    if bit (rd s (marKey i)) 31 then (2, tc, tp)
    else if (aware && pre == 2) || decide ((tp : Int) < size) then (2, tc, tp)
    else if (aware && pre == 1) || decide ((tc : Int) < size) then (1, tc, take tp)
    else (0, take tc, take tp)
  let s := { s with pol := tblSet s.pol i { tc := tc, tp := tp, last := dclk s } }
  let s := bump (0x04700000 + 0x20 * i + 8 * colour) s
  (colour, if colour = 2 ∧ bit w0 29 = true then wrB (marKey i) 31 true s else s)

/-! ### Commands (R216) -/

/-- CLASS_BLOCKED is LIVE while a class is blocked. -/
def blockedLive (s : State) : State := setLive (lfCls 1) ((List.range 128).any (fun w => rd s (0x04680000 + 4 * w) != 0)) s

/-- CLASS_UNBLOCK (R216): a write of 1 to the BLOCKED bit of class c. -/
def execClassUnblock (req : Requester) (c : Fin 4096) (s : State) : Host.Outcome State Fault Refusal :=
  done s (regCmd req (hostOrKiln req) (blockedKey c) (fun s => blockedLive (wrB (blockedKey c) (c % 32) false s)) s)

/-- MAR_CLEAR (R216): a write of 1 to the MAR_LATCHED bit of policer i. -/
def execMarClear (req : Requester) (i : Fin 16384) (s : State) : Host.Outcome State Fault Refusal :=
  done s (regCmd req (hostOrKiln req) (marKey i) (wrB (marKey i) 31 false) s)

end Sys2Proof.Machine
end

