-- ==== Sys2Proof/Machine/Tables.lean ====
section
/-! DEFINITION. Sys2Proof/Machine/Tables.lean: the forwarding tables (R228 to R251): the exact-match table, its learn queue
and aging, the tries, the next hops, and the table manager's commands. -/

namespace Sys2Proof.Machine
open Sys2Proof

/-- Counter j of the TBL block: 0 LEARNED, 1 LEARN_DROP, 2 STATION_MOVES, 3 AGED, 4 SA_MISMATCH, 5 LIMIT_DROP, 6 RELOCATIONS,
7 ECC_UNCORR, 8 UNKNOWN_UC, 9 LPM_MISS, 10 TTL_EXPIRED, 11 FILTERED. -/
def tblCtr (j : Nat) : Nat := 0x00280800 + 8 * j

/-- Slot s of the table manager (R249). -/
def tblSlot (k : Nat) : Nat := 0x00280000 + 0x80 * k

/-- TBL_PORT_CFG and VLAN entry. -/
def tblPortCfg (i : Nat) : Nat := 0x00280500 + 4 * i
def vlanKey (vid : Nat) : Nat := 0x08210000 + 4 * vid

/-! ### Keys, places, entries (R228 to R231) -/

/-- L2_N. -/
def l2N (s : State) : Nat := rdF s 0x00280404 31 28

/-- The eight bytes of a key (R229). -/
def l2KeyBytes (vid mac : Nat) : List Byte := b8 (vid / 256 % 16) :: b8 vid :: beBytes 6 mac

/-- k shifts of the reflected CRC-32C register. -/
def crcShift : Nat → Nat → Nat
  | 0, c => c
  | k + 1, c => crcShift k (Nat.xor (c / 2) (if c % 2 = 1 then 0x82F63B78 else 0))

/-- CRC-32C from a seed, without a final inversion (R229). -/
def crc32c (seed : Nat) (l : List Byte) : Nat := l.foldl (fun c b => crcShift 8 (Nat.xor c b.toNat)) seed

/-- The bucket of a key in way w. -/
def l2Bucket (s : State) (vid mac w : Nat) : Nat := crc32c (rd s (0x00280410 + 4 * w)).toNat (l2KeyBytes vid mac) % 2 ^ l2N s

/-- The window offset of a bucket entry (R251). -/
def l2Off (s : State) (w bucket slot : Nat) : Nat := 0x08000000 + 0x10 * ((w * 2 ^ l2N s + bucket) * 4 + slot)

/-- The window offset of stash entry k. -/
def stashOff (k : Nat) : Nat := 0x08200000 + 0x10 * k

/-- The 16 entries of a key's candidate buckets, way 0 and slot 0 first. -/
def l2Homes (s : State) (vid mac : Nat) : List Nat :=
  (List.range 16).map (fun i => l2Off s (i / 4) (l2Bucket s vid mac (i / 4)) (i % 4))

/-- The eight stash entries. -/
def stashOffs : List Nat := (List.range 8).map stashOff

/-- The location code of an entry's window offset (R249). -/
def l2Loc (s : State) (o : Nat) : Nat :=
  if 0x08200000 ≤ o then 2 ^ 31 + (o - 0x08200000) / 16
  else
    let k := (o - 0x08000000) / 16
    k / 4 / 2 ^ l2N s * 65536 + k / 4 % 2 ^ l2N s * 4 + k % 4

/-- VALID of an entry. -/
def l2Valid (s : State) (o : Nat) : Bool := bit (rd s o) 31

/-- The entry at o has an uncorrectable error. -/
def l2Bad (s : State) (o : Nat) : Bool := s.tbl.bad.any (fun e => e.1 == o)

/-- VID, MAC and DEST of an entry. -/
def l2Vid (s : State) (o : Nat) : Nat := fld (rd s o) 27 16
def l2Mac (s : State) (o : Nat) : Nat := fld (rd s o) 15 0 * 2 ^ 32 + (rd s (o + 4)).toNat
def l2Dest (s : State) (o : Nat) : Nat := fld (rd s (o + 8)) 18 0

/-- A learned entry: STATIC is 0. -/
def l2Learned (s : State) (o : Nat) : Bool := l2Valid s o && !bit (rd s o) 30

/-- The entry at o holds a key, whether or not it can be read. -/
def l2Is (s : State) (vid mac o : Nat) : Bool := l2Valid s o && l2Vid s o == vid && l2Mac s o == mac

/-- Every valid entry of the table and the stash, in window order. -/
def l2Entries (s : State) : List Nat :=
  (tblRange s.regs 0x08000000 0x08200080).filterMap (fun e => if e.1 % 16 = 0 ∧ bit e.2 31 = true then some e.1 else none)

/-- The tables have changed (R248). -/
def tblChanged (s : State) : State := wr 0x0028040C (rd s 0x0028040C + 1) s

/-- An uncorrectable error of the entry at o is met for the first time: it counts and raises TABLE_ECC (R231). -/
def l2Meet (o : Nat) (s : State) : State :=
  if s.tbl.bad.any (fun e => e.1 == o && !e.2) then
    raise (lfTbl 4) (bump (tblCtr 7)
      { s with tbl := { s.tbl with bad := s.tbl.bad.map (fun e => if e.1 = o then (o, true) else e) } })
  else s

/-- Write an entry's words; an armed injection flips bits of the entry it addresses (R542, 0x09). -/
def l2Write (o : Nat) (ws : List Word) (s : State) : State :=
  let s := wrWords o ws { s with tbl := { s.tbl with bad := s.tbl.bad.filter (fun e => e.1 != o) } }
  match injArmed s 0x09 with
  | some (bits, loc) =>
    if loc = l2Loc s o then
      let s := injDone s
      if 2 ≤ bits then { s with tbl := { s.tbl with bad := s.tbl.bad ++ [(o, false)] } } else s
    else s
  | none => s

/-- Remove the entry at o. -/
def l2Clear (o : Nat) (s : State) : State := tblChanged (l2Write o [0, 0, 0, 0] s)

/-- The entry that a lookup of a key finds among the candidate buckets and the stash; errors met count (R231). -/
def l2Find (vid mac : Nat) (s : State) : Option Nat × State :=
  let offs := l2Homes s vid mac ++ stashOffs
  let s := offs.foldl (fun s o => l2Meet o s) s
  (offs.find? (fun o => l2Is s vid mac o && !l2Bad s o), s)

/-- The pending learn event of a key. -/
def learnFind (s : State) (vid mac : Nat) : Option LearnEv := s.tbl.learn.find? (fun e => e.vid == vid && e.mac == mac)

/-! ### Status and live conditions -/

/-- The learned entries of source i (R236): those that lead to its port; for COIL those that lead to another device. -/
def learnedOf (s : State) (i : Nat) : Nat :=
  ((l2Entries s).filter (fun o => l2Learned s o && !bit (rd s (o + 8)) 31 &&
    (if i = 27 then l2Dest s o / 256 != 0 else l2Dest s o == 128 + i))).length

/-- A source stands at its learn limit; a limit of 0 is none. -/
def atLimit (s : State) (i : Nat) : Bool :=
  let n := rdF s (tblPortCfg i) 29 12
  n != 0 && decide (n ≤ learnedOf s i)

/-- A LIVE bit follows its condition; the event is raised where the condition begins. -/
def liveFollows (l : Nat) (c : Bool) (s : State) : State :=
  if c && !leafBit s l 1 then raiseLive l s else if c then s else setLive l false s

/-- TBL_STATUS, STASH_FULL and LIMIT_REACHED follow the tables. -/
def tblSettle (s : State) : State :=
  let used := (stashOffs.filter (l2Valid s)).length
  let s := wr 0x00280408 (w32 (used * 2 ^ 28 + s.tbl.learn.length)) s
  liveFollows (lfTbl 3) ((List.range 28).any (atLimit s)) (liveFollows (lfTbl 2) (used == 8) s)

/-! ### Insertion and relocation (R232, R233) -/

/-- The free entries that the entry at o could move to, or all other entries of its candidate buckets. -/
def l2Moves (s : State) (o : Nat) : List Nat :=
  (l2Homes s (l2Vid s o) (l2Mac s o)).filter (fun p => (p - 0x08000000) / 64 != (o - 0x08000000) / 64)

/-- Breadth-first search for a chain of at most k relocations from the paths given, each with its deepest entry first. -/
def bfsChain (s : State) : Nat → List (List Nat) → List Nat → Option (List Nat)
  | 0, _, _ => none
  | k + 1, paths, seen =>
    let next := paths.foldl (fun (acc : List (List Nat) × List Nat) path =>
      match path with
      | [] => acc
      | o :: _ => (l2Moves s o).foldl (fun acc p => if acc.2.contains p then acc else (acc.1 ++ [p :: path], p :: acc.2)) acc)
      ([], seen)
    match next.1.find? (fun path => (path.head?.map (fun o => !l2Valid s o)).getD false) with
    | some path => some path
    | none => bfsChain s k (next.1.filter (fun path => (path.head?.map (fun o => !l2Bad s o)).getD false)) next.2

/-- Carry out a chain, its free entry first (R232): each entry is copied and then invalidated. The place freed for the new
entry, and the state. -/
def relocate : List Nat → State → Option Nat × State
  | [], s => (none, s)
  | [o], s => (some o, s)
  | dst :: src :: rest, s =>
    let s := bump (tblCtr 6) (l2Clear src (l2Write dst (rdWords s src 4) s))
    relocate (src :: rest) s

/-- A place among a key's candidate buckets: a free entry, or one freed by a chain. Its moves (R232). -/
def l2Place (vid mac : Nat) (s : State) : Option Nat × Nat × State :=
  let homes := l2Homes s vid mac
  match homes.find? (fun o => !l2Valid s o) with
  | some o => (some o, 0, s)
  | none =>
    match bfsChain s 4 ((homes.filter (fun o => !l2Bad s o)).map (fun o => [o])) homes with
    | some path =>
      let (o, s) := relocate path s
      (o, path.length - 1, s)
    | none => (none, 0, s)

/-- The lowest free stash entry. -/
def stashFree (s : State) : Option Nat := stashOffs.find? (fun o => !l2Valid s o)

/-- The words of an entry. -/
def l2Words (static : Bool) (vid mac w2 sgen : Nat) : List Word :=
  [w32 (2 ^ 31 + b2n static * 2 ^ 30 + vid % 4096 * 65536 + mac / 2 ^ 32 % 65536), w32 mac,
   w32 (Nat.land w2 0xC007FFFF), w32 (if static then sgen else 0)]

/-- Insert or replace an entry (R233): its location, the moves made and the code. -/
def l2Insert (static : Bool) (vid mac w2 sgen : Nat) (s : State) : State × Nat × List Nat :=
  let ws := l2Words static vid mac w2 sgen
  match (l2Homes s vid mac ++ stashOffs).find? (l2Is s vid mac) with
  | some o =>
    let w0 := if l2Bad s o then ws.headD 0 else setBit (rd s o) 30 static
    (tblChanged (l2Write o (w0 :: ws.drop 1) s), cOk, [l2Loc s o, 0])
  | none =>
    let (o, n, s) := l2Place vid mac s
    match o.orElse (fun _ => stashFree s) with
    | some o =>
      let s := { s with tbl := { s.tbl with learn := s.tbl.learn.filter (fun e => !(e.vid == vid && e.mac == mac)) } }
      (tblChanged (l2Write o ws s), cOk, [l2Loc s o, n])
    | none => (s, cTableFull, [])

/-! ### Learning (R235, R236) and aging (R238) -/

/-- A learn event enters the queue, or is dropped (R231, R236): whether the packet is dropped with it. -/
def learnEvent (e : LearnEv) (s : State) : Bool × State :=
  let cfg := rd s (tblPortCfg e.src)
  let b := l2Bucket s e.vid e.mac 0 % 256
  if atLimit s e.src then (bit cfg 30, bump (tblCtr 5) s)
  else if 1024 ≤ s.tbl.learn.length ∨ 4 ≤ (s.tbl.learn.filter (fun x => l2Bucket s x.vid x.mac 0 % 256 == b)).length then
    (false, raise (lfTbl 1) (bump (tblCtr 1) s))
  else (false, { s with tbl := { s.tbl with learn := s.tbl.learn ++ [e] } })

/-- The source lookup of R235: whether the packet is dropped. dest is the SPN that is learned. -/
def sourceLearn (vid sa dest src : Nat) (s : State) : Bool × State :=
  if !bit (rd s (tblPortCfg src)) 31 || !bit (rd s (vlanKey vid)) 30 || nbit sa 40 then (false, s)
  else
    let (hit, s) := l2Find vid sa s
    let r : Bool × State := match hit with
      | some o =>
        if bit (rd s (o + 8)) 31 = false ∧ l2Dest s o = dest then (false, wrB o 29 true s)
        else if bit (rd s o) 30 then
          (rdB s 0x00280400 31, bump (tblCtr 4) s)
        else
          (false, raise (lfTbl 0) (bump (tblCtr 2) (tblChanged (wrB o 29 true (wrF (o + 8) 18 0 dest (wrB (o + 8) 31 false s))))))
      | none => if (learnFind s vid sa).isSome then (false, s) else learnEvent { vid := vid, mac := sa, dest := dest, src := src } s
    (r.1, tblSettle r.2)

/-- LEARN_PLACE (R236): the event at the head of the learn queue enters a free bucket entry or the stash. -/
def execLearnPlace (s : State) : Host.Outcome State Fault Refusal :=
  done s (
    match s.tbl.learn with
    | [] => s
    | e :: rest =>
      match (l2Homes s e.vid e.mac ++ stashOffs).find? (fun o => !l2Valid s o) with
      | none => s
      | some o =>
        let s := { s with tbl := { s.tbl with learn := rest } }
        tblSettle (bump (tblCtr 0) (tblChanged (l2Write o (l2Words false e.vid e.mac e.dest 0) s))))

/-- One entry is visited by the sweeper (R238). -/
def sweepEntry (o : Nat) (s : State) : State :=
  let s := l2Meet o s
  let w := rd s o
  if bit w 30 then s
  else if l2Bad s o then bump (tblCtr 3) (l2Clear o s)
  else if bit w 29 then wr o (setBit (setBit w 29 false) 28 false) s
  else if !bit w 28 then wr o (setBit w 28 true) s
  else bump (tblCtr 3) (l2Clear o s)

/-- AGING_SWEEP (R238): a sweep over every entry; SWEEP_S = 0 turns aging off. -/
def execAgingSweep (s : State) : Host.Outcome State Fault Refusal :=
  done s (
    if rdF s 0x00280400 11 0 = 0 then s
    else tblSettle ((l2Entries s).foldl (fun s o => sweepEntry o s) s))

/-! ### The tries (R241 to R245) -/

/-- TBL_TRIE of an instance: its first word, its key width, its strides. -/
def trieCfg (s : State) (i : Nat) : Word := rd s (0x00280600 + 0x10 * i)
def trieWidth (s : State) (i : Nat) : Nat := if fld (trieCfg s i) 29 28 = 1 then 128 else 32
def trieStrides (s : State) (i : Nat) : List Nat :=
  if fld (trieCfg s i) 29 28 = 1 then [16, 16, 8, 8, 8, 8, 16, 16, 8, 8, 8, 8] else [16, 8, 8]

/-- An instance that commands may name: VALID, and its family is not reserved. -/
def trieOk (s : State) (i : Nat) : Bool := bit (trieCfg s i) 31 && fld (trieCfg s i) 29 28 != 3

/-- The stage of level l. -/
def stageOf (l : Nat) : Nat := (l - 1) % 6 + 1

/-- The address of slot idx of the node at base in stage st. -/
def trieSlot (st base idx : Nat) : Nat := 0x08400000 + 0x00400000 * (st - 1) + 2048 * base + 8 * idx

/-- The index of a key of width w for the level that consumes bits c to c + stride. -/
def trieIdx (w key c stride : Nat) : Nat := key / 2 ^ (w - (c + stride)) % 2 ^ stride

/-- The lookup of R243 from the node at base of level l, with c bits consumed. -/
def trieWalk (s : State) (w key : Nat) : List Nat → Nat → Nat → Nat → Option (Nat × Nat) → Option (Nat × Nat)
  | [], _, _, _, best => best
  | st :: rest, l, c, base, best =>
    let a := trieSlot (stageOf l) base (trieIdx w key c st)
    let w0 := rd s a
    let best := if bit w0 30 then some (fld w0 27 20, fld w0 19 0) else best
    if bit w0 31 then trieWalk s w key rest (l + 1) (c + st) (rdF s (a + 4) 15 0) best else best

/-- Longest-prefix lookup of a key in an instance: prefix length and result (R243). -/
def trieLookup (s : State) (i key : Nat) : Option (Nat × Nat) :=
  let d := rd s (0x00280604 + 0x10 * i)
  trieWalk s (trieWidth s i) key (trieStrides s i) 1 0 (fld (trieCfg s i) 15 0)
    (if bit d 31 then some (0, fld d 19 0) else none)

/-- The units of 2 KiB of a stage memory. -/
def stageUnits (s : State) (st : Nat) : Nat := 128 * nbits (rdF s 0x00280404 23 0) (4 * st - 1) (4 * st - 4)

/-- The 2 KiB units of a node of a stride. -/
def nodeUnits (stride : Nat) : Nat := 2 ^ stride / 256

/-- Blocks in use: nodes, and the roots of valid instances. -/
def trieBlocks (s : State) : List (Nat × Nat × Nat) :=
  s.tbl.nodes ++ (List.range 8).filterMap (fun i => if bit (trieCfg s i) 31 then some (1, fld (trieCfg s i) 15 0, 256) else none)

/-- The lowest free block of a size in a stage memory, aligned to its size. -/
def trieAlloc (s : State) (st size : Nat) : Option Nat :=
  ((List.range (stageUnits s st / size)).map (· * size)).find? (fun b =>
    (trieBlocks s).all (fun n => n.1 != st || decide (b + size ≤ n.2.1) || decide (n.2.1 + n.2.2 ≤ b)))

/-- A node's words are zero. -/
def trieZero (st base size : Nat) (s : State) : State :=
  let a := trieSlot st base 0
  dropWords (fun k => decide (a ≤ k) && decide (k < a + 2048 * size)) s

/-- The path from the node at base of level l to the node of the level that ends a prefix of length p: missing nodes are
built and linked (R244). The node, its level's first bit and stride, and the links made; none where a node cannot be had. -/
def trieBuild (w key p : Nat) : List Nat → Nat → Nat → Nat → Nat → State → Option ((Nat × Nat × Nat × Nat) × Nat × State)
  | [], _, _, _, _, _ => none
  | st :: rest, l, c, base, links, s =>
    if p ≤ c + st then some ((l, base, c, st), links, s)
    else
      let a := trieSlot (stageOf l) base (trieIdx w key c st)
      if bit (rd s a) 31 then trieBuild w key p rest (l + 1) (c + st) (rdF s (a + 4) 15 0) links s
      else
        match rest with
        | [] => none
        | st2 :: _ =>
          match trieAlloc s (stageOf (l + 1)) (nodeUnits st2) with
          | none => none
          | some b =>
            let s := trieZero (stageOf (l + 1)) b (nodeUnits st2)
              { s with tbl := { s.tbl with nodes := s.tbl.nodes ++ [(stageOf (l + 1), b, nodeUnits st2)] } }
            let s := wr (a + 4) (w32 b) (wrB a 31 true s)
            trieBuild w key p rest (l + 1) (c + st) b (links + 1) s

/-- The slots of a node that a prefix of length p covers. -/
def trieCovered (w key p l base c st : Nat) : List Nat :=
  (List.range (2 ^ (c + st - p))).map (fun k => trieSlot (stageOf l) base (trieIdx w key c st + k))

/-- A prefix's key with the bits beyond its length cleared. -/
def prefixKey (w p key : Nat) : Nat := key % 2 ^ w / 2 ^ (w - p) * 2 ^ (w - p)

/-- The record of a prefix. -/
def isPrefix (i p key : Nat) (r : Prefix) : Bool := r.inst == i && r.p == p && r.key == key

/-- The records that share the limit of instance i (R245). -/
def recordsLike (s : State) (i : Nat) : Nat :=
  (s.tbl.prefixes.filter (fun r => trieWidth s r.inst == trieWidth s i)).length

/-- Set the prefix records. -/
def setPrefixes (l : List Prefix) (s : State) : State := { s with tbl := { s.tbl with prefixes := l } }

/-- Insert a prefix (R244, R245): the slots written and the code. -/
def lpmInsert (i p key result sgen : Nat) (s : State) : State × Nat × List Nat :=
  let w := trieWidth s i
  let key := prefixKey w p key
  let res := if fld (trieCfg s i) 29 28 = 2 then result % 2 ^ 18 else result % 2 ^ 13
  let old := s.tbl.prefixes.any (isPrefix i p key)
  if !trieOk s i || decide (w < p) then (s, cBadCommand, [])
  else if !old && decide ((if w = 128 then 16384 else 65536) ≤ recordsLike s i) then (s, cTableFull, [])
  else
    let recorded (s : State) : State :=
      setPrefixes (s.tbl.prefixes.filter (fun r => !isPrefix i p key r) ++ [{ inst := i, p := p, key := key, result := res, sgen := sgen }]) s
    if p = 0 then (recorded (wr (0x00280604 + 0x10 * i) (w32 (2 ^ 31 + res)) s), cOk, [0])
    else
      match trieBuild w key p (trieStrides s i) 1 0 (fld (trieCfg s i) 15 0) 0 s with
      | none => (s, cTableFull, [])
      | some ((l, base, c, st), links, t) =>
        let slots := (trieCovered w key p l base c st).filter (fun a => !bit (rd t a) 30 || decide (fld (rd t a) 27 20 ≤ p))
        let t := slots.foldl (fun t a => wr a (w32 (b2n (bit (rd t a) 31) * 2 ^ 31 + 2 ^ 30 + p * 2 ^ 20 + res)) t) t
        (recorded t, cOk, [slots.length + links])

/-- The path of nodes from the root to the node that ends a prefix, deepest first: parent slot, stage, base, size. -/
def triePath (s : State) (w key p : Nat) : List Nat → Nat → Nat → Nat → List (Nat × Nat × Nat × Nat) → List (Nat × Nat × Nat × Nat)
  | [], _, _, _, acc => acc
  | st :: rest, l, c, base, acc =>
    let a := trieSlot (stageOf l) base (trieIdx w key c st)
    if p ≤ c + st ∨ bit (rd s a) 31 = false then acc
    else
      let b := rdF s (a + 4) 15 0
      triePath s w key p rest (l + 1) (c + st) b ((a, stageOf (l + 1), b, nodeUnits (rest.headD 8)) :: acc)

/-- A node holds neither RES nor CHILD. -/
def trieEmpty (s : State) (st base size : Nat) : Bool :=
  (tblRange s.regs (trieSlot st base 0) (trieSlot st base 0 + 2048 * size)).all (fun e => e.1 % 8 != 0 || fld e.2 31 30 == 0)

/-- Unlink the empty nodes of a path from its deep end (R244). The slots written. -/
def trieUnlink : List (Nat × Nat × Nat × Nat) → Nat → State → Nat × State
  | [], n, s => (n, s)
  | (a, st, base, size) :: rest, n, s =>
    if trieEmpty s st base size then
      let s := trieZero st base size { s with tbl := { s.tbl with nodes := s.tbl.nodes.filter (fun e => e != (st, base, size)) } }
      trieUnlink rest (n + 1) (wr (a + 4) 0 (wrB a 31 false s))
    else (n, s)

/-- What a slot of a level takes when prefix p leaves it: the longest other stored prefix of that level that covers it. -/
def trieCover (s : State) (i w slotKey c p : Nat) : Option Prefix :=
  (s.tbl.prefixes.filter (fun r => r.inst == i && decide (c < r.p) && decide (r.p < p) && r.key == prefixKey w r.p slotKey)).foldl
    (fun best r => match best with
      | some b => if b.p < r.p then some r else best
      | none => some r) none

/-- Delete a prefix (R244): the slots written and the code. -/
def lpmDelete (i p key : Nat) (s : State) : State × Nat × List Nat :=
  let w := trieWidth s i
  let key := prefixKey w p key
  if !trieOk s i || decide (w < p) then (s, cBadCommand, [])
  else if p = 0 then
    if rdB s (0x00280604 + 0x10 * i) 31 then
      (setPrefixes (s.tbl.prefixes.filter (fun r => !isPrefix i 0 0 r)) (wr (0x00280604 + 0x10 * i) 0 s), cOk, [0])
    else (s, cNotFound, [])
  else if !s.tbl.prefixes.any (isPrefix i p key) then (s, cNotFound, [])
  else
    let s := setPrefixes (s.tbl.prefixes.filter (fun r => !isPrefix i p key r)) s
    let root := fld (trieCfg s i) 15 0
    match trieBuild w key p (trieStrides s i) 1 0 root 0 s with
    | none => (s, cOk, [0])
    | some ((l, base, c, st), _, _) =>
      let path := triePath s w key p (trieStrides s i) 1 0 root []
      let n := 2 ^ (c + st - p)
      let r := (List.range n).foldl (fun (acc : Nat × State) k =>
        let a := trieSlot (stageOf l) base (trieIdx w key c st + k)
        let w0 := rd acc.2 a
        if bit w0 30 = true ∧ fld w0 27 20 = p then
          let ch := b2n (bit w0 31) * 2 ^ 31
          (acc.1 + 1, wr a (w32 (match trieCover acc.2 i w (key + k * 2 ^ (w - (c + st))) c p with
            | some q => ch + 2 ^ 30 + q.p * 2 ^ 20 + q.result
            | none => ch)) acc.2)
        else acc) (0, s)
      let (n, s) := trieUnlink path r.1 r.2
      (s, cOk, [n])

/-! ### The table manager's commands (R249) -/

/-- The requesters of a slot: 0 and 1 host function 0, 2 Kiln firmware, 3 the loader only. -/
def tblMay (slot : Fin 4) (q : Requester) : Bool :=
  if slot.val < 2 then hostRights q else slot.val == 2 && decide (q = .kiln)

/-- A command in a slot of the table manager, its key and its address. -/
def tblCommand (q : Requester) (slot : Fin 4) (f : State → State × Nat × List Nat) (s : State) : State :=
  tblSettle (slotRun (tblSlot slot) (tblMay slot q) f s)
def argVid (s : State) (b : Nat) : Nat := nbits (slotArg s b 0) 27 16
def argMac (s : State) (b : Nat) : Nat := slotArg s b 0 % 65536 * 2 ^ 32 + slotArg s b 1
def argPrefix (s : State) (b i : Nat) : Nat :=
  if trieWidth s i = 128 then ((slotArg s b 1 * 2 ^ 32 + slotArg s b 2) * 2 ^ 32 + slotArg s b 3) * 2 ^ 32 + slotArg s b 4
  else slotArg s b 1

/-- Carry out an L2_INSERT or LPM_INSERT in slot b; entries of the host and of Kiln carry SGEN 0 (R250). -/
def runL2Insert (b : Nat) (loader : Bool) (s : State) : State × Nat × List Nat :=
  l2Insert (nbit (slotArg s b 3) 30) (argVid s b) (argMac s b) (slotArg s b 2) (if loader then slotArg s b 4 else 0) s
def runLpmInsert (b i : Nat) (loader : Bool) (s : State) : State × Nat × List Nat :=
  lpmInsert i (slotArg s b 0 % 256) (argPrefix s b i) (slotArg s b 5) (if loader then slotArg s b 6 else 0) s

/-- Carry out L2_DELETE in slot b. -/
def runL2Delete (b : Nat) (s : State) : State × Nat × List Nat :=
  match l2Find (argVid s b) (argMac s b) s with
  | (some o, s) => (l2Clear o s, cOk, [l2Loc s o])
  | (none, s) => (s, cNotFound, [])

/-- Carry out L2_LOOKUP in slot b. -/
def runL2Lookup (b : Nat) (s : State) : State × Nat × List Nat :=
  match l2Find (argVid s b) (argMac s b) s with
  | (some o, s) => (s, cOk, (rdWords s o 4).map (·.toNat) ++ [l2Loc s o])
  | (none, s) => (s, cNotFound, [])

/-- Carry out L2_FLUSH in slot b (R240): learned entries of a port, of a VID, of both, or all. -/
def runL2Flush (b mode : Nat) (s : State) : State × Nat × List Nat :=
  let port := slotArg s b 0 % 2 ^ 19
  let vid := slotArg s b 1 % 4096
  let l := (l2Entries s).filter (fun o => l2Learned s o
    && (!nbit mode 0 || (!bit (rd s (o + 8)) 31 && l2Dest s o == port)) && (!nbit mode 1 || l2Vid s o == vid))
  (l.foldl (fun s o => l2Clear o s) s, cOk, [l.length])

/-- Carry out L2_RELOCATE in slot b (R234). -/
def runL2Relocate (b : Nat) (s : State) : State × Nat × List Nat :=
  let o := stashOff (slotArg s b 0 % 8)
  if !l2Valid s o || l2Bad s o then (s, cNotFound, [])
  else
    match l2Place (l2Vid s o) (l2Mac s o) s with
    | (some p, _, s) => (l2Clear o (l2Write p (rdWords s o 4) s), cOk, [l2Loc s p])
    | (none, _, s) => (s, cTableFull, [])

/-- Carry out LPM_DELETE, LPM_LOOKUP and NH_WRITE in slot b. -/
def runLpmDelete (b i : Nat) (s : State) : State × Nat × List Nat := lpmDelete i (slotArg s b 0 % 256) (argPrefix s b i) s
def runLpmLookup (b i : Nat) (s : State) : State × Nat × List Nat :=
  if !trieOk s i then (s, cBadCommand, [])
  else
    match trieLookup s i (argPrefix s b i) with
    | some (p, r) => (s, cOk, [2 ^ 31 + p * 2 ^ 20 + r])
    | none => (s, cOk, [0])
def runNhWrite (b n : Nat) (s : State) : State × Nat × List Nat :=
  (wrWords (0x08220000 + 0x10 * n) ((List.range 4).map (fun k => w32 (slotArg s b k))) s, cOk, [])

/-- L2_INSERT (R233, R249). -/
def execL2Insert (req : Requester) (slot : Fin 4) (s : State) : Host.Outcome State Fault Refusal :=
  done s (tblCommand req slot (runL2Insert (tblSlot slot) false) s)

/-- L2_DELETE (R249). -/
def execL2Delete (req : Requester) (slot : Fin 4) (s : State) : Host.Outcome State Fault Refusal :=
  done s (tblCommand req slot (runL2Delete (tblSlot slot)) s)

/-- L2_LOOKUP (R249). -/
def execL2Lookup (req : Requester) (slot : Fin 4) (s : State) : Host.Outcome State Fault Refusal :=
  done s (tblCommand req slot (runL2Lookup (tblSlot slot)) s)

/-- L2_FLUSH (R240, R249) with PARAM[1:0]. -/
def execL2Flush (req : Requester) (slot : Fin 4) (mode : Fin 4) (s : State) : Host.Outcome State Fault Refusal :=
  done s (tblCommand req slot (runL2Flush (tblSlot slot) mode) s)

/-- L2_RELOCATE (R234, R249). -/
def execL2Relocate (req : Requester) (slot : Fin 4) (s : State) : Host.Outcome State Fault Refusal :=
  done s (tblCommand req slot (runL2Relocate (tblSlot slot)) s)

/-- LPM_INSERT (R244, R249) with the instance in PARAM. -/
def execLpmInsert (req : Requester) (slot : Fin 4) (inst : Fin 8) (s : State) : Host.Outcome State Fault Refusal :=
  done s (tblCommand req slot (runLpmInsert (tblSlot slot) inst false) s)

/-- LPM_DELETE (R244, R249). -/
def execLpmDelete (req : Requester) (slot : Fin 4) (inst : Fin 8) (s : State) : Host.Outcome State Fault Refusal :=
  done s (tblCommand req slot (runLpmDelete (tblSlot slot) inst) s)

/-- LPM_LOOKUP (R243, R249). -/
def execLpmLookup (req : Requester) (slot : Fin 4) (inst : Fin 8) (s : State) : Host.Outcome State Fault Refusal :=
  done s (tblCommand req slot (runLpmLookup (tblSlot slot) inst) s)

/-- NH_WRITE (R246, R249) with the next hop's index in PARAM. -/
def execNhWrite (req : Requester) (slot : Fin 4) (n : Fin 8192) (s : State) : Host.Outcome State Fault Refusal :=
  done s (tblCommand req slot (runNhWrite (tblSlot slot) n) s)

/-! ### Region 19 (R250) -/

/-- One group of region 19's command image: a CMD word and eight arguments, in slot 3; its code. -/
def tblImage (cmd : Nat) (args : List Nat) (s : State) : Nat × State :=
  let b := tblSlot 3
  let s := wrWords (b + 4) ((padTo args 8 0).take 8 |>.map w32) s
  let f : State → State × Nat × List Nat := fun s =>
    match cmd % 256 with
    | 0x01 => runL2Insert b true s
    | 0x02 => runL2Delete b s
    | 0x03 => runL2Lookup b s
    | 0x04 => runL2Flush b (nbits cmd 9 8) s
    | 0x05 => runL2Relocate b s
    | 0x10 => runLpmInsert b (nbits cmd 10 8) true s
    | 0x11 => runLpmDelete b (nbits cmd 10 8) s
    | 0x12 => runLpmLookup b (nbits cmd 10 8) s
    | 0x20 => runNhWrite b (nbits cmd 20 8) s
    | _ => (s, cBadCommand, [])
  let s := slotRun b true f s
  (fld (slotStatus s b) 7 0, s)

/-- When all groups of region 19 have completed: static entries and prefixes of another generation are removed. -/
def tblSweepGen (gen : Nat) (s : State) : State :=
  let old := fun g : Nat => g != 0 && g != gen
  let s := (l2Entries s).foldl (fun s o => if bit (rd s o) 30 && old (rd s (o + 12)).toNat then l2Clear o s else s) s
  tblSettle ((s.tbl.prefixes.filter (fun r => old r.sgen)).foldl (fun s r => (lpmDelete r.inst r.p r.key s).1) s)

end Sys2Proof.Machine
end

