-- ==== Sys2Proof/Machine/Forward.lean ====
section
/-! DEFINITION. Sys2Proof/Machine/Forward.lean: the passes of a packet through an ingress pipeline (R182, R195, R198 to
R202, R209 to R216, R225 to R227, R315 to R318, R331 to R335): parse, class treatment, lookups, delivery, recirculation. -/

namespace Sys2Proof.Machine
open Sys2Proof

/-- The pipeline of source index i: E0 to E23, HOST, KILN, ROUTER, COIL (R15). -/
def pipelineOf (i : Nat) : Nat := if i = 0 ∨ i = 1 ∨ (4 ≤ i ∧ i ≤ 13) ∨ i = 24 ∨ i = 25 then 0 else 1

/-- A packet ends here: its cells are freed and a send that waits for it ends. -/
def passDrop (p : Pkt) (s : State) : State := sendLost p (shfUnref p.pid s)

/-- A copy of a segmentation send for a port that is no Ethernet port is dropped (R175): SEG_DROP of the first Ethernet
port of the send, or, where it has none, of a port that the manual does not name (a free value). -/
def segDrop (eth : Option Nat) (s : State) : State :=
  match eth with
  | some n => bump (macCtr n 26) s
  | none => bump (macCtr (freeVal s 5 % 24) 26) (drawn s)

/-! ### Delivery -/

/-- The last condition of R38: under a running gate list the gate of class c of port n is open and stays open for a frame
of the port's maximum length. -/
def ctGate (s : State) (n c : Nat) : Bool :=
  (macOf s n).gcl.isNone ||
    (gateOpen s n c && match windowEnd s n c with
      | none => true
      | some e => decide (s.tim.wt + wireNs s n (maxFrame s n + 20) * unitsPerNs ≤ e))

/-- A frame for En in class c is granted cut-through (R38, R163, R313); idle names the ports whose MAC is not transmitting. -/
def ctGrant (s : State) (idle : Option (List (Fin 24))) (n c : Nat) (p : Pkt) : Bool :=
  match idle with
  | none => false
  | some l =>
    p.pass == 1 && decide (128 ≤ p.ingress % 256) && decide (p.ingress % 256 < 152) && p.frer.isNone && p.seg == 0 && !p.validated
      && ctPortOk s l (p.ingress % 256 - 128) n c p.bytes && ctGate s n c

/-- A packet with one copy is delivered to local port g in class c (R310 to R312): whether it was cut through. -/
def deliverPort (idle : Option (List (Fin 24))) (g c : Nat) (p : Pkt) (s : State) : Bool × State :=
  if 128 ≤ g ∧ g < 152 then
    let n := g - 128
    let cut := ctGrant s idle n c p
    if p.bad && !cut then (false, passDrop p s)
    else
      match shfTry g c { p with ct := cut } s with
      | (false, s) => (false, sendLost p s)
      | (true, s) =>
        if cut then
          let s := portServe n c (bump (swcCtr n 0) s)
          (true, if p.bad then bump (macCtr (p.ingress % 256 - 128) 22) s else s)
        else (false, s)
  else if p.bad then (false, passDrop p s)
  else if g = 152 ∨ g = 153 ∨ g = 155 then
    if p.seg ≠ 0 then (false, segDrop none (passDrop p s))
    else (false, sendLost p (shfEnqueue g c p s))
  else (false, passDrop p s)

/-- A packet leaves for a port of another device (R486): a port by DIRECTED, GPN 156 by LOOKUP; else it is dropped. -/
def deliverFar (did g c : Nat) (p : Pkt) (s : State) : State :=
  if p.bad then passDrop p s
  else if p.seg ≠ 0 then segDrop none (passDrop p s)
  else if g = 156 then passDrop p (coilDataTx did 0 0 c p s)
  else if (128 ≤ g ∧ g ≤ 152) ∨ g = 155 then passDrop p (coilDataTx did 1 g c p s)
  else passDrop p s

/-- DEF_QP of a host function. -/
def defQp (s : State) (f : Nat) : Nat := rdF s (0x00500200 + 4 * (f % 8)) 9 0

/-- A packet is delivered to an SPN in class c. -/
def deliverSpn (idle : Option (List (Fin 24))) (spn c : Nat) (p : Pkt) (s : State) : Bool × State :=
  if spn / 256 ≠ 0 ∧ spn / 256 ≠ ownDid s then (false, deliverFar (spn / 256) (spn % 256) c p s)
  else deliverPort idle (spn % 256) c (if spn % 256 = 152 then { p with qp := defQp s p.sub } else p) s

/-- One multicast copy for port g: admitted, kept in the residue list of its class, or dropped (R317, R318). -/
def mcCopy (g c : Nat) (p : Pkt) (s : State) : State :=
  if 128 ≤ g ∧ g < 152 ∧ linkDown s (g - 128) = true then bump (swcCtr (g - 128) 4) s
  else
    match shfOffer g c p false (shfRef p.pid s) with
    | (true, s) => if g = 153 then kilnTake 1 s else s
    | (false, s) =>
      let w := rd s (0x00400100 + 4 * c)
      let all := (List.range 8).foldl (fun n k => n + (residueOf s k).length) 0
      if fld w 30 16 ≤ (residueOf s c).length ∨ 16384 ≤ all then raise (lfSwc 1) (residueDrop g p s)
      else if fld w 15 0 = 0 then raise (lfSwc 0) (residueDrop g p s)
      else setResidue c (residueOf s c ++ [(g, p)]) s

/-- The Ethernet members of a group, the ingress port left out. -/
def mcEth (w0 : Word) (p : Pkt) : List Nat := (List.range 24).filter (fun n => bit w0 n && 128 + n != p.ingress % 256)

/-- Replication into group g in class c, with its remote members or without them (R315, R316). -/
def replicate (g c : Nat) (remote : Bool) (p : Pkt) (s : State) : State :=
  let b := 0x0F000000 + 0x20 * g
  let w0 := rd s b
  if !bit w0 31 || p.bad then passDrop p s
  else
    let eth := mcEth w0 p
    let far := if remote then (List.range 4).filter (fun k => rdB s (b + 8 + 4 * k) 31) else []
    let special := [(30, 152), (29, 153), (28, 155)].filterMap (fun e => if bit w0 e.1 && e.2 != p.ingress % 256 then some e.2 else none)
    let s := eth.foldl (fun s n => mcCopy (128 + n) c p s) s
    let s := special.foldl (fun s gpn =>
      if p.seg ≠ 0 then segDrop eth.head? s
      else if gpn = 155 then mcCopy 155 c { p with send := none, flags := nsetBit p.flags flAcf false, hstack := [] } s
      else mcCopy gpn c { p with send := none, qp := if gpn = 152 then rdF s (b + 4) 9 0 else p.qp } s) s
    let s := far.foldl (fun s k =>
      if p.seg ≠ 0 then segDrop eth.head? s
      else coilDataTx (rdF s (b + 8 + 4 * k) 26 16) 2 (rdF s (b + 8 + 4 * k) 11 0) c p s) s
    let kept := eth.any (fun n => !linkDown s n)
    shfUnref p.pid (if kept then s else sendLost p s)

/-! ### Lookups (R225 to R227) -/

/-- DA, SA and VID of a pass (R225); none without a recorded Ethernet header. -/
def l2Fields (s : State) (p : Pkt) : Option (Nat × Nat × Nat) :=
  match p.hstack.dropWhile (fun h => h.1 != 1) with
  | [] => none
  | (_, o) :: rest =>
    let tag := match rest.find? (fun h => h.1 == 2) with
      | some (_, t) => beAt p.bytes t 2 % 4096
      | none => 0
    let vid := if tag = 0 then rdF s (tblPortCfg (portIdx (p.ingress % 256))) 11 0 else tag
    some (beAt p.bytes o 6, beAt p.bytes (o + 6) 6, vid)

/-- Where forwarding sends a packet, and its queue's class. -/
inductive FwdTo where
  | spn (d c : Nat)
  | group (g c : Nat)
  | queue (qp c : Nat)
  deriving DecidableEq, Repr

/-- The next hop of a routed packet (R226 step 4, R241, R243, R246): the trie of the VLAN's instance, then the entry. -/
def routeTo (vlan c : Nat) (p : Pkt) (s : State) : Option FwdTo × Pkt × State :=
  let i := nbits vlan 26 24
  let ty := ((p.hstack.find? (fun h => h.2 == p.l3)).map (·.1)).getD 0
  let fam := fld (trieCfg s i) 29 28
  let key := if ty = 6 then beAt p.bytes (p.l3 + 24) 16 else beAt p.bytes (p.l3 + 16) 4
  let miss := (none, p, bump (tblCtr 9) s)
  if !trieOk s i || !((ty == 5 && fam == 0) || (ty == 6 && fam == 1)) then miss
  else
    match trieLookup s i key with
    | none => miss
    | some (_, r) =>
      let nh := rdWords s (0x08220000 + 0x10 * (r % 8192)) 4
      let w0 := nh.headD 0
      if !bit w0 31 then miss
      else if bit w0 30 && decide (ttlOf p.bytes p.l3 ≤ 1) then (some (.spn 153 c), p, bump (tblCtr 10) s)
      else (some (.spn (fld w0 18 0) c), { p with nh := nh }, s)

/-- The destination lookup (R226 steps 3 to 5). -/
def lookupDest (da vid c : Nat) (p : Pkt) (s : State) : Option FwdTo × Pkt × State :=
  let vlan := (rd s (vlanKey vid)).toNat
  let (hit, s) := l2Find vid da s
  match hit, learnFind s vid da with
  | some o, _ =>
    let w2 := rd s (o + 8)
    if bit w2 31 then (some (.group (fld w2 11 0) c), p, s)
    else if bit w2 30 && nbit vlan 27 && p.l3 != 255 then routeTo vlan c p s
    else (some (.spn (fld w2 18 0) c), p, s)
  | none, some e => (some (.spn e.dest c), p, s)
  | none, none =>
    if nbit da 40 then (some (.group (nbits vlan 11 0) c), p, s)
    else
      let s := bump (tblCtr 8) s
      match nbits vlan 29 28 with
      | 0 => (some (.group (nbits vlan 11 0) c), p, s)
      | 2 => (some (.queue (nbits vlan 23 14) c), p, s)
      | _ => (none, p, s)

/-- The source lookup of a first pass from E0 to E23 or from the Coil (R235): whether the packet is dropped. -/
def sourceStep (sa vid : Nat) (p : Pkt) (s : State) : Bool × State :=
  let g := p.ingress % 256
  if p.pass = 1 ∧ ((128 ≤ g ∧ g < 152) ∨ g = 156) then
    sourceLearn vid sa (if g = 156 then p.orig.getD 0 else g) (portIdx g) s
  else (false, s)

/-- Where a packet whose ACTION is FORWARD goes: the port, group or class that came with it, EQUEUE, or the lookups
(R211, R226, R262, R487). -/
def resolve (v : Verdict) (p : Pkt) (s : State) : Option FwdTo × Pkt × State :=
  let c := if v.qsel = 1 then v.tc else p.cls
  let l2 := l2Fields s p
  if p.direct.isSome || p.group.isSome then
    let r := match l2 with
      | some (_, sa, vid) => sourceStep sa vid p s
      | none => (false, s)
    if r.1 then (none, p, r.2)
    else
      match p.direct, p.group with
      | some (g, k), _ => (some (.spn g (if k < 8 then k else c)), p, r.2)
      | none, some g => (some (.group g c), p, r.2)
      | none, none => (none, p, r.2)
  else
    match l2 with
    | none => (none, p, bump (tblCtr 11) s)
    | some (da, sa, vid) =>
      if !bit (rd s (vlanKey vid)) 31 then (none, p, bump (tblCtr 11) s)
      else
        match sourceStep sa vid p s with
        | (true, s) => (none, p, s)
        | (false, s) =>
          if v.qsel = 2 then
            let g := v.equeue / 8
            (if 128 ≤ g ∧ g < 152 then some (.spn g (v.equeue % 8)) else none, p, s)
          else lookupDest da vid c p s

/-- A unicast result names the packet's own ingress port (R227). -/
def ownPort (s : State) (p : Pkt) : FwdTo → Bool
  | .spn d _ => d % 256 == p.ingress % 256 && (d / 256 == 0 || d / 256 == ownDid s)
  | _ => false

/-- FRER at the end of forwarding (R331 to R335): the packet with its stream, or none where it is discarded. -/
def frerStep (flow : Nat) (p : Pkt) (s : State) : Option Pkt × State :=
  let (func, st) := frerMap s flow
  let rec? := func == 2 || func == 3
  if func = 0 then (some p, s)
  else
    let (pass, s) : Bool × State :=
      if rec? then
        if p.rtagSeen then frerRecover st p.rtag s
        else
          let s := bump (strCtr st 5) s
          if bit (rd s (strCfg st)) 31 then (true, s) else (false, bump (strCtr st 1) s)
      else (true, s)
    if !pass then (none, s)
    else if func = 2 then (some { p with frer := some (st, if p.rtagSeen then some p.rtag else none) }, s)
    else
      let (n, s) := frerGenerate st s
      (some { p with frer := some (st, some n) }, s)

/-- FORWARD (R213 step 7): lookups, own-port filter, FRER, delivery. Whether the packet was cut through. -/
def forward (idle : Option (List (Fin 24))) (v : Verdict) (p : Pkt) (s : State) : Bool × State :=
  match resolve v p s with
  | (none, p, s) => (false, passDrop p s)
  | (some d, p, s) =>
    if ownPort s p d then (false, passDrop p (bump (tblCtr 11) s))
    else
      match frerStep v.cls p s with
      | (none, s) => (false, passDrop p s)
      | (some p, s) =>
        match d with
        | .spn d c => deliverSpn idle d c p s
        | .queue q c => deliverPort idle 152 c { p with qp := q } s
        | .group g c => (false, replicate g c p.orig.isNone p s)

/-! ### Recirculation (R199 to R201) -/

/-- RECIRC_FULL is LIVE while either queue is full. -/
def recircLive (s : State) : State :=
  setLive (lfWdg 2) ((List.range 2).any (fun q => decide (512 ≤ (tblGet s.recirc q []).length))) s

/-- A packet is stripped and queued for its next pass in pipeline q, with word 2 of its class, or dropped at a limit. -/
def recirculate (q : Nat) (w2 : Word) (p : Pkt) (s : State) : State :=
  let h := fld w2 31 28
  if 3 ≤ p.pass then raise (lfWdg 1) (bump (wdgCtr q 5) (passDrop p s))
  else if p.hstack.length ≤ h then raise (lfWdg 3) (bump (wdgCtr q 7) (passDrop p s))
  else if 512 ≤ (tblGet s.recirc q []).length then raise (lfWdg 2) (bump (wdgCtr q 6) (passDrop p s))
  else
    let bytes := if h = 0 then p.bytes else p.bytes.drop ((p.hstack.getD h (0, 0)).2)
    let p := { p with bytes := bytes, pass := p.pass + 1, node := fld w2 27 22, prof := fld w2 21 18, rtagTag := fld w2 15 8 }
    let s := shfRetain p s
    recircLive { s with recirc := tblSet s.recirc q (tblGet s.recirc q [] ++ [p]) }

/-! ### Class treatment (R213, R214, R216) -/

/-- A copy goes to a queue pair at GPN 152 in class c; toward a disabled queue pair it is dropped in DROPPED (R214). -/
def hostCopy (cls qp c : Nat) (p : Pkt) (s : State) : State :=
  if p.bad then s
  else if !qpEnabled s qp then bump (clsCtr cls 2) s
  else if p.seg ≠ 0 then segDrop none s
  else shfEnqueue 152 c { p with qp := qp, pid := 0, send := none } s

/-- The action of the class (R213 step 7). -/
def classAction (q : Nat) (idle : Option (List (Fin 24))) (v : Verdict) (p : Pkt) (s : State) : Bool × State :=
  let k := clsClass p.bank v.cls
  let c := if v.qsel = 1 then v.tc else p.cls
  match rdF s k 30 28 with
  | 0 => forward idle v p s
  | 2 => deliverPort none 155 c p s
  | 3 => (false, recirculate q (rd s (k + 8)) p s)
  | 4 =>
    let qp := rdF s (k + 4) 9 0
    if qpEnabled s qp then deliverPort none 152 c { p with qp := qp } s
    else (false, passDrop p (bump (clsCtr v.cls 2) s))
  | _ => (false, passDrop p (bump (clsCtr v.cls 2) s))

/-- A class's first SDU drop with BLOCK_OVERSIZE blocks it (R216). -/
def classBlock (cls : Nat) (s : State) : State :=
  if isBlocked s cls then s else raiseLive (lfCls 1) (wrB (blockedKey cls) (cls % 32) true s)

/-- The class treatment of a pass (R213). ct: the packet is cut through, so its mirror copy may be. A session that
took its ING copy on this pass takes no second one (R321). -/
def classApply (q : Nat) (idle : Option (List (Fin 24))) (ct : Bool) (v : Verdict) (p : Pkt) (s : State) : Bool × State :=
  let k := clsClass p.bank v.cls
  let w0 := rd s k
  let w1 := rd s (k + 4)
  let len := p.bytes.length + 4
  let sdu := rdF s (k + 12) 13 0
  let s := bumpN (clsCtr v.cls 1) len (bump (clsCtr v.cls 0) s)
  let taken := p.pass == 1 && decide (128 ≤ p.ingress % 256) && decide (p.ingress % 256 < 152)
    && (mirSessions s 0x0C (p.ingress % 256 - 128)).contains (fld w1 30 29)
  let mirror (s : State) : State := if taken then s else mirCopies [fld w1 30 29] p p.bytes (if ct then idle else none) s
  let dropAt (sduDrop : Bool) (s : State) : Bool × State :=
    let s := bump (clsCtr v.cls 2) s
    let s := if sduDrop then bump (clsCtr v.cls 3) s else s
    (false, passDrop p (if bit w1 31 && bit w1 28 then mirror s else s))
  if isBlocked s v.cls then dropAt true s
  else if sdu ≠ 0 ∧ sdu < len then dropAt true (if bit w0 26 then classBlock v.cls s else s)
  else
    let (colour, s) := if bit w0 25 then meter p.bank (fld w0 13 0) len v.colour s else (v.colour, s)
    let yellow := bit w0 25 && bit (rd s (clsPol p.bank (fld w0 13 0))) 30
    if (colour == 2 && !bit w0 27) || (colour == 1 && yellow) then dropAt false s
    else
      let s := if bit w1 31 then mirror s else s
      let s := if bit w1 27 then hostCopy v.cls (fld w1 9 0) (if v.qsel = 1 then v.tc else p.cls) p s else s
      classAction q idle v p s

/-! ### One pass -/

/-- One pass of a packet in pipeline q from a start node, under a key profile (R182 to R216). -/
def onePass (q node prof : Nat) (idle : Option (List (Fin 24))) (ct : Bool) (p : Pkt) (s : State) : Bool × State :=
  let r := parsePass s node p
  let s := bump (wdgCtr q 0) s
  let s := if nbit r.flags flDepth then bump (wdgCtr q 1) s else s
  let s := if nbit r.flags flConflict then bump (wdgCtr q 2) s else s
  let p := withParse p r
  if r.parity then (false, raise (lfWdg 4) (bump (wdgCtr q 8) (passDrop p s)))
  else if nbit r.flags flConflict && !rdB s 0x00200000 31 && !nbit r.flags flOversize then
    (false, raise (lfWdg 0) (bump (wdgCtr q 3) (passDrop p s)))
  else
    let s := ruleEcc p.bank s
    let v := classify s prof p r
    classApply q idle ct v { p with flow := v.cls } s

/-- First-pass admission of a packet from source index i (R182, R221, R321): the bank is pinned and ING copies are taken. -/
def admitPass (i : Nat) (idle : List (Fin 24)) (ct : Bool) (p : Pkt) (s : State) : Bool × State :=
  let b := (activeBank s 18).getD 0
  let p := { p with bank := b, pass := 1 }
  let s := if i < 24 then mirCopies (mirSessions s 0x0C i) p p.bytes (if ct then some idle else none) s else s
  onePass (pipelineOf i) (startNode s i) (profileSel s b i) (some idle) ct p s

/-- PIPELINE_ADMIT (R182): the oldest packet that waits at a source is admitted to its pipeline. idle names the Ethernet
MACs that are not transmitting (R38). A packet that proved bad has effect only where it had begun to leave (R162, R314). -/
def execPipelineAdmit (src : Fin 28) (idle : List (Fin 24)) (s : State) : Host.Outcome State Fault Refusal :=
  done s (
    if !regionApplied s 17 || fld (rd s (regState 17)) 2 0 == 4 then s
    else
      match tblGet s.ing (gpnOf src) [] with
      | [] => s
      | p :: rest =>
        let s := { s with ing := if rest = [] then tblErase s.ing (gpnOf src) else tblSet s.ing (gpnOf src) rest }
        let ct := (admitPass src idle false p s).1
        if p.bad && !ct then nmwSettle (passDrop p s)
        else nmwSettle (admitPass src idle ct p s).2)

/-- RECIRC_ADMIT (R201): the packet at the head of a pipeline's recirculation queue is admitted for its next pass. -/
def execRecircAdmit (pipeline : Fin 2) (s : State) : Host.Outcome State Fault Refusal :=
  done s (
    let q := pipeline.val
    match tblGet s.recirc q [] with
    | [] => s
    | p :: rest =>
      let s := recircLive { s with recirc := if rest = [] then tblErase s.recirc q else tblSet s.recirc q rest }
      nmwSettle (onePass q p.node p.prof none false p (bump (wdgCtr q 4) s)).2)

end Sys2Proof.Machine
end

