-- ==== Sys2Proof/Machine/Time.lean ====
section
/-! DEFINITION. Sys2Proof/Machine/Time.lean: the time base: the clocks' advance (R66 to R70), working time's states (R72,
R73), domain selection (R74 to R76) and the time commands. -/

namespace Sys2Proof.Machine
open Sys2Proof

/-! ### The advance of the clocks -/

/-- Seconds wrap at 2^48 (R66). -/
def clkWrap : Nat := 2 ^ 48 * 10 ^ 9 * 2 ^ 32

/-- The nominal increment of a TCLK cycle in units of 2^-32 ns (R67). -/
def nominalInc (phase : Nat) : Nat := if phase % 3 = 2 then 0xD5555556 else 0xD5555555

/-- An increment scaled by (1 + r × 2^-40), truncated toward zero (R68, R70). -/
def scaleInc (inc : Nat) (r : Int) : Nat := (((inc : Int) * (2 ^ 40 + r)).tdiv (2 ^ 40)).toNat

/-- RATE of a domain: false A, true B (R68). -/
def rateOf (s : State) (d : Bool) : Int := signed 32 (rd s (if d then 0x00060070 else 0x00060050)).toNat

/-- A domain clock. -/
def domClk (s : State) (d : Bool) : Nat := if d then s.tim.domB else s.tim.domA

/-- WT_STATE: 0 UNINIT, 1 TRACKING, 2 HOLDOVER, 3 FREE. -/
def wtState (s : State) : Nat := fld (rd s 0x00060010) 27 26

/-- TIM_STATUS.SEL: the domain followed. -/
def selOf (s : State) : Bool := bit (rd s 0x00060010) 25

/-- The slew s of R70: TIM_WT_SLEW. -/
def slewOf (s : State) : Int := signed 32 (rd s 0x00060034).toNat

/-- Working time's increment in a TCLK cycle (R70, R72, R73). -/
def wtInc (s : State) : Nat :=
  let nom := nominalInc s.tim.phase
  match wtState s with
  | 1 => scaleInc (scaleInc nom (rateOf s (selOf s))) (slewOf s)
  | 2 => scaleInc nom s.tim.holdRate
  | 3 => nom
  | _ => 0

/-- One TCLK cycle of the time base (R67, R68, R70). -/
def tclk (s : State) : State :=
  let nom := nominalInc s.tim.phase
  { s with tim := { s.tim with
      phase := (s.tim.phase + 1) % 3
      domA := (s.tim.domA + scaleInc nom (rateOf s false)) % clkWrap
      domB := (s.tim.domB + scaleInc nom (rateOf s true)) % clkWrap
      wt := (s.tim.wt + wtInc s) % clkWrap } }

/-- delta of R70 in units of 2^-32 ns. -/
def deltaOf (s : State) (d : Bool) : Int := (domClk s d : Int) - s.tim.wt

/-! ### Working time's states (R72, R73, R75) -/

/-- NOW40 - based distance of a target: (TARGET − NOW40) as a signed 40-bit value (R82). -/
def coneDist (s : State) (tgt : Nat) : Int := signed 40 (unsigned 40 ((tgt : Int) - now40 s))

/-- CONE_STATUS of a Cone. -/
def coneStatus (n : Nat) : Nat := 0x00061024 + 0x40 * n

/-- A Cone sets LATE (R83, R89). -/
def coneLate (n : Nat) (s : State) : State := raiseLive (lfTim 6) (wrB (coneStatus n) 31 true s)

/-- At initialisation an armed Cone whose target is at or before NOW40 is late (R83). -/
def conesLate (s : State) : State :=
  s.cones.foldl (fun s e =>
    if rdB s (coneStatus e.1) 29 && !e.2.waitPlan && decide (coneDist s e.2.tgt ≤ 0) then coneLate e.1 s else s) s

/-- Set WT_STATE and SEL. -/
def setWt (st : Nat) (sel : Bool) (s : State) : State := wrF 0x00060010 27 26 st (wrB 0x00060010 25 sel s)

/-- Working time is initialised from a clock value (R72): no WT_SWITCH. -/
def wtInit (v st : Nat) (sel : Bool) (s : State) : State :=
  let s := { s with tim := { s.tim with wt := v, initWait := false } }
  conesLate (wr 0x00060034 0 (wrB 0x00060010 31 true (setWt st sel s)))

/-- Working time follows a domain from now on (R75); WT_SWITCH is raised where SEL changes. -/
def wtFollow (d : Bool) (s : State) : State :=
  let was := selOf s
  let s := { (setWt 1 d s) with tim := { s.tim with revertRun := false } }
  let s := setLive (lfTim 1) false s
  if was != d then raise (lfTim 0) s else s

/-- Working time returns from HOLDOVER or FREE to TRACKING (R73): a residual above 1 ms is reported. -/
def wtRelock (d : Bool) (s : State) : State :=
  let s := wtFollow d s
  if 10 ^ 6 * 2 ^ 32 < (deltaOf s d).natAbs then raise (lfTim 2) s else s

/-- Working time enters HOLDOVER at the selected domain's last rate, with s = 0 (R73). -/
def wtHoldover (s : State) : State :=
  let s := { s with tim := { s.tim with holdRate := rateOf s (selOf s), revertRun := false } }
  raiseLive (lfTim 1) (wr 0x00060034 0 (wrF 0x00060010 27 26 2 s))

/-- A domain is LOCKED. -/
def domLocked (s : State) (d : Bool) : Bool := (if d then fld (rd s 0x00060010) 9 8 else fld (rd s 0x00060010) 1 0) == 2

/-- TIM_SEL_CMD.SELECT. -/
def selectOf (s : State) : Nat := fld (rd s 0x000600A0) 1 0

/-- TIM_CFG.AUTO_SEL. -/
def autoSel (s : State) : Bool := rdB s 0x00060014 24

/-- The domain that a working time without one may take: the forced one, A before B under R74, else A alone (R76). -/
def wtCandidate (s : State) : Option Bool :=
  match selectOf s with
  | 1 => if domLocked s false then some false else none
  | 2 => if domLocked s true then some true else none
  | _ => if domLocked s false then some false else if autoSel s && domLocked s true then some true else none

/-- Selection while TRACKING without a force under R74. -/
def selAutoNow (s : State) : State :=
  match selOf s, domLocked s false, domLocked s true with
  | false, true, _ => s
  | false, false, true => wtFollow true s
  | false, false, false => wtHoldover s
  | true, true, false => wtFollow false s
  | true, false, false => wtHoldover s
  | true, true, true => { s with tim := { s.tim with revertRun := decide (rdF s 0x00060014 23 16 ≠ 0) } }
  | true, false, true => { s with tim := { s.tim with revertRun := false } }

/-- The selection that the domains' states call for (R72 to R76). -/
def reselect (s : State) : State :=
  match wtState s with
  | 0 => match wtCandidate s with
    | some d => if s.tim.initWait then wtInit (domClk s d) 1 d s else s
    | none => s
  | 1 =>
    if selectOf s = 1 ∨ selectOf s = 2 then
      let d := decide (selectOf s = 2)
      if !domLocked s d then wtHoldover s else if selOf s = d then s else wtFollow d s
    else if autoSel s then selAutoNow s
    else if domLocked s false then (if selOf s then wtFollow false s else s) else wtHoldover s
  | _ => match wtCandidate s with
    | some d => wtRelock d s
    | none => s

/-! ### Commands -/

/-- SLEW_UPDATE (R70): the slew is recomputed from the offset to the selected domain. -/
def execSlewUpdate (s : State) : Host.Outcome State Fault Refusal :=
  let dl := deltaOf s (selOf s)
  let shift := min 10 (rdF s 0x00060014 13 10)
  let v := clampI (-109951162) 109951162 ((dl * 2 ^ 8).tdiv ((2 ^ shift : Nat) * 1000000))
  let off := clampI (-(2 ^ 31 - 1)) (2 ^ 31 - 1) (dl.tdiv (2 ^ 32))
  done s (if wtState s = 0 then s
    else
      let s' := wr 0x00060030 (w32 (unsigned 32 off)) s
      if wtState s = 1 then wr 0x00060034 (w32 (unsigned 32 v)) s' else s')

/-- RATE_WRITE (R68): Kiln firmware only; saturated at ±500 ppm with RATE_SAT. -/
def execRateWrite (req : Requester) (domB : Bool) (rate : Word) (s : State) : Host.Outcome State Fault Refusal :=
  let k := if domB then 0x00060070 else 0x00060050
  let v := signed 32 rate.toNat
  let c := clampI (-549755814) 549755814 v
  done s (regCmd req (decide (req = .kiln)) k (fun s =>
    let s := wr k (w32 (unsigned 32 c)) s
    if c ≠ v then raise (lfTim 5) s else s) s)

/-- DOMAIN_STEP (R69): the signed step is added to the domain clock in one cycle. -/
def execDomainStep (req : Requester) (domB : Bool) (s : State) : Host.Outcome State Fault Refusal :=
  let k := if domB then 0x00060074 else 0x00060054
  done s (regCmd req (decide (req = .kiln)) (k + 8) (fun s =>
    let step := (signed 32 (rd s k).toNat * 10 ^ 9 + signed 32 (rd s (k + 4)).toNat) * 2 ^ 32
    let v := (((domClk s domB : Int) + step) % (clkWrap : Int)).toNat
    { s with tim := if domB then { s.tim with domB := v } else { s.tim with domA := v } }) s)

/-- A domain's state changes (R72 to R75); a disabled domain stays UNLOCKED. -/
def domainState (domB : Bool) (st : Nat) (s : State) : State :=
  let en := rdB s (if domB then 0x00060044 else 0x00060040) 31
  let st := if en then st else 0
  let was := domLocked s domB
  let s := if domB then wrF 0x00060010 9 8 st s else wrF 0x00060010 1 0 st s
  let lf := lfTim (if domB then 4 else 3)
  let s := setLive lf (en && st != 2) s
  let s := if was && st != 2 then raise lf s else s
  reselect s

/-- DOMAIN_STATE_CHANGE (R72 to R75): Kiln firmware sets a domain's state. -/
def execDomainStateChange (domB : Bool) (st : Fin 4) (s : State) : Host.Outcome State Fault Refusal :=
  done s (domainState domB st s)

/-- INIT_WAIT_EXPIRY (R72): working time takes the seed and runs FREE. -/
def execInitWaitExpiry (s : State) : Host.Outcome State Fault Refusal :=
  done s (if s.tim.initWait && wtState s == 0 then
      wtInit (clkOfWords (rd s 0x00060020).toNat (rd s 0x00060024).toNat (rd s 0x00060028).toNat % clkWrap) 3 false s
    else s)

/-- REVERT_HOLD_EXPIRY (R74, R75): selection returns to domain A. -/
def execRevertHoldExpiry (s : State) : Host.Outcome State Fault Refusal :=
  done s (if s.tim.revertRun && wtState s == 1 && selectOf s == 0 && autoSel s && selOf s && domLocked s false && domLocked s true
    then wtFollow false s else s)

/-- SEL_AUTO (R75, R76): the force ends. -/
def execSelAuto (req : Requester) (s : State) : Host.Outcome State Fault Refusal :=
  done s (regCmd req (hostRights req) 0x000600A0 (fun s =>
    reselect (wrB 0x00060010 24 false (wrF 0x000600A0 1 0 0 s))) s)

/-- A force toward a domain (R76): refused unless it is LOCKED. -/
def selForce (d : Bool) (s : State) : State :=
  if domLocked s d then reselect (wrB 0x00060010 24 true (wrF 0x000600A0 1 0 (if d then 2 else 1) s))
  else wrB 0x000600A0 31 true s

/-- SEL_FORCE_A (R75, R76). -/
def execSelForceA (req : Requester) (s : State) : Host.Outcome State Fault Refusal :=
  done s (regCmd req (hostRights req) 0x000600A0 (selForce false) s)

/-- SEL_FORCE_B (R75, R76). -/
def execSelForceB (req : Requester) (s : State) : Host.Outcome State Fault Refusal :=
  done s (regCmd req (hostRights req) 0x000600A0 (selForce true) s)

/-- AUTO_SEL_ENABLE (R75, R76): AUTO_SEL goes from 0 to 1 unless locked (R6). -/
def execAutoSelEnable (req : Requester) (s : State) : Host.Outcome State Fault Refusal :=
  done s (regCmd req (hostOrKiln req) 0x00060014 (fun s =>
    if locked s then s else reselect (wrB 0x00060014 24 true s)) s)

/-- TIM_SNAP (R81): the three clocks are latched in one cycle. -/
def execTimSnap (req : Requester) (s : State) : Host.Outcome State Fault Refusal :=
  done s (regCmd req (hostOrKiln req) 0x000600B0 (fun s =>
    wrWords 0x000600B4 (clkWords s.tim.wt ++ clkWords s.tim.domA ++ clkWords s.tim.domB) s) s)

/-- WT_NS_READ (R80): a read of a clock's NS word; its other two words go to the shadows. -/
def execWtNsRead (which : Fin 3) (s : State) : Host.Outcome State Fault Refusal :=
  let k := if which.val = 0 then 0x00060000 else 0x00060070 + 0x10 * which.val
  let c := if which.val = 0 then s.tim.wt else domClk s (decide (which.val = 2))
  let w := clkWords c
  done s (setRdata (w.getD 0 0) (setShadows (k + 4) [w.getD 1 0, w.getD 2 0] s))

end Sys2Proof.Machine
end

