-- ==== Sys2Proof/Machine/Cones.lean ====
section
/-! DEFINITION. Sys2Proof/Machine/Cones.lean: Cones (R82 to R91): arming, firing, pulses. -/

namespace Sys2Proof.Machine
open Sys2Proof

/-- Offset o of Cone n's registers. -/
def coneKey (n o : Nat) : Nat := 0x00061000 + 0x40 * n + o

/-- A Cone's state beyond its registers. -/
def coneOf (s : State) (n : Nat) : Cone := tblGet s.cones n {}

/-- Set a Cone's state. -/
def setCone (n : Nat) (c : Cone) (s : State) : State := { s with cones := tblSet s.cones n c }

/-- ARMED of a Cone. -/
def coneArmed (s : State) (n : Nat) : Bool := rdB s (coneStatus n) 29

/-- CONE_NEXT shows the next target. -/
def coneNext (n tgt : Nat) (s : State) : State := wrWords (coneKey n 0x30) [w32 tgt, w32 (tgt / 2 ^ 32 % 256)] s

/-- TP_CYCLE. -/
def tpCycle (s : State) : Nat := (rd s 0x00060018).toNat

/-- The settings that Cone n's registers hold (R87). -/
def coneLatched (s : State) (n : Nat) : Cone :=
  let w := rd s (coneKey n 0)
  { mode := fld w 27 24, anchor := bit w 23, pol := bit w 22, pinEn := bit w 21, pin := fld w 13 8, lockgrp := fld w 7 4,
    per := (rd s (coneKey n 0x0C)).toNat, perFrac := rdF s (coneKey n 0x10) 15 0, width := (rd s (coneKey n 0x14)).toNat,
    count := (rd s (coneKey n 0x18)).toNat, dest := rdF s (coneKey n 0x20) 23 0,
    tgt := rdF s (coneKey n 8) 7 0 * 2 ^ 32 + (rd s (coneKey n 4)).toNat, tgtFrac := rdF s (coneKey n 8) 31 16 }

/-- The period in 2^-16 ns. -/
def conePeriod (c : Cone) : Nat := c.per * 65536 + c.perFrac

/-- The settings keep the limits of R86 and R88; plan is the plan's cycle for a plan Cone. -/
def coneLimits (c : Cone) (plan : Option Nat) : Bool :=
  let least := if c.mode = 1 then 10 else 1000
  decide (c.mode ≤ 4) && (c.mode != 1 || c.pinEn)
    && (c.mode == 0 || c.per == 0 || decide (least ≤ c.per))
    && (!c.pinEn || c.per == 0 || decide (c.width * 65536 < conePeriod c))
    && (!c.anchor || match plan with
        | some cycle => decide (c.tgt < cycle)
        | none => false)

/-- Arm Cone n with the settings in its registers (R86 to R88). Its pin output starts at its idle level; a re-armed Cone
with the same pin and polarity keeps its level. -/
def coneArm (n : Nat) (s : State) : State :=
  let c := coneLatched s n
  let old := coneOf s n
  if coneLimits c (if n < 64 then some (tpCycle s) else none) then
    let keep := (tblFind s.cones n).isSome && old.pol == c.pol && old.pin == c.pin
    let s := if old.pulsing && !keep then pinRequest 1 old.pin old.pol s else s
    let s := if keep then s else wrB (coneStatus n) 28 c.pol s
    let s := setCone n { c with pulsing := keep && old.pulsing, waitPlan := c.anchor } s
    let s := coneNext n c.tgt (wr (coneKey n 0x1C) 0 (wrB (coneStatus n) 29 true s))
    if wtValid s && !c.anchor && decide (coneDist s c.tgt ≤ 0) then coneLate n s else s
  else raiseLive (lfTim 7) (wrB (coneStatus n) 30 true (wrB (coneStatus n) 29 false s))

/-- The Cone's pin output takes a level: a pin request of the Cone (R87, R293); PIN_LEVEL follows it. -/
def conePin (n : Nat) (c : Cone) (level : Bool) (s : State) : State :=
  pinRequest 1 c.pin level (wrB (coneStatus n) 28 level s)

/-- Disarm Cone n (R87): a pulse in progress completes; a toggled pin returns to its idle level. -/
def coneDisarm (n : Nat) (s : State) : State :=
  let c := coneOf s n
  let s := wrB (coneStatus n) 29 false s
  if c.pinEn && !c.pulsing && rdB s (coneStatus n) 28 != c.pol then conePin n c c.pol s else s

/-- What a firing does (R86): its MODE's function and its pin; ready names the flexports at a selection point. -/
def coneAct (n : Nat) (c : Cone) (ready : List Nat) (s : State) : State :=
  let s := match c.mode with
    | 2 => conePdus n c.done s
    | 3 => ((List.range 24).filter (nbit c.dest)).foldl (fun s p => gclStart p s.tim.wt s) s
    | 4 => lgRelease c.lockgrp ready s
    | _ => s
  if !c.pinEn || c.mode == 0 then s
  else if c.width = 0 then conePin n c (!rdB s (coneStatus n) 28) s
  else
    let s := setCone n { coneOf s n with pulsing := true } s
    conePin n c (!c.pol) s

/-- The whole periods that a next target at t (in 2^-16 ns, t at or before NOW40 by d ≤ 0) is advanced by (R89). -/
def coneSkip (d : Int) (frac period : Nat) : Nat :=
  ((65536 - (d * 65536 + frac) + ((period : Int) - 1)) / period).toNat

/-- After a firing: disarmed by its count or by a period of 0, or set to the next target (R88, R89). -/
def coneAdvance (n : Nat) (s : State) : State :=
  let c := coneOf s n
  if c.per = 0 ∨ (c.count ≠ 0 ∧ c.count ≤ c.done) then wrB (coneStatus n) 29 false s
  else
    let p := conePeriod c
    let t := c.tgt * 65536 + c.tgtFrac + p
    let d := coneDist s (t / 65536 % 2 ^ 40)
    let k := if d ≤ 0 then coneSkip d (t % 65536) p else 0
    let t := t + k * p
    let tgt := t / 65536 % 2 ^ 40
    let s := coneNext n tgt (setCone n { c with tgt := tgt, tgtFrac := t % 65536 } s)
    if k = 0 then s else coneLate n (bumpN (coneKey n 0x28) k s)

/-- CONE_ARM (R87): a write of CONE_CTRL with ENABLE = 1; a plan Cone's registers are read-only (R85). -/
def execConeArm (req : Requester) (cone : Fin 96) (ctrl : Word) (s : State) : Host.Outcome State Fault Refusal :=
  done s (
    if cone.val < 64 then s
    else regCmd req (hostOrKiln req) (coneKey cone 0)
      (fun s => coneArm cone (wr (coneKey cone 0) (setBit (ctrl &&& 0x8FE03FF0) 31 true) s)) s)

/-- CONE_DISARM (R87): a write of CONE_CTRL with ENABLE = 0. -/
def execConeDisarm (req : Requester) (cone : Fin 96) (ctrl : Word) (s : State) : Host.Outcome State Fault Refusal :=
  done s (
    if cone.val < 64 then s
    else regCmd req (hostOrKiln req) (coneKey cone 0)
      (fun s => coneDisarm cone (wr (coneKey cone 0) (setBit (ctrl &&& 0x8FE03FF0) 31 false) s)) s)

/-- CONE_FIRE (R82): an armed compare finds its target reached. ready names the flexports that stand at a selection point,
for a lock-group release (R151). -/
def execConeFire (cone : Fin 96) (ready : List (Fin 128)) (s : State) : Host.Outcome State Fault Refusal :=
  done s (
    let n := cone.val
    let c := coneOf s n
    if coneArmed s n && wtValid s && !c.waitPlan && decide (coneDist s c.tgt ≤ 0) then
      let s := coneAct n c (ready.map (·.val)) s
      let d := (c.done + 1) % 2 ^ 64
      let s := wr (coneKey n 0x1C) (w32 d) (setCone n { coneOf s n with done := d } s)
      nmwSettle (coneAdvance n s)
    else s)

/-- CONE_PULSE_END (R86, R90): a pulse reaches its width and the pin returns to its idle level; one that a swap left in
progress first. -/
def execConePulseEnd (cone : Fin 96) (s : State) : Host.Outcome State Fault Refusal :=
  done s (
    let n := cone.val
    let c := coneOf s n
    match c.tail with
    | some (pin, pol) => pinRequest 1 pin pol (setCone n { c with tail := none } s)
    | none => if c.pulsing then conePin n c c.pol (setCone n { c with pulsing := false } s) else s)

/-- A plan cycle starts at ns of working time (R84, R88): Cones on the plan grid take their first target. -/
def planAnchor (ns : Nat) (s : State) : State :=
  s.cones.foldl (fun s e =>
    if e.2.waitPlan && coneArmed s e.1 then
      let t := (ns + e.2.tgt) % 2 ^ 40
      coneNext e.1 t (setCone e.1 { e.2 with tgt := t, waitPlan := false } s)
    else s) s

end Sys2Proof.Machine
end

