-- ==== Sys2Proof/Machine/Lookup.lean ====
section
/-! DEFINITION. Sys2Proof/Machine/Lookup.lean: the signal router at work: hand-off at GPN 155 (R254, R282 to R288), route
lookups (R255 to R264), timers, limiters, MDT and containers (R264, R275, R279, R281, R287). -/

namespace Sys2Proof.Machine
open Sys2Proof

/-- The bank that the router works with; before region 20 is applied, bank 0, which is empty. -/
def srtBank (s : State) : Nat := (activeBank s 20).getD 0

/-! ### The lookup queue (R257) -/

/-- While the lookup queue has room, items enter it: those of flexports in ascending order, then those held elsewhere. -/
def lqFill (s : State) : State :=
  let s := forN 128 0 (fun n s => pumpPort n 4 s) s
  let k := 1024 - s.srt.lq.length
  lqLive { s with srt := { s.srt with lq := s.srt.lq ++ s.srt.held.take k, held := s.srt.held.drop k } }

/-- Items enter the lookup queue in order, behind those that wait already. -/
def lqItems (l : List RItem) (s : State) : State := lqLive (l.foldl (fun s it => lqItem it s) s)

/-! ### Hand-off (R254, R282 to R288) -/

/-- Counter j of VI v: 0 RX_CONTAINERS, 1 RX_MESSAGES, 2 SEQ_GAPS. -/
def viCtr (v j : Nat) : Nat := 0x0E410000 + 0x20 * v + 8 * j

/-- An ACF message at offset o of a frame, if it lies whole before the end: its item, or none for a type that is skipped;
and the offset after it (R283, R288). -/
def acfParse (f : List Byte) (src ts o pend : Nat) : Option (Option RItem × Nat) :=
  let w := beAt f o 2
  let ty := w / 512
  let len := w % 512 * 4
  let fl := byteAt f (o + 2)
  let pad := fl / 64
  let hdr := if ty = 1 then 16 else if ty = 2 then 8 else 12
  if pend < o + 2 ∨ len = 0 ∨ pend < o + len then none
  else if ty = 0 ∨ 3 < ty then some (none, o + len)
  else if len < hdr + pad then none
  else
    let data := slice f (o + hdr) (len - hdr - pad)
    let bus := byteAt f (o + 3) % 32
    if ty = 3 then
      some (some { src := src, kind := 2, ext := fl % 32, id := byteAt f (o + 3) % 64, data := data, ts := ts }, o + len)
    else
      let id := beAt f (o + hdr - 4) 4 % 2 ^ 29
      let rtr := nbit fl 4
      some (some { src := src, kind := 0, ext := bus, id := canId (nbit fl 3) id, data := if rtr then [] else data, fdf := nbit fl 1,
                   brs := nbit fl 2, rtr := rtr, dlc := data.length, ts := ts }, o + len)

/-- The ACF messages from offset o to the end: the items, the messages skipped, and whether the walk stopped on a bad one. -/
def acfWalk (f : List Byte) (src ts pend : Nat) : Nat → Nat → List RItem × Nat × Bool
  | 0, _ => ([], 0, false)
  | k + 1, o =>
    if pend ≤ o then ([], 0, false)
    else
      match acfParse f src ts o pend with
      | none => ([], 0, true)
      | some (it, o2) =>
        let r := acfWalk f src ts pend k o2
        (it.toList ++ r.1, r.2.1 + (if it.isNone then 1 else 0), r.2.2)

/-- A Mehryr message at offset o, if it lies whole before the end: its item and the offset after it (R285, R288). -/
def mehryrParse (f : List Byte) (src ts o pend : Nat) : Option (RItem × Nat) :=
  let b0 := byteAt f o
  let kind := b0 / 32
  let len := beAt f (o + 2) 2
  let x := o + 8 + (if nbit b0 4 then 8 else 0)
  let d := x + (if kind = 1 then 8 else 0)
  let fin := d + (len + 3) / 4 * 4
  if pend < fin ∨ 2048 < len then none
  else
    let rtr := kind == 0 && nbit b0 0
    some ({ src := src, kind := kind, ext := byteAt f (o + 1), id := beAt f (o + 4) 4, data := slice f d len, ts := ts,
            fdf := kind == 0 && nbit b0 3, brs := kind == 0 && nbit b0 2, rtr := rtr, dlc := if rtr then len else 0,
            sec := kind == 1 && nbit b0 3, sdt := if kind = 1 then byteAt f x else 0, af := if kind = 1 then beAt f (x + 4) 4 else 0 }, fin)

/-- At most k Mehryr messages from offset o: the items, and whether the walk stopped on a bad one. -/
def mehryrWalk (f : List Byte) (src ts pend : Nat) : Nat → Nat → List RItem × Bool
  | 0, _ => ([], false)
  | k + 1, o =>
    if pend ≤ o then ([], false)
    else
      match mehryrParse f src ts o pend with
      | none => ([], true)
      | some (it, o2) => let r := mehryrWalk f src ts pend k o2; (it :: r.1, r.2)

/-- The stream entry of a stream identifier in bank b (R254). -/
def streamOf (s : State) (b id : Nat) : Option Nat :=
  (List.range 256).find? (fun v => nbit (bw s b (oStream v) 2) 31 && bw s b (oStream v) 0 * 2 ^ 32 + bw s b (oStream v) 1 == id)

/-- A container stops at a bad message (R288). -/
def badMsg (s : State) : State := raise (lfSrt 4) (bump (srtCtr 15) s)

/-- A container of VI v arrives with a sequence number (R288). -/
def viSeqCheck (b v seq modulus : Nat) (s : State) : State :=
  let s := match tblFind s.srt.viSeq v with
    | some e => if nbit (bw s b (oStream v) 2) 24 && e != seq then bump (viCtr v 2) s else s
    | none => s
  bump (viCtr v 0) { s with srt := { s.srt with viSeq := tblSet s.srt.viSeq v ((seq + 1) % modulus) } }

/-- The router takes one packet from GPN 155 (R254). -/
def routerTake (p : Pkt) (s : State) : State :=
  let b := srtBank s
  let f := p.bytes
  let mc := nbits (bw s b oBank 0) 31 24
  let hdr := if mc = 0 then none else (p.hstack.find? (fun h => h.1 == mc)).map (·.2)
  if nbit p.flags flAcf then
    match streamOf s b p.stream with
    | none => raise (lfSrt 5) (bump (srtCtr 16) s)
    | some v =>
      let av := ((p.hstack.filter (fun h => h.1 == 0x0C && decide (h.2 < p.acf))).getLast?.map (·.2)).getD p.acf
      let seq := if byteAt f av = 0x82 then byteAt f (av + 3) else byteAt f (av + 2)
      let r := acfWalk f (0x100 + v) p.ts p.pend f.length p.acf
      let s := bumpN (srtCtr 1) r.2.1 (bumpN (viCtr v 1) r.1.length (viSeqCheck b v seq 256 s))
      lqItems r.1 (if r.2.2 then badMsg s else s)
  else
    match hdr with
    | some o =>
      if byteAt f o ≠ 1 ∨ p.pend < o + 16 then badMsg s
      else
        match streamOf s b (beAt f (o + 4) 8) with
        | none => raise (lfSrt 5) (bump (srtCtr 16) s)
        | some v =>
          let r := mehryrWalk f (0x100 + v) p.ts p.pend (beAt f (o + 14) 2) (o + 16)
          let s := bumpN (viCtr v 1) r.1.length (viSeqCheck b v (beAt f (o + 12) 2) 65536 s)
          lqItems r.1 (if r.2 then badMsg s else s)
    | none => lqItems [{ src := 0x200, kind := 4, id := p.flow % 4096, data := f.take p.pend, ts := p.ts }] s

/-- ROUTER_HANDOFF (R254): the router takes the head of GPN 155's queues, class 7 first, while its lookup queue has room
(R257). -/
def execRouterHandoff (s : State) : Host.Outcome State Fault Refusal :=
  done s (
    if 1024 ≤ s.srt.lq.length ∨ s.srt.held ≠ [] then s
    else
      match [7, 6, 5, 4, 3, 2, 1, 0].find? (fun c => (shfHead s 155 c).isSome) with
      | none => s
      | some c =>
        match shfHead s 155 c with
        | none => s
        | some p => shfSettle (routerTake p (shfUnref p.pid (shfPop 155 c s))))

/-! ### Route lookup (R255, R256, R259 to R264) -/

/-- The two words of a route key (R253), most significant first. -/
def keyHi (it : RItem) : Nat := 2 ^ 31 + it.src % 2 ^ 11 * 2 ^ 20 + it.kind % 8 * 2 ^ 17 + it.ext % 256 * 2 ^ 8

/-- The slot that holds a key in bank b (R256). -/
def keySlot (s : State) (b : Nat) (it : RItem) : Option Nat :=
  let bytes := beBytes 4 (keyHi it) ++ beBytes 4 it.id
  ((List.range 4).flatMap (fun w =>
    let k := crc32c (bw s b oBank (1 + w)) bytes % 16384
    (List.range 4).map (fun j => 65536 * w + 4 * k + j))).find? (fun k =>
      bw s b (8 * k) 0 == keyHi it && bw s b (8 * k) 1 == it.id % 2 ^ 32)

/-- The route index of a keyed item in bank b (R255). -/
def routeOf (s : State) (b : Nat) (it : RItem) : Option Nat :=
  match keySlot s b it with
  | some r => some r
  | none =>
    let cfg := srcCfg s b it.src 0
    let inst := nbits cfg 29 27
    let t := if nbit cfg 30 && decide (it.kind ≤ 1) && bit (trieCfg s inst) 31 && fld (trieCfg s inst) 29 28 == 2 then
        (trieLookup s inst it.id).map (fun r => r.2 % 2 ^ 18) else none
    match t with
    | some r => some r
    | none => if nbit cfg 26 then some (nbits cfg 17 0) else none

/-- An item goes to a queue pair at GPN 152 in class c with its KIND, EXT, ID and timestamp (R255, R262). -/
def hostItem (qp c : Nat) (it : RItem) (s : State) : State :=
  shfEnqueue 152 c { bytes := it.data, ingress := it.src, kind := it.kind, ext := it.ext, id := it.id, ts := it.ts, cls := c, qp := qp } s

/-- An unmatched item is counted, and delivered to the host where its source asks for it (R255). -/
def unmatched (b : Nat) (it : RItem) (s : State) : State :=
  let s := bump (srtCtr 1) s
  if nbit (srcCfg s b it.src 0) 25 then hostItem (nbits (srcCfg s b it.src 1) 9 0) 0 it s else s

/-- Tokens of a limiter in bank b, clipped to its burst (R264). -/
def limTokens (s : State) (b l : Nat) : Nat := min (tblGet s.srt.tokens l 255) (nbits (bw s b (oLim l) 1) 7 0)

/-- Set a limiter's tokens. -/
def setTokens (l n : Nat) (s : State) : State := { s with srt := { s.srt with tokens := tblSet s.srt.tokens l n } }

/-- A copy of an item for a destination (R259 step 5, R260 to R262). -/
def routeCopy (b dest txq fmt oid oext : Nat) (it : RItem) (s : State) : State :=
  let did := dest / 256 % 2048
  if dest % 256 = 152 ∧ (did = 0 ∨ did = ownDid s) then
    if it.rtr then formatDrop s else hostItem (oid % 1024) txq it s
  else
    deliver b dest txq { kind := it.kind, ext := oext, id := oid, fmt := fmt, data := it.data, rtr := it.rtr, dlc := it.dlc,
                         sdt := it.sdt, af := it.af, sec := it.sec, ts := it.ts, src := it.src } none s

/-- The forwarding of an item by route r of bank b (R259 step 5, R263). -/
def routeForward (b r : Nat) (it : RItem) (s : State) : State :=
  let w0 := bw s b (oRoute r) 0
  let keep := nbit w0 28
  let oid := if keep then it.id else bw s b (oRoute r) 1
  let oext := if keep then it.ext else nbits (bw s b (oRoute r) 2) 31 24
  let fmt := nbits w0 27 26
  let txq := nbits w0 25 23
  match nbits w0 30 29 with
  | 1 => routeCopy b (nbits w0 18 0) txq fmt oid oext it s
  | 2 =>
    let g := nbits w0 11 0
    (List.range 16).foldl (fun s m =>
      let m0 := bw s b (oGroup g) (2 * m)
      if nbit m0 31 then
        routeCopy b (nbits m0 18 0) (nbits m0 25 23) fmt (if nbit m0 30 then bw s b (oGroup g) (2 * m + 1) else oid) oext it s
      else s) s
  | 3 =>
    let i := nbits w0 15 0
    if nbit (imgW s b i 0) 31 && nbit (imgW s b i 0) 30 then
      containerPlace b i { kind := it.kind, ext := oext, id := oid, fmt := fmt, data := it.data, rtr := it.rtr, dlc := it.dlc,
                           sdt := it.sdt, af := it.af, sec := it.sec, ts := it.ts, src := it.src } s
    else formatDrop s
  | _ => s

/-- The timer of a matched route restarts with TIME (R259 step 2, R281). -/
def timerRestart (b r : Nat) (s : State) : State :=
  let prof := nbits (bw s b (oRoute r) 2) 23 19
  let s := { s with srt := { s.srt with reached := if s.srt.reached.contains r then s.srt.reached else r :: s.srt.reached } }
  if prof = 0 then s else timerStart r (nbits (bw s b (oTo prof) 0) 23 0) s

/-- The rest of a lookup after authentication (R259 steps 2 to 5): pdu is the authentic PDU. Where no transient image is
free, the forwarding waits (R260). -/
def routeSteps (transientFree : Bool) (b r : Nat) (it : RItem) (pdu : List Byte) (s : State) : State :=
  let s := timerRestart b r s
  let w3 := bw s b (oRoute r) 3
  let rl := nbits w3 11 0
  if rl ≠ 0 ∧ limTokens s b rl = 0 then bump (0x0E430000 + 8 * rl) (bump (srtCtr 3) s)
  else
    let s := if rl = 0 then s else setTokens rl (limTokens s b rl - 1) s
    let n := if it.rtr then 0 else nbits w3 31 24
    let (s, imgs) := signalMoves b pdu n (nbits (bw s b (oRoute r) 2) 18 0) s
    let s := if transientFree || nbits (bw s b (oRoute r) 0) 30 29 == 0 then routeForward b r it s
      else { s with srt := { s.srt with trans := s.srt.trans ++ [{ bank := b, route := r, item := it }] } }
    triggeredSends b imgs s

/-- A lookup of an item (R259). -/
def routeLookup (transientFree : Bool) (it : RItem) (s : State) : State :=
  let b := srtBank s
  let s := bump (srtCtr 0) s
  let key := keyItem s b it
  match routeOf s b key with
  | none => unmatched b key s
  | some r =>
    let (ecc, s) := srtEcc (bankBase b + oRoute r) 16 s
    let w0 := bw s b (oRoute r) 0
    if ecc || !nbit w0 31 then unmatched b key s
    else
      let s := if it.src < 128 ∧ it.wake = false then ncRouted it.src s else s
      if nbit w0 22 then
        let idv := idvOf it.kind it.id
        let (s, v) := glzVerify (nbits (bw s b (oRoute r) 3) 23 12) idv (it.kind == 1 && it.sec) it.af it.data s
        if v.code = cOk then routeSteps transientFree b r it v.data (tapsAct true it s)
        else raise (lfSrt 1) (bump (srtCtr 2) s)
      else routeSteps transientFree b r it it.data (tapsAct true it s)

/-- ROUTE_LOOKUP (R257, R259): the router starts the lookup of the item at the head of its queue. transientFree says
whether one of the 256 transient images is free. -/
def execRouteLookup (transientFree : Bool) (s : State) : Host.Outcome State Fault Refusal :=
  done s (
    match s.srt.lq with
    | [] => s
    | it :: rest => nmwSettle (routeLookup transientFree it (lqFill { s with srt := { s.srt with lq := rest } })))

/-- TRANSIENT_IMAGE_FREE (R260): a transient image is free again and the oldest waiting lookup takes it. -/
def execTransientImageFree (s : State) : Host.Outcome State Fault Refusal :=
  done s (
    match s.srt.trans with
    | [] => s
    | t :: rest => nmwSettle (routeForward t.bank t.route t.item { s with srt := { s.srt with trans := rest } }))

/-- LIMITER_TOKEN (R264): a token of a limiter that the active bank defines falls due; a full bucket loses it. -/
def execLimiterToken (l : Fin 4096) (s : State) : Host.Outcome State Fault Refusal :=
  done s (
    let b := srtBank s
    if l.val = 0 ∨ nbits (bw s b (oLim l) 0) 19 0 = 0 then s
    else setTokens l (min (nbits (bw s b (oLim l) 1) 7 0) (limTokens s b l + 1)) s)

/-- ROUTE_TIMEOUT (R281): the router detects that a route's timer has run out. -/
def execRouteTimeout (route : Fin 262144) (s : State) : Host.Outcome State Fault Refusal :=
  done s (
    match activeBank s 20, tblFind s.srt.timers route with
    | some b, some _ =>
      let r := route.val
      let prof := nbits (bw s b (oRoute r) 2) 23 19
      if !nbit (bw s b (oRoute r) 0) 31 || prof == 0 then s
      else
        let s := { s with srt := { s.srt with timers := tblErase s.srt.timers r, reached := s.srt.reached.filter (· != r) } }
        let s := bump (0x0E420000 + 8 * prof) (bump (srtCtr 12) (wr 0x0030000C (w32 (2 ^ 31 + prof * 2 ^ 18 + r)) s))
        let (s, imgs) := defaultMoves b (nbits (bw s b (oRoute r) 3) 31 24) (nbits (bw s b (oRoute r) 2) 18 0) (raise (lfSrt 0) s)
        nmwSettle (triggeredSends b imgs s)
    | _, _ => s)

/-- MDT_EXPIRY (R275): an image's MDT timer expires, and a send that waits for it is made. -/
def execMdtExpiry (img : Fin 65536) (s : State) : Host.Outcome State Fault Refusal :=
  done s (
    let i := img.val
    let w := rd s (imgState i)
    if !bit w 29 then s
    else
      let s := wr (imgState i) (setBit (setBit w 30 false) 29 false) s
      if bit w 30 then nmwSettle (imageRequest i s) else s)

/-- SRT_IMG_SEND (R279): a write of GO with an image index by host function 0 or Kiln firmware. -/
def execSrtImgSend (req : Requester) (img : Fin 65536) (s : State) : Host.Outcome State Fault Refusal :=
  done s (regCmd req (hostOrKiln req) 0x00300008 (fun s => nmwSettle (imageRequest img s)) s)

/-- CONTAINER_FLUSH (R287): FLUSH_US has passed since the first message of a container was placed. -/
def execContainerFlush (img : Fin 65536) (s : State) : Host.Outcome State Fault Refusal :=
  done s (
    if (contOf s img).flush then nmwSettle (containerSend (srtBank s) img s) else s)

end Sys2Proof.Machine
end

