-- ==== Sys2Proof/Machine/Kiln.lean ====
section
/-! DEFINITION. Sys2Proof/Machine/Kiln.lean: Kiln's lockstep pairs: failover, checkpoints, self-test and retirement
(R505 to R520). What firmware computes is not modelled; its logs are the commands' operands. -/

namespace Sys2Proof.Machine
open Sys2Proof

/-- Role of pair p in KLN_STATUS: 0 OFF, 1 ACTIVE, 2 SPARE, 3 FROZEN, 4 TESTING, 5 RETIRED, 6 RESUMING. -/
def pairRole (s : State) (p : Nat) : Nat := rdF s 0x00020000 (3 * p + 2) (3 * p)

/-- Set the role of pair p. -/
def setRole (p r : Nat) (s : State) : State := wrF 0x00020000 (3 * p + 2) (3 * p) r s

/-- The pair that runs task set k: KLN_TASKMAP (R508). -/
def taskPair (s : State) (k : Nat) : Nat := rdF s 0x00020004 (3 * k + 2) (3 * k)

/-- Task sets that a pair runs. -/
def taskSets (s : State) (p : Nat) : List Nat := (List.range 4).filter (fun k => taskPair s k = p)

/-- Every task set of pair p moves to pair q. -/
def moveTasks (p q : Nat) (s : State) : State :=
  (taskSets s p).foldl (fun s k => wrF 0x00020004 (3 * k + 2) (3 * k) q s) s

/-- A pair's logs and checkpoints. -/
def kpair (s : State) (p : Nat) : KPair := s.kiln.pairs.getD p {}

/-- Set a pair's logs and checkpoints. -/
def setKpair (p : Nat) (v : KPair) (s : State) : State := { s with kiln := { s.kiln with pairs := s.kiln.pairs.set p v } }

/-- Counters of the KLN block in their order: FAILOVERS, TRANSIENTS, RETIREMENTS, LATENT_DIV, REPLAY_ERR, EARLY_CKPT,
PAIR_WDG. -/
def klnCtr (j : Nat) : Nat := 0x00020100 + 8 * j

/-- The spare, if there is one. -/
def sparePair (s : State) : Option Nat := (List.range 5).find? (fun p => pairRole s p = 2)

/-- A pair is usable: it runs, resumes or stands by (R517). -/
def pairUsable (s : State) (p : Nat) : Bool := pairRole s p == 1 || pairRole s p == 2 || pairRole s p == 6

/-- NO_SPARE, DEGRADED and KILN_HALT follow the roles (R517); a halt sets FOOT_FAULT.KILN. -/
def klnSettle (s : State) : State :=
  let halt := !(List.range 5).any (pairUsable s)
  let s := liveTo (lfKln 3) (sparePair s).isNone s
  let s := liveTo (lfKln 4) (bit (rd s 0x00020000) 31) s
  let s := if halt then footFault 4 s else s
  wrB 0x00020000 30 (!s.kiln.queue.isEmpty) (liveTo (lfKln 7) halt s)

/-- KLN_LAST_FAIL and KLN_FAIL_TIME record a detection: OUTCOME pending. -/
def recordFail (p cause : Nat) (s : State) : State :=
  let c := s.tim.wt
  wr 0x00020014 (w32 (if wtValid s then clkSec c else 0)) (wr 0x00020010 (w32 (if wtValid s then clkSub c else 0))
    (wr 0x0002000C (w32 (2 ^ 31 + p * 2 ^ 28 + cause * 2 ^ 25)) s))

/-- The recorded failure of pair p has an outcome: 1 transient, 2 retired, 3 resynchronised. -/
def failOutcome (p outcome : Nat) (s : State) : State :=
  if rdF s 0x0002000C 30 28 = p ∧ rdB s 0x0002000C 31 = true ∧ rdF s 0x0002000C 24 22 = 0 then wrF 0x0002000C 24 22 outcome s else s

/-- A pair is retired (R515). -/
def retirePair (p : Nat) (s : State) : State :=
  let s := failOutcome p 2 (setRole p 5 (wrB 0x000B0060 p true s))
  raise (lfKln 1) (bump (klnCtr 2) s)

/-- TRANS_LIMIT (R515); 0 for no limit. -/
def transLimit (s : State) : Nat := rdF s 0x00020008 31 24

/-- A frozen pair whose logs are not needed any more starts its self-test, or is retired where it has reached TRANS_LIMIT
(R515). -/
def selfTest (p : Nat) (s : State) : State :=
  let n := s.foot.transients.getD p 0
  let s := setKpair p {} s
  if transLimit s ≠ 0 ∧ transLimit s ≤ n then retirePair p s else setRole p 4 s

/-- The next usable active pair after the task sets of pair p, in the order of task-set number, wrapping (R517). -/
def nextActive (s : State) (p : Nat) : Option Nat :=
  let k := (taskSets s p).headD 0
  (([k + 1, k + 2, k + 3].map (fun j => taskPair s (j % 4))).find? (fun q => q != p && pairRole s q == 1))

/-- The first failover of the queue begins, if it has not (R511, R513, R517): it takes the spare, else the next active
pair; without one Kiln stops. FAILOVER is raised and counted as its steps begin. -/
def failoverBegin : Nat → State → State
  | 0, s => s
  | n + 1, s =>
    match s.kiln.queue with
    | [] => s
    | f :: rest =>
      if f.onto.isSome then s
      else if (taskSets s f.failed).isEmpty then
        failoverBegin n (selfTest f.failed { s with kiln := { s.kiln with queue := rest } })
      else
        let begin_ (q : Nat) (s : State) : State :=
          { s with kiln := { s.kiln with queue := { f with onto := some q } :: rest } }
        let s := raise (lfKln 0) (bump (klnCtr 0) s)
        match (if f.noSpare then none else sparePair s), nextActive s f.failed with
        | some q, _ => begin_ q (setRole q 6 s)
        | none, some q => begin_ q (wrB 0x00020000 31 true s)
        | none, none => failoverBegin n { s with kiln := { s.kiln with queue := rest } }

/-- Pair p fails (R511): it freezes, its undo log is applied, and its task sets fail over. -/
def failPair (p cause : Nat) (s : State) : State :=
  let s := recordFail p cause (setKpair p { kpair s p with undo := 0, latent := false } (setRole p 3 s))
  klnSettle (failoverBegin 5 { s with kiln := { s.kiln with queue := s.kiln.queue ++ [{ failed := p, cause := cause }] } })

/-- The failover in progress ends because the pair q that resumes has failed (R512): both pairs are frozen, and the task
sets move on without a spare. Task sets that q ran before fail over after them. -/
def failoverBreaks (q cause : Nat) (s : State) : State :=
  match s.kiln.queue with
  | [] => s
  | f :: rest =>
    let own := (taskSets s q).isEmpty
    let s := recordFail q cause (setRole q 3 s)
    let s := if own then selfTest q s else s
    let more : List Failover := if own then [] else [{ failed := q, cause := cause }]
    klnSettle (failoverBegin 5 { s with kiln := { s.kiln with
      queue := { failed := f.failed, cause := cause, noSpare := true } :: (rest ++ more) } })

/-- Pair p takes over the task sets of the failover in progress. -/
def resumesOn (s : State) (p : Nat) : Bool := ((s.kiln.queue.head?).bind (·.onto)) == some p

/-- What a pair's logs hold when it fails: bytes of the undo log, values of the input log, hashes of the output log. -/
def withLogs (p undo : Nat) (inLog outLog : List Nat) (s : State) : State :=
  setKpair p { kpair s p with undo := undo, inLog := inLog, outLog := outLog } s

/-- LOCKSTEP_MISMATCH (R506, R511, R513): an active pair fails over; a spare goes to its self-test; a resuming pair ends
its failover. The operands are the pair's logs since its last commit (R510). -/
def execLockstepMismatch (p : Fin 5) (undo : Nat) (inLog outLog : List Nat) (s : State) : Host.Outcome State Fault Refusal :=
  done s (
    let s := if pairRole s p = 1 ∧ injFor s 0x01 p = true then injDone s else s
    if resumesOn s p then failoverBreaks p 0 (withLogs p undo inLog outLog s)
    else if pairRole s p = 1 then failPair p 0 (withLogs p undo inLog outLog s)
    else if pairRole s p = 2 then klnSettle (selfTest p (recordFail p 0 (setRole p 3 s)))
    else s)

/-- PAIR_WDG (R520): no commit within PAIR_WDG_US fails the pair. -/
def execPairWdg (p : Fin 5) (undo : Nat) (inLog outLog : List Nat) (s : State) : Host.Outcome State Fault Refusal :=
  done s (
    if pairRole s p = 1 then
      let s := withLogs p undo inLog outLog (raise (lfKln 6) (bump (klnCtr 6) s))
      if resumesOn s p then failoverBreaks p 1 s else failPair p 1 s
    else s)

/-- Replay agrees with the logs (R512): no input beyond the input log is asked for, and each replayed output that the
output log holds has its hash. -/
def replayOk (k : KPair) (outs : List Nat) (asked : Nat) : Bool :=
  decide (asked ≤ k.inLog.length) && (List.zip k.outLog outs).all (fun e => e.1 == e.2)

/-- FAILOVER_RESUME (R511, R512): the replay of the failover in progress ends. outs are the hashes of the outputs that
the pair produced in it, asked the number of inputs it took. Outputs in the log are suppressed; later ones are issued. -/
def execFailoverResume (outs : List Nat) (asked : Nat) (s : State) : Host.Outcome State Fault Refusal :=
  done s (match s.kiln.queue with
    | [] => s
    | f :: rest =>
      match f.onto with
      | none => s
      | some q =>
        let k := kpair s f.failed
        let inj := injFor s 0x04 f.failed && !k.outLog.isEmpty
        let s := if inj then injDone s else s
        if inj || !replayOk k outs asked then
          failoverBreaks q 2 (raise (lfKln 5) (bump (klnCtr 4) s))
        else
          let s := (outs.drop k.outLog.length).foldl (fun s h => emit (.kilnNote "output" [q, h]) s) s
          let s := moveTasks f.failed q (if pairRole s q = 6 then setRole q 1 s else s)
          let s := selfTest f.failed { s with kiln := { s.kiln with queue := rest } }
          klnSettle (failoverBegin 5 s))

/-- The checkpoint of pair p commits (R509, R510): the other slot is written and the logs restart. early: its reason is
not the 50 µs of working time. The restart of the pair watchdog is where injection 0x03 acts (R542). -/
def commitPair (p : Nat) (early : Bool) (s : State) : State :=
  let k := kpair s p
  let s := if injFor s 0x03 p then injDone s else s
  let s := if early then bump (klnCtr 5) s else s
  setKpair p { k with slot := 1 - k.slot, commits := k.commits + 1, undo := 0, inLog := [], outLog := [] } s

/-- KILN_CHECKPOINT (R509, R518, R519): the pair's state hashes differ, which is a latent divergence, or the checkpoint
commits; at the commit after a divergence the task sets go to the spare, or the checker is resynchronised. -/
def execKilnCheckpoint (p : Fin 5) (early differs : Bool) (s : State) : Host.Outcome State Fault Refusal :=
  done s (
    if pairRole s p ≠ 1 then s
    else
      let inj := injFor s 0x02 p
      let s := if inj then injDone s else s
      if differs || inj then
        let s := raise (lfKln 2) (bump (klnCtr 3) (recordFail p 3 s))
        setKpair p { kpair s p with latent := true } s
      else
        let was := (kpair s p).latent
        let s := commitPair p early s
        if !was then s
        else
          let s := setKpair p { kpair s p with latent := false } s
          match sparePair s with
          | some q =>
            if s.kiln.queue.isEmpty then klnSettle (selfTest p (setRole p 3 (moveTasks p q (setRole q 1 s))))
            else setKpair p { kpair s p with latent := true } s
          | none => failOutcome p 3 s)

/-- PAIR_BIST_DONE (R515): a frozen pair's BIST ends: the pair becomes the spare, or is retired. -/
def execPairBistDone (p : Fin 5) (pass : Bool) (s : State) : Host.Outcome State Fault Refusal :=
  done s (
    if pairRole s p ≠ 4 then s
    else if pass then
      let s := { s with foot := { s.foot with transients := s.foot.transients.set p (s.foot.transients.getD p 0 + 1) } }
      klnSettle (setRole p 2 (failOutcome p 1 (bump (klnCtr 1) s)))
    else klnSettle (retirePair p s))

/-- KILN_MEM_SCRUB (R507, R539): the scrub meets a word with so many bits in error at the injected or given word; an
uncorrectable one is CRZ_DET[1], and where firmware cannot restore the word, Kiln halts. -/
def execKilnMemScrub (bits : Fin 3) (restored : Bool) (s : State) : Host.Outcome State Fault Refusal :=
  done s (
    let (n, s) := match injArmed s 0x07 with
      | some (b, _) => (max b bits.val, injDone s)
      | none => (bits.val, s)
    if n < 2 then s
    else
      let s := raise (lfCrz 1) s
      if restored then s
      else klnSettle (forN 5 0 (fun p s => if pairUsable s p then setRole p 0 s else s) { s with kiln := { s.kiln with queue := [] } }))

end Sys2Proof.Machine
end

