-- ==== Sys2Proof/Machine/Craze.lean ====
section
/-! DEFINITION. Sys2Proof/Machine/Craze.lean: the commands of Craze: routes, arm bits, leaf injection, the injection unlock
and its detectors, and the monitors that belong to no other block (R527 to R542). -/

namespace Sys2Proof.Machine
open Sys2Proof

/-! ### Routes and arm bits (R533, R534, R537) -/

/-- CRZ_ROUTE_WRITE (R533): RWL fields; group 63 stays routed to FAULT_N (R538). A pending, armed group signals its new
targets. -/
def execCrzRouteWrite (req : Requester) (g : Fin 64) (w : Word) (s : State) : Host.Outcome State Fault Refusal :=
  done s (regCmd req (hostOrKiln req) (routeKey g) (fun s =>
    if locked s then s
    else
      let v := w &&& w32 0xF73F0000
      settleGroup g (wr (routeKey g) (if g.val = 63 then setBit v 31 true else v) s)) s)

/-- Re-arm the MSI-X target (fn) or the Kiln target of one group, and signal it if the group is pending. -/
def armGroup (fn : Option Nat) (g : Nat) (s : State) : State :=
  match fn with
  | some f =>
    let r := rd s (routeKey g)
    if bit r 28 && fld r 26 24 == f then settleGroup g { s with crz := { s.crz with armHost := nsetBit s.crz.armHost g true } } else s
  | none => settleGroup g { s with crz := { s.crz with armKiln := nsetBit s.crz.armKiln g true } }

/-- A requester may write the ARM registers of a view (R537): host function 0 and the function itself; Kiln firmware its
own. -/
def armMay (req : Requester) (fn : Option (Fin 8)) : Bool :=
  match req, fn with
  | .kiln, none => true
  | .host f, some v => f == 0 || f == v
  | r, some _ => hostRights r
  | _, none => false

/-- GROUP_ARM (R534, R537): 1s written to ARM0 or ARM1 (hi) of a function's view, or to KILN_ARM (no function). -/
def execGroupArm (req : Requester) (fn : Option (Fin 8)) (hi : Bool) (w : Word) (s : State) : Host.Outcome State Fault Refusal :=
  done s (
    let off := match fn with
      | some f => 0x00018010 + 0x1000 * f.val + 4 * b2n hi
      | none => 0x00010090 + 4 * b2n hi
    regCmd req (armMay req fn) off (fun s =>
      forN 32 0 (fun b s => if bit w b then armGroup (fn.map (·.val)) (32 * b2n hi + b) s else s) s) s)

/-! ### Leaves (R528, R531) -/

/-- Personality event bits [15:8] that a personality has (R530). -/
def persEvents (p : Nat) : Nat :=
  match p with
  | 1 => 0xFF
  | 2 => 0x7F
  | 3 => 0x0F
  | 4 => 0x07
  | 5 => 0x01
  | 6 => 0x0F
  | _ => 0

/-- A source occupies the leaf's position now (R529, R530). -/
def leafPresent (s : State) (l : Nat) : Bool :=
  (leafHome l).isSome && (decide (1536 ≤ l) || decide (l % 12 < 4) || nbit (persEvents (persOf s (l / 12))) (l % 12 - 4))

/-- The leaves of an INJECT register, with their bits: of a leaf window word, or of a block's own register. -/
def injectLeaves (off : Nat) : List (Nat × Nat) :=
  if 0x00011300 ≤ off ∧ off < 0x00011400 then (List.range 32).map (fun b => (b, 32 * ((off - 0x00011300) / 4) + b))
  else (List.range 2048).filterMap (fun l => match leafHome l with
    | some (k, b) => if k + 12 = off then some (b, l) else none
    | none => none)

/-- The unlock is open: CRZ_INJ_STATUS.UNLOCKED. -/
def injOpen (s : State) : Bool := bit (rd s 0x00010014) 31

/-- LEAF_INJECT (R528): 1s written to the INJECT register at off occur as their leaves do, while the unlock is open. -/
def execLeafInject (req : Requester) (off : BitVec 28) (w : Word) (s : State) : Host.Outcome State Fault Refusal :=
  done s (
    let ls := injectLeaves off.toNat
    if ls.isEmpty then s
    else regCmd req (hostOrKiln req) off.toNat (fun s =>
      if injOpen s then ls.foldl (fun s e => if bit w e.1 && leafPresent s e.2 then raise e.2 s else s) s
      else wrB 0x00010014 27 true s) s)

/-! ### The unlock and the armed injection (R540, R541) -/

/-- INJ_KEY_WRITE (R540): two right keys in turn by the same requester within 1 ms open the unlock; any other write
closes it. -/
def execInjKeyWrite (req : Requester) (w : Word) (s : State) : Host.Outcome State Fault Refusal :=
  done s (regCmd req (hostOrKiln req) 0x00010010 (fun s =>
    let may := decide (req = .host 0) || decide (req = .kiln)
    let s1 (k : Option (Requester × Nat)) (o : Bool) : State := wrB 0x00010014 31 o { s with crz := { s.crz with key1 := k } }
    match s.crz.key1 with
    | some (r, t) =>
      if w = 0xBCADA5CE ∧ r = req ∧ s.now ≤ t + msT 1 then s1 none true
      else if w = 0x43525A31 ∧ may = true then s1 (some (req, s.now)) false
      else s1 none false
    | none => if w = 0x43525A31 ∧ may = true then s1 (some (req, s.now)) false else s1 none false) s)

/-- INJ_UNLOCK_EXPIRY (R540): INJ_WINDOW_MS pass and the unlock closes. -/
def execInjUnlockExpiry (s : State) : Host.Outcome State Fault Refusal := done s (wrB 0x00010014 31 false s)

/-- INJ_EXPIRY (R541): an injection still armed is cancelled. -/
def execInjExpiry (s : State) : Host.Outcome State Fault Refusal :=
  done s (
    if s.crz.inj.isSome then wrB 0x00010014 28 true (wrB 0x00010014 30 false { s with crz := { s.crz with inj := none } }) else s)

/-- A word of the address space is mirrored (R64). -/
def isMirrored (s : State) (off : Nat) : Bool :=
  match rowAtKey (keyOf s off) with
  | some r => r.mirrored
  | none => false

/-- The location code names an entry of the address table (R249). -/
def locOk (s : State) (loc : Nat) : Bool :=
  if 2 ^ 31 ≤ loc then decide (loc - 2 ^ 31 < 8)
  else decide (nbits loc 30 18 = 0) && !nbit loc 15 && decide (nbits loc 14 2 < 2 ^ l2N s)

/-- DETECTOR is known, and INDEX and ARG are within its range (R542). -/
def injValid (s : State) (det idx arg : Nat) : Bool :=
  let bits := decide (1 ≤ idx) && decide (idx ≤ 2)
  match det with
  | 0x01 => decide (idx < 5) && pairRole s idx == 1
  | 0x02 => decide (idx < 5)
  | 0x03 => decide (idx < 5)
  | 0x04 => decide (idx < 5)
  | 0x05 => true
  | 0x06 => decide (idx < 32) && decide (arg % 4 = 0) && isMirrored s arg
  | 0x07 => bits && decide (arg < 8 * 2 ^ 20)
  | 0x08 => bits && decide (arg < rdF s 0x00480800 15 0 * 2 ^ 20)
  | 0x09 => bits && locOk s arg
  | 0x0A => bits && decide (arg < 2 ^ 14)
  | 0x0B => bits && (findRow rowsSrtWin arg).isSome
  | 0x0C => bits && (findRow rowsGlzWin arg).isSome
  | 0x0D => decide (arg < 2 ^ 11)
  | 0x0E => decide (idx < 1024)
  | 0x0F => decide (idx < 128)
  | 0x10 => decide (idx < 24)
  | 0x11 => decide (idx < 16)
  | 0x12 => decide (1024 ≤ idx) && decide (idx < 1256)
  | 0x13 => decide (idx < 3)
  | 0x14 => decide (6 ≤ idx) && decide (idx < 12)
  | 0x15 => true
  | 0x16 => !(blockRows arg).isEmpty
  | 0x17 => true
  | 0x18 => decide (1 ≤ idx) && decide (idx ≤ 16)
  | _ => false

/-- The injections that act at once: a bit of a mirrored word's shadow copy, and a node word's parity (R541). -/
def injNow (s : State) (det idx arg : Nat) : Option State :=
  match det with
  | 0x06 =>
    let k := keyOf s arg
    some (setMirror k (tblGet s.mirror k 0 ^^^ w32 (2 ^ idx)) s)
  | 0x0D => some { s with wdgBad := if s.wdgBad.contains (arg / 32, arg % 32) then s.wdgBad else s.wdgBad ++ [(arg / 32, arg % 32)] }
  | _ => none

/-- INJ_GO (R541): arm the injection of CRZ_INJ_TARGET and CRZ_INJ_ARG, or act at once; else REFUSED. -/
def execInjGo (req : Requester) (s : State) : Host.Outcome State Fault Refusal :=
  done s (regCmd req (hostOrKiln req) 0x00010020 (fun s =>
    let det := rdF s 0x00010018 31 24
    let idx := rdF s 0x00010018 15 0
    let arg := (rd s 0x0001001C).toNat
    if injOpen s && s.crz.inj.isNone && injValid s det idx arg then
      match injNow s det idx arg with
      | some s => wrB 0x00010014 29 true s
      | none => wrB 0x00010014 30 true { s with crz := { s.crz with inj := some (det, idx, arg) } }
    else wrB 0x00010014 27 true s) s)

/-! ### Craze's own monitors (R539) -/

/-- VMON_FAULT (R539): a sample of rail r (CORE, SRAM, IO, DDR, SER, PLL): outside says that the rail is outside its
operating range. An armed injection makes this sample out of range for 1 µs. -/
def execVmonFault (r : Fin 6) (outside : Bool) (s : State) : Host.Outcome State Fault Refusal :=
  done s (
    let l := lfCrz (6 + r)
    let inj := injFor s 0x14 (6 + r)
    let s := if inj then injDone s else s
    let begins := (outside || inj) && !leafBit s l 1
    setLive l outside (if begins then raise l (setLive l true s) else s))

/-- TEMP_CRIT (R539): a reading of the junction temperature in °C: at 128 or above the detector fires; LIVE shows 125 or
above. An armed injection makes the reading 130. -/
def execTempCrit (reading : Int) (s : State) : Host.Outcome State Fault Refusal :=
  done s (
    let inj := (injArmed s 0x15).isSome
    let t := if inj then 130 else reading
    let s := setLive (lfCrz 12) (decide (125 ≤ t)) (if inj then injDone s else s)
    if 128 ≤ t then raise (lfCrz 12) s else s)

/-- BUS_TIMEOUT (R539): a register access is unanswered; a read returns all ones. -/
def execBusTimeout (read : Bool) (s : State) : Host.Outcome State Fault Refusal :=
  done s (
    let s := raise (lfCrz 13) s
    if read then setRdata 0xFFFFFFFF s else s)

end Sys2Proof.Machine
end

