-- ==== Sys2Proof/Machine/Lms.lean ====
section
/-! DEFINITION. Sys2Proof/Machine/Lms.lean: LM-OTS, LMS and HSS of RFC 8554 with SHA-256: verification (R375) and the
signing of attestation (R398). -/

namespace Sys2Proof.Machine
open Sys2Proof

/-- Parameters of an LM-OTS type: Winternitz width w, chains p and checksum shift (RFC 8554 table 1). -/
def otsParams (ty : Nat) : Option (Nat × Nat × Nat) :=
  match ty with
  | 1 => some (1, 265, 7)
  | 2 => some (2, 133, 6)
  | 3 => some (4, 67, 4)
  | 4 => some (8, 34, 0)
  | _ => none

/-- Height of an LMS type (RFC 8554 table 2). -/
def lmsHeight (ty : Nat) : Option Nat :=
  match ty with
  | 5 => some 5
  | 6 => some 10
  | 7 => some 15
  | 8 => some 20
  | 9 => some 25
  | _ => none

/-- The digit i of width w of a byte string. -/
def otsCoef (m : List Byte) (i w : Nat) : Nat := byteAt m (i * w / 8) / 2 ^ (8 - w * (i % (8 / w) + 1)) % 2 ^ w

/-- The checksum of a digest, before its shift. -/
def otsCksm (q : List Byte) (w : Nat) : Nat := ((List.range (256 / w)).map (fun i => 2 ^ w - 1 - otsCoef q i w)).sum

/-- n steps of a hash chain from step j. -/
def otsChain (pre : List Byte) (i : Nat) : Nat → Nat → List Byte → List Byte
  | 0, _, t => t
  | n + 1, j, t => otsChain pre i n (j + 1) (sha256 (pre ++ beBytes 2 i ++ beBytes 1 j ++ t))

/-- The digest and its checksum that the chains encode. -/
def otsDigest (iq : List Byte) (w ls : Nat) (c m : List Byte) : List Byte :=
  let q := sha256 (iq ++ beBytes 2 0x8181 ++ c ++ m)
  q ++ beBytes 2 (otsCksm q w * 2 ^ ls)

/-- The LM-OTS public key that a signature (C and the y values) yields for a message; iq is I and q (RFC 8554 4.6). -/
def otsCandidate (iq : List Byte) (w p ls : Nat) (c y m : List Byte) : List Byte :=
  let d := otsDigest iq w ls c m
  sha256 (iq ++ beBytes 2 0x8080 ++ (List.range p).flatMap (fun i =>
    otsChain iq i (2 ^ w - 1 - otsCoef d i w) (otsCoef d i w) (slice y (32 * i) 32)))

/-- The root that a leaf's hash and its path yield, from node number r (RFC 8554 5.4.2). -/
def lmsRoot (idI : List Byte) : Nat → Nat → List Byte → List Byte → List Byte
  | 0, _, _, t => t
  | h + 1, r, path, t =>
    let x := path.take 32
    let t' := if r % 2 = 1 then sha256 (idI ++ beBytes 4 (r / 2) ++ beBytes 2 0x8383 ++ x ++ t)
      else sha256 (idI ++ beBytes 4 (r / 2) ++ beBytes 2 0x8383 ++ t ++ x)
    lmsRoot idI h (r / 2) (path.drop 32) t'

/-- The result of a verification. -/
inductive LmsResult where
  | ok | bad
  /-- a typecode that R375 does not list. -/
  | unsupported
  deriving DecidableEq, Repr

/-- The length of the LMS signature at the head of a byte string, if its typecodes are supported. -/
def lmsSigLen (sig : List Byte) : Option Nat :=
  match otsParams (beAt sig 4 4) with
  | none => none
  | some (_, p, _) =>
    match lmsHeight (beAt sig (8 + 32 * (p + 1)) 4) with
    | none => none
    | some h => some (12 + 32 * (p + 1) + 32 * h)

/-- LMS verification of a message under a 56-byte public key (RFC 8554 5.4). -/
def lmsVerify (pub m sig : List Byte) : LmsResult :=
  match lmsHeight (beAt pub 0 4), otsParams (beAt pub 4 4), lmsSigLen sig with
  | some h, some (w, p, ls), some len =>
    let iq := slice pub 8 16 ++ sig.take 4
    let q := beAt sig 0 4
    if sig.length ≠ len ∨ pub.length ≠ 56 then .bad
    else if beAt sig 4 4 ≠ beAt pub 4 4 ∨ beAt sig (8 + 32 * (p + 1)) 4 ≠ beAt pub 0 4 ∨ 2 ^ h ≤ q then .bad
    else
      let kc := otsCandidate iq w p ls (slice sig 8 32) (slice sig 40 (32 * p)) m
      let leaf := sha256 (slice pub 8 16 ++ beBytes 4 (2 ^ h + q) ++ beBytes 2 0x8282 ++ kc)
      if lmsRoot (slice pub 8 16) h (2 ^ h + q) (sig.drop (12 + 32 * (p + 1))) leaf = slice pub 24 32 then .ok else .bad
  | _, _, _ => .unsupported

/-- The chain of signed public keys of an HSS signature, then the signature of the message (RFC 8554 6.3). -/
def hssChain : Nat → List Byte → List Byte → List Byte → LmsResult
  | 0, pub, m, sig => lmsVerify pub m sig
  | n + 1, pub, m, sig =>
    match lmsSigLen sig with
    | none => .unsupported
    | some len =>
      let next := slice sig len 56
      match lmsVerify pub next (sig.take len) with
      | .ok => hssChain n next m (sig.drop (len + 56))
      | r => r

/-- HSS verification of a message under a 60-byte public key, 1 to 8 levels (R375). -/
def hssVerify (pub m sig : List Byte) : LmsResult :=
  let l := beAt pub 0 4
  if pub.length ≠ 60 ∨ l = 0 ∨ 8 < l ∨ beAt sig 0 4 + 1 ≠ l then .bad
  else hssChain (l - 1) (pub.drop 4) m (sig.drop 4)

/-! ### Signing: LMS_SHA256_M32_H10 with LMOTS_SHA256_N32_W4, keys from a seed (R398, RFC 8554 Appendix A) -/

/-- The private chain start i of leaf q. -/
def otsSecret (iq seed : List Byte) (i : Nat) : List Byte := sha256 (iq ++ beBytes 2 i ++ [b8 0xFF] ++ seed)

/-- The LM-OTS public key of leaf q. -/
def otsPublic (iq seed : List Byte) : List Byte :=
  sha256 (iq ++ beBytes 2 0x8080 ++ (List.range 67).flatMap (fun i => otsChain iq i 15 0 (otsSecret iq seed i)))

/-- Node r of the tree, of height h above its leaves. -/
def lmsNode (idI seed : List Byte) : Nat → Nat → List Byte
  | 0, r => sha256 (idI ++ beBytes 4 r ++ beBytes 2 0x8282 ++ otsPublic (idI ++ beBytes 4 (r - 1024)) seed)
  | h + 1, r => sha256 (idI ++ beBytes 4 r ++ beBytes 2 0x8383 ++ lmsNode idI seed h (2 * r) ++ lmsNode idI seed h (2 * r + 1))

/-- The public key of the tree: 56 bytes. -/
def lmsPublic (idI seed : List Byte) : List Byte := beBytes 4 6 ++ beBytes 4 3 ++ idI ++ lmsNode idI seed 10 1

/-- The LMS signature of a message with leaf q and randomiser c: 2,508 bytes. -/
def lmsSign (idI seed : List Byte) (q : Nat) (c m : List Byte) : List Byte :=
  let iq := idI ++ beBytes 4 q
  let d := otsDigest iq 4 4 c m
  beBytes 4 q ++ beBytes 4 3 ++ c ++
    (List.range 67).flatMap (fun i => otsChain iq i (otsCoef d i 4) 0 (otsSecret iq seed i)) ++ beBytes 4 6 ++
    (List.range 10).flatMap (fun i => lmsNode idI seed i (((1024 + q) / 2 ^ i) ^^^ 1))

end Sys2Proof.Machine
end

