-- ==== Sys2Proof/Machine/Saggar.lean ====
section
/-! DEFINITION. Sys2Proof/Machine/Saggar.lean: Saggar (R378 to R406): key cache, store commits, invalidation, the start,
and its commands. -/

namespace Sys2Proof.Machine
open Sys2Proof

/-- Change Saggar's state. -/
def modSag (f : Sag → Sag) (s : State) : State := { s with sag := f s.sag }

/-- Draw a free value of w bits. -/
def draw (w : Nat) (s : State) : Nat × State := (freeVal s w, drawn s)

/-! ### Leaves and live conditions (R391, R399, R405) -/

/-- ATT_REMAIN (R399). -/
def attRemain (g : Sag) : Nat :=
  256 * (4096 - g.leafTop) + (match g.cur with | some (_, j) => 256 - j | none => 0)

/-- No block remains and no leaf remains in the current block. -/
def attExhausted (g : Sag) : Bool := attRemain g == 0

/-- A condition of a SAG leaf: LIVE follows it, and its beginning raises the leaf. -/
def sagCond (b : Nat) (v : Bool) (s : State) : State :=
  if v && !leafBit s (lfSag b) 1 then raiseLive (lfSag b) s else setLive (lfSag b) v s

/-- LIVE of ATT_LOW, ATT_EXHAUSTED, EPOCH_LOW, ROOT_FAIL and STORE_FAIL, from the first start on. -/
def sagLive (s : State) : State :=
  if s.sag.started then
    sagCond 9 s.sag.storeFail (sagCond 5 s.sag.rootFail (sagCond 3 (decide (4096 - s.sag.epoch < 256))
      (sagCond 2 (attExhausted s.sag) (sagCond 1 (decide (attRemain s.sag < 65536)) s))))
  else s

/-! ### Key cache (R381 to R383) -/

/-- Handles that valid profiles name (R381), one entry per profile. -/
def profileKeys (s : State) : List Nat :=
  (tblRange s.regs 0x02000000 0x02020000).filterMap (fun e =>
    if e.1 % 0x20 = 0 ∧ bit e.2 31 then some (fld (rd s (e.1 + 4)) 27 16) else none)

/-- Handles that INSTALLED and IN_USE SAs name. -/
def saKeys (s : State) : List Nat :=
  (tblRange s.regs 0x02300000 0x0230C000).filterMap (fun e =>
    if e.1 % 0x10 = 0 ∧ (fld e.2 31 30 = 1 ∨ fld e.2 31 30 = 2) then some (fld e.2 11 0) else none)

/-- The number of profiles and SAs that name a node (PINS of R406). -/
def pinsOf (s : State) (h : Nat) : Nat := ((profileKeys s ++ saKeys s).filter (· == h)).length

/-- The pinned handles, each once. -/
def pinned (s : State) : List Nat := (profileKeys s ++ saKeys s).eraseDups

/-- The entries that are left when room for one more is made: the least recently used unpinned one goes (R381); the root
is never the one. -/
def evictLast (s : State) : List CacheEnt → List CacheEnt
  | [] => []
  | e :: t => if e.node = 0 ∨ pinsOf s e.node ≠ 0 then e :: evictLast s t else t

/-- Put a key into the cache as its most recently used entry, with a fresh mask (R381, R382). -/
def cacheKey (h : Nat) (key : List Byte) (s : State) : State :=
  let rest := s.sag.cache.filter (fun e => e.node != h)
  let rest := if 1024 ≤ rest.length then (evictLast s rest.reverse).reverse else rest
  let (m, s) := draw 256 s
  let mask := (beBytes 32 m).take key.length
  modSag (fun g => { g with cache := { node := h, masked := xorB key mask, mask := mask } :: rest }) s

/-- The nodes from h up to below its nearest cached ancestor, the topmost first (R383). -/
def uncachedChain (s : State) : Nat → Nat → List Nat → List Nat
  | 0, _, acc => acc
  | f + 1, h, acc =>
    if s.sag.cache.any (fun e => e.node == h) then acc
    else if h = 0 then h :: acc
    else if (nodeOf s h).injected then h :: acc
    else uncachedChain s f (nodeOf s h).parent (h :: acc)

/-- Derive a node's key into the cache from its nearest cached ancestor (R383). -/
def deriveKey (h : Nat) (s : State) : State :=
  (uncachedChain s 9 h []).foldl (fun s n =>
    match nodeKey s 9 n with
    | some k => cacheKey n k s
    | none => s) s

/-- Clear every entry and mask and the root (R396, R403). -/
def clearCache (s : State) : State := modSag (fun g => { g with cache := [], root := none }) s

/-! ### The tree store (R390, R391) -/

/-- Commit a change f of the store: written to the other slot, read back, and one bit of STORE_EPOCH burned; none where
all are burned (R390, R391). -/
def commitStore (f : Sag → Sag) (s : State) : Option State :=
  if 4096 ≤ s.sag.epoch then none
  else
    let e := s.sag.epoch
    let s := modSag (fun g => { f g with epoch := e + 1 }) s
    some (sagLive (emit (.otp "STORE_EPOCH" e) (emit (.flash "tree store" ((e + 1) % 2) []) s)))

/-- Set a node. -/
def setNode (h : Nat) (n : Node) (g : Sag) : Sag := { g with nodes := tblSet g.nodes h n }

/-- Node h is n or a descendant of n; f bounds the depth. -/
def isUnder (s : State) : Nat → Nat → Nat → Bool
  | 0, h, n => h == n
  | f + 1, h, n => h == n || (h != 0 && isUnder s f (nodeOf s h).parent n)

/-- VALID nodes that an invalidation of n orphans (R389). -/
def orphanSet (s : State) (n : Nat) : List Nat :=
  (s.sag.nodes.filter (fun e => e.2.st == 1 && isUnder s 9 e.1 n)).map (·.1)

/-- The store with the nodes of a list ORPHANED under region 23 generation gen. -/
def orphanNodes (hs : List Nat) (gen : Nat) (g : Sag) : Sag :=
  { g with nodes := g.nodes.map (fun e =>
      if hs.contains e.1 then (e.1, { e.2 with st := 2, orphGen := gen, value := [] }) else e) }

/-- Profiles and SAs whose key is in a list: SAs enter ORPHANED, and the first flow is recorded (R373). -/
def orphanFlows (hs : List Nat) (s : State) : State :=
  let profs := (tblRange s.regs 0x02000000 0x02020000).filterMap (fun e =>
    if e.1 % 0x20 = 0 ∧ bit e.2 31 ∧ hs.contains (fld (rd s (e.1 + 4)) 27 16) then some ((e.1 - 0x02000000) / 0x20) else none)
  let sas := (tblRange s.regs 0x02300000 0x0230C000).filterMap (fun e =>
    if e.1 % 0x10 = 0 ∧ (fld e.2 31 30 = 1 ∨ fld e.2 31 30 = 2) ∧ hs.contains (fld e.2 11 0) then some e.1 else none)
  let s := sas.foldl (fun s k => wrF k 31 30 3 s) s
  match profs, sas with
  | p :: _, _ => raise (lfGlz 0) (wr 0x00050410 (w32 (2 ^ 31 + p)) s)
  | [], k :: _ =>
    let i := (k - 0x02300000) / 0x10
    raise (lfGlz 0) (wr 0x00050410 (w32 (2 ^ 31 + 2 ^ 30 + i / 128 * 2 ^ 24 + i % 128 * 2 ^ 16)) s)
  | [], [] => s

/-- What follows the commit of an invalidation of the nodes of a list: cache entries are erased, KEY_INVALIDATED is raised
and the flows are orphaned (R389, R373). -/
def afterInvalidation (hs : List Nat) (s : State) : State :=
  let s := modSag (fun g => { g with cache := g.cache.filter (fun e => !hs.contains e.node) }) s
  orphanFlows hs (raise (lfSag 0) s)

/-- The active generation of region 23. -/
def secGen (s : State) : Nat := (rd s 0x000A0570).toNat

/-- Invalidate node n with a further change f of the store, in one commit (R389). -/
def invalidate (n : Nat) (f : Sag → Sag) (s : State) : Option State :=
  let hs := orphanSet s n
  (commitStore (fun g => f (orphanNodes hs (secGen s) g)) s).map (afterInvalidation hs)

/-- WRITE_MODE in force is AUTH (R393). -/
def authMode (s : State) : Bool := s.sag.authLock || rdB s 0x00040404 31

/-- Burn AUTH_LOCK when the state is IN_FIELD and WRITE_MODE is AUTH (R393). -/
def burnAuthLock (s : State) : State :=
  if lifecycle s = 2 ∧ rdB s 0x00040404 31 ∧ s.sag.authLock = false then
    emit (.otp "AUTH_LOCK" 0) (modSag (fun g => { g with authLock := true }) s)
  else s

/-- Zeroisation (R396): Foot clears the cache and burns ZEROISED. -/
def zeroise (s : State) : State :=
  let s := clearCache s
  if s.sag.zeroised then s else emit (.otp "ZEROISED" 0) (modSag (fun g => { g with zeroised := true }) s)

/-! ### The start (R379, R380, R390) -/

/-- The root of a committed slot, if its integrity check passes (R380). -/
def unwrapSlot (r : Option (List Byte × Nat)) : Option (List Byte) :=
  match r with
  | some (w, h) => kwUnwrap (beBytes 32 (Config.pufKek h)) w
  | none => none

/-- TRNG health tests that an armed injection makes fail (R542, 0x18). -/
def trngInjected (s : State) : Nat := match injArmed s 0x18 with | some (n, _) => n | none => 0

/-- The first start (R379): k health tests fail; with fewer than 16 a root is generated, wrapped and burned. -/
def firstStart (k : Nat) (s : State) : State :=
  if 16 ≤ k then raise (lfSag 4) (modSag (fun g => { g with rootFail := true }) s)
  else
    let (root, s) := draw 256 s
    let (helper, s) := draw 2048 s
    let key := beBytes 32 root
    let s := emit (.otp "ROOT_SLOT" 0) (modSag (fun g => { g with
      slot0 := some (kwWrap (beBytes 32 (Config.pufKek helper)) key, helper), root := some key }) s)
    (commitStore id s).getD s

/-- Nodes that survive the loss of the store: derived nodes below fixed nodes, with new generations (R390). -/
def rebuildNodes : Tbl Node → Nat → Tbl Node × Nat
  | [], g => ([], g)
  | (h, n) :: t, g =>
    if n.st = 1 ∧ n.injected = false ∧ n.parent < 8 then
      let r := rebuildNodes t (g + 1)
      ((h, { n with gen := g }) :: r.1, r.2)
    else rebuildNodes t g

/-- Saggar at a start: the root is established (R379, R380) and the store opened (R390); k failing health tests, storeOk
whether a store slot verifies. -/
def sagStart (k : Nat) (storeOk : Bool) (s : State) : State :=
  let first := s.sag.slot0 = none ∧ s.sag.slot1 = none
  let s := modSag (fun g => { g with started := true, rootFail := false, storeFail := false, root := none, cache := [] }) s
  let s := if s.sag.zeroised then raise (lfSag 8) s else s
  let s :=
    if first then
      let k := max k (trngInjected s)
      let s := if trngInjected s = 0 then s else injDone s
      firstStart k s
    else
      match (match unwrapSlot s.sag.slot0 with | some r => some r | none => unwrapSlot s.sag.slot1) with
      | some r => modSag (fun g => { g with root := some r }) s
      | none => modSag (fun g => { g with rootFail := true }) s
  let s := match s.sag.root with | some r => cacheKey 0 r s | none => s
  let s :=
    if first || decide (3 ≤ lifecycle s) || (storeOk && s.sag.root != none) then s
    else if s.sag.root = none then modSag (fun g => { g with storeFail := true }) s
    else
      let s := modSag (fun g =>
        let r := rebuildNodes g.nodes g.genNext
        { g with storeFail := true, nodes := r.1, genNext := r.2, cmtBank := none, cmtSeq := 0, cmtHash := [] }) s
      (commitStore id s).getD s
  let s := if lifecycle s = 0 then modSag (fun g => { g with dbgSince := true }) s else s
  sagLive s

/-! ### Command slots (R405) -/

/-- Slot 0 to 3 of SAG. -/
def sagSlot (slot : Fin 4) : Nat := 0x00040000 + 0x80 * slot.val

/-- The writers of a slot of CFG, SAG and GLZ: host function 0 and what has its rights (R453) for slots 0 and 1, Kiln firmware
for slot 2, the manager for slot 3. -/
def keySlotMay (slot : Fin 4) (q : Requester) : Bool :=
  match slot with
  | 2 => decide (q = .kiln)
  | 3 => decide (q = .manager)
  | _ => hostRights q

/-- A command of SAG; slot3 says that the manager's slot accepts the opcode (R405). -/
def sagCommand (q : Requester) (slot : Fin 4) (slot3 : Bool) (f : State → State × Nat × List Nat) (s : State) : State :=
  slotRun (sagSlot slot) (keySlotMay slot q)
    (fun s => if slot = 3 ∧ slot3 = false then (s, cBadCommand, []) else f s) s

/-- The tree store is open (R563): it was accepted at the last start and node 2 may be used. -/
def storeOpen (s : State) : Bool := s.sag.started && !s.sag.storeFail && !s.sag.rootFail && decide (lifecycle s < 3)

/-- A failing or plain result without a change. -/
def answer (c : Nat) (s : State) : State × Nat × List Nat := (s, c, [])

/-- The result of a commit: NOT_PERMITTED where none was possible (R391). -/
def committed (r : Option State) (s : State) : State × Nat × List Nat :=
  match r with
  | some t => (t, cOk, [])
  | none => (s, cNotPermitted, [])

/-- The four words of the node window (R406). -/
def nodeWords (s : State) (h : Nat) : List Nat :=
  let n := if 4096 ≤ h then {} else nodeOf s h
  [n.st * 2 ^ 29 + b2n n.injected * 2 ^ 28 + n.depth * 2 ^ 24 + b2n n.len256 * 2 ^ 23 + n.usage % 64 * 2 ^ 16 + n.parent,
   n.label, n.gen,
   b2n (s.sag.cache.any (fun e => e.node == h)) * 2 ^ 31 + b2n (decide (pinsOf s h ≠ 0)) * 2 ^ 30 + min 0xFFFF (pinsOf s h)]

/-- NODE_READ (R405). -/
def execNodeRead (q : Requester) (slot : Fin 4) (h : Fin 4096) (s : State) : Host.Outcome State Fault Refusal :=
  done s (sagCommand q slot true (fun s => (s, cOk, nodeWords s h)) s)

/-- Why a handle cannot take an injected node under parent p with a usage; OK where it can (R384, R385, R387, R395). -/
def injectCheck (s : State) (h p usage : Nat) : Nat :=
  if nbit usage 5 then cBadCommand
  else if h < 8 ∨ 4096 ≤ h ∨ 3 ≤ lifecycle s then cNotPermitted
  else if (nodeOf s h).st ≠ 0 then cNotPermitted
  else
    match commandKey s uKdf p with
    | .error c => c
    | .ok _ =>
      if 8 < (nodeOf s p).depth + 1 then cNotPermitted
      else if 0xFFFFFFFF ≤ s.sag.genNext then cKeyCounter
      else cOk

/-- The store with an injected node, which takes the next generation (R386, R387). -/
def injectNode (h p label usage depth : Nat) (key : List Byte) (g : Sag) : Sag :=
  let n : Node :=
    { st := 1, injected := true, depth := depth, len256 := key.length == 32, usage := usage % 32, parent := p,
      label := label, gen := g.genNext, value := key }
  { setNode h n g with genNext := g.genNext + 1 }

/-- KEY_INJECT (R393, R405): the key's bytes are those at ARG3-4. -/
def keyInject (slot : Fin 4) (h : Nat) (key : List Byte) (s : State) : State × Nat × List Nat :=
  let b := sagSlot slot
  let p := slotArg s b 0 % 4096
  let usage := slotArg s b 2 % 64
  let len := if nbit (slotArg s b 2) 8 then 32 else 16
  if slot = 2 ∨ authMode s then answer cNotPermitted s
  else
    let c := injectCheck s h p usage
    if c ≠ cOk then answer c s
    else committed (commitStore (injectNode h p (slotArg s b 1) usage ((nodeOf s p).depth + 1) (padTo (key.take len) len 0)) s) s

/-- KEY_INJECT. -/
def execKeyInject (q : Requester) (slot : Fin 4) (h : Fin 4096) (key : List Byte) (s : State) :
    Host.Outcome State Fault Refusal :=
  done s (sagCommand q slot false (keyInject slot h key) s)

/-- NODE_INVALIDATE (R389, R393): refused under AUTH, for fixed nodes and for nodes that are not VALID. -/
def nodeInvalidate (slot : Fin 4) (h : Nat) (s : State) : State × Nat × List Nat :=
  if slot = 2 ∨ authMode s ∨ h < 8 ∨ 3 ≤ lifecycle s ∨ (nodeOf s h).st ≠ 1 then answer cNotPermitted s
  else committed (invalidate h id s) s

/-- NODE_INVALIDATE. -/
def execNodeInvalidate (q : Requester) (slot : Fin 4) (h : Fin 4096) (s : State) : Host.Outcome State Fault Refusal :=
  done s (sagCommand q slot false (nodeInvalidate slot h) s)

/-- An update message is malformed, carries a reserved OP or a reserved usage (R394, R395). -/
def updateMalformed (m : List Byte) : Bool :=
  let op := byteAt m 26
  beAt m 0 4 != 0x53475501 || byteAt m 27 != 0 || beAt m 38 2 != 0 || op == 0 || decide (3 < op)
    || decide (byteAt m 37 / 32 ≠ 0) || (op == 1 && byteAt m 36 != 16 && byteAt m 36 != 32)

/-- Change and result of an authentic update message (R395). -/
def updateApply (m pt : List Byte) (auth : Nat) (s : State) : State × Nat × List Nat :=
  let ctr (g : Sag) : Sag := { g with updCtr := beAt m 20 4 }
  let target := beAt m 28 2
  let p := beAt m 30 2
  match byteAt m 26 with
  | 1 =>
    let c := injectCheck s target p (byteAt m 37)
    if c = cKeyCounter then answer c s
    else if c ≠ cOk ∨ isUnder s 9 p auth = false ∨ (nodeOf s p).st ≠ 1 then answer cNotPermitted s
    else committed (commitStore (fun g => ctr (injectNode target p (beAt m 32 4) (byteAt m 37) ((nodeOf s p).depth + 1)
      (pt.take (byteAt m 36)) g)) s) s
  | 2 =>
    if target < 8 ∨ (nodeOf s target).st ≠ 1 ∨ target = auth ∨ isUnder s 9 target auth = false then answer cNotPermitted s
    else committed (invalidate target ctr s) s
  | _ =>
    if (nodeOf s auth).injected = false ∨ (nodeOf s auth).depth ≠ 1 ∨ (lifecycle s ≠ 1 ∧ lifecycle s ≠ 2) then
      answer cNotPermitted s
    else
      match commitStore ctr s with
      | none => answer cNotPermitted s
      | some t => (emit (.otp "RETURNED" 0) (modSag (fun g => { g with returned := true }) t), cOk, [])

/-- The checks of KEY_UPDATE on the 100 bytes of a message, in the order of R395. -/
def keyUpdate (m : List Byte) (s : State) : State × Nat × List Nat :=
  let auth := beAt m 24 2
  if updateMalformed m then answer cBadCommand s
  else if beAt m 4 16 ≠ s.sag.uid then answer cAuthFail s
  else
    match commandKey s uWrap auth with
    | .error c => answer c s
    | .ok key =>
      match gcmOpen key (slice m 40 12) (m.take 52) (slice m 52 32) (slice m 84 16) with
      | none => answer cAuthFail s
      | some pt => if beAt m 20 4 ≤ s.sag.updCtr then answer cKeyCounter s else updateApply m pt auth s

/-- KEY_UPDATE (R395): m is the message at ARG0-1. -/
def execKeyUpdate (q : Requester) (slot : Fin 4) (m : List Byte) (s : State) : Host.Outcome State Fault Refusal :=
  done s (sagCommand q slot true (keyUpdate m) s)

/-- LIFECYCLE to a target state (R392): pub is the owner HSS public key at ARG0-1. -/
def lifecycleTo (target : Nat) (pub : List Byte) (s : State) : State × Nat × List Nat :=
  match lifecycle s, target with
  | 0, 1 =>
    let s := modSag (fun g => { g with ownerHash := some (sha256 pub), prov := true }) s
    (emit (.otp "PROVISIONED" 0) (emit (.otp "OWNER_HASH" 0) s), cOk, [])
  | 1, 2 => (burnAuthLock (emit (.otp "IN_FIELD" 0) (modSag (fun g => { g with inField := true }) s)), cOk, [])
  | 3, 4 =>
    let all := some (List.replicate 40 (b8 255), 2 ^ 2048 - 1)
    (emit (.otp "ROOT_SLOT1" 0) (emit (.otp "ROOT_SLOT0" 0) (emit (.otp "DECOMMISSIONED" 0)
      (clearCache (modSag (fun g => { g with decom := true, slot0 := all, slot1 := all }) s)))), cOk, [])
  | l, 3 =>
    if l < 3 ∧ authMode s = false then
      (emit (.otp "RETURNED" 0) (modSag (fun g => { g with returned := true }) s), cOk, [])
    else answer cNotPermitted s
  | _, _ => answer cNotPermitted s

/-- LIFECYCLE (R392). -/
def execLifecycle (q : Requester) (slot : Fin 4) (target : Fin 8) (pub : List Byte) (s : State) :
    Host.Outcome State Fault Refusal :=
  done s (sagCommand q slot false (lifecycleTo target pub) s)

/-! ### Attestation (R398 to R401) -/

/-- Take the next leaf (R399): stuck bits of LEAF_RESERVE do not burn. -/
def takeLeaf (stuck : Nat) (s : State) : Option (Nat × State) :=
  match s.sag.cur with
  | some (c, j) =>
    if j < 256 then some (256 * c + j, modSag (fun g => { g with cur := some (c, j + 1) }) s)
    else burn
  | none => burn
where
  /-- Reserve the first block above every burned bit whose bit burns. -/
  burn : Option (Nat × State) :=
    let b := s.sag.leafTop + stuck
    if 4096 ≤ b then none
    else some (256 * b, emit (.otp "LEAF_RESERVE" b) (modSag (fun g => { g with leafTop := b + 1, cur := some (b, 1) }) s))

/-- The report of 140 bytes (R400). -/
def attReport (s : State) (leaf : Nat) (nonce : List Byte) : List Byte :=
  beBytes 4 0x5A473841 ++ beBytes 16 s.sag.uid ++ beBytes 4 leaf ++
    [b8 (lifecycle s), b8 (b2n s.sag.authLock + 2 * b2n s.sag.dbgSince + 4 * b2n s.sag.storeFail), 0, 0] ++
    padTo (nonce.take 32) 32 0 ++ padTo s.boot.fwHash 32 0 ++
    sha256 (s.flash.getD (rdF s 0x00000014 28 28) {}).man ++ beBytes 4 (secGen s) ++ beBytes 4 s.sag.updCtr ++
    beBytes 4 s.sag.epoch ++ beBytes 4 0

/-- The HSS signature of a report with leaf i under node 1's key; c is the randomiser of the bottom-level signature (R398). -/
def attSign (key : List Byte) (i c : Nat) (report : List Byte) : List Byte :=
  let top := i / 1024
  let iT := beBytes 16 (Config.attI key 0)
  let sT := beBytes 32 (Config.attSeed key 0)
  let iB := beBytes 16 (Config.attI key (top + 1))
  let sB := beBytes 32 (Config.attSeed key (top + 1))
  let pubB := lmsPublic iB sB
  beBytes 4 1 ++ lmsSign iT sT top (beBytes 32 (Config.attC key (top + 1))) pubB ++ pubB ++
    lmsSign iB sB (i % 1024) (beBytes 32 c) report

/-- Write bytes to the memory that a slot's addresses name (R374, R405). -/
def slotWrite (slot : Fin 4) (addr : Nat) (bytes : List Byte) (s : State) : State :=
  if slot.val < 2 then emit (.pcieWrite 0 addr bytes) s else emit (.engineWrite slot addr bytes) s

/-- ATTEST (R399, R400): the nonce is at ARG0-1, the output goes to ARG2-3. -/
def attest (slot : Fin 4) (nonce : List Byte) (stuck : Nat) (s : State) : State × Nat × List Nat :=
  if s.sag.rootFail ∨ lifecycle s = 4 then answer cNotPermitted s
  else
    match commandKey s uSign 1 with
    | .error _ => answer cNotPermitted s
    | .ok key =>
      match takeLeaf stuck s with
      | none => answer cNotPermitted s
      | some (i, s) =>
        let (c, s) := draw 256 s
        let r := attReport s i nonce
        let b := sagSlot slot
        (sagLive (slotWrite slot (slotArg s b 2 + 2 ^ 32 * slotArg s b 3) (r ++ attSign key i c r) s), cOk, [i, 5216])

/-- ATTEST. -/
def execAttest (q : Requester) (slot : Fin 4) (nonce : List Byte) (stuck : Nat) (s : State) :
    Host.Outcome State Fault Refusal :=
  done s (sagCommand q slot true (attest slot nonce stuck) s)

/-! ### Authenticated debug (R402, R403) -/

/-- DEBUG_CHALLENGE: SHA-256 of UID, 32 TRNG bytes and LIFECYCLE; none for 1 s after a failure, nor after 16 in a row. -/
def debugChallenge (s : State) : State × Nat × List Nat :=
  let soon := match s.sag.failAt with
    | some t => decide (s.now < t + msT 1000)
    | none => false
  let k := trngInjected s
  if soon || decide (16 ≤ s.sag.fails) then answer cNotPermitted s
  else if 16 ≤ k then answer cInternal (raise (lfSag 4) (injDone s))
  else
    let s := if k = 0 then s else injDone s
    let (r, s) := draw 256 s
    let c := sha256 (beBytes 16 s.sag.uid ++ beBytes 32 r ++ [b8 (lifecycle s)])
    (modSag (fun g => { g with chal := some c }) s, cOk, (List.range 8).map (fun k => beAt c (4 * k) 4))

/-- DEBUG_CHALLENGE. -/
def execDebugChallenge (q : Requester) (slot : Fin 4) (s : State) : Host.Outcome State Fault Refusal :=
  done s (sagCommand q slot false debugChallenge s)

/-- The hash of the debug unlock key of the lifecycle state (R392). -/
def debugKeyHash (s : State) : Option (List Byte) :=
  match lifecycle s with
  | 0 => none
  | 1 => s.sag.ownerHash
  | 2 => s.sag.ownerHash
  | _ => some (beBytes 32 Config.romHash)

/-- DEBUG_RESPONSE (R402, R403): the signature at ARG0-1, of ARG2 bytes, under the public key pub whose hash the state
names. -/
def debugResponse (scope : Nat) (pub sig : List Byte) (s : State) : State × Nat × List Nat :=
  match debugKeyHash s, s.sag.chal with
  | some h, some c =>
    let s := modSag (fun g => { g with chal := none }) s
    let m := beBytes 4 0x5A473844 ++ beBytes 16 s.sag.uid ++ c ++ beBytes 4 scope
    if sha256 pub = h ∧ hssVerify pub m sig = .ok then
      let s := modSag (fun g => { g with dbg := g.dbg ||| scope, dbgSince := true, fails := 0 }) s
      let s := if nbit scope 1 then modSag (fun g => { g with refuse := true }) (clearCache s) else s
      (raise (lfSag 6) s, cOk, [])
    else
      (raise (lfSag 7) (modSag (fun g => { g with fails := g.fails + 1, failAt := some s.now }) s), cAuthFail, [])
  | _, _ => answer cNotPermitted s

/-- DEBUG_RESPONSE. -/
def execDebugResponse (q : Requester) (slot : Fin 4) (scope : Fin 4) (pub sig : List Byte) (s : State) :
    Host.Outcome State Fault Refusal :=
  done s (sagCommand q slot false (debugResponse scope pub sig) s)

/-- DEBUG_CHALLENGE_EXPIRY (R402). -/
def execDebugChallengeExpiry (s : State) : Host.Outcome State Fault Refusal :=
  done s (modSag (fun g => { g with chal := none }) s)

/-! ### Events -/

/-- Re-mask the cache entries, each with a fresh value (R382). -/
def remask : List CacheEnt → State → List CacheEnt × State
  | [], s => ([], s)
  | e :: t, s =>
    let (r, s) := draw 256 s
    let rb := (beBytes 32 r).take e.mask.length
    let (t, s) := remask t s
    ({ e with masked := xorB e.masked rb, mask := xorB e.mask rb } :: t, s)

/-- KEY_REMASK (R382). -/
def execKeyRemask (s : State) : Host.Outcome State Fault Refusal :=
  done s (let (c, s) := remask s.sag.cache s; modSag (fun g => { g with cache := c }) s)

/-- KEY_DERIVATION (R383): the key of a node that an operation may use is derived into the cache. -/
def execKeyDerivation (h : Fin 4096) (s : State) : Host.Outcome State Fault Refusal :=
  done s (if (nodeOf s h).st = 0 ∨ (nodeOf s h).st = 2 ∨ keyRefused s h ∨ s.sag.root = none then s else deriveKey h s)

/-- ZEROIZE_PIN (R396). -/
def execZeroizePin (s : State) : Host.Outcome State Fault Refusal := done s (zeroise s)

end Sys2Proof.Machine
end

