-- ==== Sys2Proof/Machine/GlazeCmd.lean ====
section
/-! DEFINITION. Sys2Proof/Machine/GlazeCmd.lean: the commands of Glaze's slots (R364, R368, R372, R374, R375). What a
command reads from memory at an address of its arguments is an operand: the bytes as read. -/

namespace Sys2Proof.Machine
open Sys2Proof

/-- Slot 0 to 3 of GLZ. -/
def glzSlot (slot : Fin 4) : Nat := 0x00050000 + 0x80 * slot.val

/-- A command of GLZ; slot 3 accepts only opcodes 0x20 to 0x31, of which slot3 says this is one (R374). -/
def glzCommand (q : Requester) (slot : Fin 4) (slot3 : Bool) (f : State → State × Nat × List Nat) (s : State) : State :=
  slotRun (glzSlot slot) (keySlotMay slot q)
    (fun s => if slot = 3 ∧ slot3 = false then (s, cBadCommand, []) else f s) s

/-- A 32-byte digest as eight big-endian words. -/
def digestWords (d : List Byte) : List Nat := (List.range 8).map (fun k => beAt d (4 * k) 4)

/-- SHA256: data are the bytes at ARG0-1, of which ARG2 counts. -/
def execSha256 (q : Requester) (slot : Fin 4) (data : List Byte) (s : State) : Host.Outcome State Fault Refusal :=
  done s (glzCommand q slot false
    (fun s => (s, cOk, digestWords (sha256 (data.take (slotArg s (glzSlot slot) 2))))) s)

/-- The HMAC of a command's data under the key of ARG3, or the code it fails with. -/
def hmacOf (slot : Fin 4) (data : List Byte) (s : State) : Except Nat (List Byte) :=
  match commandKey s uHmac (slotArg s (glzSlot slot) 3 % 4096) with
  | .error c => .error c
  | .ok key => .ok (hmac256 key (data.take (slotArg s (glzSlot slot) 2)))

/-- HMAC. -/
def execHmac (q : Requester) (slot : Fin 4) (data : List Byte) (s : State) : Host.Outcome State Fault Refusal :=
  done s (glzCommand q slot false (fun s =>
    match hmacOf slot data s with
    | .error c => answer c s
    | .ok m => (s, cOk, digestWords m)) s)

/-- HMAC_VERIFY: n is PARAM[5:0], expected are the bytes at ARG4-5. -/
def execHmacVerify (q : Requester) (slot : Fin 4) (n : Fin 64) (data expected : List Byte) (s : State) :
    Host.Outcome State Fault Refusal :=
  done s (glzCommand q slot false (fun s =>
    if n.val < 16 ∨ 32 < n.val then answer cBadCommand s
    else
      match hmacOf slot data s with
      | .error c => answer c s
      | .ok m => answer (if m.take n = expected.take n then cOk else cAuthFail) s) s)

/-- The hash of a trusted key: 0 the Mehryr root, 1 the owner (R374). -/
def trustedHash (s : State) (which : Nat) : Option (List Byte) :=
  if which = 0 then some (beBytes 32 Config.romHash) else s.sag.ownerHash

/-- LMS_VERIFY (R375): with trusted, pub must be the key whose hash the device holds; else it is the key at ARG6-7. -/
def execLmsVerify (q : Requester) (slot : Fin 4) (trusted : Bool) (which : Fin 4) (msg sig pub : List Byte) (s : State) :
    Host.Outcome State Fault Refusal :=
  done s (glzCommand q slot false (fun s =>
    if trusted ∧ 2 ≤ which.val then answer cBadCommand s
    else if trusted ∧ some (sha256 pub) ≠ trustedHash s which then answer cAuthFail s
    else
      match hssVerify pub (msg.take (slotArg s (glzSlot slot) 2)) (sig.take (slotArg s (glzSlot slot) 5)) with
      | .ok => answer cOk s
      | .bad => answer cAuthFail s
      | .unsupported => (s, cAuthFail, [1])) s)

/-! ### MACsec (R368, R372) -/

/-- RXSC_SET. -/
def execRxscSet (q : Requester) (slot : Fin 4) (port sc : Fin 32) (s : State) : Host.Outcome State Fault Refusal :=
  done s (glzCommand q slot true (fun s =>
    if 24 ≤ port.val ∨ 16 ≤ sc.val then answer cBadCommand s
    else
      let b := glzSlot slot
      let c : RxSc :=
        { en := nbit (slotArg s b 2) 0, implicit := nbit (slotArg s b 2) 1, sci := slotArg s b 0 * 2 ^ 32 + slotArg s b 1 }
      let k := 16 * port.val + sc.val
      let s := { s with glz := { s.glz with rxsc := if c = {} then tblErase s.glz.rxsc k else tblSet s.glz.rxsc k c } }
      (wrB (msecKey port 0x20) sc c.en s, cOk, [])) s)

/-- The index of an SA by PARAM: 64 + AN for transmit, 4 SC + AN for receive. -/
def saIndex (tx : Bool) (an : Fin 4) (sc : Fin 32) : Nat := if tx then 64 + an.val else 4 * sc.val + an.val

/-- A command on SA k of port n; BAD_COMMAND where PARAM names none. -/
def saCommand (q : Requester) (slot : Fin 4) (port : Fin 32) (tx : Bool) (an : Fin 4) (sc : Fin 32)
    (f : Nat → Nat → State → State × Nat × List Nat) (s : State) : State :=
  glzCommand q slot true (fun s =>
    if 24 ≤ port.val ∨ (tx = false ∧ 16 ≤ sc.val) then answer cBadCommand s else f port (saIndex tx an sc) s) s

/-- The encoding SA of some port has used its largest PN. -/
def anyExhausted (s : State) : Bool :=
  (List.range 24).any (fun n =>
    match msecTxAn s n with
    | some a => decide (pnMax (rdB s (msecKey n 0) 26) < saPn s n (64 + a))
    | none => false)

/-- The encoding SA of En changes to an AN or to none: PN_EXHAUSTED stays LIVE only for another port (R370). -/
def setTxSa (n : Nat) (an : Option Nat) (s : State) : State :=
  let w := setFld (rd s (msecKey n 0x20)) 31 28 (match an with | some a => 8 + a % 4 | none => 0)
  let s := wr (msecKey n 0x20) w s
  setLive (lfGlz 3) (leafBit s (lfGlz 3) 1 && anyExhausted s) s

/-- Install SA k of En: key ARG0, next PN ARG1-2, SSCI ARG3, salt ARG4-6 (R372, R374, R381). -/
def saInstall (slot : Fin 4) (n k : Nat) (s : State) : State × Nat × List Nat :=
  let b := glzSlot slot
  let h := slotArg s b 0 % 4096
  if saState s n k = 2 then answer cRegionBusy s
  else
    match commandKey s uGcm h with
    | .error c => answer c s
    | .ok _ =>
      if pinsOf s h = 0 ∧ 960 ≤ (pinned s).length then answer cKeyUsage s
      else
        let salt := (slotArg s b 4 * 2 ^ 32 + slotArg s b 5) * 2 ^ 32 + slotArg s b 6
        let s := if 64 ≤ k ∧ msecTxAn s n = some (k - 64) then setTxSa n none s else s
        let s := wrWords (saKey n k) [w32 (2 ^ 30 + h), w32 (slotArg s b 1), w32 (slotArg s b 2), w32 (slotArg s b 3)] s
        (deriveKey h { s with glz := { s.glz with salts := tblPut s.glz.salts (128 * n + k) salt } }, cOk, [])

/-- SA_INSTALL. -/
def execSaInstall (q : Requester) (slot : Fin 4) (port : Fin 32) (tx : Bool) (an : Fin 4) (sc : Fin 32) (s : State) :
    Host.Outcome State Fault Refusal :=
  done s (saCommand q slot port tx an sc (saInstall slot) s)

/-- Put SA k of En in use; a transmit SA becomes the encoding SA, and the previous one returns to INSTALLED (R372). -/
def saEnable (n k : Nat) (s : State) : State × Nat × List Nat :=
  if saState s n k = 0 then answer cNotFound s
  else if saState s n k = 3 then answer cKeyOrphaned s
  else if k < 64 then (wrF (saKey n k) 31 30 2 s, cOk, [])
  else
    let s := match msecTxAn s n with
      | some a => if 64 + a ≠ k ∧ saState s n (64 + a) = 2 then wrF (saKey n (64 + a)) 31 30 1 s else s
      | none => s
    (setTxSa n (some (k - 64)) (wrF (saKey n k) 31 30 2 s), cOk, [])

/-- SA_ENABLE. -/
def execSaEnable (q : Requester) (slot : Fin 4) (port : Fin 32) (tx : Bool) (an : Fin 4) (sc : Fin 32) (s : State) :
    Host.Outcome State Fault Refusal :=
  done s (saCommand q slot port tx an sc saEnable s)

/-- Return SA k of En to EMPTY (R372). -/
def saRetire (n k : Nat) (s : State) : State × Nat × List Nat :=
  let s := if 64 ≤ k ∧ msecTxAn s n = some (k - 64) then setTxSa n none s else s
  let s := wrWords (saKey n k) [0, 0, 0, 0] s
  ({ s with glz := { s.glz with salts := tblErase s.glz.salts (128 * n + k) } }, cOk, [])

/-- SA_RETIRE. -/
def execSaRetire (q : Requester) (slot : Fin 4) (port : Fin 32) (tx : Bool) (an : Fin 4) (sc : Fin 32) (s : State) :
    Host.Outcome State Fault Refusal :=
  done s (saCommand q slot port tx an sc saRetire s)

/-- SA_READ: the next PN and the state of an SA. -/
def execSaRead (q : Requester) (slot : Fin 4) (port : Fin 32) (tx : Bool) (an : Fin 4) (sc : Fin 32) (s : State) :
    Host.Outcome State Fault Refusal :=
  done s (saCommand q slot port tx an sc
    (fun n k s => (s, cOk, [saPn s n k / 2 ^ 32, saPn s n k % 2 ^ 32, saState s n k])) s)

/-! ### Freshness counters (R364) -/

/-- FV_SET: counter ARG0, value ARG1-2. -/
def fvSet (slot : Fin 4) (s : State) : State × Nat × List Nat :=
  let b := glzSlot slot
  let c := slotArg s b 0 % 65536
  let v := slotArg s b 1 * 2 ^ 32 + slotArg s b 2
  if s.glz.fvSet.contains c ∧ v < fvLatest s c then answer cKeyCounter s
  else
    let s := setFv c v 0 s
    ({ s with glz := { s.glz with fvSet := if s.glz.fvSet.contains c then s.glz.fvSet else c :: s.glz.fvSet } }, cOk, [])

/-- FV_SET. -/
def execFvSet (q : Requester) (slot : Fin 4) (s : State) : Host.Outcome State Fault Refusal :=
  done s (glzCommand q slot true (fvSet slot) s)

/-- FV_READ: LATEST, BITMAP and SET of counter ARG0. -/
def execFvRead (q : Requester) (slot : Fin 4) (s : State) : Host.Outcome State Fault Refusal :=
  done s (glzCommand q slot true (fun s =>
    let c := slotArg s (glzSlot slot) 0 % 65536
    (s, cOk, (rdWords s (fvKey c) 4).map (·.toNat) ++ [b2n (s.glz.fvSet.contains c)])) s)

end Sys2Proof.Machine
end

