-- ==== Sys2Proof/Machine/Manifest.lean ====
section
/-! DEFINITION. Sys2Proof/Machine/Manifest.lean: the manifest of an update and of a flash bank (R545 to R547), and region
records (R43, R44). -/

namespace Sys2Proof.Machine
open Sys2Proof

/-- One entry of a manifest (R546). -/
structure ManEntry where
  ty : Nat
  did : Nat
  ver : Nat
  len : Nat
  hash : List Byte
  deriving DecidableEq, Repr

/-- A manifest as its bytes spell it (R545). -/
structure Man where
  seq : Nat
  entries : List ManEntry
  img : Nat
  pos : Nat
  len : Nat
  flags : Nat
  route : Nat
  inv : Nat
  deriving DecidableEq, Repr

/-- The number of entries that a manifest names. -/
def manCount (b : List Byte) : Nat := beAt b 12 2

/-- The bytes that a manifest's signature covers. -/
def manSigned (b : List Byte) : List Byte := b.take (92 + 48 * manCount b)

/-- Entry i of a manifest. -/
def manEntry (b : List Byte) (i : Nat) : ManEntry :=
  let e := slice b (92 + 48 * i) 48
  { ty := byteAt e 0, did := beAt e 2 2, ver := beAt e 4 4, len := beAt e 8 4, hash := slice e 16 32 }

/-- The limits of R546 on entry i. -/
def manEntryOk (b : List Byte) (i : Nat) : Bool :=
  let e := slice b (92 + 48 * i) 48
  (decide (byteAt e 0 ≤ 0x1B) || byteAt e 0 == 0x40 || byteAt e 0 == 0x41) && byteAt e 1 == 0
    && decide (beAt e 2 2 < 2048) && decide (beAt e 8 4 ≤ 64 * 2 ^ 20) && beAt e 12 4 == 0

/-- Two entries name the same part of a device, 0x7FF counting as every device (R546). -/
def sameEntry (a b : ManEntry) : Bool := a.ty == b.ty && (a.did == b.did || a.did == 0x7FF || b.did == 0x7FF)

/-- No entry of a list names the part of a later one. -/
def entriesDistinct : List ManEntry → Bool
  | [] => true
  | e :: t => !t.any (sameEntry e) && entriesDistinct t

/-- A manifest lists a part for a device. -/
def manLists (l : List ManEntry) (did ty : Nat) : Option ManEntry :=
  l.find? (fun e => e.ty == ty && (e.did == did || e.did == 0x7FF))

/-- The devices that a manifest names, 0x7FF apart. -/
def manDids (l : List ManEntry) : List Nat := (l.map (·.did)).filter (· != 0x7FF) |>.eraseDups

/-- The listing rule (R546): each device has Kiln firmware, Foot firmware and region 0, and no part appears twice. -/
def manListingOk (l : List ManEntry) : Bool :=
  entriesDistinct l && (if manDids l = [] then [0x7FF] else manDids l).all (fun d =>
    [0x40, 0x41, 0].all (fun ty => (manLists l d ty).isSome))

/-- The manifest that bytes spell, if its format is right (R545, R546; step 1 of R547). -/
def manParse (b : List Byte) : Option Man :=
  let n := manCount b
  let es := (List.range n).map (manEntry b)
  if beAt b 0 4 = 0x5A47384D ∧ beAt b 4 2 = 1 ∧ beAt b 6 2 = 0x0A08 ∧ 1 ≤ n ∧ n ≤ 256 ∧ beAt b 14 2 = 0 ∧ beAt b 22 2 = 0
      ∧ 1 ≤ byteAt b 20 ∧ byteAt b 20 ≤ 32 ∧ byteAt b 21 < 2 ∧ beAt b 24 4 < 2 ^ 18
      ∧ b.length = 96 + 48 * n + beAt b (92 + 48 * n) 4 ∧ (List.range n).all (manEntryOk b) = true ∧ manListingOk es = true then
    some { seq := beAt b 8 4, entries := es, img := beAt b 16 2, pos := beAt b 18 2, len := byteAt b 20, flags := byteAt b 21,
           route := beAt b 24 4, inv := beAt b 28 4 }
  else none

/-- The hash that the signer key must have: OWNER_HASH in PROVISIONED and IN_FIELD, else SAG_ROM_HASH (R547). -/
def signerHash (s : State) : Option (List Byte) :=
  if lifecycle s = 1 ∨ lifecycle s = 2 then s.sag.ownerHash else some (beBytes 32 Config.romHash)

/-- The manifest's signature verifies under its signer key, and that key is the accepted one (step 2 of R547). -/
def manSigOk (s : State) (b : List Byte) : Bool :=
  some (sha256 (slice b 32 60)) == signerHash s
    && hssVerify (slice b 32 60) (manSigned b) (b.drop (96 + 48 * manCount b)) == .ok

/-- The verified manifest of bytes. -/
def manVerified (s : State) (b : List Byte) : Option Man :=
  match manParse b with
  | some m => if manSigOk s b then some m else none
  | none => none

/-! ### Region records -/

/-- Fields of a region header (R43); multi-byte fields are little-endian. -/
def leAt (b : List Byte) (frm len : Nat) : Nat := leNat (slice b frm len)
def regGen (b : List Byte) : Nat := leAt b 4 4
def regLen (b : List Byte) : Nat := leAt b 8 4
def regReq0 (b : List Byte) : Nat := leAt b 12 4
def regHash (b : List Byte) : List Byte := slice b 32 32

/-- The hash over header bytes 0 to 31 and the payload (R43). -/
def regDigest (b : List Byte) : List Byte := sha256 (b.take 32 ++ b.drop 64)

/-- A region is banked (R46). -/
def banked (r : Nat) : Bool := r == 18 || r == 20 || r == 21

/-- The header of region r keeps R43. -/
def regHeaderOk (r : Nat) (b : List Byte) : Bool :=
  byteAt b 0 == r && byteAt b 1 == b2n (banked r) && leAt b 2 2 == 0 && regGen b != 0 && regLen b % 8 == 0
    && decide (regLen b ≤ if 1 ≤ r ∧ r ≤ 16 then 256 * 2 ^ 10 else 16 * 2 ^ 20)
    && (slice b 16 16).all (· == 0) && b.length == 64 + regLen b && (r != 0 || regReq0 b == regGen b)

/-- A record of a payload (R44): a target and its words. -/
structure CfgRec where
  target : Nat
  zero : Bool
  count : Nat
  words : List Word
  deriving DecidableEq, Repr

/-- The records of a payload's words, f bounding their number; none where one is malformed or END is missing (R44, R45). -/
def cfgRecs : Nat → List Word → Option (List CfgRec)
  | 0, _ => none
  | f + 1, ws =>
    match ws with
    | h :: t :: rest =>
      let n := fld h 27 0
      match fld h 31 28 with
      | 0x1 =>
        if n ≤ rest.length ∧ t.toNat % 4 = 0 then
          (cfgRecs f (rest.drop n)).map (fun l => { target := t.toNat, zero := false, count := n, words := rest.take n } :: l)
        else none
      | 0x2 =>
        if t.toNat % 4 = 0 then (cfgRecs f rest).map (fun l => { target := t.toNat, zero := true, count := n, words := [] } :: l)
        else none
      | 0xF => if n = 0 ∧ t = 0 ∧ rest.all (· == 0) = true then some [] else none
      | _ => none
    | _ => none

/-- The records of a region's bytes. -/
def regRecs (b : List Byte) : Option (List CfgRec) :=
  let ws := wordsOf (regLen b / 4) (b.drop 64)
  cfgRecs (ws.length + 1) ws

end Sys2Proof.Machine
end

