-- ==== Sys2Proof/Machine/Checks.lean ====
section
/-! DEFINITION. Sys2Proof/Machine/Checks.lean: what a region's records write (R44 to R46, R60), and the checks that each
region makes before anything of it is applied (R56 and the owning chapters' refusals). -/

namespace Sys2Proof.Machine
open Sys2Proof

/-! ### Blocks and banks (R45, R46, R60) -/

/-- Region r may write offset off (R46): the blocks of its row in the table of regions. -/
def inBlocks (r off : Nat) : Bool :=
  let within (lo hi : Nat) : Bool := decide (lo ≤ off) && decide (off < hi)
  match r with
  | 0 => within 0 0x10000 || off == 0x00280404 || within 0x00280410 0x00280420
      || (within 0x00180000 0x001B0000 && off % 0x2000 == 0)
  | 17 => within 0x00200000 0x00240000
  | 18 => within 0x00240000 0x00280000 || within 0x04000000 0x05000000
  | 19 => within 0x00280000 0x00300000 || within 0x08000000 0x0A000000
  | 20 => within 0x00300000 0x00380000 || within 0x0A000000 0x0F000000
  | 21 => within 0x00060018 0x00060020 || within 0x00061000 0x00062000 || within 0x00063000 0x00063400
      || within 0x0F100000 0x0F140000
  | 22 => within 0x00380000 0x00400000
  | 23 => off == 0x00040404 || within 0x00050000 0x00060000 || within 0x02000000 0x04000000
  | 24 => within 0x00070000 0x00080000
  | 25 => within 0x00500000 0x00580000
  | 26 => within 0x00080000 0x000A0000 || within 0x0F800000 0x10000000
  | 27 => within 0x00180000 0x001B2000 || within 0x00400000 0x00500000 || within 0x0F000000 0x0F100000
      || within 0x0F400000 0x0F800000
  | _ => decide (1 ≤ r) && decide (r ≤ 16) && within (0x00100000 + 0x8000 * (r - 1)) (0x00108000 + 0x8000 * (r - 1))

/-- The two-bank windows: start, end and distance of the banks. -/
def bankWins (r : Nat) : List (Nat × Nat × Nat) :=
  match r with
  | 18 => [(0x04000000, 0x04400000, 0x00200000), (0x04400000, 0x04408000, 0x4000), (0x04410000, 0x04410800, 0x400),
           (0x04420000, 0x04460000, 0x20000), (0x04500000, 0x04580000, 0x40000)]
  | 20 => [(0x0A000000, 0x0E000000, 0x02000000)]
  | 21 => [(0x0F100000, 0x0F140000, 0x20000)]
  | _ => []

/-- A write of a banked region goes to the loaded bank b, whichever bank its TARGET names (R60). -/
def rebase (r b off : Nat) : Nat :=
  match (bankWins r).find? (fun w => decide (w.1 ≤ off) && decide (off < w.2.1)) with
  | some (lo, _, st) => lo + (off - lo) % st + b * st
  | none => off

/-- On entry to LOADING every word of bank b of region r is set to 0 (R60). -/
def zeroBank (r b : Nat) (s : State) : State :=
  let s := dropWords (fun k => (bankWins r).any (fun w =>
    decide (w.1 + b * w.2.2 ≤ k) && decide (k < w.1 + (b + 1) * w.2.2))) s
  if r = 21 then forN 24 0 (fun n s => wr (gclCtl b n) 0 s) s else s

/-- The bits of offset off that region r writes: RW and RWL fields of its words, the whole word where host software cannot
write it, and ENABLE of a flexport (R46, R63, R96). -/
def loaderMask (r off key : Nat) : Word :=
  if regionOf key ≠ r then 0
  else
    match rowAtKey key with
    | none => 0
    | some row =>
      let m := rowMask row .rw ||| rowMask row .rwl
      let m := if m = 0 then 0xFFFFFFFF else m
      if r = 0 ∧ 0x8000 ≤ off ∧ off < 0x10000 then (if off % 32 = 16 then fmask 0 0 else 0)
      else if 0x00100000 ≤ off ∧ off < 0x00180000 ∧ off % 0x1000 = 0 then m ||| fmask 31 31 else m

/-- The words that records write, in payload order (R44). -/
def recWrites : List CfgRec → List (Nat × Word)
  | [] => []
  | c :: cs =>
    (if c.zero then (List.range c.count).map (fun i => (c.target + 4 * i, (0 : Word)))
     else (c.words.zip (List.range c.count)).map (fun e => (c.target + 4 * e.2, e.1))) ++ recWrites cs

/-- Records stay inside the region's blocks (R45). -/
def recsInside (r : Nat) : List CfgRec → Bool
  | [] => true
  | c :: cs => (c.count == 0 || ((List.range c.count).all (fun i => inBlocks r (c.target + 4 * i)))) && recsInside r cs

/-- The command-image window of region 19 (R250, R579). -/
def isImage (off : Nat) : Bool := decide (0x08800000 ≤ off) && decide (off < 0x08C00000)

/-- One word of region r for bank b is written, both copies where it is mirrored (R64); words of the block that the region
does not own stay. -/
def loaderWord (r b : Nat) (e : Nat × Word) (s : State) : State :=
  let off := rebase r b e.1
  let key := keyOf s off
  let m := if r = 19 ∧ isImage off then 0 else loaderMask r off key
  if m = 0 then s else wr key (mergeMask (rd s key) m e.2) s

/-- The words of a cluster's region, FXP_CFG of each port first: a region sets the personality of a port together with that
personality's registers (R92, R95). DESIGN CHOICE: its own words may stand in any order. -/
def loadOrder (r : Nat) (ws : List (Nat × Word)) : List (Nat × Word) :=
  if 1 ≤ r ∧ r ≤ 16 then ws.filter (fun e => e.1 % 0x1000 == 0) ++ ws.filter (fun e => e.1 % 0x1000 != 0) else ws

/-- A region's words are written. -/
def loaderWords (r b : Nat) (ws : List (Nat × Word)) (s : State) : State :=
  (loadOrder r ws).foldl (fun s e => loaderWord r b e s) s

/-- The last word that a region's payload writes to each offset of [lo, hi). -/
def lastWords (ws : List (Nat × Word)) (lo hi : Nat) : Tbl Word :=
  ws.foldl (fun t e => if lo ≤ e.1 ∧ e.1 < hi then tblSet t e.1 e.2 else t) []

/-- A region's words of the TIM block, which go to the bank of its plan (R85, R150). -/
def planWords (ws : List (Nat × Word)) : Tbl Word := lastWords ws 0x00060000 0x00070000

/-- The indices below n of the entries at lo, st bytes apart, of which some word is listed. -/
def listed (s : State) (lo st n : Nat) : List Nat :=
  ((tblRange s.regs lo (lo + st * n)).map (fun e => (e.1 - lo) / st)).eraseDups

/-! ### Region 0: modes, tables, overflow partitions (R156, R227, R352) -/

/-- A mode and FEC setting of port n is outside the table of R156. -/
def macModeBad (n : Nat) (w : Word) : Bool :=
  match fld w 31 28, fld w 27 26 with
  | 0, fec => decide (1 < fec)
  | 1, fec => decide (4 ≤ n) || fec != 1
  | 2, fec => decide (4 ≤ n) || decide (1 < fec)
  | 3, fec => decide (1 < fec)
  | 4, fec => fec != 0
  | 5, fec => decide (n < 4) || fec != 0
  | 6, fec => decide (n < 4) || fec != 0
  | _, _ => true

/-- Region 0 is refused (R156, R352). -/
def check0 (c : State) : Nat :=
  if (List.range 24).any (fun n => macModeBad n (rd c (macBase n))) then cFormat
  else if fld (rd c 0x00280404) 31 28 < 10 ∨ 13 < fld (rd c 0x00280404) 31 28 then cFormat
  else if !rdB c 0x00480800 30 && decide (rdF c 0x00480800 15 0 < rdF c 0x00000100 31 16 + rdF c 0x00000100 15 0 + 256) then cFormat
  else cOk

/-! ### Regions 1 to 16: flexport clusters (R108, R126, R144) -/

/-- A cluster's region is refused: an enabled port breaks a limit of its personality, borrows pins that it may not, or a
port names the reserved personality. -/
def checkCluster (k : Nat) (c : State) : Nat :=
  if ((List.range 8).map (fun i => 8 * k + i)).any (fun n =>
    persOf c n == 7 || (bit (rd c (fxpBase n)) 31 && (persBad c n || lent c n))
      || (persOf c n == 5 && bit (rd c (persReg c n 0x100)) 28 && borrowBad c n)) then cFormat
  else cOk

/-! ### Region 17: the parse graph (R197) -/

/-- A node number names a VALID node. -/
def nodeValid (c : State) (n : Nat) : Bool := nbit (nodeW c n 0) 31

/-- Node n breaks R197. -/
def nodeBad (c : State) (n : Nat) : Bool :=
  let hty := nbits (nodeW c n 0) 23 16
  let dflt := nbits (nodeW c n 6) 31 30
  hty == 0 || (decide (0x0F ≤ hty) && decide (hty ≤ 0x7F)) || nbits (nodeW c n 1) 31 30 == 3 || dflt == 3
    || (dflt == 2 && !nodeValid c (nbits (nodeW c n 6) 5 0))
    || (List.range 8).any (fun j => nbit (nodeW c n (9 + 2 * j)) 31 && !nodeValid c (nbits (nodeW c n (9 + 2 * j)) 5 0))
    || (List.range 8).any (fun k =>
        let x := nodeW c n (24 + k)
        nbit x 31 && decide (128 < nbits x 30 24 + nbits x 15 12 + 1))

/-- Region 17 is refused. -/
def check17 (c : State) : Nat :=
  let win := rdF c 0x00200000 12 8
  if (List.range 64).any (fun n => nodeValid c n && nodeBad c n) then cFormat
  else if (List.range 28).any (fun i => !nodeValid c (startNode c i)) then cFormat
  else if win < 4 ∨ 16 < win then cFormat
  else cOk

/-! ### Region 18: classification (R205, R211, R215, R217) -/

/-- A source code of R205 is reserved. -/
def codeReserved (code : Nat) : Bool := !(decide (code < 0x24) || (decide (0x40 ≤ code) && decide (code ≤ 0x45)) || code == 0xFF)

/-- A valid rule of bank b breaks R211. -/
def ruleBad (c : State) (b i : Nat) : Bool :=
  let w0 := rd c (clsRule b i + 160)
  bit w0 31 && (fld w0 15 14 == 3 || fld w0 13 12 == 3 || decide (1279 < rdF c (clsRule b i + 164) 10 0))

/-- A class of bank b breaks R215. -/
def classBad (c : State) (b i : Nat) : Bool :=
  let a := fld (rd c (clsClass b i)) 30 28
  decide (4 < a) || (a == 3 && !nodeValid c (rdF c (clsClass b i + 8) 27 22))

/-- A policer's parameters break R217. -/
def policerBad (c : State) (b i : Nat) : Bool :=
  let w (k : Nat) : Word := rd c (clsPol b i + 4 * k)
  decide (fld (w 1) 27 0 < fld (w 0) 27 0) || decide (fld (w 3) 23 0 < fld (w 2) 23 0)
    || decide (fld (w 2) 23 0 < 64) || decide (fld (w 3) 23 0 < 64)

/-- Region 18, in bank b, is refused. -/
def check18 (b : Nat) (c : State) : Nat :=
  if (List.range 16).any (fun p => (List.range 20).any (fun k =>
    codeReserved (rdF c (clsProf b p + 4 * (k / 4)) (8 * (k % 4) + 7) (8 * (k % 4))))) then cFormat
  else if (listed c (clsComp b 0) 0x10 1024).any (fun i =>
    bit (rd c (clsComp b i)) 31 && codeReserved (fld (rd c (clsComp b i)) 23 16)) then cFormat
  else if (rulesOf c b).any (ruleBad c b) then cFormat
  else if (listed c (clsClass b 0) 0x20 4096).any (classBad c b) then cFormat
  else if (listed c (clsClass b 0) 0x20 4096).any (fun k =>
    bit (rd c (clsClass b k)) 25 && policerBad c b (fld (rd c (clsClass b k)) 13 0)) then cFormat
  else cOk

/-! ### Region 20: signal routes (R261, R272, R274, R280, R287) -/

/-- The route key in slot k of bank b, if the slot is not empty (R256). -/
def slotKey64 (c : State) (b k : Nat) : Option Nat :=
  if nbit (bw c b (8 * k) 0) 31 then some (bw c b (8 * k) 0 * 2 ^ 32 + bw c b (8 * k) 1) else none

/-- A key stands outside its candidate buckets (R256). -/
def keyMisplaced (c : State) (b k key : Nat) : Bool :=
  k / 4 % 16384 != crc32c (bw c b oBank (1 + k / 65536)) (beBytes 8 key) % 16384

/-- A list names a value twice. -/
def hasDup (l : List Nat) : Bool := l.eraseDups.length != l.length

/-- Descriptor d of bank b breaks R272. -/
def descBad (c : State) (b d : Nat) : Bool :=
  let w0 := bw c b (oDesc d) 0
  let w1 := bw c b (oDesc d) 1
  let w3 := bw c b (oDesc d) 3
  let img := nbits (bw c b (oDesc d) 2) 31 16
  let conv := nbits w0 9 8
  let sl := nbits w0 17 12
  let dl := nbits w1 17 12
  let len := imgLen c b img
  conv == 3 || nbits w0 7 6 == 3
    || (conv == 1 && (decide (31 < sl) || decide (31 < dl)))
    || ((nbit w0 5 || nbit w0 4) && decide (31 < sl))
    || (conv == 2 && (nbits w0 31 18 % 8 != 0 || nbits w1 31 18 % 8 != 0 || sl != dl))
    || (if conv = 2 then decide (len < nbits w1 31 18 / 8 + dl + 1) else !sigInside len (nbits w1 31 18) (dl + 1) (nbit w1 11))
    || (nbit w3 16 && decide (len ≤ nbits w3 15 2 / 8))
    || nbit (imgW c b img 0) 30

/-- Route r of bank b breaks R261, R272 or R280. -/
def routeBad (c : State) (b r : Nat) : Bool :=
  let w0 := bw c b (oRoute r) 0
  let w2 := bw c b (oRoute r) 2
  let n := nbits (bw c b (oRoute r) 3) 31 24
  nbit w0 31 &&
    ((nbits w0 30 29 != 0 && nbits w0 27 26 == 3 && (match slotKey64 c b r with
        | some k => nbits k 51 49 != 1
        | none => false))
      || decide (524288 < nbits w2 18 0 + n)
      || (nbits w2 23 19 != 0 && nbits (bw c b (oTo (nbits w2 23 19)) 0) 23 0 == 0)
      || (List.range n).any (fun i => descBad c b (nbits w2 18 0 + i)))

/-- Two byte ranges meet. -/
def rangesMeet (a n b m : Nat) : Bool := decide (a < b + m) && decide (b < a + n) && n != 0 && m != 0

/-- Image i of the loaded bank b meets another image of it, or one of the active bank (R274). -/
def imageMeets (c : State) (b : Nat) (act : Option Nat) (i : Nat) : Bool :=
  (imgsInUse c b).any (fun j => decide (i < j) && rangesMeet (imgBase c b i) (imgLen c b i) (imgBase c b j) (imgLen c b j))
    || (match act with
      | none => false
      | some a =>
        (imgsInUse c a).any (fun j =>
          rangesMeet (imgBase c b i) (imgLen c b i) (imgBase c a j) (imgLen c a j)
            && !(i == j && imgBase c b i == imgBase c a i && imgLen c b i == imgLen c a i))
        || (nbit (imgW c a i 0) 31 && imgLen c b i == imgLen c a i && imgMode c b i == imgMode c a i
          && nbits (imgW c b i 4) 15 9 == nbits (imgW c a i 4) 15 9 && nbits (imgW c b i 4) 7 0 == nbits (imgW c a i 4) 7 0
          && imgBase c b i != imgBase c a i))

/-- A container breaks R287: it is a member of a container, or its header or capacity is too large. -/
def containerBad (c : State) (b i : Nat) : Bool :=
  nbit (imgW c b i 0) 30 &&
    (nbit (imgW c b i 0) 21 || decide (254 < nbits (imgW c b i 6) 23 16)
      || decide (1500 < imgLen c b i - nbits (imgW c b i 6) 23 16))

/-- Region 20, in bank b while bank act is active, is refused. -/
def check20 (b : Nat) (act : Option Nat) (c : State) : Nat :=
  let slots := (listed c (bankBase b) 8 262144).filterMap (fun k => (slotKey64 c b k).map (fun v => (k, v)))
  if slots.any (fun e => keyMisplaced c b e.1 e.2) || hasDup (slots.map (·.2)) then cFormat
  else if (listed c (bankBase b + oRoute 0) 16 262144).any (routeBad c b) then cFormat
  else if (imgsInUse c b).any (fun i => containerBad c b i || imageMeets c b act i) then cFormat
  else cOk

/-! ### Region 21: the time plan (R84, R150, R327) -/

/-- A word of a plan bank; what the region leaves unwritten reads 0 (R60). -/
def planW (p : Tbl Word) (k : Nat) : Word := tblGet p k 0

/-- The gate list of port n in bank b breaks R327. -/
def gclBad (c : State) (b n : Nat) : Bool :=
  let ctl := rd c (gclCtl b n)
  let len := fld ctl 8 0
  (bit ctl 31 && (len == 0 || decide (256 < len)))
    || (List.range len).any (fun e => gclInterval c b n e == 0 || decide (10 ^ 9 < gclInterval c b n e))

/-- Region 21, its plan words p and its gate lists in bank b, is refused. -/
def check21 (b : Nat) (p : Tbl Word) (c : State) : Nat :=
  let cyc := (planW p 0x00060018).toNat
  if cyc < 1000 ∨ 10 ^ 9 < cyc ∨ 10 ^ 9 % cyc ≠ 0 ∨ cyc ≤ (planW p 0x0006001C).toNat then cFormat
  else if (List.range 128).any (fun n =>
    decide (1 < ((List.range 16).filter (fun g => bit (planW p (lgKey g (4 + 4 * (n / 32)))) (n % 32))).length)) then cFormat
  else if (List.range 24).any (gclBad c b) then cFormat
  else cOk

/-! ### Region 22: reflex rules and pins (R295) -/

/-- PIO_CFG of a pin. -/
def pioCfg (s : State) (p : Nat) : Word := rd s (0x00381000 + 0x40 * p)

/-- The pins that enabled MAC_TC10 registers name: SLEEP_PIO and WAKE_PIO (R178). -/
def tc10Pins (s : State) : List (Nat × Nat) :=
  (List.range 24).filterMap (fun n =>
    let w := rd s (macBase n + 0x90)
    if bit w 31 then some (fld w 29 24, fld w 21 16) else none)

/-- Reflex rule r breaks R295. -/
def rfxRuleBad (c : State) (r : Nat) : Bool :=
  let w0 := ruleW c r 0
  let act := nbits w0 27 24
  let pin := pioCfg c (nbits w0 21 16)
  nbit w0 31 &&
    (decide (9 < act) || decide (10 < nbits (ruleW c r 1) 31 28) || decide (10 < nbits (ruleW c r 4) 31 28)
      || (decide (1 ≤ act) && decide (act ≤ 8) && !(bit pin 31 && (fld pin 30 28 == 2 || fld pin 30 28 == 3))))

/-- Region 22 is refused; s holds the configuration in force. -/
def check22 (s c : State) : Nat :=
  if (List.range 64).any (fun p => decide (4 < fld (pioCfg c p) 30 28)) then cFormat
  else if (listed c 0x00388000 0x20 256).any (rfxRuleBad c) then cFormat
  else if (if regionApplied s 27 then tc10Pins s else []).any (fun e => [e.1, e.2].any (fun p =>
    fld (pioCfg c p) 31 28 != fld (pioCfg s p) 31 28)) then cFormat
  else cOk

/-! ### Region 23: profiles, policy, key tree (R360, R381, R388, R393) -/

/-- An authentication profile breaks R360. -/
def profileBad (c : State) (i : Nat) : Bool :=
  let b := 0x02000000 + 0x20 * i
  let w0 := rd c b
  let fvb := fld w0 15 8
  let fwd := (rd c (b + 12)).toNat
  let rw := rdF c (b + 16) 6 0
  bit w0 31 &&
    (decide (1 < fld w0 30 29) || (fld w0 30 29 == 1 && decide (1 < fld w0 26 25)) || fwd == 0 || decide (64 < rw)
      || (fld w0 30 29 == 0 &&
          (decide (fvb < 8) || decide (64 < fvb) || fvb % 8 != 0 || decide (fld w0 23 16 < 8) || decide (128 < fld w0 23 16)
            || decide (fvb < fld w0 7 0)
            || (decide (fld w0 7 0 < fvb) && decide (2 ^ fld w0 7 0 < rw + fwd)))))

/-- A derived node that region 23 defines: handle, parent, label, length and usage (R388). -/
structure NodeDef where
  h : Nat
  parent : Nat
  label : Nat
  len256 : Bool
  usage : Nat
  deriving DecidableEq, Repr

/-- The definitions of a region's words, in the layout of the node window (R388, R406): an entry whose STATE field is not
FREE defines its handle. -/
def nodeDefs (ws : List (Nat × Word)) : List NodeDef :=
  let t := lastWords ws 0x03000000 0x03010000
  t.filterMap (fun e =>
    if e.1 % 16 = 0 ∧ fld e.2 31 29 ≠ 0 then
      some { h := (e.1 - 0x03000000) / 16, parent := fld e.2 11 0, label := (tblGet t (e.1 + 4) 0).toNat,
             len256 := bit e.2 23, usage := fld e.2 21 16 }
    else none)

/-- The definition of a handle. -/
def defOf (ds : List NodeDef) (h : Nat) : Option NodeDef := ds.find? (fun d => d.h == h)

/-- The depth of a handle once the definitions hold, or none where it exceeds 8, is cyclic, or a parent lacks KDF. -/
def defDepth (s : State) (ds : List NodeDef) : Nat → Nat → Option Nat
  | 0, _ => none
  | f + 1, h =>
    match defOf ds h with
    | none =>
      let n := nodeOf s h
      if h < 8 ∨ (n.injected = true ∧ n.st = 1) then some n.depth else none
    | some d =>
      let kdf := match defOf ds d.parent with
        | some p => nbit p.usage 3
        | none =>
          let n := nodeOf s d.parent
          (decide (d.parent < 8) || (n.injected && n.st == 1)) && nbit n.usage 3
      if kdf then (defDepth s ds f d.parent).bind (fun k => if k < 8 then some (k + 1) else none) else none

/-- The definition of a handle differs from its node (R388). -/
def defChanges (s : State) (d : NodeDef) : Bool :=
  let n := nodeOf s d.h
  !(n.st == 1 && !n.injected && n.parent == d.parent && n.label == d.label && n.len256 == d.len256 && n.usage == d.usage)

/-- The derived nodes that the definitions no longer hold as they are. -/
def nodesGone (s : State) (ds : List NodeDef) : List Nat :=
  s.sag.nodes.filterMap (fun e =>
    if e.2.st = 1 ∧ e.2.injected = false ∧ (match defOf ds e.1 with | some d => defChanges s d | none => true) = true then some e.1
    else none)

/-- Region 23 with words ws is refused; s holds what is in force, c the new registers. -/
def check23 (ws : List (Nat × Word)) (s c : State) : Nat :=
  let ds := nodeDefs ws
  let pol := tblFind (lastWords ws 0x00040404 0x00040408) 0x00040404
  let keys := (profileKeys c).eraseDups
  if (match pol with | some w => !bit w 31 | none => false) && authMode s && (s.sag.authLock || lifecycle s == 2) then cNotPermitted
  else if (listed c 0x02000000 0x20 4096).any (profileBad c) || decide (960 < keys.length) then cFormat
  else if ds.any (fun d => decide (d.h < 8) || nbit d.usage 5 || (nodeOf s d.h).injected
      || (defDepth s ds 9 d.h).isNone) then cFormat
  else if 960 < (keys ++ saKeys s).eraseDups.length then cRegionBusy
  else if (nodesGone s ds).isEmpty && !ds.any (defChanges s) then cOk
  else if !storeOpen s || decide (4096 ≤ s.sag.epoch) then cNotPermitted
  else if 0xFFFFFFFF < s.sag.genNext + (ds.filter (defChanges s)).length then cKeyCounter
  else cOk

/-! ### Region 24: network management (R408) -/

/-- The enabled clusters. -/
def ncEnabled (c : State) : List Nat := (List.range 16).filter (fun k => bit (rd c (ncKey k 0)) 31)

/-- A ring image suits its carrier port (R408). -/
def ringImageOk (c : State) (n img : Nat) : Bool :=
  match activeBank c 20 with
  | none => false
  | some b =>
    let w0 := imgW c b img 0
    let t1s := persOf c n == 3
    nbit w0 31 && nbits w0 29 28 == 0 && nbits (imgW c b img 2) 23 21 == (if t1s then 4 else 0)
      && imgLen c b img == (if t1s then 22 else 8) && nbits w0 7 0 == n
      && (nbits w0 18 8 == 0 || nbits w0 18 8 == ownDid c)

/-- A carrier of cluster k breaks R408. -/
def carrierBad (c : State) (k : Nat) (car : Nat × Nat) : Bool :=
  if car.1 < 128 then !(ncFxps c k).contains car.1 || persOf c car.1 == 2 || !ringImageOk c car.1 car.2
  else
    let n := car.1 - 128
    !(ncEths c k).contains n || !regionApplied c 27 ||
      !(List.range 32).any (fun i =>
        let b := macBase n + 0x200 + 0x10 * i
        bit (rd c (b + 8)) 31 && fld (rd c (b + 8)) 26 24 == 2 && fld (rd c b) 31 16 == 0x88B7 && fld (rd c (b + 4)) 31 16 == 0xFFFF)

/-- Region 24 is refused. -/
def check24 (c : State) : Nat :=
  let ks := ncEnabled c
  if hasDup (ks.flatMap (ncFxps c)) || hasDup (ks.flatMap (ncEths c)) then cFormat
  else if ks.any (fun k =>
    (ncFxps c k).any (fun n => !(persOf c n == 1 || persOf c n == 2 || persOf c n == 3))
      || (ncCarriers c k).any (carrierBad c k)
      || !bit (rd c (ncKey k 4)) (ncNode c k)
      || rdF c (ncKey k 0) 4 0 != 0) then cFormat
  else cOk

/-! ### Region 25: queue pairs (R433, R56) -/

/-- The queue pairs in use. -/
def qpsDefined (c : State) : List Nat := (listed c 0x00520000 4 1024).filter (fun q => bit (qpCfg c q) 31)

/-- Region 25 is refused; s holds what is in force. -/
def check25 (s c : State) : Nat :=
  let qs := qpsDefined c
  let owns (f : Nat) : Nat := (qs.filter (fun q => fld (qpCfg c q) 30 28 == f)).length
  if qs.any (fun q =>
    let w := qpCfg c q
    ((fld w 27 26 == 2) != (fld w 25 24 == 2)) || fld w 27 26 == 3
      || (if fld w 27 26 = 1 then decide (fld w 15 0 < 4) else fld w 15 0 != 0)) then cFormat
  else if 1024 * rdF s 0x00000100 15 0 < (qs.map (fun q => fld (qpCfg c q) 15 0)).sum then cFormat
  else if (List.range 8).any (fun f =>
    (decide (1 ≤ f) && decide (256 < owns f))
      || (owns f != 0 && !qs.any (fun q => q == rdF c (0x00500200 + 4 * f) 9 0 && fld (qpCfg c q) 30 28 == f))) then cFormat
  else if (List.range 1024).any (fun q => qpCfg s q != qpCfg c q && qpEnabled s q) then cRegionBusy
  else cOk

/-! ### Region 26: Coil and bridge (R463, R479, R492, R496, R56) -/

/-- Link l is configured differently in s and c. -/
def linkChanged (s c : State) (l : Nat) : Bool := [0, 4, 8].any (fun o => rd s (colLink l o) != rd c (colLink l o))

/-- A device to which an open non-posted transaction or a locked sequence of this device goes. -/
def brgTargets (s : State) : List Nat := s.brg.opens.map (·.2.did) ++ s.brg.seqs.map (·.2.did) ++ s.brg.buses.map (·.2.did)

/-- The assignment of a UID and DID, by word offset i of the table: valid, link, DID and UID. -/
def assignOf (s : State) (i : Nat) : List Word := rdWords s (0x0F800000 + 0x20 * i) 5

/-- Assignment entry i names a JOINED worker and changes its DID or its link (R496). -/
def joinedChanged (s c : State) (i : Nat) : Bool :=
  let a := (assignOf s i).getD 4 0
  let b := (assignOf c i).getD 4 0
  bit a 31 && fld (rd s (0x0F840000 + 0x10 * fld a 10 0)) 31 30 == 2
    && !(bit b 31 && fld b 18 16 == fld a 18 16 && fld b 10 0 == fld a 10 0 && (assignOf s i).take 4 == (assignOf c i).take 4)

/-- Region 26 is refused; s holds what is in force. -/
def check26 (s c : State) : Nat :=
  let ls := linksOf c
  let ups := ls.filter (fun l => bit (rd c (colLink l 0)) 30)
  if hasDup (ls.map (linkPort c)) || ls.any (fun l => decide (24 ≤ linkPort c l)) || decide (1 < ups.length)
      || (role s == 2 && !ups.isEmpty) || decide (rdF c 0x00090000 15 8 < 3 * rdF c 0x00090000 7 0)
      || (role s == 1 && !(match s.col.prov with | some n => ups.any (fun l => linkPort c l == n) | none => true))
      || (listed c 0x00084000 8 4096).any (fun i => bit (rd c (0x00084000 + 8 * i)) 31 && decide (127 < rdF c (0x00084000 + 8 * i) 7 0))
    then cFormat
  else if (List.range 8).any (fun l => linkChanged s c l &&
      (brgTargets s).any (fun d => let r := rd s (0x00092000 + 4 * d); bit r 31 && fld r 2 0 == l))
      || (List.range 2045).any (joinedChanged s c) then cRegionBusy
  else cOk

/-! ### Region 27: switch policy (R169, R171, R295, R320, R324 to R326, R339) -/

/-- The rate of a port's mode in kbit/s (R156). -/
def modeKbps (mode : Nat) : Nat :=
  match mode with
  | 1 => 100000000
  | 2 => 50000000
  | 3 => 25000000
  | 4 => 10000000
  | 5 => 10000000
  | 6 => 1000000
  | _ => 0

/-- SHARED_SIZE as region 27 divides the cells: what staging, read-back, the minima and headroom leave (R338). -/
def sharedOf (c : State) : Int :=
  let mins := ((listed c 0x0F400000 0x10 1280).map (fun q => rdF c (0x0F400000 + 0x10 * q) 17 0)).sum
  ((131072 - 8192 : Nat) : Int) - mins - rdF c 0x00480000 17 0

/-- Port n breaks a limit of region 27. -/
def portBad (c : State) (n : Nat) : Bool :=
  let mode := rdF c (macBase n) 31 28
  let sched := rd c (swcPort n)
  let idle := ((List.range 8).map (fun k => rdF c (swcPort n + 0x40 + 8 * k) 27 0)).sum
  (rdB c (macBase n + 0x80) 31 && (mode == 1 || mode == 2))
    || (List.range 8).any (fun k => bit sched (16 + k) && bit sched (8 + k))
    || (List.range 8).any (fun k => bit sched (16 + k) && decide (rdF c (swcPort n + 0x20 + 4 * k) 17 0 < maxFrame c n + 64))
    || decide (modeKbps mode < idle)

/-- An enabled mirror session breaks R320. -/
def sessionBad (c : State) (m : Nat) : Bool :=
  let w := rd c (mirKey m 0)
  let did := fld w 18 8
  let gpn := fld w 7 0
  let t := rdF c (mirKey m 8) 13 0
  bit w 31 && ((decide (1 ≤ t) && decide (t < 64))
    || ((did == 0 || did == ownDid c) && !(decide (128 ≤ gpn) && decide (gpn ≤ 152))))

/-- A word that region 27 writes sets XON at or above XOFF (R169). -/
def xonBad (e : Nat × Word) : Bool :=
  decide (0x00180000 ≤ e.1) && decide (e.1 < 0x001B0000) && decide (0x60 ≤ e.1 % 0x2000) && decide (e.1 % 0x2000 < 0x80)
    && decide (fld e.2 31 16 ≤ fld e.2 15 0)

/-- Region 27 is refused. -/
def check27 (ws : List (Nat × Word)) (c : State) : Nat :=
  if (List.range 24).any (portBad c) || ws.any xonBad then cFormat
  else if (List.range 4).any (sessionBad c) then cFormat
  else if (tc10Pins c).any (fun e => !(bit (pioCfg c e.1) 31 && fld (pioCfg c e.1) 30 28 == 4) || bit (pioCfg c e.2) 31) then cFormat
  else if sharedOf c < 16384 then cFormat
  else if 16384 < ((List.range 8).map (fun k => rdF c (0x00400100 + 4 * k) 30 16)).sum then cFormat
  else cOk

/-- The check of region r: s holds what is in force, c the same with the region's words in place, in bank b of a banked
region; cOk where the region passes. -/
def regionCheck (r b : Nat) (ws : List (Nat × Word)) (s c : State) : Nat :=
  match r with
  | 0 => check0 c
  | 17 => check17 c
  | 18 => check18 b c
  | 19 => cOk
  | 20 => check20 b (activeBank s 20) c
  | 21 => check21 b (planWords ws) c
  | 22 => check22 s c
  | 23 => check23 ws s c
  | 24 => check24 c
  | 25 => check25 s c
  | 26 => check26 s c
  | 27 => check27 ws c
  | _ => checkCluster (r - 1) c

end Sys2Proof.Machine
end

