-- ==== Sys2Proof/Machine/CoilOps.lean ====
section
/-! DEFINITION. Sys2Proof/Machine/CoilOps.lean: Coil frames as they arrive (R482), the states of links and workers (R481,
R495), the live conditions of the COL block. -/

namespace Sys2Proof.Machine
open Sys2Proof

/-- Change Coil beyond its registers. -/
def modCol (f : Coil → Coil) (s : State) : State := { s with col := f s.col }

/-- The offset of the Coil header in an Ethernet frame (R480). -/
def coilOff (f : List Byte) : Nat := if beAt f 12 2 = 0x8100 then 18 else 14

/-- The Coil frame that an Ethernet frame of port n carries (R482); none where its payload is cut short. -/
def coilParse (s : State) (n : Nat) (p : Pkt) : Option CoilFrame :=
  let f := p.bytes
  let o := coilOff f
  let len := beAt f (o + 6) 2
  if f.length < o + 16 + len then none
  else some { svc := byteAt f o % 16, ttl := byteAt f (o + 1) % 16, cls := byteAt f (o + 1) / 32, dst := beAt f (o + 2) 2 / 32,
              src := beAt f (o + 4) 2 / 32, wa := beAt f (o + 8) 4, wb := beAt f (o + 12) 4, data := slice f (o + 16) len,
              port := n, link := (linksOf s).find? (fun l => linkPort s l == n), dmac := slice f 0 6, smac := slice f 6 6, ts := p.ts }

/-! ### Workers (R495, R504) -/

/-- The member-state window of DID d. -/
def memberKey (d : Nat) : Nat := 0x0F840000 + 0x10 * d

/-- STATE of a member: 0 ABSENT, 1 JOINING, 2 JOINED, 3 LOST. -/
def memberState (s : State) (d : Nat) : Nat := fld (rd s (memberKey d)) 31 30

/-- The members that a link leads to, with word 0 of their windows. -/
def membersOn (s : State) (l : Nat) : List Nat :=
  (tblRange s.regs 0x0F840000 0x0F848000).filterMap (fun e =>
    if e.1 % 0x10 = 0 ∧ fld e.2 31 30 ≠ 0 ∧ fld e.2 18 16 = l then some ((e.1 - 0x0F840000) / 0x10) else none)

/-- The uplink of region 26 (R479). -/
def uplink (s : State) : Option Nat := (linksOf s).find? (fun l => bit (rd s (colLink l 0)) 30)

/-- The live conditions of the COL block, and MGR_UP. -/
def coilLive (s : State) : State :=
  let up := (uplink s).map (linkState s)
  let lost := (tblRange s.regs 0x0F840000 0x0F848000).any (fun e => e.1 % 0x10 == 0 && fld e.2 31 30 == 3)
  let s := setLive (lfCol 1) ((linksOf s).any (fun l => linkState s l != 2)) (setLive (lfCol 3) lost s)
  let s := setLive (lfCol 7) (s.col.revt != []) (setLive (lfCol 8) (up.any (· != 2)) s)
  wrB 0x00090004 29 (up == some 2) s

/-- COL_REVT_HEAD and COL_REVT_COUNT follow the remote-event FIFO (R503). -/
def revtSync (s : State) : State :=
  coilLive (wrWords 0x00090300 ((padTo (s.col.revt.headD []) 4 0).take 4) (wr 0x00090314 (w32 s.col.revt.length) s))

/-! ### Failure of staging (R548) -/

/-- STATE of UPD_STATUS: 0 IDLE, 1 STAGING, 2 STAGED, 3 ACTIVATING, 4 REVERTING, 5 AWAIT_ORDER. -/
def updState (s : State) : Nat := fld (rd s 0x00030000) 31 29
def setUpdState (v : Nat) (s : State) : State := wrF 0x00030000 31 29 v s

/-- The word of UPD_FAIL for a part. -/
def failWord (ty code did : Nat) : Word := w32 (ty % 256 * 2 ^ 24 + code % 256 * 2 ^ 16 + did % 2048)

/-- A part fails in staging (R548): UPD_FAIL keeps the first, and STAGE_FAIL is raised. -/
def stageFail (ty code did : Nat) (s : State) : State :=
  let s := if rd s 0x00030010 = 0 then wr 0x00030010 (failWord ty code did) s else s
  raise (lfUpd 1) (wrF 0x00030000 7 0 code s)

/-- The first part of a device that is not staged yet fails, where a staging runs (R548). -/
def stageLost (did : Nat) (s : State) : State :=
  if updState s ≠ 1 then s
  else
    let n := manCount s.upd.man
    match (List.range n).find? (fun i =>
      let e := manEntry s.upd.man i
      (e.did == did || e.did == 0x7FF) && !s.upd.staged.contains (i, did)) with
    | some i => stageFail (manEntry s.upd.man i).ty cPartFailed did s
    | none => s

/-! ### Transfers (R498) -/

/-- WORD_A of a CONFIG or UPDATE frame: OP, OBJECT and XFER. -/
def xferWord (op obj x : Nat) : Nat := op % 256 * 2 ^ 24 + obj % 256 * 2 ^ 16 + x % 2 ^ 16

/-- The 36 bytes of a RESULT: RES_STATUS and RES0 to RES7 of a slot. -/
def resultBytes (s : State) (base : Nat) : List Byte := (rdWords s (base + 0x24) 9).flatMap (fun w => beBytes 4 w.toNat)

/-- A COMMAND of the manager in CFG slot 3 has its result: the RESULT goes back, and the load buffer is free (R498). -/
def coilResult (s : State) : State :=
  match s.col.cmd with
  | some (obj, x, src) =>
    if bit (slotStatus s 0x000A0180) 31 then
      coilSend src 5 7 (xferWord 4 obj x) 0 (resultBytes s 0x000A0180)
        (modCol (fun c => { c with cmd := none, xin := tblErase c.xin 5 }) s)
    else s
  | none => s

/-! ### Links (R481, R495) -/

/-- A link goes DOWN: an UP link is counted and raised; its workers are LOST, or its manager is lost. -/
def coilLinkDown (l : Nat) (s : State) : State :=
  let was := linkState s l
  let s := wrF (colLink l 12) 31 30 0 s
  if was ≠ 2 then coilLive s
  else
    let s := raise (lfCol 1) (bump (colCtr 9) s)
    let s :=
      if bit (rd s (colLink l 0)) 30 then
        raise (lfCol 8) (modCol (fun c => { c with xin := tblErase c.xin 5 }) s)
      else
        let gone := (membersOn s l).filter (fun d => memberState s d = 2)
        let s := gone.foldl (fun s d => stageLost d (wrF (memberKey d) 31 30 3 s)) s
        let s := modCol (fun c => { c with xout := c.xout.filter (fun x => !gone.contains x.did)
                                           prog := c.prog.filter (fun e => !gone.contains e.1) }) s
        if gone = [] then s else raise (lfCol 3) s
    coilLive s

/-- A link is UP toward a peer (R481). -/
def coilLinkUp (l peer : Nat) (s : State) : State :=
  let was := linkState s l
  let s := wrF (colLink l 12) 10 0 peer s
  if was = 1 then raise (lfCol 0) (coilLive (wrF (colLink l 12) 31 30 2 s)) else s

/-! ### Bridge transactions on a link that goes DOWN (R481) -/

/-- The bridge transaction of a packet that Coil termination has queued for a port. -/
def brgOfPkt (p : Pkt) : Option BrgTx :=
  let o := coilOff p.bytes
  if p.kind = 15 ∧ byteAt p.bytes o % 16 = 2 then brgParse (slice p.bytes (o + 16) (beAt p.bytes (o + 6) 2)) else none

/-- The bridge transactions that wait in the queues of En. -/
def brgQueued (s : State) (n : Nat) : List BrgTx :=
  (List.range 8).flatMap (fun c => (rsqOf s (8 * (128 + n) + c) ++ eqOf s (128 + n) c).filterMap brgOfPkt)

/-- Take the bridge transactions out of the queues of En; what remains is numbered on from the next number to deliver. -/
def brgUnqueue (n : Nat) (s : State) : State :=
  forN 8 0 (fun c s =>
    let q := 8 * (128 + n) + c
    let gone := (rsqOf s q ++ eqOf s (128 + n) c).filter (fun p => (brgOfPkt p).isSome)
    if gone = [] then s
    else
      let from_ := (rd s (seqOut q)).toNat + gone.length
      let r := (rsqOf s q).filter (fun p => (brgOfPkt p).isNone)
      let e := (eqOf s (128 + n) c).filter (fun p => (brgOfPkt p).isNone)
      let num (k : Nat) (l : List Pkt) : List Pkt := (l.zip (List.range l.length)).map (fun x => { x.1 with seq := (k + x.2) % 2 ^ 32 })
      let s := shfDropAll gone (wr (seqOut q) (w32 from_) s)
      setEq (128 + n) c (num (from_ + r.length) e) (setRsq q (num from_ r) s)) s

end Sys2Proof.Machine
end

