-- ==== Sys2Proof/Machine/Loader.lean ====
section
/-! DEFINITION. Sys2Proof/Machine/Loader.lean: the configuration loader (R45 to R65): its queue of commands, reading and
checking a region, applying it, banks and their boundaries, the mirror compare. -/

namespace Sys2Proof.Machine
open Sys2Proof

/-! ### Region states and sources -/

/-- Slot k of CFG (R56). -/
def cfgSlot (k : Nat) : Nat := 0x000A0000 + 0x80 * k

/-- ACTIVE_GEN, INACTIVE_GEN and FLOOR of a region. -/
def activeGen (r : Nat) : Nat := 0x000A0400 + 0x10 * r
def inactiveGen (r : Nat) : Nat := 0x000A0404 + 0x10 * r
def floorKey (r : Nat) : Nat := 0x000A040C + 0x10 * r

/-- ACT_STATE: 0 EMPTY, 1 ACTIVE, 2 LOADING, 3 QUIESCING, 4 APPLYING. -/
def actState (s : State) (r : Nat) : Nat := fld (rd s (regState r)) 2 0
def setAct (r v : Nat) (s : State) : State := wrF (regState r) 2 0 v s

/-- BANK_STATE of the inactive bank: 0 EMPTY, 1 LOADING, 2 STAGED, 3 DRAINING, 4 HELD. -/
def bankState (s : State) (r : Nat) : Nat := fld (rd s (regState r)) 6 4
def setBankState (r v : Nat) (s : State) : State := wrF (regState r) 6 4 v s

/-- The bank that a LOAD of a banked region writes (R60). -/
def loadBank (s : State) (r : Nat) : Nat :=
  match activeBank s r with
  | some a => 1 - a
  | none => 0

/-- A part of a flash bank for this device (R570); a worker's bank holds its own parts only. -/
def bankPart (s : State) (b ty : Nat) : Option (List Byte) :=
  ((s.flash.getD b {}).parts.find? (fun p =>
    p.1 == ty && (role s == 1 || p.2.1 == ownDid s || p.2.1 == 0x7FF))).map (·.2.2)

/-- The manifest of a source: bank A, bank B, or the copy that the manager distributed (R48, R49). -/
def srcMan (s : State) (src : Nat) : List Byte := if src = 2 then s.cfg.man else (s.flash.getD src {}).man

/-- A region as a source offers it (R49, R56). -/
def srcPart (s : State) (src r : Nat) : Option (List Byte) :=
  if src = 2 then
    match s.cfg.buf with
    | some (k, b) => if k = r then some b else none
    | none => none
  else bankPart s src r

/-- The manifest's entry for region r in bytes b; a worker that is not yet assigned takes the entry with its hash. -/
def regEntry (s : State) (m : Man) (r : Nat) (b : List Byte) : Option ManEntry :=
  if role s = 1 ∧ ownDid s = 0 then m.entries.find? (fun e => e.ty == r && e.hash == regHash b) else manLists m.entries (ownDid s) r

/-- What reading and checking region r in bytes b from a source finds (R45 to R50, R567); cOk where it passes. The check of
the region's content sees the registers as the region would leave them. -/
def loadCode (src r : Nat) (b : List Byte) (s : State) : Nat :=
  match (manVerified s (srcMan s src)).bind (fun m => regEntry s m r b) with
  | none => cSignature
  | some e =>
    if regDigest b ≠ regHash b ∨ e.hash ≠ regHash b ∨ e.ver ≠ regGen b then cSignature
    else if !regHeaderOk r b then cFormat
    else
      match regRecs b with
      | none => cFormat
      | some recs =>
        let bk := loadBank s r
        let ws := recWrites recs
        if !recsInside r recs then cFormat
        else if w32 (regGen b) < rd s (floorKey r) ∨ (r ≠ 0 ∧ w32 (regReq0 b) ≠ rd s (activeGen 0)) then cGeneration
        else if bit (rd s 0x00480800) 30 ∧ 2 ^ 20 < regLen b then cRegionBusy
        else regionCheck r bk ws s (wr (activeGen r) (w32 (regGen b)) (loaderWords r bk ws (zeroBank r bk s)))

/-! ### The end of a command -/

/-- The last region of the boot order has been applied or refused (R564): RUNNING, and GLB_BOOT_TIME in µs. -/
def bootDone (s : State) : State :=
  let s := { s with cfg := { s.cfg with boot := false } }
  if role s = 1 then s
  else wrF 0x00000014 31 29 3 (wr 0x0000001C (w32 ((s.now - s.boot.relAt) / 1200)) s)

/-- The regions that the manifest copy lists for a worker and that it has neither applied nor refused (R499, R564). -/
def workerTodo (s : State) : List Nat :=
  match manVerified s s.cfg.man with
  | none => [0]
  | some m => (List.range 28).filter (fun r =>
      (manLists m.entries (ownDid s) r).isSome && !regionApplied s r && !bit (rd s 0x00000018) r)

/-- A region load during the start ends (R566): a refusal sets the region's bit and CODE; after region 0 nothing loads. A
worker runs once nothing of its manifest copy is left to load. -/
def bootNote (c : CfgCmd) (code : Nat) (s : State) : State :=
  let s := if code = cOk then s else wrF 0x00000014 7 0 code (wrB 0x00000018 c.region true s)
  if c.slot.isNone then
    if code ≠ cOk ∧ c.region = 0 then { s with cfg := { s.cfg with queue := [], boot := false } } else s
  else if role s = 1 ∧ workerTodo s = [] then
    wrF 0x00000014 31 29 3 (wr 0x0000001C (w32 ((s.now - s.boot.relAt) / 1200)) s)
  else s

/-- The head command ends with a code and result words. -/
def cfgEnd (code : Nat) (res : List Nat) (s : State) : State :=
  match s.cfg.queue with
  | [] => s
  | c :: rest =>
    let s := { s with cfg := { s.cfg with queue := rest, checked := false, saved := 0, load := [], planSwap := none } }
    let s := match c.slot with
      | some k => coilResult (slotResult (cfgSlot k) code res s)
      | none => s
    if !c.swap && rdF s 0x00000014 31 29 == 2 then bootNote c code s else s

/-- Reading of the head's region begins (R60): LOADING. -/
def loadStart (r : Nat) (s : State) : State :=
  let s := { s with cfg := { s.cfg with saved := rd s (regState r) } }
  if banked r && (activeBank s r).isSome then setBankState r 1 s else setAct r 2 s

/-- The loader goes on with its queue (R56): a LOAD starts; a SWAP that had to wait stands for SWAP_BOUNDARY; commands that
fail at once end. f bounds their number. -/
def cfgNext : Nat → State → State
  | 0, s => s
  | f + 1, s =>
    match s.cfg.queue with
    | [] => if s.cfg.boot then bootDone s else s
    | c :: _ =>
      if c.swap then s
      else if c.slot.isSome ∧ c.region = 0 then cfgNext f (cfgEnd cSequence [] s)
      else if banked c.region && bankState s c.region == 3 then cfgNext f (cfgEnd cRegionBusy [] s)
      else loadStart c.region s

/-- The head command ends and the next one starts. -/
def cfgFinish (code : Nat) (res : List Nat) (s : State) : State :=
  let s := cfgEnd code res s
  cfgNext (s.cfg.queue.length + 1) s

/-! ### LOAD and SWAP (R56, R57, R60 to R62) -/

/-- The region is being loaded, quiesced or applied by the head command (R57). -/
def regionInUse (s : State) (r : Nat) : Bool :=
  match s.cfg.queue with
  | c :: _ => !c.swap && c.region == r
  | [] => false

/-- The generations of a banked region change places and its other bank is active; the old one enters a state. -/
def bankFlip (r st : Nat) (s : State) : State :=
  let a := rd s (activeGen r)
  let i := rd s (inactiveGen r)
  let b := loadBank s r
  setBankState r st (wrB (regState r) 8 (b == 1) (wr (inactiveGen r) a (wr (activeGen r) i s)))

/-- The head SWAP is executed (R57, R60, R62): its boundary lies at once for regions 18 and 20, and at a plan cycle start
for region 21. -/
def swapRun (r : Nat) (s : State) : State :=
  let a := (rd s (activeGen r)).toNat
  let i := (rd s (inactiveGen r)).toNat
  if !banked r ∨ activeBank s r = none ∨ bankState s r = 0 ∨ bankState s r = 1 then cfgFinish cSequence [] s
  else if bankState s r = 3 then cfgFinish cRegionBusy [] s
  else if bankState s r = 4 ∧ i < (rd s (floorKey r)).toNat then cfgFinish cGeneration [a, i] s
  else if r = 21 then { s with cfg := { s.cfg with planSwap := some s.tim.wt } }
  else
    let s := bankFlip r 3 s
    let b := rdF s (regState r) 8 8
    let s := if r = 18 then wrB 0x00240000 31 true (wrF 0x00240000 28 28 b s)
      else imagesActivate b false (timersActivate b s)
    cfgFinish cOk [i, a] s

/-- A command that the loader accepts through slot k (R56, R57); f starts it where the loader is idle. -/
def cfgAccept (slot : Fin 4) (q : Requester) (c : CfgCmd) (bad : Bool) (f : State → State) (s : State) : State :=
  let b := cfgSlot slot
  slotCommand b (keySlotMay slot q) (fun s =>
    if bad then slotResult b cBadCommand [] s
    else if regionInUse s c.region then slotResult b cRegionBusy [] s
    else
      let idle := s.cfg.queue.isEmpty
      let s := { s with cfg := { s.cfg with queue := s.cfg.queue ++ [{ c with slot := some slot.val }] } }
      if idle then f s else s) s

/-- A source is no bank and no manager that this device has (R56). -/
def srcBad (s : State) (src : Nat) : Bool := decide (2 < src) || (src == 2 && role s != 1)

/-- LOAD (R50, R51, R56, R57). -/
def execLoad (req : Requester) (slot : Fin 4) (region : Fin 32) (src : Fin 4) (s : State) : Host.Outcome State Fault Refusal :=
  done s (cfgAccept slot req { region := region, src := src } (decide (27 < region.val) || srcBad s src)
    (fun s => cfgNext (s.cfg.queue.length + 1) s) s)

/-- SWAP (R57, R60 to R62). -/
def execSwap (req : Requester) (slot : Fin 4) (region : Fin 32) (s : State) : Host.Outcome State Fault Refusal :=
  done s (cfgAccept slot req { swap := true, region := region } (decide (27 < region.val)) (swapRun region) s)

/-- SWAP_BOUNDARY (R60): a SWAP accepted while the loader was busy is executed. -/
def execSwapBoundary (s : State) : Host.Outcome State Fault Refusal :=
  done s (match s.cfg.queue with
    | c :: _ => if c.swap ∧ s.cfg.planSwap = none then swapRun c.region s else s
    | [] => s)

/-- The packets and lookups that hold a DRAINING bank (R62, R221). -/
def inFlight (s : State) (r : Nat) : Nat :=
  let old := 1 - rdF s (regState r) 8 8
  if r = 18 then ((s.recirc.flatMap (·.2)).filter (fun p => p.bank == old)).length
  else if r = 20 then (s.srt.trans.filter (fun t => t.bank == old)).length
  else 0

/-- BANK_DRAIN_DONE (R60, R222): the in-flight count of a DRAINING bank is zero and the bank becomes HELD. -/
def execBankDrainDone (region : Fin 28) (s : State) : Host.Outcome State Fault Refusal :=
  done s (
    let r := region.val
    if bankState s r = 3 ∧ inFlight s r = 0 then
      let s := setBankState r 4 s
      if r = 18 then raise (lfCls 0) (wrB 0x00240000 30 true (wrB 0x00240000 31 false s)) else s
    else s)

/-! ### REGION_CHECK_DONE (R50, R56, R58) -/

/-- The flexports of the cluster of region r. -/
def clusterPorts (r : Nat) : List Nat := (List.range 8).map (fun i => 8 * (r - 1) + i)

/-- A checked region begins to be applied: a cluster goes offline and its running ports quiesce (R58); reflex evaluation is
suspended for region 22 (R308). -/
def applyStart (r : Nat) (s : State) : State :=
  if 1 ≤ r ∧ r ≤ 16 then
    let run := (clusterPorts r).filter (running s)
    let s := (clusterPorts r).foldl (fun s n => wrB (fxpBase n + 4) 30 true s) s
    let s := run.foldl (fun s n => setPort n { port s n with quiesce := true } s) s
    setAct r (if run = [] then 4 else 3) s
  else if banked r && (activeBank s r).isSome then s
  else
    let s := setAct r 4 s
    if r = 22 then setLive (lfRfx 3) true (raise (lfRfx 3) { s with rfx := { s.rfx with suspended := true } }) else s

/-- REGION_CHECK_DONE (R50): the head's region has been read and checked. A refused region leaves the device as it was. -/
def regionCheckDone (s : State) : State :=
  match s.cfg.queue with
  | [] => s
  | c :: _ =>
    if c.swap || s.cfg.checked then s
    else
      let b := (srcPart s c.src c.region).getD []
      let code := if (srcPart s c.src c.region).isNone then cSignature else loadCode c.src c.region b s
      if code = cOk then applyStart c.region { s with cfg := { s.cfg with checked := true, load := b } }
      else cfgFinish code [] (wr (regState c.region) s.cfg.saved s)

/-! ### Applying a region -/

/-- The safe image of flexport n, as its configuration stands (R523, R589). -/
def safeImage (s : State) (n : Nat) : Nat :=
  let p := persOf s n
  let c := rd s (persReg s n 0x100)
  match p with
  | 1 => p + 8 * b2n (fld c 21 20 == 0) + 16 * b2n (bit c 19) + 32 * b2n (fld c 21 20 == 1)
  | 5 => p + 2 ^ 8 * fld (rd s (persReg s n 0x104)) 4 0 + 2 ^ 13 * b2n (bit c 31) + 2 ^ 14 * b2n (bit c 28)
  | 6 => p + (List.range 4).foldl (fun m i =>
      let w := rd s (persReg s n (0x100 + 0x10 * i))
      nsetBit (nsetBit m (16 + i) (pwmGen s n i)) (20 + i) (bit w 29)) 0
  | _ => p

/-- A cluster's region has been written (R59, R92, R123): t holds the new words, s what was in force. -/
def clusterApplied (r : Nat) (s t : State) : State :=
  (clusterPorts r).foldl (fun t n =>
    let flush := persOf s n != persOf t n
    let t := if flush then let f := fxqFlush n t; bumpN (srtCtr 5) f.1 f.2 else t
    let t := if persOf t n = 1 then wrB (persReg t n 0x11C) 0 false t else t
    let t := wrB (fxpBase n + 4) 30 false t
    let t := setLive (lfFxp n 2) false t
    let t := if fxpPermitted t n then t else wrB (fxpBase n) 31 false t
    let t := { t with foot := { t.foot with safeImg := tblPut t.foot.safeImg n (safeImage t n) } }
    if rdB t (fxpBase n) 31 then engineStart n t else t) t

/-- One word of region 19 (R250): a direct write, or a word of the command image; its ninth word runs the group. code is
the first group's that failed. -/
def forwardWord (gen : Nat) (e : Nat × Word) (x : Nat × List Word × State) : Nat × List Word × State :=
  let (code, g, s) := x
  if !isImage e.1 then (code, g, loaderWord 19 0 e s)
  else if code ≠ cOk then (code, g, s)
  else
    let g := setAt (padTo g 9 0) ((e.1 - 0x08800000) / 4 % 9) e.2
    if (e.1 - 0x08800000) / 4 % 9 = 8 then
      let cmd := (g.getD 0 0).toNat
      let args := (g.drop 1).map (·.toNat)
      let args := if cmd % 256 = 0x01 then setAt args 4 gen else if cmd % 256 = 0x10 then setAt args 6 gen else args
      let (c, s) := tblImage cmd args s
      (c, [], s)
    else (code, g, s)

/-- Region 19 is applied: its code, and the state. -/
def forwardApply (gen : Nat) (ws : List (Nat × Word)) (s : State) : Nat × State :=
  let (code, _, s) := ws.foldl (fun x e => forwardWord gen e x) (cOk, [], s)
  (code, tblSettle (if code = cOk then tblSweepGen gen s else s))

/-- The keys of the TIM block that region 21 writes (R85, R150). -/
def planKeys : List Nat :=
  [0x00060018, 0x0006001C] ++
    (List.range 64).flatMap (fun n => [0, 4, 8, 0x0C, 0x10, 0x14, 0x18, 0x20].map (coneKey n)) ++
    (List.range 16).flatMap (fun g => [0, 4, 8, 0x0C, 0x10].map (lgKey g))

/-- The bits of a plan key that region 21 writes. -/
def planMask (k : Nat) : Word :=
  if 0x00061000 ≤ k ∧ k < 0x00062000 ∧ k % 0x40 = 0 then 0x8FE03FF0
  else
    match rowAtKey k with
    | some row => rowMask row .rw ||| rowMask row .rwl
    | none => 0

/-- The plan of bank b. -/
def planOf (s : State) (b : Nat) : Tbl Word := if b = 0 then s.cfg.planA else s.cfg.planB

/-- The plan's registers take a bank's words. -/
def planWrite (p : Tbl Word) (s : State) : State := planKeys.foldl (fun s k => wr k (planW p k &&& planMask k) s) s

/-- MAXWIN of class c of port n in bank b (R329): the longest open window of the list. -/
def maxWin (s : State) (b n c : Nat) : Nat :=
  ((List.range (gclLen s b n)).foldl (fun (best, run) e =>
    let run := if nbit (gclGates s b n e) c then run + gclInterval s b n e else 0
    (max best run, run)) (0, 0)).1

/-- The loader records MAXWIN of every class of every list of bank b. -/
def maxWins (b : Nat) (s : State) : State :=
  forN 24 0 (fun n s => forN 8 0 (fun c s => wr (gclCtl b n + 4 + 4 * c) (w32 (maxWin s b n c)) s) s) s

/-- Region 21 is written into bank b (R60). -/
def planLoad (b : Nat) (ws : List (Nat × Word)) (s : State) : State :=
  let p := planWords ws
  let s := { s with cfg := if b = 0 then { s.cfg with planA := p } else { s.cfg with planB := p } }
  maxWins b (loaderWords 21 b (ws.filter (fun e => !(decide (0x00060000 ≤ e.1) && decide (e.1 < 0x00070000)))) s)

/-- Gates outside a running list are DEFAULT_GATES (R328). -/
def defaultGates (b n : Nat) (s : State) : State :=
  wrB (swcPort n + 0x80) 31 false (setGates n 0 (rdF s (gclCtl b n) 23 16)
    (setMac n { macOf s n with gcl := none } s))

/-- Pins after region 22 (R292, R301): one that becomes an output drives INIT; a generator stops where OWNER changes. -/
def pinsApplied (s t : State) : State :=
  forN 64 0 (fun p t =>
    let t := if fld (pioCfg s p) 30 28 != fld (pioCfg t p) 30 28 then pwmHalt p t else t
    if bit (pioCfg t p) 31 && !bit (pioCfg s p) 31 then drivePin 0 p (bit (pioCfg t p) 16) t else t) t

/-- The nodes of region 23 (R388, R389): every definition that does not match invalidates its node and creates a new one;
what the region no longer defines is invalidated; handles orphaned under an earlier generation are free. One commit. -/
def nodesApply (gen : Nat) (ds : List NodeDef) (s : State) : State :=
  let gone := (nodesGone s ds).flatMap (orphanSet s) |>.eraseDups
  let old := s.sag.nodes.filterMap (fun e => if e.2.st = 2 ∧ e.2.orphGen < gen then some e.1 else none)
  let make := ds.filter (fun d =>
    let n := nodeOf s d.h
    gone.contains d.h || old.contains d.h || n.st == 0)
  let free := old.filter (fun h => !make.any (fun d => d.h == h))
  if gone = [] ∧ make = [] ∧ free = [] then s
  else
    let f (g : Sag) : Sag :=
      let g := orphanNodes gone gen g
      let g := { g with nodes := g.nodes.filter (fun e => !free.contains e.1) }
      make.foldl (fun g d =>
        { setNode d.h { st := 1, depth := (defDepth s ds 9 d.h).getD 0, len256 := d.len256, usage := d.usage,
                        parent := d.parent, label := d.label, gen := g.genNext } g with genNext := g.genNext + 1 }) g
    match commitStore f s with
    | none => s
    | some s =>
      let s := modSag (fun g => { g with cache := g.cache.filter (fun e => !gone.contains e.node) }) s
      let left := gone.filter (fun h => !make.any (fun d => d.h == h))
      if gone = [] then s
      else
        let s := orphanFlows left (raise (lfSag 0) s)
        ((tblRange s.regs 0x02300000 0x0230C000).filterMap (fun e =>
          if e.1 % 0x10 = 0 ∧ (fld e.2 31 30 = 1 ∨ fld e.2 31 30 = 2) ∧ gone.contains (fld e.2 11 0) then some e.1 else none)).foldl
            (fun s k => wrF k 31 30 3 s) s

/-- Region 23 has been written (R381, R388, R393). -/
def securityApplied (gen : Nat) (ws : List (Nat × Word)) (s : State) : State :=
  let s := nodesApply gen (nodeDefs ws) s
  burnAuthLock ((profileKeys s).eraseDups.foldl (fun s h => deriveKey h s) s)

/-- The port that woke the device and its cluster, after a standby exit (R423): none after an AUX, timer or PIO wake. -/
def wokenGpn (s : State) : Option Nat :=
  let w := rd s 0x000B0100
  match fld w 28 26 with
  | 0 => some (fld w 14 8)
  | 1 => some (fld w 14 8)
  | 2 => some (fld w 14 8)
  | 3 => some (fld w 14 8)
  | 4 => some (128 + fld w 14 8)
  | _ => none

/-- A cluster starts (R412, R423): AWAKE with ALIVE; after a standby exit by a bus wake, the woken one in CHECK and every
other one ASLEEP. -/
def clusterStart (c : Nat) (s : State) : State :=
  let s := ncPresent c (wrB (ncKey c 0x44) 0 (rdB s (ncKey c 0) 29) (setNc c {} s))
  if !rdB s (ncKey c 0) 31 then setNcState c 0 s
  else
    match (if s.nmw.exit then wokenGpn s else none) with
    | none => ringOwn c 0 (setNcState c 1 (setNc c { ncOf s c with awakeAt := s.now } s))
    | some g =>
      let mine := (ncMembers s c).contains g
      let s := (ncMembers s c).foldl (fun s n => if mine && n == g then s else portSleep n s) s
      if mine then setNcState c 4 (setNc c { ncOf s c with woke := some g } s) else setNcState c 3 s

/-- Region 24 has been written (R56, R412, R423): clusters whose definition changes restart. -/
def clustersApplied (s t : State) : State :=
  let t := forN 16 0 (fun c t =>
    if (List.range 17).any (fun w => rd s (ncKey c (4 * w)) != rd t (ncKey c (4 * w))) then clusterStart c t else t) t
  { t with nmw := { t.nmw with exit := false } }

/-- A Coil link's state as its port and its buffer allow: CFG_ERR while its class-7 queue has a MIN below 64 cells (R479). -/
def linkFit (l : Nat) (s : State) : State :=
  let n := linkPort s l
  let st := linkState s l
  let set (v : Nat) (s : State) : State := wrF (colLink l 12) 31 30 v s
  if !bit (rd s (colLink l 0)) 31 then set 0 s
  else if minQ s (8 * (128 + n) + 7) < 64 then set 3 s
  else if st = 3 then set (if linkUp s n then 1 else 0) s
  else if st = 0 ∧ linkUp s n = true then set 1 s
  else s

/-- Region 26 has been written (R56, R492): changed links are re-established and bootstrap mode ends. -/
def linksApplied (s t : State) : State :=
  let t := { t with col := { t.col with prov := none } }
  coilLive (forN 8 0 (fun l t =>
    linkFit l (if linkChanged s t l then
      wrF (colLink l 12) 31 30 0 { t with col := { t.col with boot := tblErase t.col.boot l } } else t)) t)

/-- A single-banked region has been written: what follows from it; s is what was in force, t holds its words. -/
def regionEffects (r gen : Nat) (ws : List (Nat × Word)) (s t : State) : State :=
  match r with
  | 0 => forN 25 0 (fun n t => if rdF t (macBase n) 31 28 = 0 then t else setLive (lfMac n 0) (!linkUp t n) t) t
  | 17 => { t with wdgBad := [] }
  | 22 =>
    let t := pinsApplied s { t with rfx := { t.rfx with suspended := false, prev := [] } }
    reflexCycle {} (setLive (lfRfx 3) false t)
  | 23 => securityApplied gen ws t
  | 24 => nmwSettle (clustersApplied s t)
  | 25 => t
  | 26 => linksApplied s t
  | 27 => nmwSettle (coilLive (forN 8 0 linkFit (wr 0x00480008 (w32 (unsigned 32 (sharedOf t))) t)))
  | _ => clusterApplied r s t

/-- The copies of a loaded region's mirrored words agree again (R47, R65). -/
def mirrorReload (r : Nat) (s : State) : State :=
  let s := mirrorAgree (fun k => regionOf k == r) s
  setLive (lfCrz 0) (s.mirror != []) s

/-- What follows from the first activation of a banked region, in bank A (R60, R62). -/
def firstActive (r : Nat) (s : State) : State :=
  match r with
  | 18 => wrF 0x00240000 28 28 0 s
  | 20 => imagesActivate 0 true (timersActivate 0 s)
  | _ => forN 24 0 (defaultGates 0) (planWrite (planOf s 0) { s with cfg := { s.cfg with planFirst := true } })

/-- A banked region is written into its bank (R60). -/
def bankedApply (r gen : Nat) (ws : List (Nat × Word)) (s : State) : State :=
  let b := loadBank s r
  let first := (activeBank s r).isNone
  let s := zeroBank r b s
  let s := if r = 21 then planLoad b ws s else loaderWords r b ws s
  let s := if r = 18 then { s with badRules := s.badRules.filter (fun k => k / 8192 != b) } else s
  if first then firstActive r (setAct r 1 (wr (activeGen r) (w32 gen) s))
  else wr (inactiveGen r) (w32 gen) (wr (regState r) (setFld s.cfg.saved 6 4 2) s)

/-- The head's region may be completed now: quiesced, and for region 17 the recirculated packets drained (R56, R58). -/
def applyReady (r : Nat) (s : State) : Bool := actState s r != 3 && (r != 17 || s.recirc.all (fun e => e.2 == []))

/-- REGION_APPLY_DONE (R46, R56, R58, R60): the application of the head's region completes. -/
def regionApplyDone (s : State) : State :=
  match s.cfg.queue with
  | [] => s
  | c :: _ =>
    let r := c.region
    if !s.cfg.checked || c.swap || !applyReady r s then s
    else
      let b := s.cfg.load
      let gen := regGen b
      let ws := recWrites ((regRecs b).getD [])
      let res := [gen, regLen b]
      if banked r then cfgFinish cOk res (mirrorReload r (bankedApply r gen ws s))
      else if r = 19 then
        let (code, t) := forwardApply gen ws s
        let t := if code = cOk then setAct 19 1 (wr (activeGen 19) (w32 gen) t) else wr (regState 19) s.cfg.saved t
        cfgFinish code (if code = cOk then res else []) (mirrorReload 19 t)
      else
        let t := setAct r 1 (wr (activeGen r) (w32 gen) (loaderWords r 0 ws s))
        cfgFinish cOk res (mirrorReload r (regionEffects r gen ws s t))

/-! ### The time plan's boundary (R62, R84, R88, R90, R329) -/

/-- Plan Cone n follows new settings from a boundary (R90): a pulse in progress ends under the old ones. -/
def coneFollow (n : Nat) (s : State) : State :=
  let old := coneOf s n
  if rdB s (coneKey n 0) 31 then
    let c := coneLatched s n
    let keep := old.pol == c.pol && old.pin == c.pin
    if old.pulsing && !keep then
      let s := coneArm n (setCone n { old with pulsing := false } s)
      setCone n { coneOf s n with tail := some (old.pin, old.pol) } s
    else coneArm n s
  else coneDisarm n s

/-- The gate lists of two banks are the same for port n (R329). -/
def sameList (s : State) (n : Nat) : Bool :=
  rd s (gclCtl 0 n) == rd s (gclCtl 1 n) && (List.range (gclLen s 0 n)).all (fun e =>
    gclGates s 0 n e == gclGates s 1 n e && gclInterval s 0 n e == gclInterval s 1 n e)

/-- Port n follows the gate list of the new bank b from a boundary, at in clock units (R329). -/
def listFollow (b at_ n : Nat) (s : State) : State :=
  if sameList s n then wrF (swcPort n + 0x80) 30 30 b s
  else
    let ran := (macOf s n).gcl.isSome
    let s := defaultGates b n s
    if ran then gclStart n at_ s else s

/-- Region 21 swaps at a plan cycle start, at in clock units (R62). -/
def planSwapAt (at_ : Nat) (s : State) : State :=
  let a := (rd s (activeGen 21)).toNat
  let i := (rd s (inactiveGen 21)).toNat
  let b := loadBank s 21
  let p := planOf s (1 - b)
  let q := planOf s b
  let s := s.lockgrps.foldl (fun s e => setLg e.1 { e.2 with ctrl := some (lgCtl s e.1) } s) s
  let s := planWrite q (bankFlip 21 4 s)
  let s := forN 64 0 (fun n s =>
    if [0, 4, 8, 0x0C, 0x10, 0x14, 0x18, 0x20].all (fun o => planW p (coneKey n o) == planW q (coneKey n o)) then s
    else coneFollow n s) s
  cfgFinish cOk [i, a] (forN 24 0 (listFollow b at_) s)

/-- The whole nanoseconds since the last instant of the plan's grid (R84). -/
def planPhase (s : State) : Nat :=
  (clkSub s.tim.wt + 10 ^ 9 - (rd s 0x0006001C).toNat) % tpCycle s

/-- PLAN_CYCLE_START (R62, R84, R88): a plan cycle starts: a first plan starts, a SWAP that was executed at least 10 µs
before takes its boundary, and Cones on the plan grid take their first target. -/
def execPlanCycleStart (s : State) : Host.Outcome State Fault Refusal :=
  done s (
    if !wtValid s || !regionApplied s 21 then s
    else
      let ns := clkNs s.tim.wt - planPhase s
      let s := if s.cfg.planFirst then
          forN 64 0 (fun n s => if rdB s (coneKey n 0) 31 then coneArm n s else s) { s with cfg := { s.cfg with planFirst := false } }
        else s
      let s := match s.cfg.planSwap with
        | some t => if t + 10000 * unitsPerNs ≤ ns * unitsPerNs then planSwapAt (ns * unitsPerNs) s else s
        | none => s
      if clkNs s.tim.wt - planPhase s = ns then planAnchor ns s else s)

/-! ### Mirror compare and lock (R63 to R65) -/

/-- The compare of a mirrored word (R64, R65, R539): a difference is recorded and raised; a word recorded already is no
further mismatch. -/
def mirrorCompare (k : Nat) (s : State) : State :=
  if tblGet s.mirror k 0 = 0 then setLive (lfCrz 0) (s.mirror != []) s
  else
    let s := if rdB s 0x000A0210 31 then
        if (rd s 0x000A0214).toNat = k % 2 ^ 28 then s else wrB 0x000A0210 30 true s
      else
        wr 0x000A0214 (w32 (k % 2 ^ 28))
          (wrF 0x000A0210 23 16 (if regionOf k < 28 then regionOf k else 0xFE) (wrB 0x000A0210 31 true s))
    raiseLive (lfCrz 0) (wrB 0x000A0210 29 true s)

/-- MIRROR_SCAN (R64, R65): the compare engine compares both copies of the mirrored word at an offset. -/
def execMirrorScan (off : Fin 268435456) (s : State) : Host.Outcome State Fault Refusal :=
  done s (mirrorCompare (keyOf s off) s)

/-- CFG_LOCK_SET (R6, R63): RWL fields are read-only until warm reset. -/
def execCfgLockSet (req : Requester) (s : State) : Host.Outcome State Fault Refusal :=
  done s (regCmd req (hostRights req) 0x000A0200 (wrB 0x000A0200 0 true) s)

end Sys2Proof.Machine
end

