-- ==== Sys2Proof/Machine/Boot.lean ====
section
/-! DEFINITION. Sys2Proof/Machine/Boot.lean: what a reset clears (R10, R556, R557), its release, the boot sequence
(R559 to R568), and the clocks (R561). -/

namespace Sys2Proof.Machine
open Sys2Proof

/-! ### Resets (R10, R556 to R558) -/

/-- A key's register survives a reset of the core domain. -/
def survives (cold : Bool) (k : Nat) : Bool :=
  match domainOf k with
  | .foot => true
  | .cold => !cold
  | .warm => false

/-- What a reset leaves of Saggar: OTP, the tree store, and on a warm reset what belongs to the cold domain (R557). -/
def sagReset (cold : Bool) (g : Sag) : Sag :=
  let g := { g with root := none, cache := [], cur := none, chal := none, dbg := 0, refuse := false }
  if cold then { g with started := false, rootFail := false, storeFail := false, fails := 0, failAt := none, dbgSince := false }
  else g

/-- The core domain after a warm or cold reset (R557): registers of its domains at their reset values, every table empty. -/
def coreReset (cold : Bool) (s : State) : State :=
  { s with
    regs := s.regs.filter (fun e => survives cold e.1)
    counters := s.counters.filter (fun e => survives cold e.1)
    shadows := []
    mirror := []
    slotArgs := []
    ing := []
    eq := []
    cfg := {}
    tim := {}
    cones := []
    lockgrps := []
    fxp := []
    fq := []
    mac := []
    wdgBad := []
    pol := []
    badRules := []
    tbl := {}
    srt := {}
    rfx := {}
    shf := {}
    recirc := []
    mcStage := []
    glz := { fvSet := if cold then [] else s.glz.fvSet }
    sag := sagReset cold s.sag
    nmw := { footCopy := s.nmw.footCopy }
    qps := []
    brg := {}
    col := {}
    kiln := {}
    crz := {}
    boot := { s.boot with fwHash := [], wait := 0, lanes := [], pll := s.boot.pll && !cold && !s.boot.standby }
    upd := { s.upd with
      last := 0, objs := [], man := [], staged := [], refused := []
      sess := if rdB s 0x000B0070 31 then s.upd.sess else none
      opened := s.upd.opened && rdB s 0x000B0070 31 } }

/-- The safe state ends with a warm or cold reset while SAFE_N is high (R523). -/
def safeLeave (s : State) : State :=
  if rdB s 0x000B0020 30 then setLive (lfFoot 0) false (wrB 0x000B0020 31 false s) else s

/-- A reset source acts on the core domain (R556): the widest of overlapping resets applies (R558), and CAUSE names it. -/
def resetTo (cold : Bool) (cause : Nat) (s : State) : State :=
  let c := match s.boot.rst with
    | some (c0, k0) => if c0 && !cold then (true, k0) else (cold, cause)
    | none => (cold, cause)
  let s := safeLeave (coreReset c.1 s)
  wrF 0x00000014 24 21 c.2 { s with boot := { s.boot with rst := some c, standby := c.2 == 7 && !c.1 } }

/-- FOOT_POWER_ON (R10, R556, R557, R559): VDD_FOOT powers on; OTP and flash are kept, and AUX_ADDR is sampled. -/
def execFootPowerOn (auxAddr : Fin 4) (s : State) : Host.Outcome State Fault Refusal :=
  let s' := coreReset true s
  done s { s' with
    regs := []
    counters := []
    nmw := {}
    foot := { auxAddr := auxAddr.val }
    boot := {}
    upd := { uncommitted := s.upd.uncommitted, toRevert := s.upd.toRevert } }

/-- PORST_ASSERT (R556): PORST_N low has passed its filter. -/
def execPorstAssert (s : State) : Host.Outcome State Fault Refusal := done s (resetTo true 1 s)

/-- RESET_N_ASSERT (R556): RESET_N low has passed its filter. -/
def execResetNAssert (s : State) : Host.Outcome State Fault Refusal := done s (resetTo false 2 s)

/-- POWER_GOOD_FAULT (R555, R556): a rail has fallen below its threshold. -/
def execPowerGoodFault (s : State) : Host.Outcome State Fault Refusal := done s (resetTo true 9 s)

/-- WARM_RESTART (R51, R56): a warm reset, after which every region is loaded from the source bank. -/
def execWarmRestart (req : Requester) (slot : Fin 4) (src : Fin 4) (s : State) : Host.Outcome State Fault Refusal :=
  let b := cfgSlot slot
  done s (slotCommand b (keySlotMay slot req) (fun s =>
    if 1 < src.val then slotResult b cBadCommand [] s
    else resetTo false 6 { s with boot := { s.boot with src := some src.val } }) s)

/-! ### Clocks (R27, R561) -/

/-- A clock that Foot finds out of range (R561). -/
def clockFault (which : Nat) (s : State) : State :=
  let s := { s with boot := { s.boot with clk := nsetBit s.boot.clk which true } }
  let s := footFault 3 s
  let s := resetTo (which != 2) 8 s
  raiseLive (lfCrz (3 + which)) s

/-- CLOCK_FAULT (R539, R561): 0 CLK_REF, 1 CLK_ROOT, 2 CLK_DERIVED. -/
def execClockFault (which : Fin 3) (s : State) : Host.Outcome State Fault Refusal := done s (clockFault which s)

/-- CLOCK_FAULT_CLEARED (R561): the fault has been absent for 1 ms; its leaf is LIVE no more and its hold ends. -/
def execClockFaultCleared (which : Fin 3) (s : State) : Host.Outcome State Fault Refusal :=
  done s (setLive (lfCrz (3 + which)) false { s with boot := { s.boot with clk := nsetBit s.boot.clk which false } })

/-! ### The start (R559 to R563) -/

/-- Where the manifest of a flash bank verifies, the bank's manifest. -/
def bankMan (s : State) (b : Nat) : Option Man := manVerified s (s.flash.getD b {}).man

/-- The committed bank that an open tree store names (R563). -/
def committedBank (s : State) : Option Nat := if storeOpen s then s.sag.cmtBank else none

/-- The bank whose manifest verifies with the higher SEQ, A on equal SEQ (R563). -/
def newestBank (s : State) : Nat :=
  match bankMan s 0, bankMan s 1 with
  | some a, some b => if a.seq < b.seq then 1 else 0
  | none, some _ => 1
  | _, _ => 0

/-- The boot bank (R51, R563). -/
def bootBank (s : State) : Nat :=
  if rdB s 0x000B0070 31 then rdF s 0x000B0070 30 30
  else
    match s.boot.src with
    | some b => b
    | none =>
      match committedBank s with
      | some b => b
      | none => newestBank s

/-- The region floors of the committed manifest, for this device (R47, R551, R563). -/
def setFloors (s : State) : State :=
  match (committedBank s).bind (bankMan s) with
  | none => s
  | some m => forN 28 0 (fun r s =>
      match manLists m.entries (ownDid s) r with
      | some e => wr (floorKey r) (w32 e.ver) s
      | none => s) s

/-- A reversion that preceded this start is shown (R551): LAST_CODE, UPD_FAIL, REVERTS and REVERTED. -/
def updAfter (s : State) : State :=
  match s.upd.after with
  | none => s
  | some (code, w) =>
    let s := wr 0x00030010 w (wrF 0x00030000 7 0 code { s with upd := { s.upd with after := none, sess := none, opened := false } })
    raise (lfUpd 4) (bump 0x00030118 s)

/-- Update's registers show what the store and the boot bank hold; TRIAL and WORKER_PENDING are LIVE as they stand. A device
in trial is ACTIVATING, a worker awaits its order (R551, R552). -/
def updSync (s : State) : State :=
  let s := wrB 0x00030000 27 s.sag.ownerLock (wrB 0x00030000 28 (rdB s 0x00000014 28) s)
  let s := wr 0x00030014 (w32 s.sag.lockCtr) (wr 0x00030004 (w32 s.sag.cmtSeq) s)
  let s := if rdB s 0x000B0070 31 then setUpdState (if role s = 1 ∧ s.upd.alone = false then 5 else 3) s else s
  updAfter (setLive (lfUpd 7) (!s.upd.uncommitted.isEmpty) (setLive (lfUpd 5) (rdB s 0x000B0070 31) s))

/-- The role that the straps give (R477, R560): COL_STATUS.ROLE and GLB_DID. -/
def strapRole (s : State) : State :=
  let mode := rdF s 0x00000010 9 8
  let strap := rdF s 0x00000010 7 4
  match mode with
  | 0 => wrF 0x00090004 31 30 1 s
  | 1 => wr 0x00000004 0x00001001 (wrF 0x00090004 31 30 2 s)
  | 2 => if strap = 0 then s else wr 0x00000004 (w32 (0x1000 + strap + 1)) s
  | _ => s

/-- The task sets are assigned and the roles set (R508, R516): task set k to the k-th usable pair, the next one the spare. -/
def klnStart (s : State) : State :=
  let use := (List.range 5).filter (fun p => !rdB s 0x000B0060 p)
  let s := forN 5 0 (fun p s =>
    setRole p (if !use.contains p then 5 else if use.findIdx (· == p) < 4 then 1 else 2) s) s
  let s := if use = [] then s else
    forN 4 0 (fun k s => wrF 0x00020004 (3 * k + 2) (3 * k) (use.getD (k % use.length) 0) s) s
  klnSettle (wrB 0x00020000 31 (use != [] && decide (use.length < 4)) s)

/-- Recovery boot is entered with a reason, and its code if a check has failed (R562, R571). -/
def recovery (why code : Nat) (s : State) : State :=
  wrF 0x00000014 31 29 4 (wrF 0x00000014 15 12 why (wrF 0x00000014 7 0 code s))

/-- The ROM starts on the lowest usable pair: the boot bank is chosen and its firmware awaited (R562, R563). -/
def romStart (s : State) : State :=
  if (List.range 5).all (fun p => rdB s 0x000B0060 p) then klnStart s
  else
    let s := klnStart s
    if rdB s 0x00000010 11 then recovery 3 0 s
    else if s.boot.cold && rdB s 0x00000010 10 then recovery 1 0 s
    else { s with boot := { s.boot with wait := 3 } }

/-- RESET_RELEASE (R10, R54, R72, R379, R380, R390, R477, R525, R556, R557, R559, R560, R563): the reset in force is
released. The straps are those sampled at a cold release; trng is how many TRNG health tests fail at a first start, and
storeOk says that a slot of the tree store verifies. -/
def execResetRelease (bootMode : Fin 8) (didStrap : Fin 16) (trng : Nat) (storeOk : Bool) (s : State) :
    Host.Outcome State Fault Refusal :=
  done s (match s.boot.rst with
    | none => s
    | some (cold, cause) =>
      if s.boot.clk ≠ 0 then s
      else
        let pll := s.boot.pll
        let exit := s.boot.standby
        let leaf := rd s 0x00010040 &&& 0x38
        let s := wr 0x00010040 leaf (coreReset cold s)
        let s := { s with boot := { s.boot with rst := none, relAt := s.now, cold := cold, standby := false, pll := pll }
                          nmw := { s.nmw with exit := exit }
                          foot := { s.foot with wdgExpired := false, wdgLast := s.now, wakeArmed := false, wakeGot := false } }
        let s := wrB 0x000B0038 31 false (wrB 0x000B0038 30 false s)
        let s := wrF 0x00000014 24 21 cause s
        let s := if cold then
            wr 0x00000010 (w32 (b2n (bootMode.val % 4 == 2 && didStrap.val == 0) * 2 ^ 11 + bootMode.val * 2 ^ 8
              + didStrap.val * 2 ^ 4 + s.foot.auxAddr)) s
          else s
        if rdF s 0x00000010 9 8 = 3 then wrF 0x00000014 31 29 5 s
        else
          let first := s.sag.slot0 = none ∧ s.sag.slot1 = none
          let s := sagStart trng storeOk (strapRole s)
          let s := wrB 0x00000014 26 (decide first && s.sag.root.isSome) s
          let b := bootBank s
          let s := wrB 0x00000014 28 (b == 1) (wrB 0x00000014 27 (rdB s 0x000B0070 31) s)
          let s := updSync (setFloors { s with boot := { s.boot with src := none } })
          if !s.boot.pll then { s with boot := { s.boot with wait := 1 } }
          else if cold then { s with boot := { s.boot with wait := 2 } }
          else romStart s)

/-- ROOT_PLL_LOCK (R561): the root PLL has locked. -/
def execRootPllLock (s : State) : Host.Outcome State Fault Refusal :=
  done s (if s.boot.wait = 1 then
      let s := { s with boot := { s.boot with pll := true, wait := 2 } }
      if s.boot.cold then s else romStart { s with boot := { s.boot with wait := 0 } }
    else s)

/-- BOOT_BIST_DONE (R516, R561): the boot BIST ends; fails names the pairs that failed. A pair that is retired already is
skipped. -/
def execBootBistDone (fails : Fin 32) (s : State) : Host.Outcome State Fault Refusal :=
  done s (if s.boot.wait = 2 then
      let s := { s with boot := { s.boot with wait := 0 } }
      romStart (forN 5 0 (fun p s => if nbit fails p && !rdB s 0x000B0060 p then retirePair p s else s) s)
    else s)

/-- LANE_PLL_LOCK (R26, R561): the SerDes lanes of a port lock once its mode is set. -/
def execLanePllLock (port : Fin 24) (s : State) : Host.Outcome State Fault Refusal :=
  done s (if regionApplied s 0 && rdF s (macBase port) 31 28 != 0 then
      { s with boot := { s.boot with lanes := s.boot.lanes.filter (· != port.val) ++ [port.val] } }
    else s)

/-! ### Firmware and regions (R562 to R567) -/

/-- A firmware part of a bank is what its manifest lists; sig says that the image's own Mehryr signature verifies. -/
def firmwareOk (s : State) (b : Nat) (sig : Bool) : Bool :=
  sig && match bankMan s b with
    | none => false
    | some m => [0x40, 0x41].all (fun ty =>
        match bankPart s b ty with
        | none => false
        | some img => m.entries.any (fun e => e.ty == ty && e.hash == sha256 img))

/-- The other devices that the manifest of a bank names. -/
def otherDids (s : State) (b : Nat) : List Nat :=
  match bankMan s b with
  | some m => (manDids m.entries).filter (· != ownDid s)
  | none => []

/-- The part and the code that a failed start shows: the first region refused, else the firmware. -/
def startFail (s : State) : Word :=
  let f := rd s 0x00000018
  match (List.range 28).find? (bit f) with
  | some r => failWord r (rdF s 0x00000014 7 0) (ownDid s)
  | none => failWord 0x40 cPartFailed (ownDid s)

/-- This device restarts from the bank that is not under trial and clears TRIAL; w is what it shows of the reversion. -/
def trialBack (w : Word) (s : State) : State :=
  let old := 1 - rdF s 0x000B0070 30 30
  let s := wrB 0x000B0070 31 false { s with upd := { s.upd with after := some (cPartFailed, w), reported := [], alone := false } }
  resetTo false 6 { s with boot := { s.boot with src := some old } }

/-- A trial start of this device fails (R550, R551): it restarts from its old bank at once and clears TRIAL; a manager has
its workers to order to revert, and discards its staged bank. -/
def trialFail (s : State) : State :=
  let b := rdF s 0x000B0070 30 30
  let w := startFail s
  let s := { s with upd := { s.upd with failed := true } }
  if role s = 1 then trialBack w s
  else
    let others := if s.upd.alone then [] else otherDids s b
    trialBack w (setBank b {} { s with upd := { s.upd with toRevert := others } })

/-- This device reaches its manager, or has none: its uplink is UP, or it is assigned over a provisional uplink (R492, R550). -/
def managerReached (s : State) : Bool :=
  role s != 1 || (List.range 8).any (fun l => bit (rd s (colLink l 0)) 30 && linkState s l == 2) || (coilProv s).isSome

/-- On a trial start a refused region fails the trial (R550, R566), unless a worker cannot reach its manager (R552). -/
def trialSettle (s : State) : State :=
  if rdB s 0x00000014 27 && rdB s 0x000B0070 31 && rd s 0x00000018 != 0 && managerReached s then trialFail s else s

/-- REGION_CHECK_DONE (R45 to R50, R56, R566): the head's region has been read and checked. -/
def execRegionCheckDone (s : State) : Host.Outcome State Fault Refusal := done s (trialSettle (regionCheckDone s))

/-- REGION_APPLY_DONE (R46, R56, R58, R60): the application of the head's region completes. -/
def execRegionApplyDone (s : State) : Host.Outcome State Fault Refusal := done s (trialSettle (regionApplyDone s))

/-- FIRMWARE_VERIFY_DONE (R562): the ROM has read and checked the boot bank's firmware. sigA and sigB say that the Mehryr
signatures of both images of bank A and of bank B verify. Only where no committed bank is known is the other bank tried. -/
def execFirmwareVerifyDone (sigA sigB : Bool) (s : State) : Host.Outcome State Fault Refusal :=
  done s (
    if s.boot.wait ≠ 3 then s
    else
      let b := rdF s 0x00000014 28 28
      let sig (k : Nat) : Bool := if k = 0 then sigA else sigB
      let go (k : Nat) (s : State) : State :=
        let s := updSync (wrB 0x00000014 28 (k == 1) s)
        wrF 0x00000014 31 29 1 { s with boot := { s.boot with wait := 4, fwHash := sha256 ((bankPart s k 0x40).getD []) } }
      if firmwareOk s b (sig b) then go b s
      else if (committedBank s).isNone && !rdB s 0x00000014 27 && firmwareOk s (1 - b) (sig (1 - b)) then go (1 - b) s
      else
        let s := { s with boot := { s.boot with wait := 0 } }
        if rdB s 0x00000014 27 then trialFail s
        else recovery 2 cSignature s)

/-- The boot order of regions (R564). -/
def bootOrder : List Nat :=
  [0, 23, 20, 1, 2, 3, 4, 5, 6, 7, 8, 9, 10, 11, 12, 13, 14, 15, 16, 17, 18, 19, 22, 27, 21, 24, 26, 25]

/-- The regions that this device loads from its own flash (R564): region 0, and, except on a worker, what the manifest
lists for it. -/
def bootRegions (s : State) : List Nat :=
  if role s = 1 then [0]
  else
    match bankMan s (rdF s 0x00000014 28 28) with
    | none => [0]
    | some m => bootOrder.filter (fun r => r == 0 || (manLists m.entries (ownDid s) r).isSome)

/-- OVF_TRAINING (R351, R352, R562, R567): overflow memory passes its training, with the fitted density in MiB, or fails;
at a start the loader then begins with region 0. -/
def execOvfTraining (pass : Bool) (densityMib : Fin 16385) (s : State) : Host.Outcome State Fault Refusal :=
  done s (
    let s := ovfTrained pass densityMib s
    if s.boot.wait = 4 then
      let b := rdF s 0x00000014 28 28
      let s := wrF 0x00000014 31 29 2 { s with boot := { s.boot with wait := 0 } }
      let q := (bootRegions s).map (fun r => ({ region := r, src := b } : CfgCmd))
      cfgNext (q.length + 1) { s with cfg := { s.cfg with queue := q, boot := true } }
    else s)

end Sys2Proof.Machine
end

