-- ==== Sys2Proof/Machine/Xfer.lean ====
section
/-! DEFINITION. Sys2Proof/Machine/Xfer.lean: transfers over the Coil and the configuration of workers (R498, R499). -/

namespace Sys2Proof.Machine
open Sys2Proof

/-- Take the oldest terminated frame that a condition holds of. -/
def inboxTake (p : CoilFrame → Bool) (s : State) : Option (CoilFrame × State) :=
  match s.col.inbox.find? p with
  | none => none
  | some f => some (f, modCol (fun c => { c with inbox := c.inbox.eraseIdx (c.inbox.findIdx p) }) s)

/-- OP, OBJECT and XFER of a frame's WORD_A (R498). -/
def frOp (f : CoilFrame) : Nat := f.wa / 2 ^ 24
def frObj (f : CoilFrame) : Nat := f.wa / 2 ^ 16 % 256
def frXfer (f : CoilFrame) : Nat := f.wa % 2 ^ 16

/-! ### Sending (R498) -/

/-- Replace a transfer that is being sent. -/
def setXout (x : XferOut) (s : State) : State :=
  modCol (fun c => { c with xout := c.xout.map (fun y => if y.xfer = x.xfer then x else y) }) s

/-- One chunk of a transfer leaves. -/
def xferChunk (x : XferOut) (off : Nat) (s : State) : State :=
  coilSend x.did x.svc 7 (xferWord 1 x.obj x.xfer) off (slice x.data off 1024) s

/-- Chunks leave while the receiver is ready and fewer than 64 are unacknowledged; k bounds their number. -/
def xferPump : Nat → XferOut → State → State
  | 0, x, s => setXout x s
  | k + 1, x, s =>
    if x.busy = false ∧ x.sent < x.data.length ∧ x.sent < x.acked + 65536 then
      xferPump k { x with sent := min x.data.length (x.sent + 1024), sends := if x.sends = 0 then 1 else x.sends } (xferChunk x x.sent s)
    else setXout x s

/-- A transfer begins. Its content is filled to a multiple of 8 bytes with zeros; its number is even, so that BUSY of an ACK
hides no bit of it. -/
def xferStart (did svc obj : Nat) (data : List Byte) (s : State) : State :=
  let x : XferOut := { did := did, svc := svc, obj := obj, xfer := 2 * s.col.xnext % 2 ^ 16,
                       data := padTo data ((data.length + 7) / 8 * 8) 0 }
  let s := modCol (fun c => { c with xnext := c.xnext % 32767 + 1, xout := c.xout.filter (fun y => y.xfer != x.xfer) ++ [x] }) s
  xferPump 64 x s

/-- A transfer is over. -/
def xferEnd (x : XferOut) (s : State) : State := modCol (fun c => { c with xout := c.xout.filter (fun y => y.xfer != x.xfer) }) s

/-! ### Configuration of workers by the root manager (R499) -/

/-- The flash bank that this device runs from. -/
def runBank (s : State) : Nat := rdF s 0x00000014 28 28

/-- A region of the running bank for a worker (R570). -/
def regionFor (s : State) (did r : Nat) : Option (List Byte) :=
  ((s.flash.getD (runBank s) {}).parts.find? (fun p => p.1 == r && (p.2.1 == did || p.2.1 == 0x7FF))).map (·.2.2)

/-- The objects that a worker is sent: the manifest copy, then the regions that the manifest lists for it in boot order. -/
def configObjs (s : State) (did : Nat) : List Nat :=
  match bankMan s (runBank s) with
  | none => []
  | some m => 0x80 :: (bootOrder.filter (fun r => r != 0 && (manLists m.entries did r).isSome && (regionFor s did r).isSome))

/-- The next object of a worker's configuration goes out; with none left the configuration is complete. -/
def configNext (did : Nat) (s : State) : State :=
  match tblFind s.col.prog did with
  | none => s
  | some p =>
    match p.todo with
    | [] => modCol (fun c => { c with prog := tblErase c.prog did }) s
    | o :: rest =>
      let data := if o = 0x80 then (s.flash.getD (runBank s) {}).man else (regionFor s did o).getD []
      xferStart did 5 o data (modCol (fun c => { c with prog := tblSet c.prog did { todo := rest, waits := some o } }) s)

/-- Configuration of a worker starts (R499): from the first region in order whose generation differs from what the worker has
reported. -/
def configStart (did : Nat) (s : State) : State :=
  if role s ≠ 2 then s
  else
    let gen (r : Nat) : Nat := regGen ((regionFor s did r).getD [])
    let todo := configObjs s did
    let left := (todo.drop 1).dropWhile (fun r => tblGet s.col.given (32 * did + r) 0 == gen r)
    configNext did (modCol (fun c => { c with
      xout := c.xout.filter (fun x => x.did != did || x.svc != 5)
      prog := tblSet c.prog did { todo := todo.take 1 ++ left } }) s)

/-- CMD of a LOAD from the manager (R56). -/
def loadCmd (r : Nat) : Nat := 2 * 2 ^ 16 + r * 2 ^ 8 + 1

/-- A transfer of CONFIG has been acknowledged whole: a region's LOAD is ordered; after the manifest the next object goes. -/
def configSent (x : XferOut) (s : State) : State :=
  if x.obj = 0x80 then configNext x.did s
  else coilSend x.did 5 7 (xferWord 3 x.obj x.xfer) 0 (beBytes 4 (loadCmd x.obj) ++ List.replicate 32 0) s

/-- A worker's RESULT of a LOAD: its generation is noted and the next object goes (R499). -/
def configResult (did obj : Nat) (data : List Byte) (s : State) : State :=
  let s := if byteAt data 0 ≥ 128 ∧ byteAt data 3 = cOk then
      modCol (fun c => { c with given := tblSet c.given (32 * did + obj) (beAt data 4 4) }) s else s
  let s := (s.col.xout.filter (fun x => x.did == did && x.busy)).foldl (fun s x => xferPump 64 { x with busy := false } s) s
  match tblFind s.col.prog did with
  | some p => if p.waits = some obj then configNext did s else s
  | none => s

end Sys2Proof.Machine
end

