-- ==== Sys2Proof/Machine/Update.lean ====
section
/-! DEFINITION. Sys2Proof/Machine/Update.lean: field update (R543 to R553) and recovery boot's part of it (R571, R572). -/

namespace Sys2Proof.Machine
open Sys2Proof

/-- Change the update state that Kiln firmware keeps. -/
def modUpd (f : Upd → Upd) (s : State) : State := { s with upd := f s.upd }

/-- Recovery boot runs (R571). -/
def inRecovery (s : State) : Bool := rdF s 0x00000014 31 29 == 4

/-- The bank that a cycle writes: the inactive one; in recovery the one that is not committed, or B (R548, R571). -/
def stageBank (s : State) : Nat :=
  if inRecovery s then (match committedBank s with | some b => 1 - b | none => 1) else 1 - runBank s

/-- The devices of a manifest (R546, R571). -/
def cycleDids (s : State) (m : Man) : List Nat :=
  if inRecovery s ∨ manDids m.entries = [] then [ownDid s] else manDids m.entries

/-- The devices that an entry of a cycle's manifest is for. -/
def entryDids (s : State) (m : Man) (e : ManEntry) : List Nat :=
  if e.did = 0x7FF then cycleDids s m else if inRecovery s then [ownDid s] else [e.did]

/-- Every part of a cycle: the entry's index, and the device. -/
def cycleParts (s : State) (m : Man) : List (Nat × Nat) :=
  (m.entries.zip (List.range m.entries.length)).flatMap (fun e => (entryDids s m e.1).map (fun d => (e.2, d)))

/-- UPD_PROGRESS follows the parts staged (R548). -/
def updProgress (s : State) : State :=
  match manParse s.upd.man with
  | none => s
  | some m =>
    let all := cycleParts s m
    wr 0x0003000C (w32 ((all.filter s.upd.staged.contains).length * 2 ^ 16 + all.length)) s

/-! ### Refused states (R549) -/

/-- The motion check of R549 fails: the speed field of the committed manifest is not zero, or stale. -/
def motionBad (s : State) : Bool :=
  match (committedBank s).bind (bankMan s) with
  | none => decide (1 < lifecycle s)
  | some m =>
    if !nbit m.pos 15 then decide (1 < lifecycle s)
    else
      match activeBank s 20 with
      | none => true
      | some b =>
        if !nbit (imgW s b m.img 0) 31 then true
        else
          let v := sigExtract (poolBytes s (imgBase s b m.img) (imgLen s b m.img)) (nbits m.pos 13 0) m.len (nbit m.pos 14)
          decide (v ≠ 0) || !s.srt.reached.contains m.route || (nbit m.flags 0 && v == m.inv % 2 ^ m.len)

/-- VBAT_LOW is LIVE (R526). -/
def batteryLow (s : State) : Bool := leafBit s (lfFoot 2) 1

/-- What refuses an update at this device: battery, owner lock (R549); cOk where nothing does. In recovery the owner lock is
known while the store is open (R571). -/
def ownRefusal (s : State) : Nat :=
  if batteryLow s then cRefBattery
  else if s.sag.ownerLock && (!inRecovery s || storeOpen s) then cRefOwnerLock
  else cOk

/-- The first refusal of R549 in the order of its table, with what the workers have reported. -/
def refusal (s : State) : Nat :=
  let codes := ownRefusal s :: s.upd.refused.map (·.2)
  if !inRecovery s && motionBad s then cRefMotion
  else if codes.contains cRefBattery then cRefBattery
  else if codes.contains cRefOwnerLock then cRefOwnerLock
  else cOk

/-- A refusal is counted and raised (R549). -/
def refused (code : Nat) (s : State) : State := raise (lfUpd 2) (bump 0x00030108 (wrF 0x00030000 7 0 code s))

/-! ### Messages (R543, R544) -/

/-- UPD_STATUS with MOTION as it stands now. -/
def updStatusWord (s : State) : Word := setBit (rd s 0x00030000) 26 (motionBad s)

/-- The next offset that the device expects for an object. -/
def nextOff (s : State) (entry : Nat) : Nat := (tblGet s.upd.objs entry []).length

/-- A reply (R543). -/
def updReply (op entry sess code : Nat) (more : List Byte) (s : State) : State :=
  let data := [b8 code, 0, 0, 0] ++ beBytes 4 (nextOff s entry) ++ more
  emit (.svc ([b8 0x5A, b8 0x55, 1, b8 (op + 0x80)] ++ beBytes 2 entry ++ beBytes 2 data.length ++ beBytes 4 0 ++ beBytes 4 sess ++ data)) s

/-- Update messages are taken: by firmware of a root manager or standalone device, or by recovery boot (R543, R571). -/
def updTakes (s : State) : Bool :=
  inRecovery s || (role s != 1 && decide (1 ≤ rdF s 0x00000014 31 29) && decide (rdF s 0x00000014 31 29 ≤ 3))

/-- A message of a session (R544): refused while another one is open; f gives the state, the code and more reply bytes. -/
def updMsg (op entry sess : Nat) (f : State → State × Nat × List Byte) (s : State) : State :=
  if !updTakes s then s
  else if (updState s ≠ 0 ∨ s.upd.opened = true) ∧ s.upd.sess ≠ some sess then updReply op entry sess cRegionBusy [] s
  else
    let (t, code, more) := f (modUpd (fun u => { u with last := s.now }) s)
    updReply op entry sess code more t

/-! ### Parts (R546, R548, R570) -/

/-- Bytes are the part that an entry names (R546). -/
def partIs (e : ManEntry) (b : List Byte) : Bool :=
  b.length == e.len &&
    (if e.ty ≤ 0x1B then e.hash == regHash b && regDigest b == regHash b && regGen b == e.ver else sha256 b == e.hash)

/-- The part of a flash bank for a device whose HASH an entry names. -/
def samePart (s : State) (bank did : Nat) (e : ManEntry) : Option (List Byte) :=
  ((s.flash.getD bank {}).parts.find? (fun p => p.1 == e.ty && (p.2.1 == did || p.2.1 == 0x7FF) && partIs e p.2.2)).map (·.2.2)

/-- A part is written into a flash bank, under its type and device. -/
def bankAdd (bank ty did : Nat) (b : List Byte) (s : State) : State :=
  let k := s.flash.getD bank {}
  setBank bank { k with parts := k.parts.filter (fun p => !(p.1 == ty && p.2.1 == did)) ++ [(ty, did, b)] } s

/-- A flash bank is discarded. -/
def bankDrop (bank : Nat) (s : State) : State := setBank bank {} s

/-- A part of a device has been staged; with the last one the cycle is STAGED (R548). -/
def partStaged (i did : Nat) (s : State) : State :=
  let s := updProgress (modUpd (fun u => { u with staged := u.staged.filter (· != (i, did)) ++ [(i, did)] }) s)
  match manParse s.upd.man with
  | none => s
  | some m =>
    if updState s = 1 ∧ (cycleParts s m).all s.upd.staged.contains then
      let b := stageBank s
      let k := s.flash.getD b {}
      raise (lfUpd 0) (setUpdState 2 (setBank b { k with man := s.upd.man } s))
    else s

/-- The next object for a worker (R548): first the manifest, then in manifest order the parts that are complete here and that
the worker does not hold already. -/
def stageNext (did : Nat) (s : State) : State :=
  match manParse s.upd.man with
  | none => s
  | some m =>
    if updState s ≠ 1 ∨ s.col.xout.any (fun x => x.did == did && x.svc == 6) then s
    else if !s.upd.staged.contains (0xFFFF, did) then xferStart did 6 0x80 s.upd.man s
    else
      let held (e : ManEntry) : Bool := match bankMan s (runBank s) with
        | some a => (manLists a.entries did e.ty).any (fun o => o.hash == e.hash)
        | none => false
      match (List.range m.entries.length).find? (fun i =>
        let e := manEntry s.upd.man i
        (entryDids s m e).contains did && !s.upd.staged.contains (i, did) && !held e
          && (tblGet s.upd.objs i []).length == e.len) with
      | some i => xferStart did 6 (manEntry s.upd.man i).ty (tblGet s.upd.objs i []) s
      | none => s

/-- Entry i has been received whole (R548): its workers get it; the root manager keeps regions of other devices (R570). -/
def partReceived (i : Nat) (s : State) : State :=
  match manParse s.upd.man with
  | none => s
  | some m =>
    let e := manEntry s.upd.man i
    let b := tblGet s.upd.objs i []
    let far := (entryDids s m e).filter (· != ownDid s)
    let s := if far ≠ [] ∧ e.ty ≤ 0x1B ∧ partIs e b then bankAdd (stageBank s) e.ty e.did b s else s
    far.foldl (fun s d => stageNext d s) s

/-! ### The session's commands (R543 to R549) -/

/-- An object's byte limit: the manifest's 128 KiB (R570), an entry's LENGTH, a lock message. -/
def objLimit (s : State) (entry : Nat) : Nat :=
  if entry = 0xFFFF then 2 ^ 17 else if entry = 0xFFFE then 2 ^ 16 else (manEntry s.upd.man entry).len

/-- A chunk of an object (R543, R544): its code. A wrong OFFSET discards it; the code of that reply is a free value. -/
def updChunk (entry off : Nat) (d : List Byte) (s : State) : State × Nat × List Byte :=
  let old := tblGet s.upd.objs entry []
  let lim := objLimit s entry
  let part := entry < 0xFFFE
  if (entry = 0xFFFF ∧ updState s ≠ 0) ∨ (part ∧ updState s ≠ 1) then (s, cSequence, [])
  else if (part ∧ manCount s.upd.man ≤ entry) ∨ 1024 < d.length then (s, cBadCommand, [])
  else if off ≠ old.length then (drawn s, freeVal s 8, [])
  else if lim < off + d.length ∨ (part ∧ d.length % 8 ≠ 0 ∧ off + d.length ≠ lim) then (s, cBadCommand, [])
  else
    let s := modUpd (fun u => { u with objs := tblSet u.objs entry (old ++ d) }) s
    (if part ∧ off + d.length = lim ∧ d ≠ [] then partReceived entry s else s, cOk, [])

/-- UPD_DATA (R543, R544, R571): a chunk; with a new SESSION while none is open, objects start afresh. -/
def execUpdData (sess : BitVec 32) (entry : Fin 65536) (off : BitVec 32) (data : List Byte) (s : State) :
    Host.Outcome State Fault Refusal :=
  done s (updMsg 1 entry sess.toNat (fun s =>
    let s := if s.upd.sess = some sess.toNat then s else modUpd (fun u => { u with sess := some sess.toNat, objs := [] }) s
    updChunk entry off.toNat data s) s)

/-- The versions of a manifest against the committed one (R547 step 3). -/
def rollbackOk (s : State) (m : Man) : Bool :=
  match committedBank s with
  | none => true
  | some b => decide (s.sag.cmtSeq < m.seq) && match bankMan s b with
    | none => true
    | some c => m.entries.all (fun e =>
        (if e.did = 0x7FF then c.entries.filter (fun o => o.ty == e.ty) else (manLists c.entries e.did e.ty).toList).all
          (fun o => decide (o.ver ≤ e.ver)))

/-- The devices of a manifest are this one and JOINED ones; in recovery this one alone (R547 step 4, R571). -/
def devicesOk (s : State) (m : Man) : Bool :=
  m.entries.all (fun e => e.did == 0x7FF || e.did == ownDid s || (!inRecovery s && memberState s e.did == 2))

/-- The checks of BEGIN up to step 4 (R547): the manifest, or the code. -/
def beginCheck (s : State) : Nat ⊕ Man :=
  let b := tblGet s.upd.objs 0xFFFF []
  match manParse b with
  | none => .inl cBadCommand
  | some m =>
    if !manSigOk s b then .inl cSignature
    else if !rollbackOk s m then .inl cGeneration
    else if !devicesOk s m then .inl cPartFailed
    else .inr m

/-- A cycle begins (R547): STAGING; the inactive bank of every named device is discarded. -/
def cycleBegin (m : Man) (s : State) : State :=
  let man := tblGet s.upd.objs 0xFFFF []
  let s := modUpd (fun u => { u with man := man, staged := [], refused := [], reported := [], failed := false,
                                     objs := u.objs.filter (fun e => e.1 == 0xFFFF || e.1 == 0xFFFE) }) s
  let s := setUpdState 1 (bump 0x00030100 (wr 0x00030010 0 (wr 0x00030008 (w32 m.seq) s)))
  let s := updProgress (bankDrop (stageBank s) s)
  ((cycleDids s m).filter (· != ownDid s)).foldl (fun s d => stageNext d s) s

/-- UPD_BEGIN (R547, R549, R552, R571). -/
def execUpdBegin (sess : BitVec 32) (s : State) : Host.Outcome State Fault Refusal :=
  done s (updMsg 2 0xFFFF sess.toNat (fun s =>
    if s.upd.uncommitted ≠ [] ∨ updState s ≠ 0 then (s, cSequence, [])
    else if s.upd.sess ≠ some sess.toNat then (s, cBadCommand, [])
    else
      match beginCheck s with
      | .inl c => (s, c, [])
      | .inr m =>
        let r := refusal s
        let s := modUpd (fun u => { u with opened := true }) s
        if r ≠ cOk then (refused r s, r, []) else (cycleBegin m s, cOk, [])) s)

/-- UPD_STATUS (R543): the reply carries UPD_STATUS, UPD_PROGRESS and UPD_FAIL. -/
def execUpdStatus (sess : BitVec 32) (entry : Fin 65536) (s : State) : Host.Outcome State Fault Refusal :=
  done s (updMsg 3 entry sess.toNat (fun s =>
    (s, cOk, beBytes 4 (updStatusWord s).toNat ++ beBytes 4 (rd s 0x0003000C).toNat ++ beBytes 4 (rd s 0x00030010).toNat)) s)

/-- An order to a worker: 1 trial start, 2 commit, 3 revert. It leaves at once, ahead of this device's own restart. -/
def orderNow (k did : Nat) (s : State) : State :=
  let f := coilHdr 6 7 15 did (ownDid s) 36 (xferWord 3 0x81 0) 0 ++ beBytes 4 k ++ List.replicate 32 0
  match coilRoute s did with
  | some l => bump (colCtr 0) (emit (.coil (linkPort s l) f) s)
  | none => bump (colCtr 4) s

/-- This device begins its trial start of a bank (R550): TRIAL is set and it warm-restarts. -/
def trialStart (bank : Nat) (s : State) : State :=
  let s := modUpd (fun u => { u with reported := [], failed := false }) s
  resetTo false 6 (wrF 0x000B0070 31 30 (2 + bank) s)

/-- Activation begins (R550, R572): every device makes a trial start. -/
def activate (s : State) : State :=
  match manParse s.upd.man with
  | none => s
  | some m =>
    let b := stageBank s
    let s := modUpd (fun u => { u with alone := inRecovery s }) (setUpdState 3 s)
    let s := ((cycleDids s m).filter (· != ownDid s)).foldl (fun s d => orderNow 1 d s) s
    trialStart b s

/-- UPD_COMMIT (R549, R550, R572). -/
def execUpdCommit (sess : BitVec 32) (s : State) : Host.Outcome State Fault Refusal :=
  done s (
    let s := updMsg 4 0xFFFF sess.toNat (fun s =>
      if updState s ≠ 2 then (s, cSequence, [])
      else
        let r := refusal s
        if r ≠ cOk then (refused r s, r, []) else (setUpdState 3 s, cOk, [])) s
    if updState s = 3 ∧ s.upd.sess = some sess.toNat ∧ rdB s 0x000B0070 31 = false then activate s else s)

/-- A session ends (R544): a staged bank is discarded, on the workers of the cycle as well. -/
def sessionEnd (s : State) : State :=
  let s := match manParse s.upd.man with
    | some m =>
      if updState s = 1 ∨ updState s = 2 then
        let far := (cycleDids s m).filter (· != ownDid s)
        let s := far.foldl (fun s d => coilSend d 6 7 (xferWord 5 0x80 0) 0 [] s) (bankDrop (stageBank s) s)
        modCol (fun c => { c with xout := c.xout.filter (fun x => x.svc != 6) }) s
      else s
    | none => s
  setUpdState 0 (modUpd (fun u => { u with sess := none, opened := false, objs := [], man := [], staged := [], refused := [] }) s)

/-- UPD_ABORT (R543, R544). -/
def execUpdAbort (sess : BitVec 32) (s : State) : Host.Outcome State Fault Refusal :=
  done s (updMsg 5 0xFFFF sess.toNat (fun s => if 3 ≤ updState s then (s, cSequence, []) else (sessionEnd s, cOk, [])) s)

/-- UPD_SESSION_TIMEOUT (R544): no message for 60 s. -/
def execUpdSessionTimeout (s : State) : Host.Outcome State Fault Refusal :=
  done s (if s.upd.sess ≠ none ∧ updState s ≤ 2 ∧ updTakes s = true then sessionEnd s else s)

/-! ### Owner lock (R553) -/

/-- A lock message is applied at this device (R553): its code. -/
def lockApply (b : List Byte) (s : State) : State × Nat :=
  let body := b.take 88
  let op := byteAt b 24
  if !(lifecycle s == 1 || lifecycle s == 2) then (s, cNotPermitted)
  else if beAt b 0 4 ≠ 0x5A47384C ∨ (op ≠ 1 ∧ op ≠ 2) ∨ beAt b 25 3 ≠ 0 ∨ b.length < 92 ∨ b.length ≠ 92 + beAt b 88 4 then (s, cBadCommand)
  else if beAt b 4 16 ≠ s.sag.uid then (s, cAuthFail)
  else if some (sha256 (slice b 28 60)) ≠ s.sag.ownerHash ∨ hssVerify (slice b 28 60) body (b.drop 92) ≠ .ok then (s, cSignature)
  else if beAt b 20 4 ≤ s.sag.lockCtr then (s, cKeyCounter)
  else
    match (if storeOpen s then commitStore (fun g => { g with ownerLock := op == 1, lockCtr := beAt b 20 4 }) s else none) with
    | none => (s, cNotPermitted)
    | some s => (raise (lfUpd 6) (wr 0x00030014 (w32 s.sag.lockCtr) (wrB 0x00030000 27 s.sag.ownerLock s)), cOk)

/-- The JOINED worker whose UID the assignment table holds as u. -/
def workerOfUid (s : State) (u : Nat) : Option Nat :=
  (List.range 2045).findSome? (fun i =>
    let k := 0x0F800000 + 0x20 * i
    let w := rd s (k + 16)
    if bit w 31 ∧ memberState s (fld w 10 0) = 2 ∧ (rdWords s k 4).foldl (fun a x => a * 2 ^ 32 + x.toNat) 0 = u then some (fld w 10 0) else none)

/-- UPD_LOCK (R553, R571): applied here, or relayed to the JOINED worker that its UID names. -/
def execUpdLock (sess : BitVec 32) (s : State) : Host.Outcome State Fault Refusal :=
  done s (updMsg 6 0xFFFE sess.toNat (fun s =>
    let b := tblGet s.upd.objs 0xFFFE []
    let s := modUpd (fun u => { u with objs := tblErase u.objs 0xFFFE }) s
    if inRecovery s then (s, cNotPermitted, [])
    else
      match (if beAt b 4 16 = s.sag.uid then none else workerOfUid s (beAt b 4 16)) with
      | some d => (xferStart d 6 0x82 b s, cOk, [])
      | none => let r := lockApply b s; (r.1, r.2, [])) s)

/-! ### Staging on the device that a part is for (R548) -/

/-- What a worker reports to its manager about an object of UPDATE (R548 to R551): a RESULT with a code and a word. -/
def updReport (obj x code : Nat) (w : Word) (s : State) : State :=
  coilSend (mgrDid s) 6 7 (xferWord 4 obj x) 0
    (beBytes 4 (2 ^ 31 + code) ++ beBytes 4 w.toNat ++ List.replicate 28 0) s

/-- The code that a worker reports for a staged part: its own refusal, if it has one (R549). -/
def stageCode (ok : Bool) (s : State) : Nat := if !ok then cPartFailed else ownRefusal s

/-- UPD_PART_STAGED on the manager or a standalone device: entry i of its own is read back (R548). -/
def stageHere (i : Nat) (ok : Bool) (s : State) : State :=
  match manParse s.upd.man with
  | none => s
  | some m =>
    let e := manEntry s.upd.man i
    let d := ownDid s
    if updState s ≠ 1 ∨ m.entries.length ≤ i ∨ (entryDids s m e).contains d = false ∨ s.upd.staged.contains (i, d) = true then s
    else
      let got := tblGet s.upd.objs i []
      match (if got.length = e.len then some got else samePart s (runBank s) d e) with
      | none => s
      | some b =>
        if ok && partIs e b then partStaged i d (bankAdd (stageBank s) e.ty e.did b s)
        else stageFail e.ty cPartFailed d (modUpd (fun u => { u with objs := tblErase u.objs i }) s)

/-- UPD_PART_STAGED on a worker: the part that its UPDATE transfer carried, or one that it copies, is read back (R548). -/
def stageWorker (i : Nat) (ok : Bool) (s : State) : State :=
  let bank := 1 - runBank s
  let man := (s.flash.getD bank {}).man
  let e := manEntry man i
  if manCount man ≤ i ∨ (e.did ≠ ownDid s ∧ e.did ≠ 0x7FF) then s
  else
    let got : Option (Nat × List Byte) := match tblFind s.col.xin 6 with
      | some x => if x.obj = e.ty ∧ e.len ≤ x.data.length then some (x.xfer, x.data.take e.len) else none
      | none => none
    match got, samePart s (runBank s) (ownDid s) e with
    | some (x, b), _ =>
      let s := modCol (fun c => { c with xin := tblErase c.xin 6 }) s
      let good := ok && partIs e b
      let s := if good then bankAdd bank e.ty e.did b s else s
      updReport e.ty x (stageCode good s) 0 s
    | none, some b =>
      let s := if ok then bankAdd bank e.ty e.did b s else s
      updReport e.ty 0 (stageCode ok s) 0 s
    | none, none => s

/-- UPD_PART_STAGED (R548, R549): entry's part has been written and read back at this device; ok: the flash holds it as it
was written, within its bank. -/
def execUpdPartStaged (entry : Fin 256) (ok : Bool) (s : State) : Host.Outcome State Fault Refusal :=
  done s (if role s = 1 ∧ inRecovery s = false then stageWorker entry ok s else stageHere entry ok s)

/-! ### The outcome of a trial (R550 to R552) -/

/-- The bank under trial, while this device runs a trial start. -/
def trialBank (s : State) : Option Nat :=
  if rdB s 0x000B0070 31 && rdB s 0x00000014 27 then some (rdF s 0x000B0070 30 30) else none

/-- The store commit of a bank (R551): SEQ, bank and manifest hash; the floors rise and TRIAL is cleared. -/
def commitBank (b : Nat) (m : Man) (s : State) : Option State :=
  let hash := sha256 (s.flash.getD b {}).man
  match (if storeOpen s then commitStore (fun g => { g with cmtSeq := m.seq, cmtBank := some b, cmtHash := hash }) s else none) with
  | none => none
  | some s => some (setUpdState 0 (setLive (lfUpd 5) false (wr 0x00030004 (w32 m.seq) (wrB 0x000B0070 31 false (setFloors s)))))

/-- The manager orders every device to revert and restarts from its own old bank (R551); w is the failure that it shows. -/
def revertAll (w : Word) (s : State) : State :=
  match trialBank s with
  | none => s
  | some b =>
    let others := if s.upd.alone then [] else otherDids s b
    let s := others.foldl (fun s d => orderNow 3 d s) (setUpdState 4 s)
    trialBack w (bankDrop b (modUpd (fun u => { u with toRevert := others }) s))

/-- The commit point, once every device has reported success (R551). -/
def commitPoint (s : State) : State :=
  match trialBank s with
  | none => s
  | some b =>
    match bankMan s b with
    | none => s
    | some m =>
      let others := if s.upd.alone then [] else otherDids s b
      if !(ownDid s :: others).all s.upd.reported.contains then s
      else
        match commitBank b m s with
        | none => revertAll (failWord 0x40 cPartFailed (ownDid s)) s
        | some s =>
          let s := modUpd (fun u => { u with uncommitted := others, reported := [], sess := none, opened := false, alone := false, objs := [] }) s
          let s := others.foldl (fun s d => orderNow 2 d s) s
          let s := raise (lfUpd 3) (bump 0x00030110 s)
          if others = [] then s else raiseLive (lfUpd 7) s

/-- The trial start of this device has succeeded (R550). -/
def trialGood (s : State) : Bool :=
  (trialBank s).isSome && rdF s 0x00000014 31 29 == 3 && rd s 0x00000018 == 0 && managerReached s

/-- TRIAL_REPORT (R550, R551): this device's own start has succeeded, or the report of a worker has arrived. -/
def execTrialReport (did : Fin 2048) (s : State) : Host.Outcome State Fault Refusal :=
  done s (
    if did.val = ownDid s then
      if !trialGood s then s
      else if role s = 1 ∧ s.upd.alone = false then setUpdState 5 (updReport 0x81 0 cOk 0 s)
      else commitPoint (modUpd (fun u => { u with reported := u.reported.filter (· != did.val) ++ [did.val] }) s)
    else
      match inboxTake (fun f => f.svc == 6 && f.src == did.val && frOp f == 4 && frObj f == 0x81) s with
      | none => s
      | some (f, s) =>
        if byteAt f.data 3 = cOk then commitPoint (modUpd (fun u => { u with reported := u.reported.filter (· != did.val) ++ [did.val] }) s)
        else revertAll (w32 (beAt f.data 4 4)) s)

/-- TRIAL_TIMEOUT (R550, R551): 10 s have passed without the success of a device: the manager orders reversion; a worker that
reaches its manager fails its own trial. -/
def execTrialTimeout (did : Fin 2048) (s : State) : Host.Outcome State Fault Refusal :=
  done s (
    if (trialBank s).isNone ∨ s.upd.reported.contains did.val = true then s
    else if role s = 1 ∧ s.upd.alone = false then
      if did.val = ownDid s ∧ trialGood s = false ∧ managerReached s = true then trialFail s else s
    else revertAll (failWord 0x40 cPartFailed did) s)

/-- An order of the manager that waits: 2 commit, 3 revert. -/
def takeOrder (k : Nat) (s : State) : Option (CoilFrame × State) :=
  inboxTake (fun f => f.svc == 6 && frOp f == 3 && frObj f == 0x81 && beAt f.data 0 4 == k && f.src == mgrDid s && f.src != 0) s

/-- COMMIT_ORDER (R551, R552): a worker commits its bank under trial; one that runs its old bank commits the staged bank and
warm-restarts onto it. -/
def execCommitOrder (s : State) : Host.Outcome State Fault Refusal :=
  done s (match takeOrder 2 s with
    | none => s
    | some (_, s) =>
      let onTrial := rdB s 0x000B0070 31
      let b := if onTrial then rdF s 0x000B0070 30 30 else 1 - runBank s
      if !onTrial && s.sag.cmtBank == some (runBank s) && (bankMan s b).isNone then updReport 0x83 0 cOk 0 s
      else
        match bankMan s b with
        | none => s
        | some m =>
          if !onTrial && s.sag.cmtBank == some (runBank s) && decide (m.seq ≤ s.sag.cmtSeq) then updReport 0x83 0 cOk 0 s
          else
            match commitBank b m s with
            | none => s
            | some s =>
              let s := raise (lfUpd 3) (updReport 0x83 0 cOk 0 s)
              if onTrial then s else resetTo false 6 s)

/-- REVERT_ORDER (R551): a worker discards its staged bank, and restarts from its old one where it runs a trial. -/
def execRevertOrder (s : State) : Host.Outcome State Fault Refusal :=
  done s (match takeOrder 3 s with
    | none => s
    | some (_, s) =>
      if rdB s 0x000B0070 31 then
        trialBack (failWord 0x40 cPartFailed (ownDid s)) (bankDrop (rdF s 0x000B0070 30 30) (setUpdState 4 s))
      else bankDrop (1 - runBank s) s)

/-! ### Rejoining workers (R551, R552) -/

/-- A worker that joins again receives the order that it still owes (R551, R552). -/
def updRejoin (did : Nat) (s : State) : State :=
  let order (k : Nat) (s : State) : State :=
    coilSend did 6 7 (xferWord 3 0x81 0) 0 (beBytes 4 k ++ List.replicate 32 0) s
  if s.upd.uncommitted.contains did then order 2 s
  else if s.upd.toRevert.contains did then order 3 (modUpd (fun u => { u with toRevert := u.toRevert.filter (· != did) }) s)
  else s

/-- A worker's RESULT about an object of UPDATE (R548, R549, R551, R552). -/
def updResult (did obj x code : Nat) (s : State) : State :=
  let s := modCol (fun c => { c with xout := c.xout.filter (fun y => !(y.did == did && y.svc == 6 && y.xfer / 2 == x / 2)) }) s
  if obj = 0x83 then
    let s := modUpd (fun u => { u with uncommitted := u.uncommitted.filter (· != did) }) s
    setLive (lfUpd 7) (!s.upd.uncommitted.isEmpty) s
  else if updState s ≠ 1 then s
  else
    let good := code == cOk || code == cRefBattery || code == cRefOwnerLock
    let s := if good && code != cOk then modUpd (fun u => { u with refused := tblSet u.refused did code }) s
      else if good then modUpd (fun u => { u with refused := tblErase u.refused did }) s else s
    if obj = 0x80 then
      if good then stageNext did (modUpd (fun u => { u with staged := u.staged ++ [(0xFFFF, did)] }) s) else stageFail 0x40 code did s
    else
      let n := manCount s.upd.man
      match (List.range n).find? (fun i =>
        let e := manEntry s.upd.man i
        e.ty == obj && (e.did == did || e.did == 0x7FF)) with
      | none => s
      | some i =>
        if good then stageNext did (partStaged i did s)
        else stageFail obj cPartFailed did (modUpd (fun u => { u with objs := tblErase u.objs i }) s)

end Sys2Proof.Machine
end

