-- ==== Sys2Proof/Machine/Coil.lean ====
section
/-! DEFINITION. Sys2Proof/Machine/Coil.lean: the Coil's commands (R477 to R504): frames, discovery and joining, transfers, the
time relay, remote events. -/

namespace Sys2Proof.Machine
open Sys2Proof

/-! ### HELLO (R481, R490, R492, R494) -/

/-- A DISCOVERY payload (R494). -/
def discovery (uid did w : Nat) (tail : List Byte) : List Byte :=
  padTo (beBytes 16 uid ++ beBytes 2 did ++ beBytes 2 w ++ tail) 32 0

/-- A DISCOVERY frame: link-local, to DID 0x7FF (R478, R485). -/
def discoveryFrame (s : State) (op : Nat) (payload : List Byte) : List Byte :=
  coilHdr 3 7 15 0x7FF (ownDid s) payload.length (op * 2 ^ 24) 0 ++ payload

/-- This device's HELLO. -/
def helloFrame (s : State) : List Byte :=
  discoveryFrame s 1 (discovery s.sag.uid (ownDid s) (rdF s 0 31 16) [])

/-- The address that a HELLO of a bootstrap link goes to (R492). -/
def bootGroup : List Byte := beBytes 6 0x03005A473843

/-- The ports on which a worker in bootstrap mode sends HELLO: every enabled port that is up, or the provisional uplink alone. -/
def bootPorts (s : State) : List Nat :=
  match coilProv s with
  | some n => [n]
  | none => (List.range 24).filter (fun n => rdF s (macBase n) 31 28 != 0 && linkUp s n)

/-- COIL_HELLO_TIMER (R481, R490, R492): a HELLO leaves on every link of region 26 whose port is up; before region 26 on the
bootstrap links of a worker. -/
def execCoilHelloTimer (s : State) : Host.Outcome State Fault Refusal :=
  done s (
    if role s = 1 ∧ regionApplied s 26 = false then
      (bootPorts s).foldl (fun s n => coilOnPort 0 n 7 bootGroup [] 0x88B5 (helloFrame s) s) s
    else
      ((linksOf s).filter (fun l => linkUp s (linkPort s l) && linkState s l != 3)).foldl
        (fun s l => coilOnLink l 7 (helloFrame s) s) s)

/-! ### Arrival (R480 to R485, R492, R493) -/

/-- A frame is terminated here; DATA and ROUTER frames keep their cells. -/
def coilKeep (f : CoilFrame) (pid : Nat) (s : State) : State :=
  let hold := f.svc == 0 || f.svc == 1
  let s := if hold then s else shfUnref pid s
  if f.svc = 2 ∧ (brgParse f.data).isNone then bump (brgCtr 9) s
  else modCol (fun c => { c with inbox := c.inbox ++ [{ f with pid := if hold then pid else 0 }] }) s

/-- The bridge transaction of a transit frame after its residence: none where its budget is spent (R460). -/
def brgAged (res : Nat) (t : BrgTx) : Option BrgTx :=
  if !brgNonPosted t.ty then some t
  else if t.budget ≤ res then none
  else some { t with budget := t.budget - res }

/-- A frame passes through (R484): TTL, route, TRANSIT; a bridge transaction that cannot pass is answered or reported. -/
def coilTransit (f : CoilFrame) (res : Nat) (s : State) : State :=
  if f.ttl = 0 then bump (colCtr 3) s
  else
    let tx := if f.svc = 2 then brgParse f.data else none
    match tx.map (brgAged res) with
    | some none => s
    | aged =>
      let data := match aged with
        | some (some t) => brgBytes t
        | _ => f.data
      let s' := coilToward f.dst f.cls
        (coilHdr f.svc f.cls (f.ttl - 1) f.dst f.src data.length f.wa f.wb ++ data) s
      match hopBad s f.dst data.length with
      | none => bump (colCtr 2) s'
      | some c =>
        match aged with
        | some (some t) => brgLost t c s'
        | _ => s'

/-- COIL_FRAME_RX (R480, R483 to R485, R492, R493): the oldest received Coil frame is terminated, transited or discarded;
res is its residence in µs, rounded up. -/
def coilFrameRx (res : Nat) (s : State) : State :=
  match s.col.rx with
  | [] => s
  | p :: rest =>
    let s := modCol (fun c => { c with rx := rest }) s
    let drop := shfUnref p.pid s
    match coilParse s (p.ingress % 256 - 128) p with
    | none => bump (colCtr 5) drop
    | some f =>
      let closed := match f.link with
        | some l => linkState s l == 3
        | none => f.svc != 3 && f.svc != 5 && f.svc != 6
      let own := ownDid s
      if closed then drop
      else
        let drop := bump (colCtr 1) drop
        let s := bump (colCtr 1) s
        let o := coilOff p.bytes
        if byteAt p.bytes o / 16 ≠ 1 ∨ 6 < f.svc ∨ f.dst = 0 ∨ (f.dst = 0x7FF ∧ f.svc ≠ 3) then bump (colCtr 5) drop
        else if own ≠ 0 ∧ f.src = own then raise (lfCol 5) (bump (colCtr 8) drop)
        else if f.svc = 3 ∨ f.dst = own then coilKeep f p.pid s
        else coilTransit f res drop

/-- COIL_FRAME_RX. -/
def execCoilFrameRx (res : Nat) (s : State) : Host.Outcome State Fault Refusal := done s (shfSettle (coilFrameRx res s))

/-- COIL_DATA_RX (R487): the oldest terminated DATA frame enters pipeline 1 at GPN 156. -/
def execCoilDataRx (s : State) : Host.Outcome State Fault Refusal :=
  done s (match inboxTake (fun f => f.svc == 0) s with
    | none => s
    | some (f, s) =>
      let g := f.wa % 256
      let mode := f.wa / 2 ^ 30
      let p : Pkt := { bytes := f.data, ingress := 156, cls := f.cls, ts := f.ts, pid := f.pid, orig := some (f.wb % 2 ^ 19), ttl := f.ttl }
      let p := match mode with
        | 0 => p
        | 1 => { p with direct := some (if (128 ≤ g ∧ g ≤ 152) ∨ g = 155 then g else 157, 8) }
        | 2 => { p with group := some (f.wa % 2 ^ 12) }
        | _ => { p with direct := some (157, 8) }
      shfSettle (ingAppend 156 p (shfRetain p s)))

/-- COIL_ROUTER_RX (R488): the oldest terminated ROUTER frame goes to a flexport's queue or is handed in at GPN 155. -/
def execCoilRouterRx (s : State) : Host.Outcome State Fault Refusal :=
  done s (match inboxTake (fun f => f.svc == 1) s with
    | none => s
    | some (f, s) =>
      let s := shfUnref f.pid s
      let q := f.wa / 2 ^ 24 % 8
      let g := f.wa % 256
      match mehryrParse f.data 0x300 (beAt f.data 8 8) 0 f.data.length with
      | none => bump (colCtr 5) s
      | some (it, _) =>
        let fmt := if it.kind = 1 then 3 else if it.fdf then (if it.brs then 2 else 1) else 0
        let o : OutFrame := { kind := it.kind, ext := it.ext, id := it.id, fmt := fmt, data := it.data, rtr := it.rtr, dlc := it.dlc,
                              sdt := it.sdt, af := it.af, sec := it.sec, ts := it.ts, src := it.src }
        if g < 128 ∨ g = 155 then nmwSettle (shfSettle (deliver (srtBank s) g q o none s)) else bump (srtCtr 17) s)

/-! ### Discovery and joining (R491 to R495) -/

/-- The valid assignment entry that holds a UID: its link and DID (R504). -/
def assignFind (s : State) (uid : Nat) : Option (Nat × Nat) :=
  (List.range 2045).findSome? (fun i =>
    let k := 0x0F800000 + 0x20 * i
    let w := rd s (k + 16)
    if bit w 31 ∧ (rdWords s k 4).foldl (fun a x => a * 2 ^ 32 + x.toNat) 0 = uid then some (fld w 18 16, fld w 10 0) else none)

/-- The member-state window of a worker (R504). -/
def setMember (d st l gen uid : Nat) (s : State) : State :=
  wrWords (memberKey d) [w32 (st * 2 ^ 30 + l * 2 ^ 16), w32 gen, w32 (uid / 2 ^ 96), w32 (uid / 2 ^ 64)] s

/-- A manager answers an unassigned HELLO (R491, R492). -/
def helloUnassigned (l uid : Nat) (smac : List Byte) (s : State) : State :=
  match assignFind s uid with
  | none => raise (lfCol 4) (bump (colCtr 7) s)
  | some (l', d) =>
    if l' ≠ l then bump (colCtr 7) s
    else
      let depth := rdF s 0x00090004 28 25 + 1
      let s := setMember d 1 l 0 uid (modCol (fun c => { c with boot := tblSet c.boot l smac }) s)
      coilOnLink l 7 (discoveryFrame s 2 (discovery uid d (ownDid s) [b8 depth])) s

/-- A worker that was JOINED is so again (R495, R499, R552). -/
def memberBack (l uid d : Nat) (s : State) : State :=
  if assignFind s uid = some (l, d) ∧ memberState s d ≠ 2 then
    let s := coilLive (wrB 0x00000004 31 true (setMember d 2 l ((rd s (memberKey d + 4)).toNat) uid s))
    configStart d (updRejoin d s)
  else s

/-- HELLO_RX (R481, R491 to R495, R552). -/
def execHelloRx (s : State) : Host.Outcome State Fault Refusal :=
  done s (match inboxTake (fun f => f.svc == 3 && frOp f == 1) s with
    | none => s
    | some (f, s) =>
      let uid := beAt f.data 0 16
      let d := beAt f.data 16 2 % 2048
      match f.link with
      | none => s
      | some l =>
        if d ≠ 0 ∧ d = ownDid s ∧ uid ≠ s.sag.uid then raise (lfCol 5) (bump (colCtr 8) s)
        else if d = 0 then (if role s = 0 then s else shfSettle (helloUnassigned l uid f.smac s))
        else
          let s := if f.dmac = bootGroup then s else modCol (fun c => { c with boot := tblErase c.boot l }) s
          let s := coilLinkUp l d s
          shfSettle (if bit (rd s (colLink l 0)) 30 then s else memberBack l uid d s))

/-- A worker whose trial start has failed reports it once it reaches its manager again (R550). -/
def failedReport (s : State) : State :=
  if s.upd.failed then
    updReport 0x81 0 cPartFailed (rd s 0x00030010) { s with upd := { s.upd with failed := false } }
  else s

/-- ASSIGN_RX (R477, R491, R492): an unassigned worker takes its DID and answers JOIN. -/
def execAssignRx (s : State) : Host.Outcome State Fault Refusal :=
  done s (match inboxTake (fun f => f.svc == 3 && frOp f == 2) s with
    | none => s
    | some (f, s) =>
      if role s ≠ 1 ∨ rdF s 0x00000004 13 12 ≠ 0 ∨ beAt f.data 0 16 ≠ s.sag.uid then s
      else
        let s := wrF 0x00000004 13 0 (0x2000 + beAt f.data 16 2 % 2048) s
        let s := wrF 0x00090004 28 25 (byteAt f.data 20) (wrF 0x00090004 10 0 (beAt f.data 18 2) s)
        let s := setFloors (modCol (fun c => { c with prov := some f.port, asgMac := f.smac }) s)
        let join := discoveryFrame s 3 (discovery s.sag.uid (ownDid s) 0 (beBytes 4 (rd s (activeGen 0)).toNat))
        shfSettle (failedReport (coilOnPort 0 f.port 7 f.smac [] 0x88B5 join s)))

/-- JOIN_RX (R491, R499): the manager marks the worker JOINED and starts its configuration. -/
def execJoinRx (s : State) : Host.Outcome State Fault Refusal :=
  done s (match inboxTake (fun f => f.svc == 3 && frOp f == 3) s with
    | none => s
    | some (f, s) =>
      let uid := beAt f.data 0 16
      let d := beAt f.data 16 2 % 2048
      match f.link with
      | none => s
      | some l =>
        if assignFind s uid = some (l, d) ∧ memberState s d = 1 then
          let s := coilLinkUp l d s
          let s := raise (lfCol 2) (wrB 0x00000004 31 true (setMember d 2 l (beAt f.data 20 4) uid s))
          let s := modCol (fun c => { c with given := c.given.filter (fun e => e.1 / 32 != d) }) s
          shfSettle (configStart d (updRejoin d (coilLive s)))
        else s)

/-! ### Transfers (R498 to R500) -/

/-- A frame comes from a device that may configure this one: the root manager or its own manager (R498). -/
def fromManager (s : State) (f : CoilFrame) : Bool := role s == 1 && f.src != 0 && (f.src == 1 || f.src == mgrDid s)

/-- An ACK: the next byte expected, and BUSY (R498). -/
def xferAck (f : CoilFrame) (off : Nat) (busy : Bool) (s : State) : State :=
  coilSend f.src f.svc 7 (xferWord 2 (frObj f) (frXfer f / 2 * 2 + b2n busy)) off [] s

/-- The manifest that an UPDATE transfer has brought is whole: the worker's inactive bank is discarded, and the manifest
verified and kept (R547, R548). -/
def updManifest (x : XferIn) (s : State) : State :=
  let n := manCount x.data
  let len := 96 + 48 * n + beAt x.data (92 + 48 * n) 4
  if x.data.length < 96 + 48 * n ∨ x.data.length < len then s
  else
    let man := x.data.take len
    let b := 1 - runBank s
    let s := modCol (fun c => { c with xin := tblErase c.xin 6 }) s
    let ok := (manVerified s man).isSome
    let s := if ok then setBank b { man := man } s else s
    updReport 0x80 x.xfer (stageCode ok s) 0 s

/-- A lock message that the manager relays is whole (R553). -/
def updLockMsg (x : XferIn) (s : State) : State :=
  if x.data.length < 92 ∨ x.data.length < 92 + beAt x.data 88 4 then s
  else
    let r := lockApply (x.data.take (92 + beAt x.data 88 4)) (modCol (fun c => { c with xin := tblErase c.xin 6 }) s)
    updReport 0x82 x.xfer r.2 0 r.1

/-- What an object received so far amounts to: the manifest copy and the load buffer of CONFIG (R49, R50), objects of UPDATE. -/
def xferTake (x : XferIn) (s : State) : State :=
  if x.svc = 5 then
    if x.obj = 0x80 then
      let n := manCount x.data
      let len := 96 + 48 * n + beAt x.data (92 + 48 * n) 4
      if x.data.length < 96 + 48 * n ∨ x.data.length < len then s
      else { (modCol (fun c => { c with xin := tblErase c.xin 5 }) s) with cfg := { s.cfg with man := x.data.take len } }
    else { s with cfg := { s.cfg with buf := some (x.obj, x.data) } }
  else if x.obj = 0x80 then updManifest x s
  else if x.obj = 0x82 then updLockMsg x s
  else s

/-- XFER_DATA_RX (R498, R500): a chunk is acknowledged, or refused as BUSY while another transfer is open. -/
def execXferDataRx (s : State) : Host.Outcome State Fault Refusal :=
  done s (match inboxTake (fun f => (f.svc == 5 || f.svc == 6) && frOp f == 1) s with
    | none => s
    | some (f, s) =>
      if !fromManager s f then s
      else
        let new : XferIn := { svc := f.svc, obj := frObj f, xfer := frXfer f, src := f.src }
        let x := (tblFind s.col.xin f.svc).getD new
        let loading := f.svc == 5 && s.col.cmd.isSome
        shfSettle (if x.xfer ≠ frXfer f || x.src ≠ f.src || x.obj ≠ frObj f then xferAck f 0 true s
          else if loading = true ∨ f.wb ≠ x.data.length ∨ f.data.length = 0 ∨ f.data.length % 8 ≠ 0 ∨ 1024 < f.data.length then
            xferAck f x.data.length false (modCol (fun c => { c with xin := tblSet c.xin f.svc x }) s)
          else
            let x := { x with data := x.data ++ f.data }
            xferTake x (xferAck f x.data.length false (modCol (fun c => { c with xin := tblSet c.xin f.svc x }) s))))

/-- XFER_ACK_RX (R498): an ACK frees chunks; BUSY makes the transfer wait. -/
def execXferAckRx (s : State) : Host.Outcome State Fault Refusal :=
  done s (match inboxTake (fun f => (f.svc == 5 || f.svc == 6) && frOp f == 2) s with
    | none => s
    | some (f, s) =>
      match s.col.xout.find? (fun x => x.did == f.src && x.svc == f.svc && x.xfer / 2 == frXfer f / 2) with
      | none => s
      | some x =>
        shfSettle (if f.wa % 2 = 1 then setXout { x with busy := true, sent := x.acked, sends := 0 } s
          else if x.acked < f.wb ∧ f.wb ≤ x.sent then
            let x := { x with acked := f.wb, sends := 1 }
            if f.wb = x.data.length then
              if x.svc = 5 then configSent x (xferEnd x s) else setXout x s
            else xferPump 64 x s
          else s))

/-- XFER_COMMAND_RX (R498, R499, R550): a COMMAND of the manager runs in CFG slot 3; an order of UPDATE starts a trial. -/
def execXferCommandRx (s : State) : Host.Outcome State Fault Refusal :=
  done s (match inboxTake (fun f => (f.svc == 5 || (f.svc == 6 && beAt f.data 0 4 == 1)) && frOp f == 3) s with
    | none => s
    | some (f, s) =>
      if !fromManager s f then s
      else if f.svc = 6 then
        if (bankMan s (1 - runBank s)).isSome then trialStart (1 - runBank s) s else s
      else
        let cmd := beAt f.data 0 4
        let b := cfgSlot 3
        if slotPending s b then slotReject b s
        else
          let s := wrWords (b + 4) ((List.range 8).map (fun k => w32 (beAt f.data (4 + 4 * k) 4))) s
          let s := modCol (fun c => { c with cmd := some (frObj f, frXfer f, f.src) }) s
          let r := cmd / 2 ^ 8 % 32
          let src := cmd / 2 ^ 16 % 4
          shfSettle (coilResult (match cmd % 256 with
            | 1 => cfgAccept 3 .manager { region := r, src := src } (decide (27 < r) || srcBad s src)
                (fun s => cfgNext (s.cfg.queue.length + 1) s) s
            | 2 => cfgAccept 3 .manager { swap := true, region := r } (decide (27 < r)) (swapRun r) s
            | 3 => slotCommand b true (fun s =>
                if 1 < src then slotResult b cBadCommand [] s
                else resetTo false 6 { s with boot := { s.boot with src := some src } }) s
            | _ => slotRun b true (fun s => (s, cBadCommand, [])) s)))

/-- XFER_RESULT_RX (R498, R499, R548, R551): the manager goes on with the next region, or notes what a worker has staged. -/
def execXferResultRx (s : State) : Host.Outcome State Fault Refusal :=
  done s (match inboxTake (fun f => (f.svc == 5 || (f.svc == 6 && frObj f != 0x81)) && frOp f == 4) s with
    | none => s
    | some (f, s) =>
      if memberState s f.src ≠ 2 then s
      else shfSettle (if f.svc = 5 then configResult f.src (frObj f) f.data s
        else updResult f.src (frObj f) (frXfer f) (byteAt f.data 3) s))

/-- XFER_ABORT_RX (R498, R544): a transfer ends; an ABORT about the update's manifest discards the staged bank. -/
def execXferAbortRx (s : State) : Host.Outcome State Fault Refusal :=
  done s (match inboxTake (fun f => (f.svc == 5 || f.svc == 6) && frOp f == 5) s with
    | none => s
    | some (f, s) =>
      if !fromManager s f then s
      else
        let s := match tblFind s.col.xin f.svc with
          | some x => if x.src = f.src ∧ (x.xfer = frXfer f ∨ frXfer f = 0) then modCol (fun c => { c with xin := tblErase c.xin f.svc }) s else s
          | none => s
        if f.svc = 6 ∧ frObj f = 0x80 ∧ frXfer f = 0 ∧ rdB s 0x000B0070 31 = false then bankDrop (1 - runBank s) s else s)

/-- XFER_RETX_TIMEOUT (R498, R548): transfer x has chunks unacknowledged for 1 ms: they are sent again, or after eight sends
of the oldest the transfer is abandoned. -/
def execXferRetxTimeout (x : Fin 65536) (s : State) : Host.Outcome State Fault Refusal :=
  done s (match s.col.xout.find? (fun y => y.xfer == x.val) with
    | none => s
    | some y =>
      if y.sent ≤ y.acked then s
      else if 8 ≤ y.sends then
        let s := coilSend y.did y.svc 7 (xferWord 5 y.obj y.xfer) 0 [] (raise (lfCol 6) (xferEnd y s))
        shfSettle (if y.svc = 5 then modCol (fun c => { c with prog := tblErase c.prog y.did }) s
          else stageFail (if y.obj = 0x80 then 0x40 else y.obj) cPartFailed y.did s)
      else
        let n := (y.sent - y.acked + 1023) / 1024
        let s := forN n 0 (fun k s => xferChunk y (y.acked + 1024 * k) s) (bumpN (colCtr 10) n s)
        shfSettle (setXout { y with sends := y.sends + 1 } s))

/-! ### Time relay (R501) -/

/-- The next SEQ of a link, and the state after it. -/
def timeSeq (l : Nat) (s : State) : Nat × State :=
  let q := padTo s.col.seq 8 0
  (q.getD l 0, modCol (fun c => { c with seq := setAt q l ((q.getD l 0 + 1) % 2 ^ 16) }) s)

/-- A TIME frame to the peer of a link (R483, R501); op is what the egress MAC inserts. -/
def timeSend (op l ty : Nat) (domB : Bool) (seq : Nat) (payload : List Byte) (s : State) : State :=
  coilOnLinkOp op l 7 (coilHdr 4 7 15 (rdF s (colLink l 12) 10 0) (ownDid s) payload.length (ty * 2 ^ 24 + b2n domB * 2 ^ 8) seq
    ++ payload) s

/-- A domain is enabled. -/
def domEnabled (s : State) (d : Bool) : Bool := rdB s (if d then 0x00060044 else 0x00060040) 31

/-- A SYNC leaves downward on a link (R501); gm is the grandmasterIdentity that Kiln firmware holds for the domain. -/
def syncSend (l : Nat) (d : Bool) (gm : Nat) (s : State) : State :=
  if domEnabled s d then
    let (q, s) := timeSeq l s
    let st := if d then fld (rd s 0x00060010) 9 8 else fld (rd s 0x00060010) 1 0
    timeSend (if d then 2 else 1) l 1 d q
      (List.replicate 12 0 ++ beBytes 4 (unsigned 32 (rateOf s d)) ++ beBytes 8 gm ++ [b8 st]) s
  else s

/-- TIME_RELAY_TIMER (R501): 0 a SYNC of domain A, 1 of domain B, downward on a link; 2 a PDELAY_REQ upward. -/
def execTimeRelayTimer (link : Fin 8) (what : Fin 3) (gm : BitVec 64) (s : State) : Host.Outcome State Fault Refusal :=
  done s (
    let l := link.val
    if linkState s l ≠ 2 then s
    else
      let up := bit (rd s (colLink l 0)) 30
      shfSettle (match what.val, up with
        | 0, false => syncSend l false gm.toNat s
        | 1, false => syncSend l true gm.toNat s
        | 2, true => let r := timeSeq l s; timeSend 4 l 2 false r.1 [] r.2
        | _, _ => s))

/-- SYNC_RX (R501): a relayed SYNC from the uplink drives a domain's servo. Its arithmetic is Kiln firmware's: rate is the
RATE that it sets, good says that the servo is locked, and step that it sets the domain clock to the SYNC's time and the link
delay. The frame arrived age ns before. -/
def execSyncRx (rate : Word) (step good : Bool) (age : Nat) (s : State) : Host.Outcome State Fault Refusal :=
  done s (match inboxTake (fun f => f.svc == 4 && frOp f == 1) s with
    | none => s
    | some (f, s) =>
      let d := nbit f.wa 8
      match f.link with
      | none => s
      | some l =>
        if !bit (rd s (colLink l 0)) 30 || !domEnabled s d then s
        else
          let gm := beAt f.data 16 8
          let i := b2n d
          let moved := match tblFind s.col.gm i with
            | some g => g != gm
            | none => false
          let v := clampI (-549755814) 549755814 (signed 32 rate.toNat)
          let s := wr (if d then 0x00060070 else 0x00060050) (w32 (unsigned 32 v)) (modCol (fun c => { c with gm := tblSet c.gm i gm }) s)
          let s := if v ≠ signed 32 rate.toNat then raise (lfTim 5) s else s
          let t := ((beAt f.data 0 6 * 10 ^ 9 + beAt f.data 6 4) * 2 ^ 32 + beAt f.data 10 2 * 2 ^ 16
            + ((tblGet s.col.pdelay l {}).delay + age) * unitsPerNs) % clkWrap
          let s := if step then { s with tim := if d then { s.tim with domB := t } else { s.tim with domA := t } } else s
          domainState d (if good && !moved && byteAt f.data 24 == 2 then 2 else 1) s)

/-- COIL_SYNC_TIMEOUT (R501): no SYNC of a domain for three intervals: it leaves LOCKED. -/
def execCoilSyncTimeout (domB : Bool) (s : State) : Host.Outcome State Fault Refusal :=
  done s (if (uplink s).isSome ∧ domLocked s domB = true then domainState domB 0 s else s)

/-- PDELAY_REQ_RX (R501): answered with the request's receipt time; the egress MAC inserts the response's departure. -/
def execPdelayReqRx (s : State) : Host.Outcome State Fault Refusal :=
  done s (match inboxTake (fun f => f.svc == 4 && frOp f == 2) s with
    | none => s
    | some (f, s) =>
      match f.link with
      | none => s
      | some l => shfSettle (timeSend 3 l 3 false (f.wb % 2 ^ 16) (beBytes 8 f.ts ++ List.replicate 8 0) s))

/-- A TS64 in nanoseconds. -/
def tsNs (t : Nat) : Int := (t / 2 ^ 32 * 10 ^ 9 + t % 2 ^ 32 : Nat)

/-- PDELAY_RESP_RX (R501): the link delay is ((t4 − t1) − (t3 − t2)) / 2. -/
def execPdelayRespRx (s : State) : Host.Outcome State Fault Refusal :=
  done s (match inboxTake (fun f => f.svc == 4 && frOp f == 3) s with
    | none => s
    | some (f, s) =>
      match f.link with
      | none => s
      | some l =>
        match (tblGet s.col.pdelay l {}).t1 with
        | none => s
        | some t1 =>
          let d := ((tsNs f.ts - tsNs t1) - (tsNs (beAt f.data 8 8) - tsNs (beAt f.data 0 8))).tdiv 2
          modCol (fun c => { c with pdelay := tblSet c.pdelay l { t1 := none, delay := d.toNat } }) s)

/-! ### Remote events (R503) -/

/-- COL_REVT_POP (R503, R504): the head of the remote-event FIFO is removed. -/
def execColRevtPop (req : Requester) (s : State) : Host.Outcome State Fault Refusal :=
  done s (regCmd req (hostOrKiln req) 0x00090310 (fun s => revtSync (modCol (fun c => { c with revt := c.revt.drop 1 }) s)) s)

end Sys2Proof.Machine
end

