-- ==== Sys2Proof/Machine/Units.lean ====
section
/-! DEFINITION. Sys2Proof/Machine/Units.lean: the unit-descriptor table (R17 to R21, R497). -/

namespace Sys2Proof.Machine
open Sys2Proof

/-- A reference to a descriptor of a device; none is DID 0 with number 0xFFFF (R18). -/
def unitRef (did k : Nat) : Nat := did * 2 ^ 16 + k
def unitNone : Nat := 0xFFFF

/-- The direct workers of this manager, in ascending DID (R497). -/
def workers (s : State) : List Nat :=
  (List.range 2048).filter (fun d => decide (2 ≤ memberState s d))

/-- A run of the numbering table of R20: its first number, how many units, LEVEL and TYPE, the descriptor of the parent, and
the first register block with the distance to the next (0 where the units have none). -/
structure UnitRun where
  first : Nat
  count : Nat
  level : Nat
  ty : Nat
  parent : Nat
  base : Nat := 0
  stride : Nat := 0
  deriving DecidableEq, Repr

/-- The cells of R20. -/
def cellRuns : List UnitRun := [
  { first := 160, count := 24, level := 0, ty := 0x21, parent := 18, base := 0x00180000, stride := 0x2000 },
  { first := 184, count := 1, level := 0, ty := 0x23, parent := 20, base := 0x001B0000 },
  { first := 185, count := 8, level := 0, ty := 0x31, parent := 21 },
  { first := 193, count := 64, level := 0, ty := 0x41, parent := 22, base := 0x00381000, stride := 0x40 },
  { first := 257, count := 96, level := 0, ty := 0x51, parent := 23, base := 0x00061000, stride := 0x40 },
  { first := 353, count := 15, level := 0, ty := 0x61, parent := 24 } ]

/-- The register blocks of the engines, in the order of R20. -/
def engineBases : List Nat :=
  [0x00200000, 0x00240000, 0x00280000, 0x00300000, 0x00380000, 0x00400000, 0x00480000, 0x00050000, 0x00040000, 0x00060000,
   0x00020000, 0x00010000, 0x00080000, 0x00090000, 0x000A0000]

/-- First child and number of children of clusters 18 to 24; the first four Ethernet ports are the broad ones (R157). -/
def clusterKids : List (Nat × Nat × Nat × Nat) :=
  [(0x20, 0, 160, 4), (0x20, 1, 164, 20), (0x22, 0, 184, 1), (0x30, 0, 185, 8), (0x40, 0, 193, 64), (0x50, 0, 257, 96), (0x60, 0, 353, 15)]

/-- A descriptor's eight words. -/
def unitWords (level ty index parent child sib count flags spn base cap : Nat) : List Nat :=
  [level * 2 ^ 28 + ty * 2 ^ 16 + index, parent, child, sib, count * 2 ^ 16 + flags, spn, base, cap]

/-- The descriptor of device 0 or of the group that this device manages (R20, R497). -/
def topWords (s : State) (k : Nat) : List Nat :=
  let m := mgrDid s
  let up := if m = 0 then unitNone else unitRef m 1
  let group := bit (rd s 0x00000004) 31
  let next := if m = 0 then unitNone else Config.nextSibling (ownDid s) % 2 ^ 32
  if k = 0 then
    unitWords 2 1 0 up (unitRef 0 2) (if group ∧ m ≠ 0 then unitRef 0 1 else next) 23 0 0 0 (Config.unitCap 0 % 2 ^ 32)
  else if group then
    let ws := workers s
    unitWords 3 2 0 up (match ws with
      | d :: _ => unitRef d 0
      | [] => unitNone) next (ws.length + (ws.filter Config.subManager).length) 0 0 0 (Config.unitCap 1 % 2 ^ 32)
  else [0xF0000000, 0, 0, 0, 0, 0, 0, 0]

/-- The words of descriptor k once region 0 has been applied (R19, R20). -/
def descWords (s : State) (k : Nat) : List Nat :=
  let cap := Config.unitCap k % 2 ^ 32
  if k < 2 then topWords s k
  else if k < 18 then
    unitWords 1 0x10 (k - 2) 0 (unitRef 0 (32 + 8 * (k - 2))) (unitRef 0 (k + 1)) 8 0 0 0 cap
  else if k < 25 then
    let (ty, i, c, n) := clusterKids.getD (k - 18) (0, 0, 0, 0)
    unitWords 1 ty i 0 (unitRef 0 c) (if k = 24 then unitNone else unitRef 0 (k + 1)) n 0 0 0 cap
  else if 32 ≤ k ∧ k < 160 then
    let n := k - 32
    unitWords 0 0x11 n (unitRef 0 (2 + n / 8)) unitNone (if n % 8 = 7 then unitNone else unitRef 0 (k + 1)) 0
      (b2n (fxpPermitted s n) + 2 * b2n (bit (rd s (fxpBase n + 4)) 31)) (2 ^ 31 + n) (fxpBase n) cap
  else
    match cellRuns.find? (fun r => decide (r.first ≤ k) && decide (k < r.first + r.count)) with
    | none => [0xF0000000, 0, 0, 0, 0, 0, 0, 0]
    | some r =>
      let i := k - r.first
      let mac := if r.ty = 0x21 then some i else if r.ty = 0x23 then some 24 else none
      let flags := match mac with
        | some n => b2n (rdF s (macBase n) 31 28 != 0) + 2 * b2n (linkUp s n)
        | none => if r.ty = 0x61 ∧ i = 10 then 4 * b2n (leafBit s (lfKln 7) 1) else 0
      let last := i + 1 = r.count ∨ (r.ty = 0x21 ∧ i = 3)
      unitWords 0 r.ty i (unitRef 0 (if r.ty = 0x21 ∧ 4 ≤ i then 19 else r.parent)) unitNone (if last then unitNone else unitRef 0 (k + 1)) 0
        flags (if r.ty = 0x21 then 2 ^ 31 + 128 + i else 0)
        (if r.ty = 0x61 then engineBases.getD i 0 else if r.base = 0 then 0 else r.base + r.stride * i) cap

/-- A word of the descriptor table; 0 until region 0 has been applied (R17). -/
def descWord (s : State) (off : Nat) : Word :=
  if regionApplied s 0 then w32 ((descWords s ((off - 0x8000) / 32)).getD (off % 32 / 4) 0) else 0

end Sys2Proof.Machine
end

