-- ==== Sys2Proof/Machine/Access.lean ====
section
/-! DEFINITION. Sys2Proof/Machine/Access.lean: reads of the address space (R6 to R8, R248, R531, R574 to R580): the words that
are shown but not stored, the effects of reading, and what a virtual function and the AUX target reach. -/

namespace Sys2Proof.Machine
open Sys2Proof

/-! ### Words that show other state -/

/-- FXP_STATUS of flexport n: RUNNING and OFFLINE are stored; SAFE, PENDQ, PEND and QNE show the engine. -/
def fxpStatusWord (s : State) (n : Nat) : Word :=
  let w := rd s (fxpBase n + 4) &&& 0xC0000000
  let q := (List.range 8).foldl (fun m q => if fxq s n q = [] then m else m + 2 ^ q) 0
  let p := match (port s n).pend with
    | some (q, _) => q % 8 * 2 ^ 24 + 2 ^ 23
    | none => 0
  w ||| w32 (b2n (safeOn s) * 2 ^ 29 + p + q * 2 ^ 8)

/-- LG_STATUS of group g: BADMEMBER shows a listed member with a personality that takes no part (R150). -/
def lgStatusWord (s : State) (g : Nat) : Word :=
  setBit (rd s (lgKey g 0x14)) 29 ((List.range 128).any (fun n => lgListed s g n && !lgEligible s n))

/-- CRZ_GRP_PEND: bit g of the pending groups that p selects (R532, R537). -/
def pendWord (s : State) (hi : Bool) (p : Nat → Bool) : Word :=
  w32 ((List.range 32).foldl (fun m b =>
    let g := 32 * b2n hi + b
    if grpPending s g && p g then m + 2 ^ b else m) 0)

/-- A leaf window word: register reg (0 STATUS, 1 LIVE, 2 ENABLE) of the leaves of group g (R531). -/
def leafWord (s : State) (reg g : Nat) : Word :=
  w32 ((List.range 32).foldl (fun m b => if leafBit s (32 * g + b) reg then m + 2 ^ b else m) 0)

/-- A word of the SAG block's registers (R405): 0 until Saggar has started. -/
def sagWord (s : State) (off : Nat) : Word :=
  let g := s.sag
  if !g.started then 0
  else if off = 0x00040400 then
    w32 (lifecycle s * 2 ^ 29 + b2n (authMode s) * 2 ^ 28 + b2n g.authLock * 2 ^ 27 + b2n (g.root.isSome && !g.rootFail) * 2 ^ 26
      + b2n (g.dbg != 0 || lifecycle s == 0) * 2 ^ 25 + b2n g.storeFail * 2 ^ 24 + min 0x3FF (pinned s).length)
  else if off = 0x00040408 then w32 g.updCtr
  else if off = 0x0004040C then w32 g.epoch
  else if off = 0x00040410 then w32 (attRemain g)
  else if off = 0x00040414 then
    match g.cur with
    | some (b, j) => w32 (2 ^ 31 + (256 * b + j) % 2 ^ 21)
    | none => w32 (256 * g.leafTop % 2 ^ 21)
  else if off = 0x00040418 then w32 g.genNext
  else if 0x00040420 ≤ off ∧ off < 0x00040430 then w32 (g.uid / 2 ^ (32 * (3 - (off - 0x00040420) / 4)))
  else if 0x00040440 ≤ off ∧ off < 0x00040460 then w32 (Config.romHash / 2 ^ (32 * (7 - (off - 0x00040440) / 4)))
  else if 0x00040460 ≤ off ∧ off < 0x00040480 then
    match g.ownerHash with
    | some h => w32 (beAt h (off - 0x00040460) 4)
    | none => 0
  else 0

/-- A word of a queue's state window (R357). -/
def queueWord (s : State) (off : Nat) : Word :=
  let q := (off - 0x0F410000) / 0x20
  match (off - 0x0F410000) % 0x20 / 4 with
  | 0 => w32 (usedQ s q)
  | 1 => w32 (susedQ s q)
  | 2 => w32 (ovfUsedQ s q)
  | 5 => w32 ((rsqOf s q).filter (fun p => !p.ready)).length
  | _ => rd s off

/-- A word of a policer's state window (R220): the levels of the last packet metered; a bucket never metered is full. -/
def policerWord (s : State) (off : Nat) : Word :=
  let i := (off - 0x04580000) / 0x10
  let b := (activeBank s 18).getD 0
  match (off - 0x04580000) % 0x10 / 4 with
  | 0 => match tblFind s.pol i with
    | some p => w32 (p.tc / 65536)
    | none => w32 (rdF s (clsPol b i + 8) 23 0)
  | 1 => match tblFind s.pol i with
    | some p => w32 (p.tp / 65536)
    | none => w32 (rdF s (clsPol b i + 12) 23 0)
  | _ => rd s off

/-- A word of a limiter's state window (R291): its tokens, and whether it is empty. -/
def limiterWord (s : State) (off : Nat) : Word :=
  let l := (off - 0x0E400000) / 8
  let n := match activeBank s 20 with
    | some b => limTokens s b l
    | none => 0
  if off % 8 = 0 then w32 n else w32 (b2n (n == 0) * 2 ^ 31)

/-- A word of a clock's read window: which is 0 for working time, 1 and 2 for domains A and B. -/
def clockWord (s : State) (which k : Nat) : Word :=
  let c := if which = 0 then s.tim.wt else domClk s (decide (which = 2))
  (clkWords c).getD k 0

/-- The word at a BAR0 offset, without the effects of reading it. -/
def shownWord (s : State) (off : Nat) : Word :=
  let k := keyOf s off
  if 0x00008000 ≤ off ∧ off < 0x00010000 then descWord s off
  else if 0x00100000 ≤ off ∧ off < 0x00180000 ∧ off % 0x1000 = 4 then fxpStatusWord s ((off - 0x00100000) / 0x1000)
  else if 0x00180000 ≤ off ∧ off < 0x001B0000 ∧ off % 0x2000 = 4 then setBit (rd s off) 14 (rdB s (off + 0x80) 31)
  else if 0x00010080 ≤ off ∧ off < 0x00010088 then pendWord s (decide (off = 0x00010084)) (fun _ => true)
  else if 0x00018000 ≤ off ∧ off < 0x00020000 ∧ off % 0x1000 < 8 then
    pendWord s (decide (off % 0x1000 = 4)) (fun g => let r := rd s (routeKey g); bit r 28 && fld r 26 24 == (off - 0x00018000) / 0x1000)
  else if 0x00011000 ≤ off ∧ off < 0x00011300 then leafWord s ((off - 0x00011000) / 0x100) (off % 0x100 / 4)
  else if 0x00060000 ≤ off ∧ off < 0x0006000C then clockWord s 0 ((off - 0x00060000) / 4)
  else if 0x00060080 ≤ off ∧ off < 0x0006008C then clockWord s 1 ((off - 0x00060080) / 4)
  else if 0x00060090 ≤ off ∧ off < 0x0006009C then clockWord s 2 ((off - 0x00060090) / 4)
  else if 0x00063000 ≤ off ∧ off < 0x00063400 ∧ off % 0x40 = 0x14 then lgStatusWord s ((off - 0x00063000) / 0x40)
  else if (0x00040400 ≤ off ∧ off < 0x00040404) ∨ (0x00040408 ≤ off ∧ off < 0x00040480) then sagWord s off
  else if 0x03000000 ≤ off ∧ off < 0x03010000 then w32 ((nodeWords s ((off - 0x03000000) / 0x10)).getD (off % 0x10 / 4) 0)
  else if 0x00300000 = off then
    w32 (s.srt.lq.length % 2 ^ 11 * 2 ^ 16 + (if s.srt.trans = [] then 0 else 256))
  else if 0x0048000C ≤ off ∧ off < 0x0048001C then
    w32 (match (off - 0x0048000C) / 4 with
      | 0 => sharedUsed s
      | 1 => hdrmUsed s
      | 2 => stagingUsed s
      | _ => rsqUsed s)
  else if 0x0F410000 ≤ off ∧ off < 0x0F41A000 then queueWord s off
  else if 0x0F4C0000 ≤ off ∧ off < 0x0F4C0380 then
    w32 (ingLevel s ((off - 0x0F4C0000) / 4 / 8) ((off - 0x0F4C0000) / 4 % 8))
  else if 0x00400120 ≤ off ∧ off < 0x00400140 then w32 (residueOf s ((off - 0x00400120) / 4)).length
  else if 0x00401000 ≤ off ∧ off < 0x00402800 ∧ 0x40 ≤ off % 0x100 ∧ off % 0x100 < 0x80 ∧ off % 8 = 4 then
    let n := (off - 0x00401000) / 0x100
    w32 (unsigned 32 ((macOf (cbsUpdate n s) n).credit.getD ((off % 0x100 - 0x40) / 8) 0 / 65536))
  else if 0x04580000 ≤ off ∧ off < 0x045C0000 then policerWord s off
  else if 0x0E400000 ≤ off ∧ off < 0x0E408000 then limiterWord s off
  else if off = 0x00240000 then setFld (rd s off) 15 0 (min 0xFFFF (inFlight s 18))
  else if 0x000A0408 ≤ off ∧ off < 0x000A05C8 ∧ off % 0x10 = 8 then
    let r := (off - 0x000A0408) / 0x10
    if r = 18 ∨ r = 20 then setFld (rd s off) 31 16 (min 0xFFFF (inFlight s r)) else rd s off
  else if off = 0x000A0210 then setBit (rd s off) 29 (s.mirror != [])
  else if off = 0x00030000 then updStatusWord s
  else if 0x00080540 ≤ off ∧ off < 0x00080580 then setFld (rd s off) 29 23 (npOpen s ((off - 0x00080540) / 4))
  else rd s k

/-! ### What a function reaches (R431, R580, R581) -/

/-- The k-th queue pair that function f owns, in ascending number (R431). -/
def ownedQp (s : State) (f k : Nat) : Option Nat :=
  ((List.range 1024).filter (fun q => bit (rd s (0x00520000 + 4 * q)) 31 && qpOwner s q == f))[k]?

/-- The BAR0 offset that an offset of function f's BAR0 stands for; none where nothing is there (R580). -/
def vfOff (s : State) (f off : Nat) : Option Nat :=
  if off < 0x4000 then (ownedQp s f (off / 0x40)).map (fun q => 0x00510000 + 0x40 * q + off % 0x40)
  else if off < 0x8000 then (ownedQp s f ((off - 0x4000) / 0x40)).map (fun q => 0x00530000 + 0x40 * q + off % 0x40)
  else if off < 0xA000 then (ownedQp s f ((off - 0x8000) / 0x20)).map (fun q => 0x00540000 + 0x20 * q + off % 0x20)
  else if 0xC000 ≤ off ∧ off < 0xD000 then some (0x00018000 + 0x1000 * f + off % 0x1000)
  else none

/-- The words of a virtual function's watermark pending bits (R431): bit k for its k-th queue pair. -/
def vfPendWord (s : State) (f off : Nat) : Word :=
  w32 ((List.range 32).foldl (fun m b =>
    match ownedQp s f (8 * (off - 0xA000) + b) with
    | some q => if rdB s (0x00500100 + 4 * (q / 32)) (q % 32) then m + 2 ^ b else m
    | none => m) 0)

/-- The BAR0 offset, or the key in BAR2, that a requester's offset names: a virtual function its own view and its own MSI-X
table, the AUX target the FOOT block; none where nothing is there. -/
def reach (s : State) (q : Requester) (off : Nat) : Option Nat :=
  if off % 4 ≠ 0 then none
  else match q with
  | .host f =>
    if 2 ^ 32 ≤ off then (if (off - 2 ^ 32) / 0x1000 = f.val then some off else none)
    else if f = 0 then (if off < 2 ^ 28 then some off else none)
    else vfOff s f off
  | .aux => if 0x000B0000 ≤ off ∧ off < 0x000B1000 then some off else none
  | _ => if off < 2 ^ 28 then some off else none

/-! ### Reading (R6, R8, R248, R575) -/

/-- The injection of a block that does not answer is armed for the block of an offset (R542, 0x16). -/
def blockDead (s : State) (off : Nat) : Bool :=
  match injArmed s 0x16 with
  | some (_, a) => (blockRows a).head?.map (·.base) == (blockRows off).head?.map (·.base) && !(blockRows off).isEmpty
  | none => false

/-- The entry of several words that an offset lies in: its first word's offset and its length; stream configurations and
queue configurations have a row of the map per word. -/
def entryAt (r : RegRow) (off w : Nat) : Nat × Nat :=
  if 0x0F030000 ≤ off ∧ off < 0x0F040000 then (off / 0x10 * 0x10, 2)
  else if 0x0F400000 ≤ off ∧ off < 0x0F405000 then (off / 0x10 * 0x10, 3)
  else if 0x00060000 ≤ off ∧ off < 0x0006000C ∨ 0x00060080 ≤ off ∧ off < 0x000600A0 then (off - 4 * w, 3)
  else if r.kind = .entry then (off - 4 * w, r.words)
  else (off, 1)

/-- A word of an entry read (R248, R579): word 0 takes the snapshot, the others return it. -/
def readEntry (base n off : Nat) (s : State) : Word × State :=
  if off = base then
    (shownWord s base, setShadows (base + 4) ((List.range (n - 1)).map (fun j => shownWord s (base + 4 + 4 * j))) s)
  else (shadow s off, s)

/-- A read of the word at a BAR0 offset or BAR2 key, with its effects: the counter's clearing, the snapshot, the removal of
a FIFO's head, and the comparison of a mirrored word's copies (R64). -/
def readWord (off : Nat) (s : State) : Word × State :=
  match findRow (if 0x00100000 ≤ off ∧ off < 0x00180000 ∧ 0x100 ≤ off % 0x1000 then rowsPers (persOf s ((off - 0x00100000) / 0x1000))
                 else blockRows off) off with
  | none => (0, s)
  | some r =>
    let w := (rowWord r off).getD 0
    let s := if r.mirrored then mirrorCompare (keyOf s off) s else s
    if r.kind = .counter then
      let k := if 0x00100000 ≤ off ∧ off < 0x00180000 ∧ 0x100 ≤ off % 0x1000 then keyOf s off else off
      if w % 2 = 0 then
        let n := counter s k
        (w32 n, setShadow (k + 4) (w32 (n / 2 ^ 32)) (clearCounter k s))
      else (shadow s k, s)
    else if 0x00100000 ≤ off ∧ off < 0x00180000 ∧ 0x20 ≤ off % 0x1000 ∧ off % 0x1000 < 0x2C then
      if off % 0x1000 = 0x20 then
        (rd s off, wrB (off + 8) 31 false (setShadows (off + 4) [rd s (off + 4), rd s (off + 8)] s))
      else (shadow s off, s)
    else if 0x00381000 ≤ off ∧ off < 0x00382000 ∧ off % 0x40 = 0x18 then
      match execCapTsRead (Fin.ofNat 64 ((off - 0x00381000) / 0x40)) s with
      | .next t => (t.rdata, t)
      | _ => (0, s)
    else if (0x00481000 ≤ off ∧ off < 0x00481400 ∨ 0x00540000 ≤ off ∧ off < 0x00548000) ∧ off % 0x20 = 0x10 then
      (rd s off, if rdB s (off - 0x10) 31 then wr off (rd s (off + 4)) s else wr off 0 s)
    else if rowMask r .rc ≠ 0 then (rd s off, wr off 0 s)
    else
      let (base, n) := entryAt r off w
      if 1 < n then readEntry base n off s
      else
        let wo := rowMask r .wo
        (shownWord s off &&& ~~~wo, s)

/-- A requester's read of a word (R575): what it reaches, all ones from a block that does not answer (R539, R542). -/
def readFor (q : Requester) (off : Nat) (s : State) : Word × State :=
  match q with
  | .host f =>
    if f ≠ 0 ∧ 0xA000 ≤ off ∧ off < 0xA020 then (vfPendWord s f off, s)
    else match reach s q off with
      | some k => if blockDead s k then (0xFFFFFFFF, raise (lfCrz 13) (injDone s)) else readWord k s
      | none => (0, s)
  | _ => match reach s q off with
    | some k => if blockDead s k then (0xFFFFFFFF, raise (lfCrz 13) (injDone s)) else readWord k s
    | none => (0, s)

/-- Reads of n consecutive words, in ascending order (R575). -/
def readMany (q : Requester) : Nat → Nat → State → List Word × State
  | 0, _, s => ([], s)
  | n + 1, off, s =>
    let (w, s) := readFor q off s
    let (ws, s) := readMany q n (off + 4) s
    (w :: ws, s)

/-- COUNTER_READ (R6, R8): a requester reads a clear-on-read register or a word of a counter. -/
def execCounterRead (req : Requester) (off : Nat) (s : State) : Host.Outcome State Fault Refusal :=
  done s (let (w, t) := readFor req off s; setRdata w t)

/-- ENTRY_SNAPSHOT_READ (R248, R579): a requester reads a word of an entry, or any other word. -/
def execEntrySnapshotRead (req : Requester) (off : Nat) (s : State) : Host.Outcome State Fault Refusal :=
  done s (let (w, t) := readFor req off s; setRdata w t)

end Sys2Proof.Machine
end

