-- ==== Sys2Proof/Machine/Canx.lean ====
section
/-! DEFINITION. Sys2Proof/Machine/Canx.lean: the flexport and CANX commands (R96 to R124) and the cluster quiesce (R58). -/

namespace Sys2Proof.Machine
open Sys2Proof

/-- FXP_ENABLE (R92, R96, R108, R144): the engine starts, or the port stays DISABLED with CFG_ERR. -/
def execFxpEnable (req : Requester) (port : Fin 128) (s : State) : Host.Outcome State Fault Refusal :=
  done s (regCmd req (hostOrKiln req) (fxpBase port) (fun s =>
    if rdB s (fxpBase port) 31 then s else engineEnable port s) s)

/-- FXP_DISABLE (R58, R96): an idle port stops at once; a busy one waits for its frame's end, at most 1 ms. -/
def execFxpDisable (req : Requester) (port : Fin 128) (busy : Bool) (s : State) : Host.Outcome State Fault Refusal :=
  done s (regCmd req (hostOrKiln req) (fxpBase port) (fun s =>
    if rdB s (fxpBase port) 31 then
      let s := wrB (fxpBase port) 31 false s
      if busy || (Sys2Proof.Machine.port s port).txing then
        setPort port { Sys2Proof.Machine.port s port with quiesce := true, disabling := true } s
      else engineStop port false s
    else s) s)

/-- The cluster of flexport n enters APPLYING once none of its ports quiesces any more (R58). -/
def clusterQuiet (n : Nat) (s : State) : State :=
  if fld (rd s (regState (1 + n / 8))) 2 0 == 3 && (List.range 8).all (fun i => !(port s (8 * (n / 8) + i)).quiesce) then
    wrF (regState (1 + n / 8)) 2 0 4 s
  else s

/-- CLUSTER_PORT_IDLE (R58, R96): a quiescing port has finished its frame. -/
def execClusterPortIdle (port : Fin 128) (s : State) : Host.Outcome State Fault Refusal :=
  done s (if (Sys2Proof.Machine.port s port).quiesce && !(Sys2Proof.Machine.port s port).txing then
      clusterQuiet port (engineStop port false s) else s)

/-- CLUSTER_QUIESCE_TIMEOUT (R58, R96): a port still busy at 1 ms is stopped and its partial frame counted. -/
def execClusterQuiesceTimeout (port : Fin 128) (s : State) : Host.Outcome State Fault Refusal :=
  done s (if (Sys2Proof.Machine.port s port).quiesce then clusterQuiet port (engineStop port true s) else s)

/-- The engine of flexport n takes part in its bus. -/
def onBus (s : State) (n : Nat) : Bool := running s n && !offline s n

/-- An XL frame under PWM coding: FPn_C shows fast mode during its data phase (R110). -/
def fastMode (n : Nat) (s : State) : State :=
  let m := rd s (persReg s n 0x100)
  if bit m 29 && fld m 21 20 == 2 then emit (.fieldPin n 2 false) (emit (.fieldPin n 2 true) s) else s

/-- An error is counted by type and recorded in LEC (R116). -/
def canCount (n : Nat) (e : CanErr) (s : State) : State :=
  wrF (persReg s n 0x118) 23 21 (canErrCode e) (bump (persCtr s n (canErrCtr e)) s)

/-- TEC and REC after an error in ACTIVE (R116, ISO 11898-1): a transmitter adds 8 unless the standard exempts the error, a
receiver adds 1, or 8 where it detects a dominant bit after its error flag. -/
def canAdvance (n : Nat) (tx exempt heavy : Bool) (s : State) : State :=
  if tx then (if exempt then s else setErrCtrs n (tecOf s n + 8) (recOf s n) s)
  else setErrCtrs n (tecOf s n) (recOf s n + (if heavy then 8 else 1)) s

/-- A CANX error of a port outside FROZEN (R102, R115 to R117, R119). -/
def canError (n : Nat) (e : CanErr) (tx xlData exempt heavy : Bool) (s : State) : State :=
  let st := opState s n
  if st ≠ 2 ∧ st ≠ 3 ∧ st ≠ 4 then s
  else
    let mine := tx && (port s n).txing
    let silent := xlData && rdB s (persReg s n 0x100) 28
    let s := canCount n e s
    let s := if mine then
        let s := txError n (lgFail n (let lim := fld (rd s (fxpBase n + 0x30)) 7 0; lim = 0 ∨ (port s n).errs + 1 < lim) s)
        s
      else s
    if silent then canxIntegrate n (fastMode n s)
    else
      let s := if st = 2 then canAdvance n tx exempt heavy s else s
      canxFrameEnd n s

/-- CANX_ERROR (R102, R116, R117, R120): in FROZEN it is counted in FROZEN_ERR only. -/
def execCanxError (port : Fin 128) (err : CanErr) (tx xlData exempt heavy : Bool) (tdcv : Option Nat) (s : State) :
    Host.Outcome State Fault Refusal :=
  let tdc (s : State) : State := match tdcv with
    | some v =>
      let k := persReg s port 0x114
      if tx && rdB s k 31 then wrF k 7 0 (if 127 < v then 255 else v) s else s
    | none => s
  done s (if persOf s port ≠ 1 ∨ onBus s port = false then s
    else if opState s port = 5 then bump (persCtr s port 9) s
    else canError port err tx xlData exempt heavy (tdc s))

/-- A frame of a format that the port has not enabled: PEX = 1 protocol exception, else a form error (R106, R120). -/
def canForeign (n : Nat) (s : State) : State :=
  let pex := rdB s (persReg s n 0x100) 27
  if pex then
    let s := raise (lfFxp n 14) (bump (persCtr s n 7) s)
    if opState s n = 5 then s else canxIntegrate n (setOp n 7 s)
  else if opState s n = 5 then bump (persCtr s n 9) s
  else canError n .form false false false false s

/-- A received frame's effect on REC (ISO 11898-1): above 127 it is set to a value between 119 and 127, which the
standard leaves open; else it falls by 1. -/
def recSuccess (n : Nat) (s : State) : State :=
  let r := recOf s n
  if 127 < r then
    let s' := drawn s
    setErrCtrs n (tecOf s n) (119 + freeVal s 4 % 9) s'
  else setErrCtrs n (tecOf s n) (r - 1) s

/-- The hand-off of a valid CANX frame: dropped with SEC = 1 on a port without SEC_EN (R124). -/
def canHandOff (n : Nat) (rx : RxFrame) (s : State) : State :=
  if rx.frame.fmt == .xl && rx.frame.sec && !rdB s (persReg s n 0x100) 24 then
    raise (lfFxp n 15) (bump (persCtr s n 8) s)
  else handOff n rx s

/-- A matching frame in FROZEN (R121): the port leaves FROZEN with its held counters; the frame wakes its cluster (R415). -/
def canWake (n : Nat) (rx : RxFrame) (s : State) : State :=
  let m := rd s (persReg s n 0x100)
  let s := setOp n (if bit m 26 then 3 else if bit m 25 then 4 else 2) (wrB (persReg s n 0x11C) 0 false s)
  let s := raise (lfFxp n 12) (canHandOff n { rx with wake := true } s)
  busWake n true s

/-- CANX_RX_FRAME (R97, R98, R106, R110, R119 to R121, R124): a frame becomes valid; its timestamp point (R81) lies age ns before. -/
def execCanxRxFrame (port : Fin 128) (frame : FieldFrame) (age : Nat) (s : State) : Host.Outcome State Fault Refusal :=
  let m := rd s (persReg s port 0x100)
  let st := opState s port
  let rx : RxFrame := { frame := frame, ts := stampAgo s age }
  done s (nmwSettle (
    if persOf s port ≠ 1 ∨ onBus s port = false ∨ (st ≠ 2 ∧ st ≠ 3 ∧ st ≠ 4 ∧ st ≠ 5) then s
    else if injFor s 0x0F port then
      let s := injDone s
      if st = 5 then bump (persCtr s port 9) s else canError port .crc false false false false s
    else if (frame.fmt == .fd && !bit m 31) || (frame.fmt == .xl && !bit m 30) then canForeign port s
    else if frame.fmt != .cc && frame.fmt != .fd && frame.fmt != .xl then s
    else
      let s := if frame.fmt == .xl then fastMode port s else s
      if st = 5 then
        if wakeMatch s port frame then canWake port rx s else bump (fxpCtr port 5) s
      else
        let s := canHandOff port rx s
        if st = 2 then canxFrameEnd port (recSuccess port s) else s))

/-- FXP_SELECT (R99, R100, R145, R152): a selection point of a CANX or SPIC port. -/
def execFxpSelect (port : Fin 128) (s : State) : Host.Outcome State Fault Refusal :=
  done s (if persOf s port = 3 then s else selectionPoint port s)

/-- A successful transmission of the pending frame (R102, R104, R116). -/
def txSuccess (n q ts : Nat) (s : State) : State :=
  let s := setPort n { port s n with pend := none, txing := false, grp := false, errs := 0, backoff := 0 } s
  lgLeave n (txStamp n q ts (bump (fxpCtr n 1) s))

/-- FXP_TX_SUCCESS (R102, R104, R109, R116, R119): the pending frame of a CANX, LIN or T1S port is transmitted; its
timestamp point (R81) lies age ns before, and tdcv is the loop delay measured in it. -/
def execFxpTxSuccess (port : Fin 128) (age : Nat) (tdcv : Option Nat) (s : State) : Host.Outcome State Fault Refusal :=
  done s (match (Sys2Proof.Machine.port s port).pend, (Sys2Proof.Machine.port s port).txing with
    | some (q, it), true =>
      let pers := persOf s port
      if pers = 5 then s
      else
        let s := txSuccess port q (stampAgo s age) s
        if pers = 1 then
          let k := persReg s port 0x114
          let pwm := rdB s (persReg s port 0x100) 29
          let s := match tdcv with
            | some v => if rdB s k 31 && it.frame.fmt != .cc && !(it.frame.fmt == .xl && pwm) then
                wrF k 7 0 (if 127 < v then 255 else v) s else s
            | none => s
          let s := if it.frame.fmt == .xl then fastMode port s else s
          let s := if opState s port = 2 then setErrCtrs port (tecOf s port - 1) (recOf s port) s else s
          canxFrameEnd port s
        else s
    | _, _ => s)

/-- CANX_ARB_LOST (R102, R153, R154): the frame stays pending. -/
def execCanxArbLost (port : Fin 128) (s : State) : Host.Outcome State Fault Refusal :=
  done s (if persOf s port = 1 ∧ (Sys2Proof.Machine.port s port).txing = true then
      let s := bump (persCtr s port 5) (lgFail port true s)
      setPort port { Sys2Proof.Machine.port s port with txing := false, grp := false } s
    else s)

/-- BOFF_DELAY_EXPIRY (R118): in BOFF_MODE 0b01 recovery starts. -/
def execBoffDelayExpiry (port : Fin 128) (s : State) : Host.Outcome State Fault Refusal :=
  done s (if persOf s port = 1 ∧ opState s port = 6 ∧ rdF s (persReg s port 0x100) 23 22 = 1 then
      setPort port { Sys2Proof.Machine.port s port with recovering := true } s else s)

/-- CANX_RECOVER (R118): in BUS_OFF with BOFF_MODE 0b10 recovery starts. -/
def execCanxRecover (req : Requester) (port : Fin 128) (s : State) : Host.Outcome State Fault Refusal :=
  done s (regCmd req (hostOrKiln req) (fxpBase port + 0x11C) (fun s =>
    if persOf s port = 1 ∧ opState s port = 6 ∧ rdF s (persReg s port 0x100) 23 22 = 2 then
      setPort port { Sys2Proof.Machine.port s port with recovering := true } s else s) s)

/-- BUS_ON (R118, R119): recovery ends; TEC and REC are 0 and the port integrates, or freezes. -/
def execBusOn (port : Fin 128) (s : State) : Host.Outcome State Fault Refusal :=
  done s (if persOf s port = 1 ∧ opState s port = 6 ∧ (Sys2Proof.Machine.port s port).recovering = true then
      let s := setPort port { Sys2Proof.Machine.port s port with recovering := false } s
      let s := canxIntegrate port (setErrCtrs port 0 0 s)
      raise (lfFxp port 11) (setLive (lfFxp port 10) false s)
    else s)

/-- CANX_INTEGRATED (R115): the port enters ACTIVE, MONITOR or RESTRICTED. -/
def execCanxIntegrated (port : Fin 128) (s : State) : Host.Outcome State Fault Refusal :=
  let m := rd s (persReg s port 0x100)
  done s (if persOf s port = 1 ∧ onBus s port = true ∧ opState s port = 1 then
      setOp port (if bit m 26 then 3 else if bit m 25 then 4 else 2) s else s)

/-- CANX_FREEZE (R119): busy says the port transmits or receives a frame; host function 0 and Kiln firmware only. -/
def execCanxFreeze (req : Requester) (port : Fin 128) (busy : Bool) (s : State) : Host.Outcome State Fault Refusal :=
  done s (regCmd req (hostOrKiln req) (fxpBase port + 0x11C) (fun s =>
    if persOf s port = 1 then canxFreeze port busy s else s) s)

/-- CANX_UNFREEZE (R122). -/
def execCanxUnfreeze (req : Requester) (port : Fin 128) (s : State) : Host.Outcome State Fault Refusal :=
  done s (regCmd req (hostOrKiln req) (fxpBase port + 0x11C) (fun s =>
    if persOf s port = 1 then canxUnfreeze port s else s) s)

/-- TRX_FLAG (R113, R125): FPn_D takes a level; its falling edge raises TRX_FLAG on a CANX or LIN port that monitors it. -/
def execTrxFlag (port : Fin 128) (level : Bool) (s : State) : Host.Outcome State Fault Refusal :=
  let was := (Sys2Proof.Machine.port s port).dPin
  let t := setPort port { Sys2Proof.Machine.port s port with dPin := level } s
  let cfg := rd t (persReg t port 0x100)
  let leaf := if persOf t port = 1 then lfFxp port 13 else lfFxp port 14
  let mon := (persOf t port == 1 && bit cfg 18) || (persOf t port == 2 && bit cfg 30)
  done s (if mon then
      let t := setLive leaf (!level) t
      if was && !level then raise leaf t else t
    else t)

/-- TXTS_READ (R104): seconds and information go to the shadows, then NEW is cleared. -/
def execTxtsRead (port : Fin 128) (s : State) : Host.Outcome State Fault Refusal :=
  let k := fxpBase port + 0x20
  done s (setRdata (rd s k) (wrB (k + 8) 31 false (setShadows (k + 4) [rd s (k + 4), rd s (k + 8)] s)))

end Sys2Proof.Machine
end

