-- ==== Sys2Proof/Machine/Buses.lean ====
section
/-! DEFINITION. Sys2Proof/Machine/Buses.lean: the LIN, 10BASE-T1S, SENT and PWMX commands and those of lock groups
(R125 to R155). -/

namespace Sys2Proof.Machine
open Sys2Proof

/-! ### LIN (R125 to R132) -/

/-- A running LIN port. -/
def linOn (s : State) (n : Nat) : Bool := persOf s n == 2 && onBus s n

/-- LIN: the port is a commander. -/
def linCmdr (s : State) (n : Nat) : Bool := bit (rd s (persReg s n 0x100)) 31

/-- LIN: an error counted in counter j raises LIN_ERR (R130). -/
def linErr (n j : Nat) (s : State) : State := raise (lfFxp n 8) (bump (persCtr s n j) s)

/-- LIN: the commander switches to the requested table, and raises SCHED_SWITCHED (R127). -/
def linSwitch (n : Nat) (s : State) : State :=
  match (port s n).linReq, (port s n).linRet with
  | some t, none =>
    let s := wrF (persReg s n 0x108) 2 0 t s
    let s := setPort n { port s n with linReq := none, linSlot := linBase s n t } s
    raise (lfFxp n 11) s
  | _, _ => s

/-- LIN: the entry after entry i: the next of its table, the table's first after END, or the slot to return to (R126, R131). -/
def linNext (n i : Nat) (s : State) : State :=
  let p := port s n
  if bit (linEnt s n i) 15 then
    match p.linRet with
    | some (_, r) => setPort n { p with linSlot := r, linRet := none } s
    | none => setPort n { p with linSlot := linBase s n (fld (rd s (persReg s n 0x108)) 2 0) } s
  else setPort n { p with linSlot := (i + 1) % 64 } s

/-- LIN: the response of a publishing entry (R128): a waiting frame, the last response with HOLD, or none. -/
def linPublishNow (n id : Nat) (hold : Bool) (hdr : State → State) (s : State) : Option State :=
  let mine := match (port s n).pend with
    | some (_, it) => it.frame.id == id
    | none => false
  if mine then some (linRespond n (hdr s))
  else
    match linFind s n id (fun q => !held s n q) with
    | some (q, it) => some (linRespond n (hdr (linTake n q id it false s)))
    | none =>
      match hold, tblFind (port s n).linLast id with
      | true, some d => some (emit (.fieldStart n { fmt := .lin, id := id, data := d }) (hdr s))
      | _, _ => none

/-- LIN_SLOT_START (R126 to R128, R131, R132): a commander's slot starts. -/
def linSlotStart (n : Nat) (s : State) : State :=
  let s := if (port s n).txing then txAbandon n s else s
  if (port s n).linSleepReq then
    let f : FieldFrame := { fmt := .lin, id := 0x3C, data := 0 :: List.replicate 7 (b8 0xFF) }
    linSleepNow n (emit (.fieldStart n f) (emit (.linHeader n 0x3C) s))
  else
    let s := linSwitch n s
    let i := (port s n).linSlot
    let e := linEnt s n i
    let id := fld e 5 0
    let hdr (s : State) : State := emit (.linHeader n id) s
    let s := setPort n { port s n with linHdr := none } s
    let s := match fld e 14 12 with
      | 1 =>
        match linPublishNow n id (bit e 10) hdr s with
        | some t => t
        | none => bump (persCtr s n 5) s
      | 2 => setPort n { port s n with linHdr := some (id, i) } (hdr s)
      | 3 => setPort n { port s n with linHdr := some (id, i) } (hdr s)
      | _ => s
    linNext n i s

/-- LIN_SLOT_START. -/
def execLinSlotStart (port : Fin 128) (s : State) : Host.Outcome State Fault Refusal :=
  let p := Sys2Proof.Machine.port s port
  done s (if linOn s port && linCmdr s port && !safeOn s && !p.quiesce && (p.linRun || p.linSleepReq) then linSlotStart port s else s)

/-- LIN: the parity of a protected identifier is right. -/
def linParityOk (pid : Nat) : Bool :=
  nbit pid 6 == ((nbit pid 0 != nbit pid 1) != (nbit pid 2 != nbit pid 4))
    && nbit pid 7 != ((nbit pid 1 != nbit pid 3) != (nbit pid 4 != nbit pid 5))

/-- LIN_HEADER_RX (R128, R129): a responder has received a protected identifier after a sync byte of bitCyc FCLK cycles per bit. -/
def execLinHeaderRx (port : Fin 128) (pid : Fin 256) (bitCyc : Nat) (s : State) : Host.Outcome State Fault Refusal :=
  let n := port.val
  let div := rdF s (persReg s n 0x100) 17 0
  let id := pid.val % 64
  done s (if !linOn s n || linCmdr s n || linAsleep s n then s
    else
      let s := setPort n { Sys2Proof.Machine.port s n with linHdr := none } s
      if decide (100 * bitCyc < 85 * div) || decide (115 * div < 100 * bitCyc) then linErr n 3 s
      else if !linParityOk pid then linErr n 2 s
      else
        let s := setPort n { Sys2Proof.Machine.port s n with linBit := bitCyc } s
        match (List.range 64).find? (fun i => fld (linEnt s n i) 14 12 != 0 && fld (linEnt s n i) 5 0 == id) with
        | some i =>
          match fld (linEnt s n i) 14 12 with
          | 1 =>
            if safeOn s || (Sys2Proof.Machine.port s n).quiesce then s
            else (linPublishNow n id (bit (linEnt s n i) 10) (fun s => s) s).getD s
          | _ => setPort n { Sys2Proof.Machine.port s n with linHdr := some (id, i) } s
        | none => if id = 0x3C then setPort n { Sys2Proof.Machine.port s n with linHdr := some (id, 64) } s else s)

/-- LIN: the checksum of a response (R130): classic over the data, enhanced over the protected identifier as well. -/
def linChecksum (id : Nat) (enh : Bool) (d : List Byte) : Nat :=
  let p0 := b2n ((nbit id 0 != nbit id 1) != (nbit id 2 != nbit id 4))
  let p1 := b2n (!((nbit id 1 != nbit id 3) != (nbit id 4 != nbit id 5)))
  let start := if enh && id != 0x3C && id != 0x3D then id + 64 * p0 + 128 * p1 else 0
  255 - d.foldl (fun a b => let t := a + b.toNat; if 256 ≤ t then t - 255 else t) start

/-- The go-to-sleep data (R132). -/
def linSleepData (d : List Byte) : Bool := d == (0 :: List.replicate 7 (b8 0xFF))

/-- A response whose checksum fails (R130, R131). -/
def linChecksumBad (n i : Nat) (s : State) : State :=
  if linCmdr s n && fld (linEnt s n i) 14 12 == 3 && (port s n).linRet.isNone then
    let s := raise (lfFxp n 10) (bump (persCtr s n 6) s)
    let t := fld (linEnt s n i) 18 16
    setPort n { port s n with linRet := some (t, (port s n).linSlot), linSlot := linBase s n t } s
  else linErr n 1 s

/-- LIN_RX_RESPONSE (R129 to R132): the data and checksum of an awaited response; its break began age ns before. -/
def execLinRxResponse (port : Fin 128) (data : List Byte) (ck : Fin 256) (age : Nat) (s : State) :
    Host.Outcome State Fault Refusal :=
  let n := port.val
  done s (match linOn s n, (Sys2Proof.Machine.port s n).linHdr with
    | true, some (id, i) =>
      let s := setPort n { Sys2Proof.Machine.port s n with linHdr := none } s
      let e := linEnt s n i
      let bad := injFor s 0x0F n || ck.val != linChecksum id (i < 64 && bit e 11) data
      let s := if injFor s 0x0F n then injDone s else s
      if bad then linChecksumBad n i s
      else
        let s := if i < 64 then
            nmwSettle (handOff n { frame := { fmt := .lin, id := id, data := data }, ts := stampAgo s age } s) else s
        if id == 0x3C && linSleepData data then linSleepNow n s else s
    | _, _ => s)

/-- LIN_RESPONSE_TIMEOUT (R130): NO_RESPONSE where no byte arrived, else a framing error. -/
def execLinResponseTimeout (port : Fin 128) (anyByte : Bool) (s : State) : Host.Outcome State Fault Refusal :=
  let n := port.val
  done s (match linOn s n, (Sys2Proof.Machine.port s n).linHdr with
    | true, some _ =>
      let s := setPort n { Sys2Proof.Machine.port s n with linHdr := none } s
      if anyByte then linErr n 3 s else raise (lfFxp n 9) (bump (persCtr s n 4) s)
    | _, _ => s)

/-- LIN_TX_BIT_ERROR (R130): the transmission ends at once and the pending frame is abandoned. -/
def execLinTxBitError (port : Fin 128) (s : State) : Host.Outcome State Fault Refusal :=
  let n := port.val
  done s (if linOn s n then
      let s := emit (.fieldStop n) (linErr n 0 s)
      if (Sys2Proof.Machine.port s n).txing then txAbandon n (lgFail n false s) else s
    else s)

/-- LIN_SCHED_REQ (R127, R131): the next table; without a slot in progress the switch is at once. -/
def execLinSchedReq (req : Requester) (port : Fin 128) (table : Fin 8) (s : State) : Host.Outcome State Fault Refusal :=
  let n := port.val
  done s (regCmd req (hostOrKiln req) (fxpBase n + 0x108) (fun s =>
    if persOf s n ≠ 2 then s
    else
      let s := wrF (persReg s n 0x108) 18 16 table s
      let s := setPort n { Sys2Proof.Machine.port s n with linReq := some table } s
      if (Sys2Proof.Machine.port s n).linRun then s else linSwitch n s) s)

/-- LIN_SLEEP (R132): the commander sends go-to-sleep at its next slot start. -/
def execLinSleep (req : Requester) (port : Fin 128) (s : State) : Host.Outcome State Fault Refusal :=
  let n := port.val
  done s (regCmd req (hostOrKiln req) (fxpBase n + 0x114) (fun s =>
    if linOn s n && linCmdr s n && !linAsleep s n then
      setPort n { Sys2Proof.Machine.port s n with linSleepReq := true } s else s) s)

/-- LIN_WAKE (R132): a dominant pulse of WAKE_US. -/
def execLinWake (req : Requester) (port : Fin 128) (s : State) : Host.Outcome State Fault Refusal :=
  let n := port.val
  done s (regCmd req (hostOrKiln req) (fxpBase n + 0x114) (fun s =>
    if linOn s n && !safeOn s then linWakeNow n (emit (.linWakePulse n (rdF s (persReg s n 0x104) 31 16)) s) else s) s)

/-- LIN_IDLE_TIMEOUT (R132): bus sleep after IDLE_MS of inactivity. -/
def execLinIdleTimeout (port : Fin 128) (s : State) : Host.Outcome State Fault Refusal :=
  done s (if linOn s port && !linAsleep s port then linSleepNow port s else s)

/-- WAKE_RX (R132, R415): a dominant pulse, or with viaD a falling edge of FPn_D, ends bus sleep. -/
def execWakeRx (port : Fin 128) (viaD : Bool) (s : State) : Host.Outcome State Fault Refusal :=
  let n := port.val
  done s (if linOn s n && linAsleep s n && (!viaD || rdB s (persReg s n 0x100) 30) then
      nmwSettle (busWake n false (raise (lfFxp n 12) (linWakeNow n s)))
    else s)

/-- LIN_SCHEDULE_RESTART (R132): the active table restarts at its first slot. -/
def execLinScheduleRestart (port : Fin 128) (s : State) : Host.Outcome State Fault Refusal :=
  let n := port.val
  let p := Sys2Proof.Machine.port s n
  done s (if linOn s n && p.linRestart then
      setPort n { p with linRestart := false, linRun := true, linRet := none, linHdr := none,
                         linSlot := linBase s n (fld (rd s (persReg s n 0x108)) 2 0) } s
    else s)

/-! ### 10BASE-T1S (R133 to R136) -/

/-- A running T1S port. -/
def t1sOn (s : State) (n : Nat) : Bool := persOf s n == 3 && onBus s n

/-- T1S_RX_FRAME (R136): a frame without its FCS; fcsOk says the FCS is right. -/
def execT1sRxFrame (port : Fin 128) (data : List Byte) (fcsOk : Bool) (age : Nat) (s : State) :
    Host.Outcome State Fault Refusal :=
  let n := port.val
  let len := data.length + 4
  done s (if !t1sOn s n || decide (len < 64) then s
    else if 1522 < len then bump (persCtr s n 1) s
    else if !fcsOk then raise (lfFxp n 11) (bump (persCtr s n 0) s)
    else nmwSettle (handOff n { frame := { fmt := .t1s, data := data }, ts := stampAgo s age } s))

/-- T1S_TX_OPPORTUNITY (R99, R134): a selection point of the port. -/
def execT1sTxOpportunity (port : Fin 128) (s : State) : Host.Outcome State Fault Refusal :=
  done s (if t1sOn s port then selectionPoint port s else s)

/-- T1S_COLLISION (R102, R134): a transmit error; the backoff exponent grows to at most 10. -/
def execT1sCollision (port : Fin 128) (s : State) : Host.Outcome State Fault Refusal :=
  let n := port.val
  done s (if t1sOn s n then
      let s := raise (lfFxp n 9) (bump (persCtr s n 2) s)
      if (Sys2Proof.Machine.port s n).txing then
        txError n (setPort n { Sys2Proof.Machine.port s n with backoff := min 10 ((Sys2Proof.Machine.port s n).backoff + 1) } s)
      else s
    else s)

/-- The port is a PLCA follower. -/
def plcaFollower (s : State) (n : Nat) : Bool :=
  let c := rd s (persReg s n 0x100)
  bit c 31 && fld c 28 24 != 0

/-- T1S_BEACON_RX (R135): PLCA is restored. -/
def execT1sBeaconRx (port : Fin 128) (s : State) : Host.Outcome State Fault Refusal :=
  done s (if t1sOn s port && plcaFollower s port then
      setLive (lfFxp port 8) false (wrB (persReg s port 0x108) 31 true s) else s)

/-- PLCA_LOST (R135): a follower falls back to CSMA/CD. -/
def execPlcaLost (port : Fin 128) (s : State) : Host.Outcome State Fault Refusal :=
  let n := port.val
  done s (if t1sOn s n && plcaFollower s n then
      raiseLive (lfFxp n 8) (bump (persCtr s n 3) (wrB (persReg s n 0x108) 31 false s)) else s)

/-! ### SENT (R137 to R141) -/

/-- The SENT CRC table: i × x^4 modulo x^4 + x^3 + x^2 + 1. -/
def sentTab (i : Nat) : Nat := [0, 13, 7, 10, 14, 3, 9, 4, 1, 12, 6, 11, 15, 2, 8, 5].getD i 0

/-- The SENT CRC over nibbles (R138): seed 5; the recommended method appends a zero nibble. -/
def sentCrc (recommended : Bool) (l : List Nat) : Nat :=
  let c := l.foldl (fun c x => Nat.xor x (sentTab c)) 5
  if recommended then sentTab c else c

/-- One step of the enhanced serial message's CRC: six bits of x^6 + x^4 + x^3 + 1. -/
def sent6Step : Nat → Nat → Nat
  | 0, c => c
  | k + 1, c => sent6Step k (if nbit c 5 then Nat.xor (c * 2 % 64) 0x19 else c * 2 % 64)

/-- The 6-bit CRC of an enhanced serial message over its 24 bits in groups of six, with six zero bits appended (R140). -/
def sent6Crc (groups : List Nat) : Nat := (groups ++ [0]).foldl (fun c g => Nat.xor g (sent6Step 6 c)) 0x15

/-- A slow message that has been assembled: handed on, or counted as a CRC failure (R140, R141). -/
def slowDone (n : Nat) (ok : Bool) (id : Nat) (data : List Byte) (ts : Nat) (s : State) : State :=
  if ok then handOff n { frame := { fmt := .sent, id := id, data := data }, ts := ts } (bump (persCtr s n 5) s)
  else raise (lfFxp n 9) (bump (persCtr s n 4) s)

/-- Short serial messages: 16 frames, from one whose bit 3 is 1 (R140). -/
def slowShort (n : Nat) (b2 b3 : Bool) (ts : Nat) (s : State) : State :=
  let p := port s n
  let l := if b3 then [(b2, b3)] else if p.slow = [] then [] else p.slow ++ [(b2, b3)]
  if l.length = 16 then
    let v := bitsBe (l.map (·.1))
    let ok := sentCrc (rdB s (persReg s n 0x100) 30) [v / 4096, v / 256 % 16, v / 16 % 16] == v % 16
    slowDone n ok (0x1000 + v / 4096) [b8 (v / 16)] ts (setPort n { p with slow := [] } s)
  else setPort n { p with slow := l } s

/-- Enhanced serial messages: 18 frames whose bits 3 read 111111 0 C xxxx 0 xxxx 0 (R140, SAE J2716). -/
def slowEnhanced (n : Nat) (b2 b3 : Bool) (ts : Nat) (s : State) : State :=
  let p := port s n
  let all := p.slow ++ [(b2, b3)]
  let l := all.drop (all.length - 18)
  let h := l.map (·.2)
  let at' (k : Nat) : Bool := h.getD k false
  if l.length == 18 && (h.take 6).all id && !at' 6 && !at' 12 && !at' 17 then
    let d := l.map (·.1)
    let data := bitsBe (d.drop 6)
    let hi := bitsBe (slice h 8 4)
    let lo := bitsBe (slice h 13 4)
    let mix := bitsBe ((l.drop 6).flatMap (fun e => [e.1, e.2]))
    let ok := sent6Crc [mix / 2 ^ 18, mix / 2 ^ 12 % 64, mix / 64 % 64, mix % 64] == bitsBe (d.take 6)
    let s := setPort n { p with slow := [] } s
    if at' 7 then slowDone n ok (0x3000 + hi) (beBytes 2 (lo * 4096 + data)) ts s
    else slowDone n ok (0x2000 + hi * 16 + lo) (beBytes 2 data) ts s
  else setPort n { p with slow := l } s

/-- A valid fast frame: handed on, then its status nibble joins the slow message (R139 to R141). -/
def sentValid (n : Nat) (rx : RxFrame) (s : State) : State :=
  let st := byteAt rx.frame.data 0
  let s := handOff n rx s
  match rdF s (persReg s n 0x100) 29 28 with
  | 1 => slowShort n (nbit st 2) (nbit st 3) rx.ts s
  | 2 => slowEnhanced n (nbit st 2) (nbit st 3) rx.ts s
  | _ => s

/-- An invalid frame discards the partial slow message (R140). -/
def slowDrop (n : Nat) (s : State) : State := setPort n { port s n with slow := [] } s

/-- SENT_CAL_PULSE (R137, R139): a calibration pulse of cyc FCLK cycles. -/
def execSentCalPulse (port : Fin 128) (cyc : Nat) (s : State) : Host.Outcome State Fault Refusal :=
  let n := port.val
  let nom := 56 * rdF s (persReg s n 0x100) 15 0
  done s (if persOf s n ≠ 4 ∨ onBus s n = false then s
    else
      let p := Sys2Proof.Machine.port s n
      if decide (5 * cyc < 4 * nom) || decide (6 * nom < 5 * cyc) then
        let s := slowDrop n (setPort n { p with cal := 0, sentWait := none } (bump (persCtr s n 0) s))
        raiseLive (lfFxp n 10) s
      else
        let s := setLive (lfFxp n 10) false (setPort n { p with cal := cyc, sentWait := none } s)
        match p.sentWait with
        | some (rx, c) =>
          if 64 * (cyc - c + (c - cyc)) < c then nmwSettle (sentValid n rx s) else slowDrop n s
        | none => s)

/-- A pulse of len FCLK cycles in measured ticks, rounded to the nearest (R138). -/
def sentTicks (cal len : Nat) : Nat := (112 * len + cal) / (2 * cal)

/-- A SENT error of counter j (R138). -/
def sentErr (n j : Nat) (s : State) : State := raise (lfFxp n 8) (slowDrop n (bump (persCtr s n j) s))

/-- The payload bytes of data nibbles, the first received in bits [7:4] (R141). -/
def sentPack : List Nat → List Byte
  | [] => []
  | [a] => [b8 (16 * a)]
  | a :: b :: t => b8 (16 * a + b) :: sentPack t

/-- SENT_RX_FRAME (R138 to R141): the nibble pulses after a calibration pulse and the pause pulse, in FCLK cycles; the
calibration pulse began age ns before. -/
def execSentRxFrame (port : Fin 128) (pulses : List Nat) (pause : Option Nat) (age : Nat) (s : State) :
    Host.Outcome State Fault Refusal :=
  let n := port.val
  let cfg := rd s (persReg s n 0x100)
  let cal := (Sys2Proof.Machine.port s n).cal
  let t := pulses.map (sentTicks cal)
  let v := t.map (· - 12)
  let nib := fld cfg 27 25
  let pauseOk := match pause, bit cfg 31 with
    | some p, true => decide (12 ≤ sentTicks cal p) && decide (sentTicks cal p ≤ 768)
    | none, false => true
    | _, _ => false
  done s (if persOf s n ≠ 4 ∨ onBus s n = false ∨ cal = 0 then s
    else if !pauseOk || pulses.length != nib + 2 then sentErr n 3 s
    else if t.any (fun x => decide (x < 12) || decide (27 < x)) then sentErr n 1 s
    else
      let data := slice v 1 nib
      if injFor s 0x0F n then sentErr n 2 (injDone s)
      else if v.getD (nib + 1) 0 != sentCrc (bit cfg 30) data then sentErr n 2 s
      else
        let rx : RxFrame := { frame := { fmt := .sent, data := b8 (v.getD 0 0) :: sentPack data }, ts := stampAgo s age }
        if bit cfg 24 then setPort n { Sys2Proof.Machine.port s n with sentWait := some (rx, cal) } s
        else nmwSettle (sentValid n rx s))

/-! ### PWMX (R146 to R148) -/

/-- PWMX_PERIOD_DONE (R146, R147): a capture channel completes a period; its last rising edge lies age ns before. -/
def execPwmxPeriodDone (port : Fin 128) (ch : Fin 4) (period high : BitVec 24) (level : Bool) (age : Nat) (s : State) :
    Host.Outcome State Fault Refusal :=
  let n := port.val
  let c := ch.val
  done s (if onBus s n && pwmCaps s n c then
      let s := wr (persReg s n (0x104 + 0x10 * c)) (w32 period.toNat) (wr (persReg s n (0x108 + 0x10 * c)) (w32 high.toNat) s)
      let s := reflexEvent {} (setLive (lfFxp n (8 + c)) false s)
      let rdiv := fld (rd s (persReg s n (0x100 + 0x10 * c))) 15 0
      let p := Sys2Proof.Machine.port s n
      let k := p.pwmCnt.getD c 0 + 1
      if rdiv = 0 then nmwSettle s
      else if k < rdiv then nmwSettle (setPort n { p with pwmCnt := setAt p.pwmCnt c k } s)
      else
        let d := beBytes 3 period.toNat ++ beBytes 3 high.toNat ++ [b8 (b2n level), 0]
        nmwSettle (handOff n { frame := { fmt := .pwmx, id := c, data := d }, ts := stampAgo s age }
          (setPort n { p with pwmCnt := setAt p.pwmCnt c 0 } s))
    else s)

/-- PWMX_STUCK (R147). -/
def execPwmxStuck (port : Fin 128) (ch : Fin 4) (s : State) : Host.Outcome State Fault Refusal :=
  let n := port.val
  let c := ch.val
  done s (if onBus s n && pwmCaps s n c then
      let s := wr (persReg s n (0x104 + 0x10 * c)) 0 (wr (persReg s n (0x108 + 0x10 * c)) 0 s)
      nmwSettle (reflexEvent {} (raiseLive (lfFxp n (8 + c)) s))
    else s)

/-- PWMX_PERIOD_START (R148): a generate channel applies its latched setting. -/
def execPwmxPeriodStart (port : Fin 128) (ch : Fin 4) (s : State) : Host.Outcome State Fault Refusal :=
  done s (if onBus s port && pwmGen s port ch && !safeOn s then pwmStart port ch s else s)

/-! ### SPIC (R143 to R145) -/

/-- SPIC_TRANSACTION_DONE (R97, R145, R465): the transaction in progress ends with its MISO bytes; its chip select was
asserted age ns before. The bytes go to the router, or to the bridge for a bridge transaction. -/
def execSpicTransactionDone (port : Fin 128) (miso : List Byte) (age : Nat) (s : State) : Host.Outcome State Fault Refusal :=
  let n := port.val
  done s (match (Sys2Proof.Machine.port s n).pend, (Sys2Proof.Machine.port s n).txing && persOf s n == 5 with
    | some (q, it), true =>
      let data := padTo (miso.take it.frame.data.length) it.frame.data.length 0
      let s := txSuccess n q (stampAgo s age) s
      match it.bridge with
      | some k => nmwSettle (sensorDone k data (bump (fxpCtr n 0) s))
      | none => nmwSettle (handOff n { frame := { it.frame with data := data }, ts := stampAgo s age } s)
    | _, _ => s)

/-! ### Lock groups (R151 to R155) -/

/-- LG_RELEASE (R151, R152, R155): ready names the ports at a selection point. -/
def execLgRelease (req : Requester) (group : Fin 16) (ready : List (Fin 128)) (s : State) : Host.Outcome State Fault Refusal :=
  done s (regCmd req (hostOrKiln req) (lgKey group 0x18) (lgRelease group (ready.map (·.val))) s)

/-- LG_RETRY (R154): every frame that waits is at a selection point, and the group starts them together again. -/
def execLgRetry (group : Fin 16) (s : State) : Host.Outcome State Fault Refusal :=
  let g := group.val
  let v := lgState s g
  let r := rdF s (lgKey g 0x14) 3 0
  done s (if v.retryWait != [] && v.retryWait.all (fun n => v.atSel.contains n) && decide (r < fld (lgCtl s g) 27 24) then
      let s := setLg g { v with aligned := v.retryWait, retryWait := [], atSel := [] } (wrF (lgKey g 0x14) 3 0 (r + 1) s)
      v.retryWait.foldl (fun s n => lgStart n (setPort n { port s n with grp := true } s)) s
    else s)

/-- LG_GIVEUP (R154): the frames proceed independently. -/
def execLgGiveup (group : Fin 16) (s : State) : Host.Outcome State Fault Refusal :=
  let g := group.val
  let v := lgState s g
  done s (if v.retryWait != [] then
      let s := setLg g { v with retryWait := [], atSel := [] } (wrB (lgKey g 0x14) 30 true s)
      v.retryWait.foldl (fun s n => setPort n { port s n with grp := false } s) s
    else s)

end Sys2Proof.Machine
end

