-- ==== Sys2Proof/Machine/FootCmd.lean ====
section
/-! DEFINITION. Sys2Proof/Machine/FootCmd.lean: Foot's commands (R396, R521 to R526) and device standby (R422, R423). -/

namespace Sys2Proof.Machine
open Sys2Proof

/-! ### FOOT_CMD (R522) -/

/-- The writers of FOOT_CMD: host function 0, Kiln firmware and the AUX target. -/
def footMay (q : Requester) : Bool := hostOrKiln q || decide (q = .aux)

/-- A command of Foot is ignored: counted, and CMD_REJECTED raised. -/
def footReject (s : State) : State := raise (lfFoot 3) (satInc 0x000B0018 15 0 s)

/-- A command that needs the key: the same requester wrote it within the previous 100 ms; it is consumed. -/
def footKeyed (q : Requester) (f : State → State) (s : State) : State :=
  match s.foot.key with
  | some (k, t) =>
    if k = q ∧ s.now ≤ t + msT 100 then f { s with foot := { s.foot with key := none } } else footReject s
  | none => footReject s

/-- A write to a register of Foot by its writers. -/
def footCmd (q : Requester) (off : Nat) (f : State → State) (s : State) : State := regCmd q (footMay q) off f s

/-- FOOT_CMD_KEY (R522): a second requester's key replaces the first one's. -/
def execFootCmdKey (req : Requester) (w : Word) (s : State) : Host.Outcome State Fault Refusal :=
  done s (footCmd req 0x000B0010 (fun s =>
    { s with foot := { s.foot with key := if w = 0x4B4E then some (req, s.now) else none } }) s)

/-- SAFE_ENTER (R522, R523). -/
def execSafeEnter (req : Requester) (s : State) : Host.Outcome State Fault Refusal :=
  done s (footCmd req 0x000B0014 (enterSafe 2) s)

/-- Foot leaves the safe state (R149, R523). -/
def safeEnd (s : State) : State := forN 128 0 engineSafeEnd (setLive (lfFoot 0) false (wrB 0x000B0020 31 false s))

/-- SAFE_EXIT (R523): only while SAFE_N is high, the watchdog has not expired, and with SAFE_ON_S no detector's STATUS is 1;
otherwise it is ignored and counted. -/
def execSafeExit (req : Requester) (s : State) : Host.Outcome State Fault Refusal :=
  done s (footCmd req 0x000B0014 (fun s =>
    if rdB s 0x000B0020 30 && !s.foot.wdgExpired && !(rdB s 0x00010000 31 && rdF s 0x00010040 14 0 != 0) then
      if safeOn s then nmwSettle (safeEnd s) else s
    else satInc 0x000B0018 15 0 s) s)

/-- WARM_RESET (R522, R556). -/
def execWarmReset (req : Requester) (s : State) : Host.Outcome State Fault Refusal :=
  done s (footCmd req 0x000B0014 (footKeyed req (resetTo false 3)) s)

/-- COLD_RESET (R522, R556). -/
def execColdReset (req : Requester) (s : State) : Host.Outcome State Fault Refusal :=
  done s (footCmd req 0x000B0014 (footKeyed req (resetTo true 4)) s)

/-- ZEROISE (R396, R522). -/
def execZeroise (req : Requester) (s : State) : Host.Outcome State Fault Refusal :=
  done s (footCmd req 0x000B0014 (footKeyed req zeroise) s)

/-- RETIRE_CLEAR (R516, R522). -/
def execRetireClear (req : Requester) (s : State) : Host.Outcome State Fault Refusal :=
  done s (footCmd req 0x000B0014 (footKeyed req (wr 0x000B0060 0)) s)

/-- SAFE_PIN_ASSERT (R523): SAFE_N takes a level; its falling edge enters the safe state. -/
def execSafePinAssert (level : Bool) (s : State) : Host.Outcome State Fault Refusal :=
  done s (
    if level then wrB 0x000B0020 30 true s
    else if rdB s 0x000B0020 30 then enterSafe 0 (footFault 2 (wrB 0x000B0020 30 false s))
    else s)

/-! ### The watchdog (R525) -/

/-- The watchdog expires: the safe state, FOOT_FAULT.WDG, EXPIRIES. -/
def wdgExpire (s : State) : State :=
  raise (lfFoot 1) (satInc 0x000B0038 15 0 (footFault 1 (enterSafe 1 { s with foot := { s.foot with wdgExpired := true } })))

/-- A kick of the watchdog with a value (R525). -/
def wdgKick (v : Word) (s : State) : State :=
  let inj := (injArmed s 0x05).isSome
  let s := if inj then injDone s else s
  let kicked := rdB s 0x000B0038 31
  let want : Word := if rdB s 0x000B0038 30 then 0xA5A5 else 0x5A5A
  if inj || v != want || (kicked && decide (s.now < s.foot.wdgLast + msT (rdF s 0x000B0030 28 20))) then wdgExpire s
  else
    let s := wrB 0x000B0038 31 true (wrB 0x000B0038 30 (!rdB s 0x000B0038 30) s)
    { s with foot := { s.foot with wdgLast := s.now } }

/-- FOOT_WDG_KICK (R525): ignored while expired; with AUX_KICK = 1 only the AUX target kicks. -/
def execFootWdgKick (req : Requester) (v : Word) (s : State) : Host.Outcome State Fault Refusal :=
  done s (footCmd req 0x000B0034 (fun s =>
    if s.foot.wdgExpired || (rdB s 0x000B0030 29 && decide (req ≠ .aux)) then s else wdgKick v s) s)

/-- FOOT_WDG_EXPIRY (R525): the count reaches its limit. -/
def execFootWdgExpiry (s : State) : Host.Outcome State Fault Refusal :=
  done s (if s.foot.wdgExpired then s else wdgExpire s)

/-- FOOT_WDG_ACTION (R525): 1 ms after expiry ACTION is performed. -/
def execFootWdgAction (s : State) : Host.Outcome State Fault Refusal :=
  done s (if s.foot.wdgExpired then
      match rdF s 0x000B0030 31 30 with
      | 1 => resetTo false 5 s
      | 2 => resetTo true 5 s
      | _ => s
    else s)

/-- FOOT_WDG_CFG_WRITE (R525): only before the first kick, and not with ACTION 0b11. -/
def execFootWdgCfgWrite (req : Requester) (w : Word) (s : State) : Host.Outcome State Fault Refusal :=
  done s (footCmd req 0x000B0030 (fun s =>
    if rdB s 0x000B0038 31 || fld w 31 30 == 3 then s else wr 0x000B0030 w s) s)

/-! ### Battery and FOOT_FAULT (R524, R526) -/

/-- VBAT_READING (R526): the average of the last 16 samples of the ball voltage, in mV. A battery voltage beyond its
16-bit field reads as a free value. -/
def execVbatReading (samples : List Nat) (s : State) : Host.Outcome State Fault Refusal :=
  done s (
    let inj := (injArmed s 0x17).isSome
    let s := if inj then injDone s else s
    let ball := if inj then 0 else samples.sum / 16 % 65536
    let v := ball * rdF s 0x000B0058 15 0 / 1000
    let high := decide (65535 < v)
    let bat := if high then freeVal s 16 else v
    let s := if high then drawn s else s
    let s := wr 0x000B0050 (w32 (ball * 65536 + bat)) s
    let low := rdF s 0x000B0054 31 16
    let hyst := rdF s 0x000B0054 15 0
    let was := leafBit s (lfFoot 2) 1
    if !was && decide (v < low) then raiseLive (lfFoot 2) s
    else if was && decide (low + hyst < v) then setLive (lfFoot 2) false s
    else s)

/-- The bits of FOOT_FAULT whose cause is present (R524). -/
def faultCauses (s : State) : Word :=
  let craze := grpStatus s 63 || (List.range 64).any (fun g => grpPending s g && bit (rd s (routeKey g)) 31)
  w32 (b2n craze + 2 * b2n s.foot.wdgExpired + 4 * b2n (!rdB s 0x000B0020 30) + 8 * b2n (s.boot.clk != 0)
    + 16 * b2n (leafBit s (lfKln 7) 1))

/-- FOOT_FAULT_CLEAR (R524): written ones clear; a bit whose cause persists sets again. -/
def execFootFaultClear (req : Requester) (w : Word) (s : State) : Host.Outcome State Fault Refusal :=
  done s (footCmd req 0x000B0040 (fun s =>
    wr 0x000B0040 ((rd s 0x000B0040 &&& ~~~w) ||| (faultCauses s &&& 0x1F)) s) s)

/-! ### Standby (R422, R423) -/

/-- Why standby is refused: 0 not, 1 a cluster is awake, 2 an update, 3 veto, 4 a wake event is latched (R422). -/
def standbyRefused (s : State) : Nat :=
  if (List.range 16).any (fun c => ncState s c != 0 && ncState s c != 3) then 1
  else if rdF s 0x00030000 31 29 != 0 then 2
  else if rdB s 0x00070004 30 then 3
  else if s.nmw.clusters.any (fun e => e.2.latch.isSome) then 4
  else 0

/-- The standby entry starts: Foot copies the masks, the ports' settings, the PIO wakes and the timer, and arms its latch. -/
def standbyStart (s : State) : State :=
  let k := standbyRefused s
  let s := wrF 0x00070004 27 24 k s
  if k ≠ 0 then s
  else
    let copy := (tblRange s.regs 0x00070008 0x00070010) ++ (List.range 128).map (fun n =>
      (0x00070200 + 4 * n, rd s (0x00070200 + 4 * n))) ++ tblRange s.regs 0x00078000 0x00080000
    { s with nmw := { s.nmw with entering := true, footCopy := copy }
             foot := { s.foot with wakeArmed := true, wakeGot := false } }

/-- STANDBY_ENTER (R422): host function 0 writes ENTER. -/
def execStandbyEnter (req : Requester) (s : State) : Host.Outcome State Fault Refusal :=
  done s (regCmd req (hostRights req) 0x00070004 standbyStart s)

/-- STANDBY_AUTO (R422): with STBY_AUTO = 1 Kiln firmware enters standby once every enabled cluster has slept long enough. -/
def execStandbyAuto (s : State) : Host.Outcome State Fault Refusal :=
  done s (if rdB s 0x00070004 29 && (List.range 16).all (fun c => ncState s c == 0 || ncState s c == 3) then standbyStart s else s)

/-- NMW_PORT of flexport n as Foot has copied it. -/
def wakePort (s : State) (n : Nat) : Word := tblGet s.nmw.footCopy (0x00070200 + 4 * n) 0

/-- Foot takes over the pins of flexport n for standby (R422). -/
def standbyPads (n : Nat) (s : State) : State :=
  let i := tblGet s.foot.safeImg n 0
  match nbits i 2 0 with
  | 1 =>
    let s := emit (.fieldPin n 0 true) s
    if !bit (wakePort s n) 30 && (nbit i 3 || nbit i 5) then emit (.fieldPin n 2 (nbit i 3)) s else s
  | 2 => emit (.fieldPin n 0 true) s
  | 3 => emit (.fieldPin n 3 true) s
  | _ => s

/-- The exit from standby begins: a warm reset (R423). -/
def standbyExit (s : State) : State := resetTo false 7 (wrB 0x000B0100 29 false s)

/-- STANDBY_DONE (R422): the core is power-gated; with a wake latched the exit begins at once. -/
def execStandbyDone (s : State) : Host.Outcome State Fault Refusal :=
  done s (if s.nmw.entering then
      let s := coreReset false (forN 128 0 standbyPads s)
      let s := wrB 0x000B0100 29 true s
      if s.foot.wakeGot then standbyExit s else s
    else s)

/-- Foot records a wake (R423): the first one in FOOT_WAKE and FOOT_WAKE_ID, a later one in MULTI. In standby the exit
begins. -/
def footWake (source index mask id : Nat) (s : State) : State :=
  if !s.foot.wakeArmed then s
  else if s.foot.wakeGot then wrB 0x000B0100 30 true s
  else
    let active := rdB s 0x000B0100 29
    let s := wr 0x000B0104 (w32 id)
      (wr 0x000B0100 (w32 (2 ^ 31 + b2n active * 2 ^ 29 + source * 2 ^ 26 + mask * 2 ^ 23 + index * 2 ^ 8)) s)
    let s := { s with foot := { s.foot with wakeGot := true } }
    if active then standbyExit s else s

/-- Foot's copies let a source wake (R423): a CANX port by its mask while its transceiver is awake, by FPn_D otherwise;
LIN and T1S ports; TC10 ports; the two PIO inputs. -/
def wakeAllowed (s : State) (source index mask : Nat) : Bool :=
  let w := wakePort s index
  let pio := (tblGet s.nmw.footCopy 0x00070008 0)
  let pers := nbits (tblGet s.foot.safeImg index 0) 2 0
  match source with
  | 0 => pers == 1 && bit w 31 && bit w 30 && bit (tblGet s.nmw.footCopy (0x00078000 + 0x100 * index + 0x20 * mask) 0) 31
  | 1 => pers == 1 && bit w 31 && !bit w 30
  | 2 => pers == 2 && bit w 31
  | 3 => pers == 3 && bit w 31
  | 4 => decide (index < 24)
  | 5 => (bit pio 31 && fld pio 29 24 == index) || (bit pio 15 && fld pio 13 8 == index)
  | _ => false

/-- STANDBY_WAKE (R419, R423): Foot detects a wake: 0 CAN mask, 1 CAN FPn_D, 2 LIN, 3 T1S, 4 TC10, 5 PIO, at a flexport,
Ethernet port or pin; for a CAN mask, the mask and the identifier. A muted flexport's wake only counts. -/
def execStandbyWake (source : Fin 6) (index : Fin 128) (mask : Fin 8) (id : Fin 536870912) (s : State) :
    Host.Outcome State Fault Refusal :=
  done s (
    if !wakeAllowed s source index mask || !s.foot.wakeArmed then s
    else if source.val < 4 ∧ muted s index = true then satInc (fwKey index) 7 3 s
    else footWake source index (if source.val = 0 then mask else 0) (if source.val = 0 then id else 0) s)

/-- STANDBY_TIMER_EXPIRY (R423): the standby timer expires. -/
def execStandbyTimerExpiry (s : State) : Host.Outcome State Fault Refusal :=
  done s (if fld (tblGet s.nmw.footCopy 0x0007000C 0) 23 0 = 0 then s else footWake 7 0 0 0 s)

/-- FOOT_WAKE_CMD (R423, R522): the WAKE command. -/
def execFootWakeCmd (req : Requester) (s : State) : Host.Outcome State Fault Refusal :=
  done s (footCmd req 0x000B0014 (footWake 6 0 0 0) s)

end Sys2Proof.Machine
end

