-- ==== Sys2Proof/Machine/RegWrite.lean ====
section
/-! DEFINITION. Sys2Proof/Machine/RegWrite.lean: writes to the address space (R6, R7, R53, R574 to R576): the registers whose
write is a command, the fields, and what follows from a field's new value. -/

namespace Sys2Proof.Machine
open Sys2Proof

/-- The state that a command's meaning gives. -/
def after (o : State → Host.Outcome State Fault Refusal) (s : State) : State :=
  match o s with
  | .next t => t
  | _ => s

/-! ### Command slots (R52, R53) -/

/-- The engine (0 CFG, 1 GLZ, 2 SAG, 3 TBL, 4 BRG), the slot and the place in it of an offset. -/
def slotAt (off : Nat) : Option (Nat × Nat × Nat) :=
  let find (e base : Nat) : Option (Nat × Nat × Nat) :=
    if base ≤ off ∧ off < base + 0x200 ∧ (off - base) % 0x80 < 0x4C then some (e, (off - base) / 0x80, (off - base) % 0x80) else none
  if 0x00080040 ≤ off ∧ off < 0x00080050 then none
  else find 0 0x000A0000 <|> find 1 0x00050000 <|> find 2 0x00040000 <|> find 3 0x00280000 <|> find 4 0x00080000

/-- The base of a slot of an engine. -/
def slotBase (e k : Nat) : Nat := [0x000A0000, 0x00050000, 0x00040000, 0x00280000, 0x00080000].getD e 0 + 0x80 * k

/-- A requester is permitted for a slot of an engine (R56, R249, R374, R405, R475). -/
def slotMay (e k : Nat) (q : Requester) : Bool :=
  match e with
  | 3 => tblMay (Fin.ofNat 4 k) q
  | 4 => if k < 2 then hostRights q else decide (q = .kiln)
  | _ => keySlotMay (Fin.ofNat 4 k) q

/-- RES_RELEASE (R53): the slot's held result is released where the value is its ticket. -/
def resRelease (e k : Nat) (v : Nat) (s : State) : State :=
  let b := slotBase e k
  let st := slotStatus s b
  if bit st 31 && fld st 23 16 == v then slotClear b (wr (b + 0x24) (setFld (setBit st 31 false) 7 0 0) s) else s

/-- A reserved OPCODE. -/
def badOpcode (e k : Nat) (q : Requester) (s : State) : State := slotRun (slotBase e k) (slotMay e k q) (answer cBadCommand) s

/-- A CMD write to slot k of the configuration loader (R56). -/
def cfgCmdWrite (q : Requester) (k : Fin 4) (w : Word) : State → State :=
  let region := Fin.ofNat 32 (fld w 12 8)
  let src := Fin.ofNat 4 (fld w 17 16)
  match fld w 7 0 with
  | 1 => after (execLoad q k region src)
  | 2 => after (execSwap q k region)
  | 3 => after (execWarmRestart q k src)
  | _ => badOpcode 0 k q

/-- A CMD write to slot k of Glaze (R374). -/
def glzCmdWrite (q : Requester) (k : Fin 4) (w : Word) (e : WrEnv) : State → State :=
  let p := fld w 23 8
  let port := Fin.ofNat 32 p
  let tx := nbit p 5
  let an := Fin.ofNat 4 (p / 64)
  let sc := Fin.ofNat 32 (p / 256)
  match fld w 7 0 with
  | 0x01 => after (execSha256 q k e.data)
  | 0x02 => after (execHmac q k e.data)
  | 0x03 => after (execHmacVerify q k (Fin.ofNat 64 p) e.data e.sig)
  | 0x10 => after (execLmsVerify q k (nbit p 0) (Fin.ofNat 4 (p / 2)) e.data e.sig e.pub)
  | 0x20 => after (execRxscSet q k port sc)
  | 0x21 => after (execSaInstall q k port tx an sc)
  | 0x22 => after (execSaEnable q k port tx an sc)
  | 0x23 => after (execSaRetire q k port tx an sc)
  | 0x24 => after (execSaRead q k port tx an sc)
  | 0x30 => after (execFvSet q k)
  | 0x31 => after (execFvRead q k)
  | _ => badOpcode 1 k q

/-- A CMD write to slot k of Saggar (R405). -/
def sagCmdWrite (q : Requester) (k : Fin 4) (w : Word) (e : WrEnv) : State → State :=
  let p := fld w 23 8
  match fld w 7 0 with
  | 0x01 => after (execNodeRead q k (Fin.ofNat 4096 p))
  | 0x02 => after (execKeyUpdate q k e.data)
  | 0x03 => after (execKeyInject q k (Fin.ofNat 4096 p) e.data)
  | 0x04 => after (execNodeInvalidate q k (Fin.ofNat 4096 p))
  | 0x05 => after (execLifecycle q k (Fin.ofNat 8 p) e.pub)
  | 0x10 => after (execAttest q k e.data e.stuck)
  | 0x20 => after (execDebugChallenge q k)
  | 0x21 => after (execDebugResponse q k (Fin.ofNat 4 p) e.pub e.sig)
  | _ => badOpcode 2 k q

/-- A CMD write to slot k of the table manager (R249). -/
def tblCmdWrite (q : Requester) (k : Fin 4) (w : Word) : State → State :=
  let p := fld w 23 8
  match fld w 7 0 with
  | 0x01 => after (execL2Insert q k)
  | 0x02 => after (execL2Delete q k)
  | 0x03 => after (execL2Lookup q k)
  | 0x04 => after (execL2Flush q k (Fin.ofNat 4 p))
  | 0x05 => after (execL2Relocate q k)
  | 0x10 => after (execLpmInsert q k (Fin.ofNat 8 p))
  | 0x11 => after (execLpmDelete q k (Fin.ofNat 8 p))
  | 0x12 => after (execLpmLookup q k (Fin.ofNat 8 p))
  | 0x20 => after (execNhWrite q k (Fin.ofNat 8192 p))
  | _ => badOpcode 3 k q

/-- A CMD write to slot k of an engine. -/
def cmdWrite (e k : Nat) (q : Requester) (w : Word) (env : WrEnv) : State → State :=
  match e with
  | 0 => cfgCmdWrite q (Fin.ofNat 4 k) w
  | 1 => glzCmdWrite q (Fin.ofNat 4 k) w env
  | 2 => sagCmdWrite q (Fin.ofNat 4 k) w env
  | 3 => tblCmdWrite q (Fin.ofNat 4 k) w
  | _ => brgCommand q k (fld w 7 0) (fld w 23 8)

/-- A write to a register of a slot: CMD, ARG0 to ARG7 or RES_RELEASE (R52, R53, R576). -/
def slotRegWrite (e k o : Nat) (q : Requester) (off : Nat) (w : Word) (env : WrEnv) (s : State) : State :=
  if o = 0 then cmdWrite e k q w env s
  else if 0x04 ≤ o ∧ o < 0x24 then regCmd q (slotMay e k q) off (wr off w) s
  else if o = 0x48 then regCmd q (slotMay e k q) off (resRelease e k (fld w 7 0)) s
  else s

/-! ### Registers whose write is a command -/

/-- Bit b of w is 1: f, else nothing. -/
def onBit (w : Word) (b : Nat) (f : State → State) (s : State) : State := if bit w b then f s else s

/-- A write to a register of the time base, a Cone or a lock group that starts a command. -/
def timWrite (q : Requester) (off : Nat) (w : Word) (e : WrEnv) : Option (State → State) :=
  if off = 0x00060050 ∨ off = 0x00060070 then some (after (execRateWrite q (decide (off = 0x00060070)) w))
  else if off = 0x0006005C ∨ off = 0x0006007C then some (onBit w 0 (after (execDomainStep q (decide (off = 0x0006007C)))))
  else if off = 0x000600A0 then some (fun s =>
    let s := if hostRights q then onBit w 31 (wrB 0x000600A0 31 false) s else s
    match fld w 1 0 with
    | 0 => after (execSelAuto q) s
    | 1 => after (execSelForceA q) s
    | 2 => after (execSelForceB q) s
    | _ => s)
  else if off = 0x000600B0 then some (onBit w 0 (after (execTimSnap q)))
  else if 0x00061000 ≤ off ∧ off < 0x00062800 ∧ off % 0x40 = 0 then
    let n := Fin.ofNat 96 ((off - 0x00061000) / 0x40)
    some (if bit w 31 then after (execConeArm q n w) else after (execConeDisarm q n w))
  else if 0x00063000 ≤ off ∧ off < 0x00063400 ∧ off % 0x40 = 0x18 then
    some (onBit w 0 (after (execLgRelease q (Fin.ofNat 16 ((off - 0x00063000) / 0x40)) e.ready)))
  else none

/-- A write to a personality register of a flexport that starts a command (R118, R119, R127, R132). -/
def persWrite (q : Requester) (port : Fin 128) (o : Nat) (w : Word) (e : WrEnv) (s : State) : Option (State → State) :=
  match persOf s port, o with
  | 1, 0x11C => some (fun s =>
    let s := if hostOrKiln q then canxPinC port (wrB (persReg s port 0x11C) 2 (bit w 2) s) else s
    let s := onBit w 1 (after (execCanxRecover q port)) s
    if bit w 0 = freezeOn s port then s
    else if bit w 0 then after (execCanxFreeze q port e.busy) s else after (execCanxUnfreeze q port) s)
  | 2, 0x108 => some (after (execLinSchedReq q port (Fin.ofNat 8 (fld w 18 16))))
  | 2, 0x114 => some (fun s => onBit w 2 (after (execLinWake q port)) (onBit w 1 (after (execLinSleep q port)) s))
  | _, _ => none

/-- A write to QP_CTRL (R434, R436, R446, R448): the ring fields while ENABLE and BUSY are 0, then the commands. -/
def qpCtrlWrite (q : Requester) (n : Fin 1024) (w : Word) (e : WrEnv) (s : State) : State :=
  let k := qpKey n 0
  if qpMay s n q = false then accErr q 1 k s
  else
    let c := rd s k
    let s := if bit c 31 || bit c 30 then s else wr k (setFld (setFld c 19 16 (fld w 19 16)) 8 0 (fld w 8 0)) s
    let s := if bit w 31 = bit c 31 ∧ bit c 29 = false then s
      else if bit w 31 then (if bit c 31 then s else after (execQpEnable q n) s) else after (execQpDisable q n e.sends) s
    onBit w 26 (after (execCapRewind q n)) (onBit w 27 (after (execCapMark q n)) (onBit w 28 (after (execQpFlush q n e.sends)) s))

/-- A write to a queue pair's registers. -/
def qpWrite (q : Requester) (off : Nat) (w : Word) (e : WrEnv) : Option (State → State) :=
  let n := Fin.ofNat 1024 ((off - 0x00510000) / 0x40)
  match off % 0x40 with
  | 0x00 => some (qpCtrlWrite q n w e)
  | 0x20 => some (after (execTxDoorbell q n (BitVec.ofNat 16 w.toNat)))
  | 0x24 => some (after (execRxbDoorbell q n (BitVec.ofNat 16 w.toNat)))
  | 0x28 => some (after (execCqDoorbell q n (BitVec.ofNat 16 w.toNat) (bit w 31)))
  | 0x34 => some (after (execCapRelease q n w))
  | _ => none

/-- A write to a FOOT register that is a command (R419, R522 to R525). -/
def footWrite (q : Requester) (off : Nat) (w : Word) : Option (State → State) :=
  if off = 0x000B0010 then some (after (execFootCmdKey q w))
  else if off = 0x000B0014 then
    some (match fld w 7 0 with
      | 1 => after (execSafeEnter q)
      | 2 => after (execSafeExit q)
      | 3 => after (execWarmReset q)
      | 4 => after (execColdReset q)
      | 5 => after (execZeroise q)
      | 6 => after (execFootWakeCmd q)
      | 7 => after (execRetireClear q)
      | _ => id)
  else if off = 0x000B0030 then some (after (execFootWdgCfgWrite q w))
  else if off = 0x000B0034 then some (after (execFootWdgKick q w))
  else if off = 0x000B0040 then some (after (execFootFaultClear q w))
  else if 0x000B0400 ≤ off ∧ off < 0x000B0600 then some (onBit w 0 (after (execFootFwClear q (Fin.ofNat 128 ((off - 0x000B0400) / 4)))))
  else none

/-- A write to a CRZ register that is a command (R533, R534, R540, R541). -/
def crzWrite (q : Requester) (off : Nat) (w : Word) : Option (State → State) :=
  if off = 0x00010010 then some (after (execInjKeyWrite q w))
  else if off = 0x00010020 then some (onBit w 0 (after (execInjGo q)))
  else if off = 0x00010090 ∨ off = 0x00010094 then some (after (execGroupArm q none (decide (off = 0x00010094)) w))
  else if 0x00010100 ≤ off ∧ off < 0x00010200 then some (after (execCrzRouteWrite q (Fin.ofNat 64 ((off - 0x00010100) / 4)) w))
  else if 0x00018000 ≤ off ∧ off < 0x00020000 ∧ 0x10 ≤ off % 0x1000 ∧ off % 0x1000 < 0x18 then
    some (after (execGroupArm q (some (Fin.ofNat 8 ((off - 0x00018000) / 0x1000))) (decide (off % 8 = 4)) w))
  else none

/-- The INJECT registers, beside those of the leaf window (R528). -/
def injectRegs : List Nat :=
  [0x000600EC, 0x0007004C, 0x0009004C, 0x0020004C, 0x0024004C, 0x0028044C, 0x0030004C, 0x0038004C, 0x0008004C, 0x0040004C, 0x0048004C,
   0x0005040C, 0x0050004C, 0x0048005C, 0x0004048C, 0x0003004C, 0x0002004C, 0x000B008C, 0x0001004C]

/-- An offset names an INJECT register. -/
def isInject (off : Nat) : Bool :=
  injectRegs.contains off || (decide (0x00011300 ≤ off) && decide (off < 0x00011400))
    || (decide (0x00100000 ≤ off) && decide (off < 0x00180000) && off % 0x1000 == 0x1C)
    || (decide (0x00180000 ≤ off) && decide (off < 0x001B2000) && off % 0x2000 == 0x1C)

/-- The command that a write to an offset is, beside the command slots; none for a register of fields only. -/
def regCommand (q : Requester) (off : Nat) (w : Word) (e : WrEnv) (s : State) : Option (State → State) :=
  if isInject off then some (after (execLeafInject q (BitVec.ofNat 28 off) w))
  else if off < 0x00010000 then none
  else if off < 0x00020000 then crzWrite q off w
  else if 0x00060000 ≤ off ∧ off < 0x00070000 then timWrite q off w e
  else if 0x00071000 ≤ off ∧ off < 0x00071800 ∧ off % 0x80 = 0x44 then
    let c := Fin.ofNat 16 ((off - 0x00071000) / 0x80)
    some (fun s => onBit w 1 (after (execNcWake q c)) (after (execNcConsentWrite q c (bit w 0)) s))
  else if off = 0x00080720 then
    some (onBit w 0 (regCmd q (hostOrKiln q) off errlogPop))
  else if off = 0x00090310 then some (onBit w 0 (after (execColRevtPop q)))
  else if off = 0x000A0200 then some (onBit w 0 (after (execCfgLockSet q)))
  else if 0x000B0000 ≤ off ∧ off < 0x000B1000 then footWrite q off w
  else if 0x00100000 ≤ off ∧ off < 0x00180000 then persWrite q (Fin.ofNat 128 ((off - 0x00100000) / 0x1000)) (off % 0x1000) w e s
  else if 0x00180000 ≤ off ∧ off < 0x001B0000 ∧ off % 0x2000 = 0x94 then
    let n := Fin.ofNat 24 ((off - 0x00180000) / 0x2000)
    some (fun s => onBit w 1 (after (execTc10WakeCmd q n)) (onBit w 0 (after (execTc10Sleep q n)) s))
  else if off = 0x00300008 then some (onBit w 31 (after (execSrtImgSend q (Fin.ofNat 65536 (fld w 15 0)))))
  else if 0x00381000 ≤ off ∧ off < 0x00382000 ∧ off % 0x40 = 4 then
    some (after (execPioOutWrite q (Fin.ofNat 64 ((off - 0x00381000) / 0x40)) (bit w 0)))
  else if 0x00510000 ≤ off ∧ off < 0x00520000 then qpWrite q off w e
  else if 0x04580000 ≤ off ∧ off < 0x045C0000 ∧ off % 0x10 = 8 then
    some (onBit w 31 (after (execMarClear q (Fin.ofNat 16384 ((off - 0x04580000) / 0x10)))))
  else if 0x04680000 ≤ off ∧ off < 0x04680200 then
    some (fun s => forN 32 0 (fun b s => onBit w b (after (execClassUnblock q (Fin.ofNat 4096 (32 * ((off - 0x04680000) / 4) + b)))) s) s)
  else if 0x0F000000 ≤ off ∧ off < 0x0F020000 then
    some (if off % 0x20 = 0 then after (execMcGroupCommit q (Fin.ofNat 4096 ((off - 0x0F000000) / 0x20)) w)
      else fun s => regCmd q (hostOrKiln q) off (fun s => if locked s then s else { s with mcStage := tblSet s.mcStage off w }) s)
  else if 0x0F040000 ≤ off ∧ off < 0x0F060000 ∧ off % 0x20 = 4 then
    some (onBit w 31 (after (execFrerForceReset q (Fin.ofNat 4096 ((off - 0x0F040000) / 0x20)))))
  else none

/-! ### Fields (R6, R7, R576) -/

/-- A requester may write the fields of a row: the owner of a queue pair its registers (R431, R449), the AUX target the FOOT
block (R582), a function its MSI-X table; for any other row its named writers, else host function 0 and Kiln firmware. -/
def fieldMay (s : State) (q : Requester) (off : Nat) (r : RegRow) : Bool :=
  if 2 ^ 32 ≤ off then true
  else if 0x00510000 ≤ off ∧ off < 0x00520000 then qpMay s ((off - 0x00510000) / 0x40) q
  else if 0x00540000 ≤ off ∧ off < 0x00548000 then qpMay s ((off - 0x00540000) / 0x20) q
  else if 0x000B0000 ≤ off ∧ off < 0x000B1000 then hostOrKiln q || decide (q = .aux)
  else match r.who with
    | .any => hostOrKiln q
    | .host0 => hostRights q
    | .kiln => decide (q = .kiln)
    | .loader => false

/-- RWL fields cannot be written: CFG_LOCK is set, or the flexport's engine is enabled (R6, R96). -/
def rwlHeld (s : State) (off : Nat) : Bool :=
  locked s || (decide (0x00100000 ≤ off) && decide (off < 0x00180000) && rdB s (fxpBase ((off - 0x00100000) / 0x1000)) 31)

/-- Ring bases of a queue pair are written while ENABLE and BUSY are 0 (R434). -/
def qpHeld (s : State) (off : Nat) : Bool :=
  decide (0x00510000 ≤ off) && decide (off < 0x00520000) && decide (8 ≤ off % 0x40) && decide (off % 0x40 < 0x20)
    && (let c := rd s (off - off % 0x40); bit c 31 || bit c 30)

/-- TIM_WT_SEED is read-only once working time is initialised (R72). -/
def seedHeld (s : State) (off : Nat) : Bool := decide (0x00060020 ≤ off) && decide (off < 0x0006002C) && wtValid s

/-- The registers of a plan Cone are read-only (R85). -/
def planHeld (off : Nat) : Bool := decide (0x00061000 ≤ off) && decide (off < 0x00062000) && decide (off % 0x40 < 0x24)

/-- A monitor whose SRC or INDEX is out of range does not enable (R356); a watermark that is enabled starts from the level
of that moment (R355). b is its first register, lvl its level now. -/
def wmEnable (was : Bool) (b lvl : Nat) (s : State) : State :=
  if rdB s b 31 && !was then wr (b + 0x10) (w32 lvl) (wr (b + 0x14) (w32 lvl) s) else s

/-- A Cone's W1C bit has been cleared: CONE_LATE and CONE_ERR are LIVE while a Cone shows them. -/
def conesLive (s : State) : State :=
  let any (b : Nat) : Bool := (List.range 96).any (fun n => rdB s (coneStatus n) b)
  setLive (lfTim 7) (any 30) (setLive (lfTim 6) (any 31) s)

/-- A cleared mask bit of an MSI-X entry sends what is pending (R534). -/
def msixUnmask (off : Nat) (s : State) : State :=
  let f := (off - 2 ^ 32) / 0x1000
  let v := off % 0x1000 / 16
  let pba := bar2Key f (0x800 + 4 * (v / 32))
  if off % 0x1000 < 0x400 ∧ off % 16 = 12 ∧ rdB s off 0 = false ∧ rdB s pba (v % 32) = true then
    emit (.msix f v) (wrB pba (v % 32) false s)
  else s

/-- The event ENABLE registers: their groups are signalled anew (R534). -/
def isEnable (off : Nat) : Bool := isInject (off + 4) && !isInject off

/-- What follows from new fields at an offset; s is what was in force, t holds the new word. -/
def fieldEffects (off : Nat) (s t : State) : State :=
  if 2 ^ 32 ≤ off then msixUnmask off t
  else if isEnable off then forN 64 0 settleGroup t
  else if 0x00061000 ≤ off ∧ off < 0x00062800 ∧ off % 0x40 = 0x24 then conesLive t
  else if off = 0x00060014 then (if rdB t off 24 && !rdB s off 24 then reselect t else t)
  else if off = 0x00060040 ∨ off = 0x00060044 then
    let d := decide (off = 0x00060044)
    domainState d (if d then rdF t 0x00060010 9 8 else rdF t 0x00060010 1 0) t
  else if off = 0x00040404 then burnAuthLock t
  else if 0x00090100 ≤ off ∧ off < 0x00090200 then coilLive (linkFit ((off - 0x00090100) / 0x20) t)
  else if 0x00100000 ≤ off ∧ off < 0x00180000 ∧ off % 0x1000 = 0 then
    let n := (off - 0x00100000) / 0x1000
    if persOf s n = persOf t n then t else let f := fxqFlush n t; bumpN (srtCtr 5) f.1 f.2
  else if 0x00381000 ≤ off ∧ off < 0x00382000 ∧ off % 0x40 = 0 then pinsApplied s t
  else if 0x00500100 ≤ off ∧ off < 0x00500180 then qpWmLive t
  else if 0x00481000 ≤ off ∧ off < 0x00481400 ∧ off % 0x20 = 0 then
    let w := rd t off
    if wmSourceOk (fld w 26 24) (fld w 10 0) then wmEnable (rdB s off 31) off (wmLevel t (fld w 26 24) (fld w 10 0)) t
    else if rdB s off 31 then t else wrB off 31 false t
  else if 0x00540000 ≤ off ∧ off < 0x00548000 ∧ off % 0x20 = 0 then
    wmEnable (rdB s off 31) off (qpLevel t ((off - 0x00540000) / 0x20)) t
  else if off = 0x00480000 ∨ off = 0x00480004 ∨ (0x0F400000 ≤ off ∧ off < 0x0F405000) then
    (if regionApplied t 27 then wr 0x00480008 (w32 (unsigned 32 (sharedOf t))) t else t)
  else t

/-- A write to the fields of a register (R6, R64, R576). -/
def fieldWrite (q : Requester) (off : Nat) (w : Word) (s : State) : State :=
  let pers := decide (0x00100000 ≤ off) && decide (off < 0x00180000) && decide (0x100 ≤ off % 0x1000)
  match findRow (if pers then rowsPers (persOf s ((off - 0x00100000) / 0x1000)) else blockRows off) off with
  | none => s
  | some r =>
    let held := rwlHeld s off
    if rowMask r .rw ||| rowMask r .rwl ||| rowMask r .w1c ||| rowMask r .w1s = 0 then s
    else if fieldMay s q off r = false then accErr q 1 off s
    else if rowMask r .rw ||| (if held then 0 else rowMask r .rwl) ||| rowMask r .w1c ||| rowMask r .w1s = 0 ∨ (qpHeld s off || seedHeld s off || planHeld off) = true then s
    else
      let k := keyOf s off
      fieldEffects off s (wr k (accessWord r held (rd s k) w) s)

/-- FXP_CFG (R92, R95, R96): PERS while the engine is disabled, then ENABLE. -/
def fxpCfgWrite (q : Requester) (off : Nat) (w : Word) (e : WrEnv) (s : State) : State :=
  let n := Fin.ofNat 128 ((off - 0x00100000) / 0x1000)
  let s := fieldWrite q off w s
  if bit w 31 = rdB s off 31 ∨ hostOrKiln q = false then s
  else if bit w 31 then after (execFxpEnable q n) s else after (execFxpDisable q n e.busy) s

/-- A leaf window write (R531): STATUS bits clear, ENABLE bits are set, in the blocks' own registers. -/
def leafWrite (q : Requester) (off : Nat) (w : Word) (s : State) : State :=
  let g := off % 0x100 / 4
  regCmd q (hostOrKiln q) off (fun s =>
    if off < 0x00011100 then forN 32 0 (fun b s => onBit w b (setLeafBit (32 * g + b) 0 false) s) s
    else if off < 0x00011200 then s
    else settleGroup g (forN 32 0 (fun b s => setLeafBit (32 * g + b) 2 (bit w b) s) s)) s

/-- A whole-word write to an offset that the requester reaches. -/
def wordWrite (q : Requester) (off : Nat) (w : Word) (e : WrEnv) (s : State) : State :=
  match slotAt off with
  | some (g, k, o) => slotRegWrite g k o q off w e s
  | none =>
    if 0x00011000 ≤ off ∧ off < 0x00011300 then leafWrite q off w s
    else if 0x00100000 ≤ off ∧ off < 0x00180000 ∧ off % 0x1000 = 0 then fxpCfgWrite q off w e s
    else
      match regCommand q off w e s with
      | some f => f s
      | none =>
        let s := fieldWrite q off w s
        if off = 0x00070004 then onBit w 31 (after (execStandbyEnter q)) s else s

/-- A virtual function clears watermark pending bits of its own queue pairs (R431). -/
def vfPendWrite (f off : Nat) (w : Word) (s : State) : State :=
  qpWmLive (forN 32 0 (fun b s =>
    match ownedQp s f (8 * (off - 0xA000) + b) with
    | some q => onBit w b (wrB (0x00500100 + 4 * (q / 32)) (q % 32) false) s
    | none => s) s)

/-- A requester's write of a word (R574 to R576): be says that every byte is enabled. -/
def writeFor (q : Requester) (off : Nat) (be : Bool) (w : Word) (e : WrEnv) (s : State) : State :=
  let deliver (k : Nat) : State :=
    if blockDead s k then raise (lfCrz 13) (injDone s)
    else if !be then (if (findRow (blockRows k) k).isSome then accErr q 0 k s else s)
    else wordWrite q k w e s
  match q with
  | .host f =>
    if f ≠ 0 ∧ 0xA000 ≤ off ∧ off < 0xA020 ∧ off % 4 = 0 then (if be then vfPendWrite f off w s else accErr q 0 off s)
    else match reach s q off with
      | some k => deliver k
      | none => s
  | _ => match reach s q off with
    | some k => deliver k
    | none => s

/-- Writes of consecutive words, in ascending order (R575). -/
def writeMany (q : Requester) (e : WrEnv) : List Word → Nat → State → State
  | [], _, s => s
  | w :: ws, off, s => writeMany q e ws (off + 4) (writeFor q off true w e s)

end Sys2Proof.Machine
end

