-- ==== Sys2Proof/Machine/Bridge.lean ====
section
/-! DEFINITION. Sys2Proof/Machine/Bridge.lean: the bridge (R450 to R475): remote windows, transactions at their target and at
their requester, timers; register writes, whose commands may concern it; the AUX view of Foot (R581). -/

namespace Sys2Proof.Machine
open Sys2Proof

/-! ### Remote windows (R451 to R453, R463, R464) -/

/-- An access that the requester's bridge does not carry is recorded with BAD_COMMAND (R452, R453, R464). -/
def brgBad (t : BrgTx) (did : Nat) (s : State) : State := brgLog { t with code := cBadCommand } did (ownDid s) 0 s

/-- The pieces of an access to n words at a target address: none crosses a 128-byte boundary (R452). -/
def pieces : Nat → Nat → Nat → List (Nat × Nat)
  | 0, _, _ => []
  | f + 1, a, n =>
    if n = 0 then []
    else
      let k := min n (32 - a % 128 / 4)
      (a, k) :: pieces f (a + 4 * k) (n - k)

/-- A write to a device's address space, split into its pieces (R452). -/
def regSend (did ch : Nat) (priv full : Bool) (addr : Nat) (data : List Byte) (s : State) : State :=
  let t : BrgTx := { ch := ch, priv := priv, addr := addr }
  if didBad s did || !full || addr % 4 != 0 || data.length % 4 != 0 then brgBad t did s
  else
    (pieces (data.length + 1) addr (data.length / 4)).foldl (fun s p =>
      brgPost did { t with addr := p.1, len := 4 * p.2, data := slice data (p.1 - addr) (4 * p.2) } s) s

/-- A sensor transaction that a map entry names (R463, R464): its DID and the transaction. -/
def sensorTx (s : State) (w off ch : Nat) : Option (Nat × BrgTx) :=
  match mapEntry s (fld (winBase s w) 11 0 + off / 256 % 4096) with
  | some (did, p, q, cs) =>
    if did = 0x7FF ∨ (did ≠ 0 ∧ did = ownDid s) then none
    else some (did, { tgt := 1, ch := ch, addr := p * 2 ^ 24 + q * 2 ^ 21, id := cs })
  | none => none

/-- The staging buffer of a channel (R464). -/
def brgStage (s : State) (ch : Nat) : List Byte := padTo (tblGet s.brg.stage ch []) 256 0

/-- Length and alignment of a MODE 0 access (R464). -/
def sensorLenOk (off len : Nat) : Bool := off % 256 == 0 && decide (4 ≤ len) && decide (len ≤ 256) && len % 4 == 0

/-- A sensor WRITE of this device to its own port, under the same rules (R463). -/
def sensorLocal (t : BrgTx) (s : State) : State :=
  let u := brgOwn s t
  let s := brgCount (ownDid s) t s
  if brgWaits s u then brgPark u {} s else sensorArrive u s

/-- A write of bytes to remote window w at offset off. -/
def winWrite (w off : Nat) (full : Bool) (data : List Byte) (s : State) : State :=
  let c := winCfg s w
  let ch := fld c 27 24
  if !bit c 31 || decide (12 ≤ ch) then brgBad { ch := ch, addr := off } (fld c 10 0) s
  else if bit c 30 then
    if nbit off 20 then modBrg (fun b => { b with stage := tblSet b.stage ch (patch (brgStage s ch) (off % 256) data) }) s
    else match sensorTx s w off ch with
      | none => brgBad { tgt := 1, ch := ch, addr := off } 0 s
      | some (did, t) =>
        let t := { t with len := data.length, data := data }
        if !full || !sensorLenOk off data.length then brgBad t did s
        else if did = 0 then sensorLocal t s
        else brgPost did t s
  else regSend (fld c 10 0) ch false full (fld (winBase s w) 22 16 * 2 ^ 21 + off) data s

/-- A read of n words begins: k pieces are open. -/
def readOpen (who : BrgWho) (k : Nat) (s : State) : State :=
  modBrg (fun b => { b with reads := b.reads ++ [{ who := who, left := k }] }) s

/-- A read that the bridge does not carry ends with BAD_COMMAND (R453, R460). -/
def readBad (who : BrgWho) (t : BrgTx) (did n : Nat) (s : State) : State :=
  let t := { t with ty := 1, code := cBadCommand }
  brgReadAnswer { who := who, words := (List.range n).map (fun i => (i, 0)), code := cBadCommand } (brgReadFailed t did (ownDid s) 0 s)

/-- A read of n words of a device's address space, split into its pieces (R452). -/
def regFetch (who : BrgWho) (did ch : Nat) (priv : Bool) (addr n : Nat) (s : State) : State :=
  let t : BrgTx := { ty := 1, ch := ch, priv := priv, addr := addr }
  if didBad s did then readBad who t did n s
  else
    let ps := pieces (n + 1) addr n
    ps.foldl (fun s p => brgRequest did { t with addr := p.1, len := 4 * p.2 } who s) (readOpen who ps.length s)

/-- A read of len bytes of remote window w at offset off. -/
def winRead (who : BrgWho) (w off len : Nat) (s : State) : State :=
  let c := winCfg s w
  let ch := fld c 27 24
  let n := max 1 ((off % 4 + len + 3) / 4)
  if !bit c 31 || decide (12 ≤ ch) then readBad who { ch := ch % 16, addr := off } (fld c 10 0) n s
  else if bit c 30 then
    if nbit off 20 then
      let ws := wordsOf n (slice (brgStage s ch ++ List.replicate (4 * n) 0) (off % 256 / 4 * 4) (4 * n))
      brgReadAnswer { who := who, words := (List.range n).zip ws } s
    else match sensorTx s w off ch with
      | none => readBad who { tgt := 1, ch := ch, addr := off } 0 n s
      | some (did, t) =>
        let t := { t with ty := 1, len := len, data := (brgStage s ch).take len }
        if !sensorLenOk off len then readBad who t did n s
        else brgRequest did t who (readOpen who 1 s)
  else regFetch who (fld c 10 0) ch false (fld (winBase s w) 22 16 * 2 ^ 21 + off / 4 * 4) n s

/-! ### Transactions at their target (R453, R457) -/

/-- A PRIV transaction of a device that is not this one's manager is refused (R453). -/
def brgDenied (s : State) (t : BrgTx) : Bool := t.priv && !(mgrDid s != 0 && t.req == mgrDid s)

/-- The rights that a REG transaction has (R453). -/
def brgRights (t : BrgTx) : Requester := if t.priv then .manager else .bridge t.req

/-- The address lies in this device's own remote windows. -/
def inWindows (a : Nat) : Bool := decide (0x06000000 ≤ a) && decide (a < 0x08000000)

/-- A WRITE is performed (R453, R457, R465). -/
def writePerform (t : BrgTx) (e : WrEnv) (s : State) : State :=
  if t.tgt = 1 then sensorArrive t s
  else if t.tgt ≠ 0 then brgPostedFail t cBadCommand 0 s
  else if brgDenied s t then brgPostedFail t cNotPermitted 0 s
  else if inWindows t.addr then winWrite ((t.addr - 0x06000000) / 2 ^ 21) (t.addr % 2 ^ 21) true t.data s
  else writeMany (brgRights t) e (wordsOf (t.len / 4) t.data) t.addr s

/-- A READ is performed and answered; memErr says that memory behind it fails uncorrectably (R472, sub-code 5). -/
def readPerform (t : BrgTx) (memErr : Bool) (s : State) : State :=
  if t.tgt = 1 then sensorArrive t s
  else if t.tgt ≠ 0 then brgAnswer t cBadCommand 0 [] s
  else if brgDenied s t then brgAnswer t cNotPermitted 0 [] s
  else if t.len = 0 then brgAnswer t cOk 0 [] s
  else if memErr then brgAnswer t cFarError 5 [] s
  else if inWindows t.addr then winRead (.far t) ((t.addr - 0x06000000) / 2 ^ 21) (t.addr % 2 ^ 21) t.len s
  else
    let (ws, s) := readMany (brgRights t) ((t.len + 3) / 4) t.addr s
    brgAnswer t cOk 0 (bytesOfWords ws) s

/-! ### The lock-wait buffer (R467) -/

/-- What waits behind the entries before it may go on: its bus is free to it, and no LOCK is granted while this device is
acquiring (R468). -/
def waitOver (s : State) (before : List BrgWait) (w : BrgWait) : Bool :=
  !brgBehind before w.tx && (w.tx.ty == 5 || !brgHeld s w.tx) && (w.tx.ty != 4 || (acquiring s).isNone)

/-- The first entry that may go on, and the buffer without it. -/
def waitPick (s : State) (before : List BrgWait) : List BrgWait → Option (BrgWait × List BrgWait)
  | [] => none
  | w :: ws => if waitOver s before w then some (w, before ++ ws) else waitPick s (before ++ [w]) ws

/-- An entry of the lock-wait buffer goes on. -/
def waitGo (w : BrgWait) (s : State) : State :=
  match w.tx.ty with
  | 4 => lockArrive w.tx s
  | 5 => unlockArrive w.tx s
  | 1 => readPerform w.tx false s
  | _ => writePerform w.tx w.env s

/-- The entries that may go on do, in arrival order; n bounds their number. -/
def brgDrain : Nat → State → State
  | 0, s => s
  | n + 1, s =>
    match waitPick s [] s.brg.lockWait with
    | some (w, rest) => brgDrain n (waitGo w (modBrg (fun b => { b with lockWait := rest }) s))
    | none => s

/-- What waits for a bus or a channel goes on as far as it can. -/
def brgSettle (s : State) : State := brgStart 16 (brgDrain 64 (brgStart 16 (brgDrain 64 s)))

/-- The end of a command that may have moved the bridge: what waits goes on, frames leave, pins settle. -/
def brgDone (s : State) : State := nmwSettle (shfSettle (brgSettle s))

/-! ### Register writes -/

/-- REGISTER_WRITE (R6, R574 to R577): full says that every byte is enabled. -/
def execRegisterWrite (req : Requester) (off : Nat) (full : Bool) (w : Word) (env : WrEnv) (s : State) :
    Host.Outcome State Fault Refusal := done s (brgDone (writeFor req off full w env s))

/-- RES_RELEASE (R53): slot of an engine: 0 CFG, 1 GLZ, 2 SAG, 3 TBL, 4 BRG. Slot 0 of BRG is released here as well. -/
def execResRelease (req : Requester) (engine : Fin 5) (slot : Fin 4) (ticket : BitVec 8) (s : State) :
    Host.Outcome State Fault Refusal :=
  done s (regCmd req (slotMay engine slot req) (slotBase engine slot + 0x48) (resRelease engine slot ticket.toNat) s)

/-! ### Commands at the requester (R451, R459 to R461) -/

/-- BRG_WINDOW_WRITE: full says that every byte of the first and the last word is enabled. -/
def execBrgWindowWrite (a : BrgAddr) (full : Bool) (data : List Byte) (s : State) : Host.Outcome State Fault Refusal :=
  done s (brgDone (match a with
    | .window _ w off => winWrite w off full data s
    | .km ch did addr => regSend did (12 + ch) true full addr.toNat data s))

/-- BRG_WINDOW_READ: a read of len bytes that the host or Kiln firmware tells by its tag. -/
def execBrgWindowRead (a : BrgAddr) (tag len : Nat) (s : State) : Host.Outcome State Fault Refusal :=
  done s (
    let who := match a with
      | .window false _ _ => BrgWho.host tag
      | _ => BrgWho.kiln tag
    if s.brg.reads.any (fun r => r.who == who) then s
    else brgDone (match a with
      | .window _ w off => winRead who w off len s
      | .km ch did addr =>
        regFetch who did (12 + ch) true (addr.toNat / 4 * 4) (max 1 ((addr.toNat % 4 + len + 3) / 4)) s))

/-- BRG_NP_ISSUE (R459): the first waiting request whose channel is below NP_MAX takes a free tag and leaves. -/
def execBrgNpIssue (tag : Fin 1024) (s : State) : Host.Outcome State Fault Refusal :=
  done s (
    if (tblFind s.brg.opens tag).isSome || s.brg.dead.contains tag.val then s
    else match s.brg.wait.find? (fun np => decide (npOpen s np.tx.ch < rdF s (0x00080500 + 4 * np.tx.ch) 6 0)) with
      | some np => brgDone (brgIssue tag np s)
      | none => s)

/-- BRG_READ_TIMEOUT (R460, R461): RD_TIMEOUT_US have passed since the issue. -/
def execBrgReadTimeout (tag : Fin 1024) (s : State) : Host.Outcome State Fault Refusal :=
  done s (match tblFind s.brg.opens tag with
    | none => s
    | some np =>
      let s := modBrg (fun b => { b with opens := tblErase b.opens tag, dead := b.dead ++ [tag.val] }) s
      brgDone (npEnd np cBridgeTimeout 0 (ownDid s) [] (bump (brgCtr 2) s)))

/-- BRG_TAG_RELEASE (R461): a further RD_TIMEOUT_US have passed. -/
def execBrgTagRelease (tag : Fin 1024) (s : State) : Host.Outcome State Fault Refusal :=
  done s (modBrg (fun b => { b with dead := b.dead.filter (· != tag.val) }) s)

/-! ### Transactions that arrive (R456, R457) -/

/-- A transaction of type later may not pass an earlier one from the same device (R456). -/
def brgForbids (earlier later : Nat) : Bool :=
  if earlier = 2 then later == 2 else if brgNonPosted earlier then brgNonPosted later else true

/-- The first terminated bridge frame of a type that no earlier frame of its source forbids to take: the frame, its
transaction, and the other frames. -/
def brgPick (ty : Nat) (before : List CoilFrame) : List CoilFrame → Option (CoilFrame × BrgTx × List CoilFrame)
  | [] => none
  | f :: fs =>
    match (if f.svc = 2 then brgParse f.data else none) with
    | some t =>
      if t.ty = ty ∧ !before.any (fun g => g.svc == 2 && g.src == f.src &&
          (match brgParse g.data with
            | some u => brgForbids u.ty ty
            | none => false))
      then some (f, t, before ++ fs) else brgPick ty (before ++ [f]) fs
    | none => brgPick ty (before ++ [f]) fs

/-- Take a bridge frame of a type and do with it as f says; a non-posted one whose budget is 0 is discarded (R460). -/
def brgRx (ty : Nat) (f : CoilFrame → BrgTx → State → State) (s : State) : Host.Outcome State Fault Refusal :=
  done s (match brgPick ty [] s.col.inbox with
    | some (fr, t, rest) =>
      let s := modCol (fun c => { c with inbox := rest }) s
      if brgNonPosted ty && t.budget == 0 then s else brgDone (f fr t s)
    | none => s)

/-- This device is in reset (R472, sub-code 6). -/
def inReset (s : State) : Bool := s.boot.rst.isSome

/-- BRG_WRITE_RX (R453, R457, R465, R467). -/
def execBrgWriteRx (env : WrEnv) (s : State) : Host.Outcome State Fault Refusal :=
  brgRx 0 (fun _ t s =>
    if inReset s then brgPostedFail t cFarError 6 s
    else if brgWaits s t then brgPark t env s
    else writePerform t env s) s

/-- BRG_READ_RX (R453, R457, R465, R467). -/
def execBrgReadRx (memErr : Bool) (s : State) : Host.Outcome State Fault Refusal :=
  brgRx 1 (fun _ t s =>
    if inReset s then brgAnswer t cFarError 6 [] s
    else if brgWaits s t then brgPark t {} s
    else readPerform t memErr s) s

/-- BRG_CPL_RX (R457, R459, R461). -/
def execBrgCplRx (s : State) : Host.Outcome State Fault Refusal :=
  brgRx 2 (fun f t s =>
    match tblFind s.brg.opens t.tag with
    | none => bump (brgCtr 3) s
    | some np =>
      npEnd np t.code (if t.code = cFarError then t.id else 0) f.src t.data
        (modBrg (fun b => { b with opens := tblErase b.opens t.tag }) s)) s

/-- BRG_MSG_RX (R462, R503): the event is recorded, and relayed where this device has a manager itself. -/
def execBrgMsgRx (s : State) : Host.Outcome State Fault Refusal :=
  brgRx 3 (fun _ t s =>
    let e := [w32 (t.req * 2 ^ 16 + byteAt t.data 1 * 2 ^ 8), w32 (beAt t.data 2 2 % 2048), w32 (beAt t.data 4 4), w32 (beAt t.data 8 4)]
    let s :=
      if 64 ≤ s.col.revt.length then bump (colCtr 11) s
      else raise (lfCol 7) (revtSync (modCol (fun c => { c with revt := c.revt ++ [e] }) s))
    if mgrDid s = 0 then s else brgOut (mgrDid s) t (bump (brgCtr 0) s)) s

/-- BRG_LOCK_RX (R467, R468). -/
def execBrgLockRx (s : State) : Host.Outcome State Fault Refusal := brgRx 4 (fun _ t s => lockArrive t s) s

/-- BRG_UNLOCK_RX (R466). -/
def execBrgUnlockRx (s : State) : Host.Outcome State Fault Refusal :=
  brgRx 5 (fun _ t s => if brgBehind s.brg.lockWait t then brgPark t {} s else unlockArrive t s) s

/-- BRG_SEM_ACQ_RX (R470). -/
def execBrgSemAcqRx (s : State) : Host.Outcome State Fault Refusal := brgRx 6 (fun _ t s => semAcqArrive t s) s

/-- BRG_SEM_REL_RX (R470). -/
def execBrgSemRelRx (s : State) : Host.Outcome State Fault Refusal := brgRx 7 (fun _ t s => semRelArrive t s) s

/-- BRG_ERR_RX (R473). -/
def execBrgErrRx (s : State) : Host.Outcome State Fault Refusal := brgRx 8 (fun f t s => brgErrIn t f.src s) s

/-! ### Locks and semaphores (R467 to R470) -/

/-- BRG_LOCK_EXPIRY (R469): the holder of a bus (0 the bridge target port, 1 + n SPIC port n) has sent nothing for LOCK_HOLD_US. -/
def execBrgLockExpiry (bus : Fin 129) (s : State) : Host.Outcome State Fault Refusal :=
  done s (match tblFind s.brg.buses bus with
    | some h =>
      if h.est then
        let t : BrgTx := { req := h.did, ch := h.ch, tgt := if bus.val = 0 then 0 else 1, addr := (bus.val - 1) * 2 ^ 24 }
        brgDone (brgPostedFail t cBridgeTimeout 0 (raise (lfBrg 3) (bump (brgCtr 7) (busFree bus s))))
      else s
    | none => s)

/-- BRG_LOCK_BACKOFF (R468): the random time of a channel that has lost is over, and its LOCK starts again. -/
def execBrgLockBackoff (ch : Fin 12) (s : State) : Host.Outcome State Fault Refusal :=
  done s (match tblFind s.brg.seqs ch with
    | some q => if q.phase = 2 then brgDone (modBrg (fun b => { b with seqs := tblSet b.seqs ch { q with phase := 0 } }) s) else s
    | none => s)

/-- BRG_SEM_EXPIRY (R470): a semaphore has been held for SEM_HOLD_MS. -/
def execBrgSemExpiry (sem : Fin 64) (s : State) : Host.Outcome State Fault Refusal :=
  done s (if rdB s (semKey sem) 31 then raise (lfBrg 4) (bump (brgCtr 8) (wr (semKey sem) 0 s)) else s)

/-- LOCK_WAIT_BUDGET_END (R460, R467): the budget of the LOCK at a place of the lock-wait buffer is spent; nothing is sent. -/
def execLockWaitBudgetEnd (k : Fin 64) (s : State) : Host.Outcome State Fault Refusal :=
  done s (match s.brg.lockWait[k.val]? with
    | some w =>
      if w.tx.ty = 4 then brgDone (modBrg (fun b => { b with lockWait := b.lockWait.eraseIdx k }) s) else s
    | none => s)

/-! ### Slot commands and the error log (R474, R475) -/

/-- BRG_LOCK. -/
def execBrgLock (req : Requester) (slot : Fin 4) (ch : Fin 16) (s : State) : Host.Outcome State Fault Refusal :=
  done s (brgDone (brgCommand req slot 1 ch s))

/-- BRG_UNLOCK. -/
def execBrgUnlock (req : Requester) (slot : Fin 4) (ch : Fin 16) (s : State) : Host.Outcome State Fault Refusal :=
  done s (brgDone (brgCommand req slot 2 ch s))

/-- BRG_FENCE. -/
def execBrgFence (req : Requester) (slot : Fin 4) (ch : Fin 16) (s : State) : Host.Outcome State Fault Refusal :=
  done s (brgDone (brgCommand req slot 3 ch s))

/-- SEM_ACQUIRE on privileged channel KM0 to KM3. -/
def execSemAcquire (req : Requester) (slot : Fin 4) (km : Fin 4) (s : State) : Host.Outcome State Fault Refusal :=
  done s (brgDone (brgCommand req slot 16 km s))

/-- SEM_RELEASE on privileged channel KM0 to KM3. -/
def execSemRelease (req : Requester) (slot : Fin 4) (km : Fin 4) (s : State) : Host.Outcome State Fault Refusal :=
  done s (brgDone (brgCommand req slot 17 km s))

/-- BRG_ERRLOG_POP (R474): the oldest entry is removed. -/
def execBrgErrlogPop (req : Requester) (s : State) : Host.Outcome State Fault Refusal :=
  done s (regCmd req (hostOrKiln req) 0x00080720 errlogPop s)

/-! ### A Coil link that is lost (R481) -/

/-- COIL_LINK_LOST: LOST_MS have passed without a Coil frame on an UP link; its bridge transactions are answered or reported. -/
def execCoilLinkLost (link : Fin 8) (s : State) : Host.Outcome State Fault Refusal :=
  done s (if linkState s link = 2 then
      let n := linkPort s link
      let lost := brgQueued s n
      brgDone (lost.foldl (fun s t => brgLost t 2 s) (coilLinkDown link (brgUnqueue n s)))
    else s)

/-! ### AUX (R581) -/

/-- A step of the PEC: CRC-8 with x^8 + x^2 + x + 1. -/
def pecByte (crc b : Nat) : Nat :=
  (List.range 8).foldl (fun c _ => if 128 ≤ c then (2 * c % 256) ^^^ 7 else 2 * c) (crc ^^^ b)

/-- The PEC of bytes. -/
def pec (bs : List Byte) : Byte := b8 (bs.foldl (fun c b => pecByte c b.toNat) 0)

/-- The AUX target's address byte of a write. -/
def auxByte (s : State) : Nat := 2 * (0x58 + s.foot.auxAddr)

/-- The register address of a transaction is one of the FOOT block. -/
def auxAddrOk (a : Nat) : Bool := a % 4 == 0 && decide (a < 0x1000)

/-- AUX_WRITE (R581): the bytes of a write transaction, address byte and PEC included. -/
def execAuxWrite (bytes : List Byte) (s : State) : Host.Outcome State Fault Refusal :=
  done s (
    let a := beAt bytes 1 2
    if byteAt bytes 0 ≠ auxByte s then s
    else if !auxAddrOk a then emit (.aux false []) s
    else
      let body := bytes.dropLast
      let data := body.drop 3
      if 8 ≤ bytes.length ∧ data.length % 4 = 0 ∧ bytes.getLast? = some (pec body) then
        brgDone (emit (.aux true []) (writeMany .aux {} (wordsOf (data.length / 4) data) (0x000B0000 + a) s))
      else emit (.aux true []) (satInc 0x000B0008 15 0 s))

/-- AUX_READ (R581): the two address bytes of a read transaction and the number of words that the controller requests. -/
def execAuxRead (dev : BitVec 7) (hi lo : Byte) (n : Nat) (s : State) : Host.Outcome State Fault Refusal :=
  done s (
    let a := hi.toNat * 256 + lo.toNat
    if 2 * dev.toNat ≠ auxByte s then s
    else if !auxAddrOk a then emit (.aux false []) s
    else
      let (ws, s) := readMany .aux n (0x000B0000 + a) s
      let data := bytesOfWords ws
      emit (.aux true (data ++ [pec ([b8 (auxByte s), hi, lo, b8 (auxByte s + 1)] ++ data)])) s)

end Sys2Proof.Machine
end

