-- ==== Sys2Proof/Machine/Links.lean ====
section
/-! DEFINITION. Sys2Proof/Machine/Links.lean: the links of the Ethernet ports (R158, R178, R312, R481). -/

namespace Sys2Proof.Machine
open Sys2Proof

/-- The SPEED code of a port's mode, with the speed that in-band auto-negotiation resolves (R158); none where the mode has
no such speed. -/
def modeSpeed (mode resolved : Nat) : Option Nat :=
  match mode with
  | 1 => some 9
  | 2 => some 8
  | 3 => some 7
  | 4 => some 6
  | 5 => if 2 ≤ resolved ∧ resolved ≤ 6 then some resolved else none
  | 6 => if 1 ≤ resolved ∧ resolved ≤ 3 then some resolved else none
  | _ => none

/-- The Coil links of a port whose link goes down: the bridge transactions in the port's queues are answered or reported
(R481). -/
def coilPortDown (n : Nat) (lost : List BrgTx) (s : State) : State :=
  let ls := (linksOf s).filter (fun l => linkPort s l == n)
  let s := ls.foldl (fun s l => coilLinkDown l s) s
  let s := if coilProv s = some n then raise (lfCol 8) s else s
  if ls = [] then s else lost.foldl (fun s t => brgLost t 2 s) s

/-- The link of En goes down (R40, R178, R312); cut says that a frame was in transmission. -/
def macDown (n : Nat) (cut hiBer : Bool) (s : State) : State :=
  let asleep := (macOf s n).sleepReq
  let s := wrF (macStatus n) 27 24 0 (wrF (macStatus n) 31 28 (b2n hiBer * 4) s)
  let s := setMac n { macOf s n with lpiWait := false } s
  let s := if cut then bump (macCtr n 20) s else s
  let s := if hiBer then raiseLive (lfMac n 7) s else s
  let s := if asleep then raiseLive (lfMac n 6) (setLive (lfMac n 0) false (wrB (macStatus n) 15 true s))
    else raiseLive (lfMac n 0) s
  if 24 ≤ n then s
  else
    let lost := brgQueued s n
    coilPortDown n lost (shfFlush (128 + n) s)

/-- The link of a port comes up at a speed (R158); its Coil link probes (R481). -/
def macUp (n speed : Nat) (s : State) : State :=
  let s := wrF (macStatus n) 27 24 speed (wrF (macStatus n) 31 30 2 (wrB (macStatus n) 15 false s))
  let s := setMac n { macOf s n with sleepReq := false } s
  let s := setLive (lfMac n 7) false (setLive (lfMac n 6) false (setLive (lfMac n 0) false s))
  let s := raise (lfMac n 1) s
  if 24 ≤ n then s else coilLive (((linksOf s).filter (fun l => linkPort s l == n)).foldl (fun s l => linkFit l s) s)

/-- LINK_UP (R158): the port's PCS, FEC and auto-negotiation conditions hold; speed is the SPEED code that in-band
auto-negotiation resolves. A port that is up at another speed goes down first. -/
def execLinkUp (port : Fin 25) (speed : Fin 16) (s : State) : Host.Outcome State Fault Refusal :=
  let n := port.val
  done s (match modeSpeed (rdF s (macBase n) 31 28) speed with
    | none => s
    | some v =>
      if n < 24 ∧ s.boot.lanes.contains n = false then s
      else if linkUp s n then
        if fld (rd s (macStatus n)) 27 24 = v then s else brgDone (macUp n v (macDown n false false s))
      else shfSettle (macUp n v s))

/-- LINK_DOWN (R40, R158, R178, R312, R481): the port's link goes down; cut: a frame was in transmission; hiBer: the PCS is in
high bit-error rate. -/
def execLinkDown (port : Fin 25) (cut hiBer : Bool) (s : State) : Host.Outcome State Fault Refusal :=
  done s (if linkUp s port then brgDone (macDown port cut hiBer s) else s)

end Sys2Proof.Machine
end

