-- ==== Sys2Proof/Machine/Tick.lean ====
section
/-! DEFINITION. Sys2Proof/Machine/Tick.lean: what passes with one TCLK period while no command waits. -/

namespace Sys2Proof.Machine
open Sys2Proof

/-- One TCLK period: the clocks advance (R66 to R70), the model's clock counts, and ignored PFC classes end (R170). -/
def tick (s : State) : State :=
  let s := tclk { s with now := s.now + 1 }
  s.mac.foldl (fun s e => if e.2.storm = 0 then s else stormEnd e.1 s) s

end Sys2Proof.Machine
end

