-- ==== Sys2Proof/Machine/All.lean ====
section
/-! DEFINITION. Sys2Proof/Machine/All.lean: all families of commands, for the dispatch. -/
end

