-- ==== Sys2Proof/Machine/Dispatch.lean ====
section
/-! DEFINITION. Sys2Proof/Machine/Dispatch.lean: one arm per command, each one direct call of its meaning. -/

namespace Sys2Proof.Machine
open Sys2Proof

/-- A command's effect on everything but the queue. -/
def exec (i : Instr) (s : State) : Host.Outcome State Fault Refusal :=
  match i with
  | .registerWrite req off full w env => Sys2Proof.Machine.execRegisterWrite req off full w env s
  | .counterRead req off => Sys2Proof.Machine.execCounterRead req off s
  | .entrySnapshotRead req off => Sys2Proof.Machine.execEntrySnapshotRead req off s
  | .resRelease req engine slot ticket => Sys2Proof.Machine.execResRelease req engine slot ticket s
  | .load req slot region src => Sys2Proof.Machine.execLoad req slot region src s
  | .swap req slot region => Sys2Proof.Machine.execSwap req slot region s
  | .warmRestart req slot src => Sys2Proof.Machine.execWarmRestart req slot src s
  | .regionCheckDone => Sys2Proof.Machine.execRegionCheckDone s
  | .regionApplyDone => Sys2Proof.Machine.execRegionApplyDone s
  | .clusterQuiesceTimeout port => Sys2Proof.Machine.execClusterQuiesceTimeout port s
  | .clusterPortIdle port => Sys2Proof.Machine.execClusterPortIdle port s
  | .swapBoundary => Sys2Proof.Machine.execSwapBoundary s
  | .bankDrainDone region => Sys2Proof.Machine.execBankDrainDone region s
  | .mirrorScan off => Sys2Proof.Machine.execMirrorScan off s
  | .cfgLockSet req => Sys2Proof.Machine.execCfgLockSet req s
  | .slewUpdate => Sys2Proof.Machine.execSlewUpdate s
  | .rateWrite req domB rate => Sys2Proof.Machine.execRateWrite req domB rate s
  | .domainStep req domB => Sys2Proof.Machine.execDomainStep req domB s
  | .domainStateChange domB st => Sys2Proof.Machine.execDomainStateChange domB st s
  | .initWaitExpiry => Sys2Proof.Machine.execInitWaitExpiry s
  | .revertHoldExpiry => Sys2Proof.Machine.execRevertHoldExpiry s
  | .selAuto req => Sys2Proof.Machine.execSelAuto req s
  | .selForceA req => Sys2Proof.Machine.execSelForceA req s
  | .selForceB req => Sys2Proof.Machine.execSelForceB req s
  | .autoSelEnable req => Sys2Proof.Machine.execAutoSelEnable req s
  | .timSnap req => Sys2Proof.Machine.execTimSnap req s
  | .wtNsRead which => Sys2Proof.Machine.execWtNsRead which s
  | .coneArm req cone ctrl => Sys2Proof.Machine.execConeArm req cone ctrl s
  | .coneDisarm req cone ctrl => Sys2Proof.Machine.execConeDisarm req cone ctrl s
  | .coneFire cone ready => Sys2Proof.Machine.execConeFire cone ready s
  | .conePulseEnd cone => Sys2Proof.Machine.execConePulseEnd cone s
  | .planCycleStart => Sys2Proof.Machine.execPlanCycleStart s
  | .fxpEnable req port => Sys2Proof.Machine.execFxpEnable req port s
  | .fxpDisable req port busy => Sys2Proof.Machine.execFxpDisable req port busy s
  | .canxRxFrame port frame age => Sys2Proof.Machine.execCanxRxFrame port frame age s
  | .fxpSelect port => Sys2Proof.Machine.execFxpSelect port s
  | .fxpTxSuccess port age tdcv => Sys2Proof.Machine.execFxpTxSuccess port age tdcv s
  | .canxArbLost port => Sys2Proof.Machine.execCanxArbLost port s
  | .canxError port err tx xlData exempt heavy tdcv => Sys2Proof.Machine.execCanxError port err tx xlData exempt heavy tdcv s
  | .boffDelayExpiry port => Sys2Proof.Machine.execBoffDelayExpiry port s
  | .canxRecover req port => Sys2Proof.Machine.execCanxRecover req port s
  | .busOn port => Sys2Proof.Machine.execBusOn port s
  | .canxIntegrated port => Sys2Proof.Machine.execCanxIntegrated port s
  | .canxFreeze req port busy => Sys2Proof.Machine.execCanxFreeze req port busy s
  | .canxUnfreeze req port => Sys2Proof.Machine.execCanxUnfreeze req port s
  | .trxFlag port level => Sys2Proof.Machine.execTrxFlag port level s
  | .txtsRead port => Sys2Proof.Machine.execTxtsRead port s
  | .linSlotStart port => Sys2Proof.Machine.execLinSlotStart port s
  | .linHeaderRx port pid bitCyc => Sys2Proof.Machine.execLinHeaderRx port pid bitCyc s
  | .linRxResponse port data ck age => Sys2Proof.Machine.execLinRxResponse port data ck age s
  | .linResponseTimeout port anyByte => Sys2Proof.Machine.execLinResponseTimeout port anyByte s
  | .linSchedReq req port table => Sys2Proof.Machine.execLinSchedReq req port table s
  | .linSleep req port => Sys2Proof.Machine.execLinSleep req port s
  | .linWake req port => Sys2Proof.Machine.execLinWake req port s
  | .linIdleTimeout port => Sys2Proof.Machine.execLinIdleTimeout port s
  | .wakeRx port viaD => Sys2Proof.Machine.execWakeRx port viaD s
  | .linScheduleRestart port => Sys2Proof.Machine.execLinScheduleRestart port s
  | .t1sRxFrame port data fcsOk age => Sys2Proof.Machine.execT1sRxFrame port data fcsOk age s
  | .t1sTxOpportunity port => Sys2Proof.Machine.execT1sTxOpportunity port s
  | .t1sCollision port => Sys2Proof.Machine.execT1sCollision port s
  | .t1sBeaconRx port => Sys2Proof.Machine.execT1sBeaconRx port s
  | .plcaLost port => Sys2Proof.Machine.execPlcaLost port s
  | .sentCalPulse port cyc => Sys2Proof.Machine.execSentCalPulse port cyc s
  | .sentRxFrame port pulses pause age => Sys2Proof.Machine.execSentRxFrame port pulses pause age s
  | .spicTransactionDone port miso age => Sys2Proof.Machine.execSpicTransactionDone port miso age s
  | .pwmxPeriodDone port ch period high level age => Sys2Proof.Machine.execPwmxPeriodDone port ch period high level age s
  | .pwmxStuck port ch => Sys2Proof.Machine.execPwmxStuck port ch s
  | .pwmxPeriodStart port ch => Sys2Proof.Machine.execPwmxPeriodStart port ch s
  | .lgRelease req group ready => Sys2Proof.Machine.execLgRelease req group ready s
  | .lgRetry group => Sys2Proof.Machine.execLgRetry group s
  | .lgGiveup group => Sys2Proof.Machine.execLgGiveup group s
  | .macRxFrame port bytes fcs line => Sys2Proof.Machine.execMacRxFrame port bytes fcs line s
  | .pfcPauseExpiry port p => Sys2Proof.Machine.execPfcPauseExpiry port p s
  | .pfcStorm port p => Sys2Proof.Machine.execPfcStorm port p s
  | .pfcRefresh port => Sys2Proof.Machine.execPfcRefresh port s
  | .linkUp port speed => Sys2Proof.Machine.execLinkUp port speed s
  | .linkDown port cut hiBer => Sys2Proof.Machine.execLinkDown port cut hiBer s
  | .lpiEnter port => Sys2Proof.Machine.execLpiEnter port s
  | .lpiWakeDone port => Sys2Proof.Machine.execLpiWakeDone port s
  | .tc10Sleep req port => Sys2Proof.Machine.execTc10Sleep req port s
  | .tc10WakeCmd req port => Sys2Proof.Machine.execTc10WakeCmd req port s
  | .tc10Wake port level => Sys2Proof.Machine.execTc10Wake port level s
  | .svcRxFrame bytes fcs full => Sys2Proof.Machine.execSvcRxFrame bytes fcs full s
  | .pipelineAdmit src idle => Sys2Proof.Machine.execPipelineAdmit src idle s
  | .recircAdmit pipeline => Sys2Proof.Machine.execRecircAdmit pipeline s
  | .learnPlace => Sys2Proof.Machine.execLearnPlace s
  | .agingSweep => Sys2Proof.Machine.execAgingSweep s
  | .l2Insert req slot => Sys2Proof.Machine.execL2Insert req slot s
  | .l2Delete req slot => Sys2Proof.Machine.execL2Delete req slot s
  | .l2Lookup req slot => Sys2Proof.Machine.execL2Lookup req slot s
  | .l2Flush req slot mode => Sys2Proof.Machine.execL2Flush req slot mode s
  | .l2Relocate req slot => Sys2Proof.Machine.execL2Relocate req slot s
  | .lpmInsert req slot inst => Sys2Proof.Machine.execLpmInsert req slot inst s
  | .lpmDelete req slot inst => Sys2Proof.Machine.execLpmDelete req slot inst s
  | .lpmLookup req slot inst => Sys2Proof.Machine.execLpmLookup req slot inst s
  | .nhWrite req slot n => Sys2Proof.Machine.execNhWrite req slot n s
  | .classUnblock req c => Sys2Proof.Machine.execClassUnblock req c s
  | .marClear req pol => Sys2Proof.Machine.execMarClear req pol s
  | .routerHandoff => Sys2Proof.Machine.execRouterHandoff s
  | .routeLookup transientFree => Sys2Proof.Machine.execRouteLookup transientFree s
  | .transientImageFree => Sys2Proof.Machine.execTransientImageFree s
  | .limiterToken l => Sys2Proof.Machine.execLimiterToken l s
  | .routeTimeout route => Sys2Proof.Machine.execRouteTimeout route s
  | .mdtExpiry img => Sys2Proof.Machine.execMdtExpiry img s
  | .srtImgSend req img => Sys2Proof.Machine.execSrtImgSend req img s
  | .containerFlush img => Sys2Proof.Machine.execContainerFlush img s
  | .pioInputChange edges => Sys2Proof.Machine.execPioInputChange edges s
  | .reflexPulseEnd pin => Sys2Proof.Machine.execReflexPulseEnd pin s
  | .reflexPwmPeriod pin => Sys2Proof.Machine.execReflexPwmPeriod pin s
  | .pioOutWrite req pin level => Sys2Proof.Machine.execPioOutWrite req pin level s
  | .capPeriodDone pin period high => Sys2Proof.Machine.execCapPeriodDone pin period high s
  | .capStuck pin => Sys2Proof.Machine.execCapStuck pin s
  | .capTsRead pin => Sys2Proof.Machine.execCapTsRead pin s
  | .portSelect port => Sys2Proof.Machine.execPortSelect port s
  | .gclEntry port => Sys2Proof.Machine.execGclEntry port s
  | .residueAdmit port c => Sys2Proof.Machine.execResidueAdmit port c s
  | .residueExpiry c => Sys2Proof.Machine.execResidueExpiry c s
  | .mcGroupCommit req g w => Sys2Proof.Machine.execMcGroupCommit req g w s
  | .frerResetTimeout st => Sys2Proof.Machine.execFrerResetTimeout st s
  | .frerForceReset req st => Sys2Proof.Machine.execFrerForceReset req st s
  | .spillWriteDone q seq addr => Sys2Proof.Machine.execSpillWriteDone q seq addr s
  | .reseqTake q => Sys2Proof.Machine.execReseqTake q s
  | .readbackDone q seq corr bad => Sys2Proof.Machine.execReadbackDone q seq corr bad s
  | .reseqGap q => Sys2Proof.Machine.execReseqGap q s
  | .ovfTraining pass densityMib => Sys2Proof.Machine.execOvfTraining pass densityMib s
  | .ovfRetrain begins => Sys2Proof.Machine.execOvfRetrain begins s
  | .patrolScrub addr bits => Sys2Proof.Machine.execPatrolScrub addr bits s
  | .wmMaxRead hst m => Sys2Proof.Machine.execWmMaxRead hst m s
  | .sha256 req slot data => Sys2Proof.Machine.execSha256 req slot data s
  | .hmac req slot data => Sys2Proof.Machine.execHmac req slot data s
  | .hmacVerify req slot n data expected => Sys2Proof.Machine.execHmacVerify req slot n data expected s
  | .lmsVerify req slot trusted which msg sig pub => Sys2Proof.Machine.execLmsVerify req slot trusted which msg sig pub s
  | .rxscSet req slot port sc => Sys2Proof.Machine.execRxscSet req slot port sc s
  | .saInstall req slot port tx an sc => Sys2Proof.Machine.execSaInstall req slot port tx an sc s
  | .saEnable req slot port tx an sc => Sys2Proof.Machine.execSaEnable req slot port tx an sc s
  | .saRetire req slot port tx an sc => Sys2Proof.Machine.execSaRetire req slot port tx an sc s
  | .saRead req slot port tx an sc => Sys2Proof.Machine.execSaRead req slot port tx an sc s
  | .fvSet req slot => Sys2Proof.Machine.execFvSet req slot s
  | .fvRead req slot => Sys2Proof.Machine.execFvRead req slot s
  | .nodeRead req slot node => Sys2Proof.Machine.execNodeRead req slot node s
  | .keyUpdate req slot msg => Sys2Proof.Machine.execKeyUpdate req slot msg s
  | .keyInject req slot node key => Sys2Proof.Machine.execKeyInject req slot node key s
  | .nodeInvalidate req slot node => Sys2Proof.Machine.execNodeInvalidate req slot node s
  | .lifecycle req slot target pub => Sys2Proof.Machine.execLifecycle req slot target pub s
  | .attest req slot nonce stuck => Sys2Proof.Machine.execAttest req slot nonce stuck s
  | .debugChallenge req slot => Sys2Proof.Machine.execDebugChallenge req slot s
  | .debugResponse req slot scope pub sig => Sys2Proof.Machine.execDebugResponse req slot scope pub sig s
  | .debugChallengeExpiry => Sys2Proof.Machine.execDebugChallengeExpiry s
  | .keyRemask => Sys2Proof.Machine.execKeyRemask s
  | .keyDerivation node => Sys2Proof.Machine.execKeyDerivation node s
  | .zeroizePin => Sys2Proof.Machine.execZeroizePin s
  | .ringMsgRx => Sys2Proof.Machine.execRingMsgRx s
  | .ringSuccessorTimeout c => Sys2Proof.Machine.execRingSuccessorTimeout c s
  | .tokenLost c => Sys2Proof.Machine.execTokenLost c s
  | .sleepCommit c => Sys2Proof.Machine.execSleepCommit c s
  | .ncWake req c => Sys2Proof.Machine.execNcWake req c s
  | .ncConsentWrite req c v => Sys2Proof.Machine.execNcConsentWrite req c v s
  | .wakeValidationTimeout c => Sys2Proof.Machine.execWakeValidationTimeout c s
  | .wakeMuteEnd port => Sys2Proof.Machine.execWakeMuteEnd port s
  | .footFwClear req port => Sys2Proof.Machine.execFootFwClear req port s
  | .standbyEnter req => Sys2Proof.Machine.execStandbyEnter req s
  | .standbyAuto => Sys2Proof.Machine.execStandbyAuto s
  | .standbyDone => Sys2Proof.Machine.execStandbyDone s
  | .standbyWake source index mask id => Sys2Proof.Machine.execStandbyWake source index mask id s
  | .standbyTimerExpiry => Sys2Proof.Machine.execStandbyTimerExpiry s
  | .txDoorbell req q idx => Sys2Proof.Machine.execTxDoorbell req q idx s
  | .rxbDoorbell req q idx => Sys2Proof.Machine.execRxbDoorbell req q idx s
  | .cqDoorbell req q idx arm => Sys2Proof.Machine.execCqDoorbell req q idx arm s
  | .slipSend q ds data dataOk => Sys2Proof.Machine.execSlipSend q ds data dataOk s
  | .sendTsTimeout q => Sys2Proof.Machine.execSendTsTimeout q s
  | .slipDeliver work q addrs poison => Sys2Proof.Machine.execSlipDeliver work q addrs poison s
  | .qpItrExpiry q => Sys2Proof.Machine.execQpItrExpiry q s
  | .qpEnable req q => Sys2Proof.Machine.execQpEnable req q s
  | .qpDisable req q sends => Sys2Proof.Machine.execQpDisable req q sends s
  | .qpQuiesced q => Sys2Proof.Machine.execQpQuiesced q s
  | .qpFlush req q sends => Sys2Proof.Machine.execQpFlush req q sends s
  | .capMark req q => Sys2Proof.Machine.execCapMark req q s
  | .capRewind req q => Sys2Proof.Machine.execCapRewind req q s
  | .capRelease req q n => Sys2Proof.Machine.execCapRelease req q n s
  | .functionFlr f busMaster => Sys2Proof.Machine.execFunctionFlr f busMaster s
  | .brgWindowWrite a full data => Sys2Proof.Machine.execBrgWindowWrite a full data s
  | .brgWindowRead a tag len => Sys2Proof.Machine.execBrgWindowRead a tag len s
  | .brgNpIssue tag => Sys2Proof.Machine.execBrgNpIssue tag s
  | .brgWriteRx env => Sys2Proof.Machine.execBrgWriteRx env s
  | .brgReadRx memErr => Sys2Proof.Machine.execBrgReadRx memErr s
  | .brgCplRx => Sys2Proof.Machine.execBrgCplRx s
  | .brgMsgRx => Sys2Proof.Machine.execBrgMsgRx s
  | .brgLockRx => Sys2Proof.Machine.execBrgLockRx s
  | .brgUnlockRx => Sys2Proof.Machine.execBrgUnlockRx s
  | .brgSemAcqRx => Sys2Proof.Machine.execBrgSemAcqRx s
  | .brgSemRelRx => Sys2Proof.Machine.execBrgSemRelRx s
  | .brgErrRx => Sys2Proof.Machine.execBrgErrRx s
  | .brgReadTimeout tag => Sys2Proof.Machine.execBrgReadTimeout tag s
  | .brgTagRelease tag => Sys2Proof.Machine.execBrgTagRelease tag s
  | .brgLockExpiry bus => Sys2Proof.Machine.execBrgLockExpiry bus s
  | .brgLockBackoff ch => Sys2Proof.Machine.execBrgLockBackoff ch s
  | .brgSemExpiry sem => Sys2Proof.Machine.execBrgSemExpiry sem s
  | .brgLock req slot ch => Sys2Proof.Machine.execBrgLock req slot ch s
  | .brgUnlock req slot ch => Sys2Proof.Machine.execBrgUnlock req slot ch s
  | .brgFence req slot ch => Sys2Proof.Machine.execBrgFence req slot ch s
  | .semAcquire req slot km => Sys2Proof.Machine.execSemAcquire req slot km s
  | .semRelease req slot km => Sys2Proof.Machine.execSemRelease req slot km s
  | .brgErrlogPop req => Sys2Proof.Machine.execBrgErrlogPop req s
  | .coilHelloTimer => Sys2Proof.Machine.execCoilHelloTimer s
  | .coilFrameRx res => Sys2Proof.Machine.execCoilFrameRx res s
  | .coilDataRx => Sys2Proof.Machine.execCoilDataRx s
  | .coilRouterRx => Sys2Proof.Machine.execCoilRouterRx s
  | .helloRx => Sys2Proof.Machine.execHelloRx s
  | .assignRx => Sys2Proof.Machine.execAssignRx s
  | .joinRx => Sys2Proof.Machine.execJoinRx s
  | .coilLinkLost link => Sys2Proof.Machine.execCoilLinkLost link s
  | .syncRx rate step good age => Sys2Proof.Machine.execSyncRx rate step good age s
  | .pdelayReqRx => Sys2Proof.Machine.execPdelayReqRx s
  | .pdelayRespRx => Sys2Proof.Machine.execPdelayRespRx s
  | .timeRelayTimer link what gm => Sys2Proof.Machine.execTimeRelayTimer link what gm s
  | .coilSyncTimeout domB => Sys2Proof.Machine.execCoilSyncTimeout domB s
  | .xferDataRx => Sys2Proof.Machine.execXferDataRx s
  | .xferAckRx => Sys2Proof.Machine.execXferAckRx s
  | .xferCommandRx => Sys2Proof.Machine.execXferCommandRx s
  | .xferResultRx => Sys2Proof.Machine.execXferResultRx s
  | .xferAbortRx => Sys2Proof.Machine.execXferAbortRx s
  | .xferRetxTimeout x => Sys2Proof.Machine.execXferRetxTimeout x s
  | .colRevtPop req => Sys2Proof.Machine.execColRevtPop req s
  | .lockstepMismatch p undo inLog outLog => Sys2Proof.Machine.execLockstepMismatch p undo inLog outLog s
  | .failoverResume outs asked => Sys2Proof.Machine.execFailoverResume outs asked s
  | .kilnCheckpoint p early differs => Sys2Proof.Machine.execKilnCheckpoint p early differs s
  | .pairWdg p undo inLog outLog => Sys2Proof.Machine.execPairWdg p undo inLog outLog s
  | .pairBistDone p pass => Sys2Proof.Machine.execPairBistDone p pass s
  | .kilnMemScrub bits restored => Sys2Proof.Machine.execKilnMemScrub bits restored s
  | .footCmdKey req w => Sys2Proof.Machine.execFootCmdKey req w s
  | .safeEnter req => Sys2Proof.Machine.execSafeEnter req s
  | .safeExit req => Sys2Proof.Machine.execSafeExit req s
  | .warmReset req => Sys2Proof.Machine.execWarmReset req s
  | .coldReset req => Sys2Proof.Machine.execColdReset req s
  | .zeroise req => Sys2Proof.Machine.execZeroise req s
  | .footWakeCmd req => Sys2Proof.Machine.execFootWakeCmd req s
  | .retireClear req => Sys2Proof.Machine.execRetireClear req s
  | .safePinAssert level => Sys2Proof.Machine.execSafePinAssert level s
  | .footWdgKick req v => Sys2Proof.Machine.execFootWdgKick req v s
  | .footWdgExpiry => Sys2Proof.Machine.execFootWdgExpiry s
  | .footWdgAction => Sys2Proof.Machine.execFootWdgAction s
  | .footWdgCfgWrite req w => Sys2Proof.Machine.execFootWdgCfgWrite req w s
  | .vbatReading samples => Sys2Proof.Machine.execVbatReading samples s
  | .footFaultClear req w => Sys2Proof.Machine.execFootFaultClear req w s
  | .crzRouteWrite req g w => Sys2Proof.Machine.execCrzRouteWrite req g w s
  | .groupArm req fn hi w => Sys2Proof.Machine.execGroupArm req fn hi w s
  | .leafInject req off w => Sys2Proof.Machine.execLeafInject req off w s
  | .injKeyWrite req w => Sys2Proof.Machine.execInjKeyWrite req w s
  | .injUnlockExpiry => Sys2Proof.Machine.execInjUnlockExpiry s
  | .injGo req => Sys2Proof.Machine.execInjGo req s
  | .injExpiry => Sys2Proof.Machine.execInjExpiry s
  | .clockFault which => Sys2Proof.Machine.execClockFault which s
  | .clockFaultCleared which => Sys2Proof.Machine.execClockFaultCleared which s
  | .vmonFault r outside => Sys2Proof.Machine.execVmonFault r outside s
  | .tempCrit reading => Sys2Proof.Machine.execTempCrit reading s
  | .busTimeout read => Sys2Proof.Machine.execBusTimeout read s
  | .updData sess entry off data => Sys2Proof.Machine.execUpdData sess entry off data s
  | .updBegin sess => Sys2Proof.Machine.execUpdBegin sess s
  | .updStatus sess entry => Sys2Proof.Machine.execUpdStatus sess entry s
  | .updCommit sess => Sys2Proof.Machine.execUpdCommit sess s
  | .updAbort sess => Sys2Proof.Machine.execUpdAbort sess s
  | .updLock sess => Sys2Proof.Machine.execUpdLock sess s
  | .updSessionTimeout => Sys2Proof.Machine.execUpdSessionTimeout s
  | .updPartStaged entry ok => Sys2Proof.Machine.execUpdPartStaged entry ok s
  | .trialReport did => Sys2Proof.Machine.execTrialReport did s
  | .trialTimeout did => Sys2Proof.Machine.execTrialTimeout did s
  | .commitOrder => Sys2Proof.Machine.execCommitOrder s
  | .revertOrder => Sys2Proof.Machine.execRevertOrder s
  | .footPowerOn auxAddr => Sys2Proof.Machine.execFootPowerOn auxAddr s
  | .porstAssert => Sys2Proof.Machine.execPorstAssert s
  | .resetNAssert => Sys2Proof.Machine.execResetNAssert s
  | .powerGoodFault => Sys2Proof.Machine.execPowerGoodFault s
  | .resetRelease bootMode didStrap trng storeOk => Sys2Proof.Machine.execResetRelease bootMode didStrap trng storeOk s
  | .rootPllLock => Sys2Proof.Machine.execRootPllLock s
  | .bootBistDone fails => Sys2Proof.Machine.execBootBistDone fails s
  | .firmwareVerifyDone sigA sigB => Sys2Proof.Machine.execFirmwareVerifyDone sigA sigB s
  | .lanePllLock port => Sys2Proof.Machine.execLanePllLock port s
  | .auxWrite bytes => Sys2Proof.Machine.execAuxWrite bytes s
  | .auxRead dev hi lo n => Sys2Proof.Machine.execAuxRead dev hi lo n s
  | .t1sEnergyDetect port => Sys2Proof.Machine.execT1sEnergyDetect port s
  | .linTxBitError port => Sys2Proof.Machine.execLinTxBitError port s
  | .lockWaitBudgetEnd k => Sys2Proof.Machine.execLockWaitBudgetEnd k s

end Sys2Proof.Machine
end

