-- ==== Sys2Proof/Safety.lean ====
section
/-! DEFINITION. Sys2Proof/Safety.lean: what every state of a run keeps, in the terms the statements use. -/

namespace Sys2Proof.Machine
open Sys2Proof

/-- A sparse table in its canonical form: keys strictly rising, and no entry that reads as an unlisted key does. -/
def tblCanon {α : Type} [DecidableEq α] (unlisted : Nat → α) (t : Tbl α) : Bool :=
  tblSorted t && t.all (fun e => !decide (e.2 = unlisted e.1))

/-- The stores of a state are in canonical form, so that equal contents are equal data: the registers and windows list only
words that differ from their reset values (R6, R10), the counters only counters that are not 0 and fit 64 bits (R8), the
shadows and the mirror differences (R64) only words other than 0; and the flash has its two banks (R569). -/
structure State.Canon (s : State) : Prop where
  regs : tblCanon resetWord s.regs = true
  counters : tblCanon (fun _ => 0) s.counters = true
  wide : s.counters.all (fun e => decide (e.2 < 2 ^ 64)) = true
  shadows : tblCanon (fun _ => 0) s.shadows = true
  mirror : tblCanon (fun _ => 0) s.mirror = true
  flash : s.flash.length = 2

/-- A step's outcome is a next state with p. -/
def Goes (p : State → Prop) : Host.Outcome State Fault Refusal → Prop
  | .next t => p t
  | .fault _ => False
  | .refused _ => False

/-- The state that a command leaves: t, with the waiting commands and the model's clock of s. Only a step on an empty queue
advances the clock, and only step takes a command out of the queue. -/
def kept (s t : State) : State := { t with pending := s.pending, now := s.now }

end Sys2Proof.Machine
end

