-- ==== Sys2Proof/Certificates/Slice0/Obligations.lean ====
section
/-! DEFINITION. Sys2Proof/Certificates/Slice0/Obligations.lean: the statements for the provers. A statement about a command says
the next state that its outcome is: `kept s t` is t with the queue and the model's clock of s (Safety.lean), so that whatever t
does not name is unchanged. -/

open Sys2Proof Sys2Proof.Machine

/-- The machine: a step takes the command at the front of the queue and runs it on the state with the rest of the queue.
The queue is the model's own form: log entry 1. -/
def Obligations.StepRunsFrontCommand : Prop :=
  ∀ (c : Instr) (rest : List Instr) (s : State),
    step { s with pending := c :: rest } = exec c { s with pending := rest }

/-- Every command completes: whatever the state and the operands, it answers a next state; a command itself neither touches
the queue nor lets time pass. -/
def Obligations.EveryCommandCompletes : Prop :=
  ∀ (c : Instr) (s : State), ∃ t, exec c s = .next t ∧ t.pending = s.pending ∧ t.now = s.now

/-- The state after power-on keeps the canonical form of its stores. -/
def Obligations.ResetKeepsCanonicalForm : Prop := State.reset.Canon

/-- Every step, whatever the command at the front and its operands, keeps the canonical form of the stores: strictly rising
keys, no entry that equals what an unlisted key reads as, counters of at most 64 bits (R8), two flash banks (R569). -/
def Obligations.StepKeepsCanonicalForm : Prop :=
  ∀ s t : State, s.Canon → step s = .next t → t.Canon

/-- R67: the time base advances once per TCLK cycle (an idle step); at the nominal rate (RATE 0) two cycles of each three add
0xD555_5555 and the third adds 0xD555_5556 in units of 2^-32 ns, so that a clock advances by exactly 2.5 ns in every three
cycles, and the three clocks advance on the same edge (working time in state FREE).
That an idle step is one TCLK cycle is the model's choice: log entry 2. -/
def Obligations.NominalRateAdvancesClocks : Prop :=
  ∀ s : State, s.pending = [] → s.tim.phase < 3 → rd s 0x00060050 = 0 → rd s 0x00060070 = 0 → wtState s = 3 →
    (∃ t, step s = .next t ∧ t.tim.phase = (s.tim.phase + 1) % 3 ∧
      t.tim.domA = (s.tim.domA + (if s.tim.phase = 2 then 0xD5555556 else 0xD5555555)) % clkWrap ∧
      t.tim.domB = (s.tim.domB + (if s.tim.phase = 2 then 0xD5555556 else 0xD5555555)) % clkWrap ∧
      t.tim.wt = (s.tim.wt + (if s.tim.phase = 2 then 0xD5555556 else 0xD5555555)) % clkWrap) ∧
    (∃ t1 t2 t3, step s = .next t1 ∧ step t1 = .next t2 ∧ step t2 = .next t3 ∧
      t3.tim.domA = (s.tim.domA + 5 * 2 ^ 31) % clkWrap ∧ t3.tim.domB = (s.tim.domB + 5 * 2 ^ 31) % clkWrap ∧
      t3.tim.wt = (s.tim.wt + 5 * 2 ^ 31) % clkWrap)

/-- What the registers hold after power-on: reset values that the register tables give (R7, R10), one or more of each block,
and empty queues, buffers, counters and outputs. TIM_CFG shows SLEW_SHIFT 7, INIT_WAIT 20 ms, REVERT_HOLD 10 s and AUTO_SEL 1
(R70, R72, R74).
Where the spec states no reset value, 0 is the model's choice: log entries 6 and 10. -/
def Obligations.ResetValues : Prop :=
  (let s := State.reset
   rdF s 0x00060014 13 10 = 7 ∧ rdF s 0x00060014 9 0 = 20 ∧ rdF s 0x00060014 23 16 = 10 ∧ rdB s 0x00060014 24 = true ∧
   fld (rd s 0x000A0210) 23 16 = 0xFF ∧ wtState s = 0 ∧ wtValid s = false ∧ locked s = false ∧
   slotStatus s 0x00040000 = 0 ∧ safeOn s = false ∧ role s = 0 ∧ ownDid s = 0) ∧
  (∀ (n q : Nat), fxq State.reset n q = [] ∧ port State.reset n = {}) ∧
  (∀ k, counter State.reset k = 0 ∧ shadow State.reset k = 0) ∧
  State.reset.pending = [] ∧ State.reset.out = [] ∧ State.reset.ing = [] ∧ State.reset.eq = [] ∧ State.reset.brg.opens = []

/-- R71 in one TCLK cycle: with rates and slew within their limits (R68, R70), an initialised working time advances by at least
0.8325 ns (in units of 2^-32 ns), in TRACKING, HOLDOVER and FREE alike, and never by two nanoseconds.
That an idle step is one TCLK cycle is the model's choice: log entry 2. -/
def Obligations.WorkingTimeNeverStandsOrSteps : Prop :=
  ∀ s : State, s.pending = [] → wtState s ≠ 0 →
    (rateOf s (selOf s)).natAbs ≤ 549755814 → s.tim.holdRate.natAbs ≤ 549755814 → (slewOf s).natAbs ≤ 109951162 →
    ∃ t k, step s = .next t ∧ t.tim.wt = (s.tim.wt + k) % clkWrap ∧ 3575560274 ≤ k ∧ k < 2 * 2 ^ 32

/-- The clock commands of the time base (R68 to R70, R80, R81): a RATE within ±549,755,814 is stored and one beyond is
saturated with RATE_SAT; a domain step moves that domain clock alone; SLEW_UPDATE computes TIM_WT_OFFSET and TIM_WT_SLEW;
TIM_SNAP latches the three clocks; a read of an NS word leaves the clock's other words in its shadows.
Rests on the model's readings of log entries 2 and 3. -/
def Obligations.ClockCommands : Prop :=
  (∀ (d : Bool) (rate : Word) (s : State), (signed 32 rate.toNat).natAbs ≤ 549755814 →
    exec (.rateWrite .kiln d rate) s = .next (kept s (wr (if d then 0x00060070 else 0x00060050) rate s))) ∧
  (∀ (d : Bool) (rate : Word) (s : State), 549755814 < signed 32 rate.toNat →
    exec (.rateWrite .kiln d rate) s =
      .next (kept s (raise (lfTim 5) (wr (if d then 0x00060070 else 0x00060050) (w32 549755814) s)))) ∧
  (∀ (d : Bool) (rate : Word) (s : State), signed 32 rate.toNat < -549755814 →
    exec (.rateWrite .kiln d rate) s =
      .next (kept s (raise (lfTim 5) (wr (if d then 0x00060070 else 0x00060050) (w32 (2 ^ 32 - 549755814)) s)))) ∧
  (∀ (d : Bool) (s : State), ∃ t, exec (.domainStep .kiln d) s = .next t ∧
    (domClk t d : Int) = (domClk s d + (signed 32 (rd s (if d then 0x00060074 else 0x00060054)).toNat * 10 ^ 9
      + signed 32 (rd s (if d then 0x00060078 else 0x00060058)).toNat) * 2 ^ 32) % (clkWrap : Int) ∧
    domClk t (!d) = domClk s (!d) ∧ t.tim.wt = s.tim.wt ∧ t.regs = s.regs) ∧
  (∀ s : State, wtState s = 1 → ∃ t, exec .slewUpdate s = .next t ∧ t.tim = s.tim ∧
    rd t 0x00060030 = w32 (unsigned 32 (clampI (-(2 ^ 31 - 1)) (2 ^ 31 - 1) ((deltaOf s (selOf s)).tdiv (2 ^ 32)))) ∧
    rd t 0x00060034 = w32 (unsigned 32 (clampI (-109951162) 109951162
      ((deltaOf s (selOf s) * 2 ^ 40).tdiv (2 ^ 32 * ((2 ^ min 10 (rdF s 0x00060014 13 10) : Nat) * 1000000)))))) ∧
  (∀ (q : Requester) (s : State), hostOrKiln q = true →
    exec (.timSnap q) s =
      .next (kept s (wrWords 0x000600B4 (clkWords s.tim.wt ++ clkWords s.tim.domA ++ clkWords s.tim.domB) s))) ∧
  (∀ (which : Fin 3) (s : State), ∃ t, exec (.wtNsRead which) s = .next t ∧
    (let c := if which.val = 0 then s.tim.wt else if which.val = 1 then s.tim.domA else s.tim.domB
     let k := if which.val = 0 then 0x00060000 else if which.val = 1 then 0x00060080 else 0x00060090
     t.rdata = w32 (clkSub c) ∧ shadow t (k + 4) = w32 (clkSec c) ∧
     shadow t (k + 8) = w32 (clkFrac c * 2 ^ 16 + clkSec c / 2 ^ 32) ∧ t.regs = s.regs ∧ t.tim = s.tim))

/-- Domain selection (R72 to R76): a domain's state shows in TIM_STATUS and moves neither domain clock; one that reaches LOCKED initialises a working time that INIT_WAIT still holds; INIT_WAIT
expires to the seed; a force toward a LOCKED domain is kept in TIM_SEL_CMD and followed, one toward another sets REFUSED; AUTO
and AUTO_SEL return to R74; REVERT_HOLD expires to domain A.
Rests on the model's readings of log entries 3 and 27. -/
def Obligations.DomainSelection : Prop :=
  (∀ (d : Bool) (st : Fin 4) (s : State), ∃ t, exec (.domainStateChange d st) s = .next t ∧
    t.tim.domA = s.tim.domA ∧ t.tim.domB = s.tim.domB ∧
    (if d then rdF t 0x00060010 9 8 else rdF t 0x00060010 1 0) =
      (if rdB s (if d then 0x00060044 else 0x00060040) 31 then st.val else 0)) ∧
  (∀ s : State, wtState s = 0 → s.tim.initWait = true → s.cones = [] → domLocked s false = false → selectOf s = 0 →
    rdB s 0x00060040 31 = true → ∃ t, exec (.domainStateChange false 2) s = .next t ∧
      t.tim.wt = s.tim.domA ∧ wtState t = 1 ∧ selOf t = false ∧ wtValid t = true ∧ domLocked t false = true ∧ slewOf t = 0) ∧
  (∀ s : State, s.tim.initWait = true → wtState s = 0 → s.cones = [] → ∃ t, exec .initWaitExpiry s = .next t ∧
    t.tim.wt = clkOfWords (rd s 0x00060020).toNat (rd s 0x00060024).toNat (rd s 0x00060028).toNat % clkWrap ∧
    wtState t = 3 ∧ wtValid t = true ∧ slewOf t = 0) ∧
  (∀ s : State, s.tim.revertRun = true → wtState s = 1 → selectOf s = 0 → autoSel s = true → selOf s = true →
    domLocked s false = true → domLocked s true = true →
    exec .revertHoldExpiry s = .next (kept s (wtFollow false s))) ∧
  (∀ (q : Requester) (s : State), hostRights q = true → domLocked s false = true →
    exec (.selForceA q) s = .next (kept s (reselect (wrB 0x00060010 24 true (wrF 0x000600A0 1 0 1 s))))) ∧
  (∀ (q : Requester) (s : State), hostRights q = true → domLocked s true = true →
    exec (.selForceB q) s = .next (kept s (reselect (wrB 0x00060010 24 true (wrF 0x000600A0 1 0 2 s))))) ∧
  (∀ (q : Requester) (s : State), hostRights q = true → domLocked s false = false → domLocked s true = false →
    exec (.selForceA q) s = .next (kept s (wrB 0x000600A0 31 true s)) ∧
    exec (.selForceB q) s = .next (kept s (wrB 0x000600A0 31 true s))) ∧
  (∀ (q : Requester) (s : State), hostRights q = true →
    exec (.selAuto q) s = .next (kept s (reselect (wrB 0x00060010 24 false (wrF 0x000600A0 1 0 0 s))))) ∧
  (∀ (q : Requester) (s : State), hostOrKiln q = true → locked s = false →
    exec (.autoSelEnable q) s = .next (kept s (reselect (wrB 0x00060014 24 true s))))

/-- Cones (R82 to R88): an arming write latches the registers, one whose target is at or before NOW40 is late, one that breaks a
limit sets ERR; a disarming write; a firing acts, counts and takes the next target; a pulse ends at the idle level; a plan
cycle start takes a SWAP's boundary and gives anchored Cones their first target.
Rests on the model's readings of log entries 28 and 29. -/
def Obligations.ConeCommands : Prop :=
  (∀ (q : Requester) (n : Fin 96) (ctrl : Word) (s : State), hostOrKiln q = true → 64 ≤ n.val → (coneOf s n).pulsing = false →
    let s1 := wr (coneKey n 0) (setBit (ctrl &&& 0x8FE03FF0) 31 true) s
    coneLimits (coneLatched s1 n) none = true → (wtValid s = false ∨ 0 < coneDist s (coneLatched s1 n).tgt) →
    ∃ t, exec (.coneArm q n ctrl) s = .next t ∧ coneArmed t n = true ∧
      coneOf t n = { coneLatched s1 n with pulsing := false, waitPlan := false } ∧
      rd t (coneKey n 0x1C) = 0 ∧ t.tim = s.tim ∧ t.out = s.out) ∧
  (∀ (q : Requester) (n : Fin 96) (ctrl : Word) (s : State), hostOrKiln q = true → 64 ≤ n.val → (coneOf s n).pulsing = false →
    let s1 := wr (coneKey n 0) (setBit (ctrl &&& 0x8FE03FF0) 31 true) s
    coneLimits (coneLatched s1 n) none = true → wtValid s = true → coneDist s (coneLatched s1 n).tgt ≤ 0 →
    ∃ u, exec (.coneArm q n ctrl) s = .next (kept s (coneLate n u)) ∧ coneArmed u n = true ∧
      coneOf u n = { coneLatched s1 n with pulsing := false, waitPlan := false }) ∧
  (∀ (q : Requester) (n : Fin 96) (ctrl : Word) (s : State), hostOrKiln q = true → 64 ≤ n.val →
    let s1 := wr (coneKey n 0) (setBit (ctrl &&& 0x8FE03FF0) 31 true) s
    coneLimits (coneLatched s1 n) none = false →
    exec (.coneArm q n ctrl) s =
      .next (kept s (raiseLive (lfTim 7) (wrB (coneStatus n) 30 true (wrB (coneStatus n) 29 false s1))))) ∧
  (∀ (q : Requester) (n : Fin 96) (ctrl : Word) (s : State), hostOrKiln q = true → 64 ≤ n.val →
    ((coneOf s n).pinEn = false ∨ (coneOf s n).pulsing = true) →
    exec (.coneDisarm q n ctrl) s =
      .next (kept s (wrB (coneStatus n) 29 false (wr (coneKey n 0) (setBit (ctrl &&& 0x8FE03FF0) 31 false) s)))) ∧
  (∀ (q : Requester) (n : Fin 96) (ctrl : Word) (s : State), hostOrKiln q = true → 64 ≤ n.val →
    (coneOf s n).pinEn = true → (coneOf s n).pulsing = false → rdB s (coneStatus n) 28 = !(coneOf s n).pol →
    exec (.coneDisarm q n ctrl) s = .next (kept s (conePin n (coneOf s n) (coneOf s n).pol
      (wrB (coneStatus n) 29 false (wr (coneKey n 0) (setBit (ctrl &&& 0x8FE03FF0) 31 false) s))))) ∧
  (∀ (n : Fin 96) (ready : List (Fin 128)) (s : State), coneArmed s n = true → wtValid s = true →
    (coneOf s n).waitPlan = false → coneDist s (coneOf s n).tgt ≤ 0 →
    let d := ((coneOf s n).done + 1) % 2 ^ 64
    let u := coneAct n (coneOf s n) (ready.map (·.val)) s
    exec (.coneFire n ready) s =
      .next (kept s (nmwSettle (coneAdvance n (wr (coneKey n 0x1C) (w32 d) (setCone n { coneOf u n with done := d } u)))))) ∧
  (∀ (n : Fin 96) (ready : List (Fin 128)) (s : State), coneArmed s n = true → wtValid s = true →
    (coneOf s n).waitPlan = false → coneDist s (coneOf s n).tgt ≤ 0 → (coneOf s n).mode = 1 → (coneOf s n).pinEn = true →
    (coneOf s n).width ≠ 0 → (coneOf s n).per = 0 →
    let d := ((coneOf s n).done + 1) % 2 ^ 64
    let u := conePin n (coneOf s n) (!(coneOf s n).pol) (setCone n { coneOf s n with pulsing := true } s)
    exec (.coneFire n ready) s = .next (kept s (nmwSettle
      (wrB (coneStatus n) 29 false (wr (coneKey n 0x1C) (w32 d) (setCone n { coneOf s n with pulsing := true, done := d } u)))))) ∧
  (∀ (n : Fin 96) (s : State), (coneOf s n).tail = none → (coneOf s n).pulsing = true →
    exec (.conePulseEnd n) s =
      .next (kept s (conePin n (coneOf s n) (coneOf s n).pol (setCone n { coneOf s n with pulsing := false } s)))) ∧
  (∀ s : State, wtValid s = true → regionApplied s 21 = true → s.cfg.planFirst = false → s.cfg.planSwap = none →
    exec .planCycleStart s = .next (kept s (planAnchor (clkNs s.tim.wt - planPhase s) s)))

/-- The loader's commands (R50 to R62): an idle loader that accepts a LOAD of a region 1 to 27 marks it LOADING; one that is
busy queues it; a region that passes its check begins to be applied, a region that fails it is refused and leaves the
region's state as it was; an applied region is ACTIVE with its generation; a SWAP of region 18 exchanges the generations and
drains the old bank; CFG_LOCK holds every RWL field.
Rests on the model's readings of log entries 4, 29, 70 and 74. -/
def Obligations.LoaderCommands : Prop :=
  (∀ (q : Requester) (k : Fin 4) (r : Fin 32) (src : Fin 4) (s : State), keySlotMay k q = true →
    slotPending s (cfgSlot k) = false → 1 ≤ r.val → r.val ≤ 27 → src.val ≤ 1 → s.cfg.queue = [] → bankState s r ≠ 3 →
    let a := slotAccept (cfgSlot k) s
    exec (.load q k r src) s = .next (kept s (loadStart r
      { a with cfg := { a.cfg with queue := [{ region := r, src := src, slot := some k.val }] } }))) ∧
  (∀ (q : Requester) (k : Fin 4) (r : Fin 32) (src : Fin 4) (s : State), keySlotMay k q = true →
    slotPending s (cfgSlot k) = false → r.val ≤ 27 → src.val ≤ 1 → s.cfg.queue ≠ [] → regionInUse s r = false →
    let a := slotAccept (cfgSlot k) s
    exec (.load q k r src) s = .next (kept s
      { a with cfg := { a.cfg with queue := s.cfg.queue ++ [{ region := r, src := src, slot := some k.val }] } })) ∧
  (∀ (c : CfgCmd) (rest : List CfgCmd) (b : List Byte) (s : State), s.cfg.queue = c :: rest → c.swap = false →
    s.cfg.checked = false → srcPart s c.src c.region = some b →
    exec .regionCheckDone s = .next (kept s (trialSettle
      (if loadCode c.src c.region b s = cOk then applyStart c.region { s with cfg := { s.cfg with checked := true, load := b } }
       else cfgFinish (loadCode c.src c.region b s) [] (wr (regState c.region) s.cfg.saved s))))) ∧
  (∀ (c : CfgCmd) (rest : List CfgCmd) (s : State), s.cfg.queue = c :: rest → c.swap = false → s.cfg.checked = false →
    srcPart s c.src c.region = none → exec .regionCheckDone s =
      .next (kept s (trialSettle (cfgFinish cSignature [] (wr (regState c.region) s.cfg.saved s))))) ∧
  (∀ (c : CfgCmd) (rest : List CfgCmd) (s : State), s.cfg.queue = c :: rest → c.swap = false → s.cfg.checked = true →
    applyReady c.region s = true → banked c.region = false → c.region ≠ 19 →
    let g := regGen s.cfg.load
    let ws := recWrites ((regRecs s.cfg.load).getD [])
    let t := setAct c.region 1 (wr (activeGen c.region) (w32 g) (loaderWords c.region 0 ws s))
    exec .regionApplyDone s = .next (kept s (trialSettle
      (cfgFinish cOk [g, regLen s.cfg.load] (mirrorReload c.region (regionEffects c.region g ws s t)))))) ∧
  (∀ (q : Requester) (k : Fin 4) (s : State), keySlotMay k q = true → slotPending s (cfgSlot k) = false → s.cfg.queue = [] →
    activeBank s 18 ≠ none → bankState s 18 = 2 →
    let a := slotAccept (cfgSlot k) s
    let u := bankFlip 18 3 { a with cfg := { a.cfg with queue := [{ swap := true, region := 18, slot := some k.val }] } }
    exec (.swap q k 18) s = .next (kept s (cfgFinish cOk [(rd s (inactiveGen 18)).toNat, (rd s (activeGen 18)).toNat]
      (wrB 0x00240000 31 true (wrF 0x00240000 28 28 (rdF u (regState 18) 8 8) u)))) ∧
    rd u (activeGen 18) = rd s (inactiveGen 18) ∧ rd u (inactiveGen 18) = rd s (activeGen 18) ∧ bankState u 18 = 3) ∧
  (∀ (c : CfgCmd) (rest : List CfgCmd) (s : State), s.cfg.queue = c :: rest → c.swap = true → s.cfg.planSwap = none →
    c.region = 21 → activeBank s 21 ≠ none → bankState s 21 = 2 →
    exec .swapBoundary s = .next (kept s { s with cfg := { s.cfg with planSwap := some s.tim.wt } })) ∧
  (∀ s : State, bankState s 18 = 3 → inFlight s 18 = 0 → exec (.bankDrainDone 18) s =
    .next (kept s (raise (lfCls 0) (wrB 0x00240000 30 true (wrB 0x00240000 31 false (setBankState 18 4 s)))))) ∧
  (∀ s : State, bankState s 20 = 3 → inFlight s 20 = 0 →
    exec (.bankDrainDone 20) s = .next (kept s (setBankState 20 4 s))) ∧
  (∀ (q : Requester) (s : State), hostRights q = true → ∃ t, exec (.cfgLockSet q) s = .next t ∧ locked t = true ∧
    ∀ k, k ≠ 0x000A0200 → rd t k = rd s k)

/-- The mirror (R64, R65): a write of a word makes both of its copies agree; a scan that finds the copies of a word different,
with none found before, records it in CFG_MIRROR_STATUS and CFG_MIRROR_ADDR and raises CFG_MIRROR_MISMATCH; a later one at
another word sets MULTI; a scan that finds them equal shows in LIVE whether any word differs. -/
def Obligations.MirrorScans : Prop :=
  (∀ (k : Nat) (w : Word) (s : State), tblGet (wr k w s).mirror k 0 = 0) ∧
  (∀ (off : Fin 268435456) (s : State), tblGet s.mirror (keyOf s off) 0 ≠ 0 → rdB s 0x000A0210 31 = false →
    let k := keyOf s off
    exec (.mirrorScan off) s = .next (kept s (raiseLive (lfCrz 0) (wrB 0x000A0210 29 true (wr 0x000A0214 (w32 (k % 2 ^ 28))
      (wrF 0x000A0210 23 16 (if regionOf k < 28 then regionOf k else 0xFE) (wrB 0x000A0210 31 true s))))))) ∧
  (∀ (off : Fin 268435456) (s : State), tblGet s.mirror (keyOf s off) 0 ≠ 0 → rdB s 0x000A0210 31 = true →
    (rd s 0x000A0214).toNat ≠ keyOf s off % 2 ^ 28 →
    exec (.mirrorScan off) s =
      .next (kept s (raiseLive (lfCrz 0) (wrB 0x000A0210 29 true (wrB 0x000A0210 30 true s))))) ∧
  (∀ (off : Fin 268435456) (s : State), tblGet s.mirror (keyOf s off) 0 = 0 →
    exec (.mirrorScan off) s = .next (kept s (setLive (lfCrz 0) (s.mirror != []) s)))

/-- Resets (R10, R51, R556, R561): each source holds the block in a reset of its domain with its cause, a cold reset in force
is not narrowed by a warm one, the flash, the OTP store's contents and the registers that survive are kept.
Rests on the model's readings of log entries 77, 78 and 114. -/
def Obligations.ResetCommands : Prop :=
  (∀ s : State, exec .porstAssert s = .next (kept s (resetTo true 1 s)) ∧
    exec .resetNAssert s = .next (kept s (resetTo false 2 s)) ∧
    exec .powerGoodFault s = .next (kept s (resetTo true 9 s))) ∧
  (∀ (cold : Bool) (cause : Nat) (s : State), s.boot.rst = none →
    (resetTo cold cause s).boot.rst = some (cold, cause) ∧ (resetTo cold cause s).flash = s.flash ∧
    (resetTo cold cause s).cfg = {} ∧ (resetTo cold cause s).tim = {} ∧ (resetTo cold cause s).eq = [] ∧
    (resetTo cold cause s).fxp = [] ∧ (resetTo cold cause s).slotArgs = [] ∧ (resetTo cold cause s).brg = {}) ∧
  (∀ (k0 cause : Nat) (s : State), s.boot.rst = some (true, k0) → (resetTo false cause s).boot.rst = some (true, k0)) ∧
  (∀ (q : Requester) (k : Fin 4) (src : Fin 4) (s : State), keySlotMay k q = true → slotPending s (cfgSlot k) = false →
    src.val ≤ 1 →
    let a := slotAccept (cfgSlot k) s
    exec (.warmRestart q k src) s = .next (kept s (resetTo false 6 { a with boot := { a.boot with src := some src.val } }))) ∧
  (∀ (i : Fin 3) (s : State), exec (.clockFault i) s = .next (kept s (raiseLive (lfCrz (3 + i.val)) (resetTo (i.val != 2) 8
    (footFault 3 { s with boot := { s.boot with clk := nsetBit s.boot.clk i true } }))))) ∧
  (∀ (i : Fin 3) (s : State), ∃ t, exec (.clockFaultCleared i) s = .next t ∧ t.boot.clk = nsetBit s.boot.clk i false ∧
    leafBit t (lfCrz (3 + i)) 1 = false ∧ t.boot.rst = s.boot.rst) ∧
  (∀ (a : Fin 4) (s : State), ∃ t, exec (.footPowerOn a) s = .next t ∧ t.regs = [] ∧ t.counters = [] ∧
    t.foot.auxAddr = a.val ∧ t.flash = s.flash ∧ t.boot.rst = some (true, 0) ∧ t.foot.key = none ∧ t.brg.opens = [])

/-- The start after a reset (R556 to R563): the reset is released once no clock fault is present; boot mode 3 leaves the
device in BOOT_PHASE 5; else it waits for the root PLL, the boot BIST and the firmware check, and then for overflow
training, after which the loader begins with region 0; a port's lanes lock once its mode is set.
Rests on the model's readings of log entries 3, 77 and 114. -/
def Obligations.StartCommands : Prop :=
  (∀ (bm : Fin 8) (ds : Fin 16) (k : Nat) (ok : Bool) (s : State), s.boot.rst ≠ none → s.boot.clk = 0 → ∃ t,
    exec (.resetRelease bm ds k ok) s = .next t ∧ t.boot.rst = none ∧ t.boot.relAt = s.now) ∧
  (∀ s : State, s.boot.wait = 1 → s.boot.cold = true →
    exec .rootPllLock s = .next (kept s { s with boot := { s.boot with pll := true, wait := 2 } })) ∧
  (∀ s : State, s.boot.wait = 1 → s.boot.cold = false →
    exec .rootPllLock s = .next (kept s (romStart { s with boot := { s.boot with pll := true, wait := 0 } }))) ∧
  (∀ (f : Fin 32) (s : State), s.boot.wait = 2 → exec (.bootBistDone f) s = .next (kept s (romStart (forN 5 0
    (fun p u => if nbit f p && !rdB u 0x000B0060 p then retirePair p u else u) { s with boot := { s.boot with wait := 0 } })))) ∧
  (∀ (a b : Bool) (s : State), s.boot.wait = 3 →
    let k := rdF s 0x00000014 28 28
    let u := { s with boot := { s.boot with wait := 0 } }
    ∃ t, exec (.firmwareVerifyDone a b) s = .next t ∧
      (if firmwareOk s k (if k = 0 then a else b) = true then
         t.boot.wait = 4 ∧ t.boot.fwHash = sha256 ((bankPart s k 0x40).getD []) ∧ rdF t 0x00000014 31 29 = 1
       else if committedBank s = none ∧ rdB s 0x00000014 27 = false ∧ firmwareOk s (1 - k) (if k = 0 then b else a) = true then
         t.boot.wait = 4 ∧ rdF t 0x00000014 28 28 = 1 - k ∧ t.boot.fwHash = sha256 ((bankPart s (1 - k) 0x40).getD []) ∧
         rdF t 0x00000014 31 29 = 1
       else t = kept s (if rdB s 0x00000014 27 then trialFail u else recovery 2 cSignature u))) ∧
  (∀ (pass : Bool) (d : Fin 16385) (s : State), s.boot.wait = 4 →
    let u := ovfTrained pass d s
    let v := wrF 0x00000014 31 29 2 { u with boot := { u.boot with wait := 0 } }
    let l := (bootRegions v).map (fun r => ({ region := r, src := rdF u 0x00000014 28 28 } : CfgCmd))
    exec (.ovfTraining pass d) s = .next (kept s (cfgNext (l.length + 1) { v with cfg := { v.cfg with queue := l, boot := true } }))) ∧
  (∀ (n : Fin 24) (s : State), regionApplied s 0 = true → rdF s (macBase n) 31 28 ≠ 0 → ∃ t,
    exec (.lanePllLock n) s = .next t ∧ n.val ∈ t.boot.lanes ∧ t.regs = s.regs)

/-- Shelf and overflow memory (R343 to R355): a spilled packet's staging cells are freed when its write is done; the resequencer
takes the head of a queue within its window; a read-back makes a taken packet ready, or is uncorrectable; a gap skips a number
that is not ready; training, retraining and the patrol scrub; a watermark's peak is read and starts again.
Rests on the model's readings of log entries 51 to 53. -/
def Obligations.ShelfCommands : Prop :=
  (∀ (q : Fin 1280) (seq : Word) (addr : Nat) (p : Pkt) (s : State), findSeq s q seq.toNat = some p →
    (pktOf s p.pid).staging ≠ 0 → injArmed s 0x08 = none → exec (.spillWriteDone q seq addr) s =
      .next (kept s (shfSettle (setPkt p.pid { pktOf s p.pid with staging := 0, held := 0 } s)))) ∧
  (∀ (q : Fin 1280) (p : Pkt) (rest : List Pkt) (s : State), eqOf s (q.val / 8) (q.val % 8) = p :: rest →
    (rsqOf s q).length < rdF s (0x0F400004 + 0x10 * q.val) 11 0 → rsqUsed s < 65536 → exec (.reseqTake q) s =
      .next (kept s (shfSettle (readIssue p (setRsq q (rsqOf s q ++ [p]) (setEq (q.val / 8) (q.val % 8) rest s)))))) ∧
  (∀ (q : Fin 1280) (seq : Word) (p : Pkt) (s : State), findSeq s q seq.toNat = some p → p.ovfErr = none →
    (pktOf s p.pid).readback ≠ 0 → (rsqOf s q).any (fun x => x.seq = seq.toNat) = true →
    (tblGet s.shf.late q.val []).any (fun x => x.seq = seq.toNat) = false →
    (exec (.readbackDone q seq 0 none) s = .next (kept s (shfSettle
      (let u := setPkt p.pid { pktOf s p.pid with ovf := 0 } s
       setRsq q ((rsqOf u q).map (fun x => if x.seq = seq.toNat then { x with ready := true } else x)) u)))) ∧
    (∀ a : Nat, exec (.readbackDone q seq 0 (some a)) s = .next (kept s (shfSettle
      (let u := ovfUncorr 2 false a s
       let v := setRsq q ((rsqOf s q).filter (fun x => x.seq ≠ seq.toNat)) u
       let l := (tblGet v.shf.late q.val []).filter (fun x => x.seq ≠ seq.toNat)
       shfUnref p.pid { v with shf := { v.shf with
         late := if l = [] then tblErase v.shf.late q.val else tblSet v.shf.late q.val l } }))))) ∧
  (∀ (q : Fin 1280) (s : State), rd s (seqOut q) ≠ rd s (seqIn q) → shfHead s (q.val / 8) (q.val % 8) = none →
    eqOf s (q.val / 8) (q.val % 8) = [] → rsqOf s q = [] → tblGet s.shf.late q.val [] = [] → ∃ u,
    exec (.reseqGap q) s = .next (kept s (shfSettle (raise (lfShf 2) (bump (queueCtr q 3) u)))) ∧
      rd u (seqOut q) = rd s (seqOut q) + 1 ∧ u.out = s.out ∧ u.counters = s.counters) ∧
  (∀ (d : Fin 16385) (s : State), s.boot.wait ≠ 4 → exec (.ovfTraining true d) s =
    .next (kept s (setLive (lfShf 6) false (wr 0x00480800 (w32 (2 ^ 31 + d.val * 7 / 8)) s)))) ∧
  (∀ (b : Bool) (s : State), rdB s 0x00480800 31 = true →
    exec (.ovfRetrain b) s = .next (kept s (wrB 0x00480800 29 b s))) ∧
  (∀ (addr : Nat) (s : State), injArmed s 0x08 = none →
    exec (.patrolScrub addr 0) s = .next s ∧
    exec (.patrolScrub addr 1) s = .next (kept s (bump 0x00480910 s)) ∧
    exec (.patrolScrub addr 2) s = .next (kept s (ovfUncorr (ovfPartition s addr) true addr s))) ∧
  (∀ (m : Fin 1024) (s : State), rdB s (0x00540000 + 0x20 * m.val) 31 = true → ∃ t, exec (.wmMaxRead true m) s = .next t ∧
    t.rdata = rd s (0x00540000 + 0x20 * m.val + 0x10) ∧
    rd t (0x00540000 + 0x20 * m.val + 0x10) = rd s (0x00540000 + 0x20 * m.val + 0x14)) ∧
  (∀ (m : Fin 32) (s : State), rdB s (0x00481000 + 0x20 * m.val) 31 = false → ∃ t,
    exec (.wmMaxRead false (Fin.ofNat 1024 m.val)) s = .next t ∧
    t.rdata = rd s (0x00481000 + 0x20 * m.val + 0x10) ∧ rd t (0x00481000 + 0x20 * m.val + 0x10) = 0)

/-- Network management (R409 to R419): the ring, its timeouts and the token; sleep by commit; consent and local wakes; a wake
that is not validated; mutes; energy on a sleeping T1S port.
Rests on the model's readings of log entries 24 and 81. -/
def Obligations.NetworkWakeCommands : Prop :=
  (∀ (g : Nat) (msg : List Byte) (w : Bool) (rest : List (Nat × List Byte × Bool)) (s : State),
    s.nmw.ring = (g, msg, w) :: rest → rdB s (ncKey (byteAt msg 3 % 16) 0) 31 = true →
    (ncCarriers s (byteAt msg 3 % 16)).any (fun k => k.1 == g) = true →
    exec .ringMsgRx s = .next (kept s (nmwSettle (ringAccept (byteAt msg 3 % 16) g msg w
      { s with nmw := { s.nmw with ring := rest } })))) ∧
  (∀ (g : Nat) (msg : List Byte) (w : Bool) (rest : List (Nat × List Byte × Bool)) (s : State),
    s.nmw.ring = (g, msg, w) :: rest → rdB s (ncKey (byteAt msg 3 % 16) 0) 31 = false →
    exec .ringMsgRx s = .next (kept s (bump 0x00070018 { s with nmw := { s.nmw with ring := rest } }))) ∧
  (∀ (c : Fin 16) (d : Nat) (s : State), (ncOf s c).await = some d → ncState s c = 1 →
    exec (.ringSuccessorTimeout c) s = .next (kept s (ringPass c (raise (lfNmw 0) (ncPresent c (bump (ncCtr c 3)
      (setNc c { ncOf s c with missing := nsetBit (ncOf s c).missing d true, await := none } s))))))) ∧
  (∀ (c : Fin 16) (s : State), ncState s c = 1 →
    exec (.tokenLost c) s = .next (kept s (raise (lfNmw 6) (bump (ncCtr c 5) (ringPass c (ringOwn c 0 s)))))) ∧
  (∀ (c : Fin 16) (s : State), ncState s c = 2 → (ncOf s c).latch = none →
    let a := raise (lfNmw 1) (bump (ncCtr c 0) s)
    let b := (ncFxps a c).foldl (fun u n => let r := fxqFlush n u; bumpN (ncCtr c 4) r.1 r.2) a
    exec (.sleepCommit c) s = .next (kept s (setNcState c 3 ((ncMembers b c).foldl (fun u n => portSleep n u) b)))) ∧
  (∀ (c : Fin 16) (s : State), ncState s c = 2 → (ncOf s c).latch ≠ none →
    exec (.sleepCommit c) s = .next (kept s (sleepAbort c true s))) ∧
  (∀ (q : Requester) (c : Fin 16) (s : State), hostRights q = true → (ncState s c = 2 ∨ ncState s c = 3 ∨ ncState s c = 4) →
    exec (.ncWake q c) s = .next (kept s (ncSettle c (ncLatch c none s)))) ∧
  (∀ (q : Requester) (c : Fin 16) (s : State), hostRights q = true →
    exec (.ncConsentWrite q c true) s = .next (kept s (wrB (ncKey c 0x44) 0 true s)) ∧
    exec (.ncConsentWrite q c false) s = .next (kept s (localWake c (wrB (ncKey c 0x44) 0 false s)))) ∧
  (∀ (c : Fin 16) (s : State), ncState s c = 4 → (ncOf s c).woke = none → exec (.wakeValidationTimeout c) s =
    .next (kept s (setNcState c 3 (setNc c { ncOf s c with woke := none, latch := none } (bump (ncCtr c 2) s))))) ∧
  (∀ (c : Fin 16) (n : Nat) (s : State), ncState s c = 4 → (ncOf s c).woke = some n → n < 128 →
    exec (.wakeValidationTimeout c) s = .next (kept s
      (let u := falseWake n (portSleep n (bump (ncCtr c 2) s))
       setNcState c 3 (setNc c { ncOf u c with woke := none, latch := none } u)))) ∧
  (∀ (n : Fin 128) (s : State), muted s n = true →
    exec (.wakeMuteEnd n) s = .next (kept s (mutedLive (wrF (fwKey n) 15 8 0 (wrB (fwKey n) 1 false s))))) ∧
  (∀ (q : Requester) (n : Fin 128) (s : State), (hostOrKiln q || decide (q = .aux)) = true →
    exec (.footFwClear q n) s =
      .next (kept s (mutedLive (wrF (fwKey n) 15 8 0 (wrB (fwKey n) 1 false (wrF (fwKey n) 31 16 0 s)))))) ∧
  (∀ (n : Fin 128) (s : State), persOf s n = 3 → s.nmw.t1sAsleep.contains n.val = true →
    exec (.t1sEnergyDetect n) s = .next (kept s (nmwSettle (busWake n false (raise (lfFxp n 10) s)))))

/-- The reflex path (R293 to R307): filtered edges are timestamped and evaluated; a pulse ends at the other level; a generator
starts a period with its latched setting; a level is requested of a pin; a capture's period, its absence, and the removal of
a capture's oldest timestamp.
Rests on the model's readings of log entries 46 and 113. -/
def Obligations.ReflexCommands : Prop :=
  (∀ (p : Fin 64) (level : Bool) (s : State), exec (.pioInputChange [(p, level)]) s = .next (kept s (nmwSettle
    (reflexEvent { edges := [(p.val, level)] } (capTimestamp p level
      (setPin p { pinOf s p with level := level } (wrB (pioKey p 8) 31 level s))))))) ∧
  (∀ (p : Fin 64) (l : Bool) (s : State), (pinOf s p).pulse = some l → exec (.reflexPulseEnd p) s =
    .next (kept s (pinRequest 2 p l (setPin p { pinOf s p with pulse := none } (wrB (pioKey p 8) 26 false s))))) ∧
  (∀ (p : Fin 64) (g : Nat × Nat) (s : State), (pinOf s p).pwm = some g → (pinOf s p).pwmNext = none →
    exec (.reflexPwmPeriod p) s = .next (kept s (pwmPeriod p g.1 g.2 s))) ∧
  (∀ (p : Fin 64) (g n : Nat × Nat) (s : State), (pinOf s p).pwm = some g → (pinOf s p).pwmNext = some n →
    exec (.reflexPwmPeriod p) s = .next (kept s (pwmPeriod p n.1 n.2 s))) ∧
  (∀ (p : Fin 64) (level : Bool) (s : State),
    exec (.pioOutWrite (.host 0) p level) s = .next (kept s (pinRequest 0 p level s)) ∧
    exec (.pioOutWrite .kiln p level) s = .next (kept s (pinRequest 0 p level s))) ∧
  (∀ (d p : Nat) (level : Bool) (s : State), ownerAdmits (rdF s (pioKey p 0) 30 28) d = true → d = 2 →
    rdB s (pioKey p 0) 31 = true →
    pinRequest d p level s = emit (.pio p level) (wrF (pioKey p 8) 29 28 d (wrB (pioKey p 8) 30 level s))) ∧
  (∀ (d p : Nat) (level : Bool) (s : State), ownerAdmits (rdF s (pioKey p 0) 30 28) d = false →
    pinRequest d p level s = raise (lfRfx 0) (bump (pioKey p 0x28) s)) ∧
  (∀ (p : Fin 64) (per high : Word) (s : State),
    let t := wr (pioKey p 0x14) (w32 (dutyOf per.toNat high.toNat % 2 ^ 16))
      (wr (pioKey p 0x10) high (wr (pioKey p 0x0C) per (wrB (pioKey p 8) 25 false s)))
    exec (.capPeriodDone p per high) s = .next (kept s (nmwSettle (reflexEvent {}
      (setLive (lfRfx 2) ((List.range 64).any (fun q => rdB t (pioKey q 8) 25)) t))))) ∧
  (∀ (p : Fin 64) (s : State), exec (.capStuck p) s = .next (kept s (nmwSettle (reflexEvent {} (raiseLive (lfRfx 2)
    (wr (pioKey p 0x14) 0 (wr (pioKey p 0x10) 0 (wr (pioKey p 0x0C) 0 (wrB (pioKey p 8) 25 true s))))))))) ∧
  (∀ (p : Fin 64) (r : Bool) (ts : Nat) (rest : List (Bool × Nat)) (s : State), (pinOf s p).fifo = (r, ts) :: rest → ∃ t,
    exec (.capTsRead p) s = .next t ∧ t.rdata = w32 ts ∧ rd t (pioKey p 0x1C) = w32 (ts / 2 ^ 32) ∧
    rd t (pioKey p 0x20) = w32 (2 ^ 31 + b2n r * 2 ^ 30 + rest.length) ∧ (pinOf t p).fifo = rest)

/-- The common engine of a flexport (R96 to R104, R58): enabling starts it; disabling stops an idle port at once and a busy one
at its frame's end or after 1 ms; a selection point takes the highest waiting frame; a transmission that succeeds is stamped and
empties the pending slot; the transmit timestamp is read through its shadows; FPn_D raises TRX_FLAG on its falling edge.
Rests on the model's readings of log entries 22 and 25. -/
def Obligations.FlexportEngineCommands : Prop :=
  (∀ (q : Requester) (n : Fin 128) (s : State), hostOrKiln q = true → rdB s (fxpBase n) 31 = false →
    exec (.fxpEnable q n) s = .next (kept s (engineEnable n s))) ∧
  (∀ (n : Nat) (s : State), fxpPermitted s n = true → persBad s n = false → lent s n = false →
    engineEnable n s = engineStart n (setLive (lfFxp n 2) false (wrB (fxpBase n) 31 true s))) ∧
  (∀ (n : Nat) (s : State), fxpPermitted s n = true → persBad s n = true →
    engineEnable n s = raiseLive (lfFxp n 2) s) ∧
  (∀ (q : Requester) (n : Fin 128) (s : State), hostOrKiln q = true → rdB s (fxpBase n) 31 = true →
    (port s n).txing = false →
    exec (.fxpDisable q n false) s = .next (kept s (engineStop n false (wrB (fxpBase n) 31 false s)))) ∧
  (∀ (q : Requester) (n : Fin 128) (s : State), hostOrKiln q = true → rdB s (fxpBase n) 31 = true →
    exec (.fxpDisable q n true) s = .next (kept s (setPort n { port s n with quiesce := true, disabling := true }
      (wrB (fxpBase n) 31 false s)))) ∧
  (∀ (n : Fin 128) (s : State), (port s n).quiesce = true → (port s n).txing = false →
    exec (.clusterPortIdle n) s = .next (kept s (clusterQuiet n (engineStop n false s)))) ∧
  (∀ (n : Fin 128) (s : State), (port s n).quiesce = true →
    exec (.clusterQuiesceTimeout n) s = .next (kept s (clusterQuiet n (engineStop n true s)))) ∧
  (∀ (n : Fin 128) (q : Nat) (it : FxpItem) (s : State), persOf s n ≠ 3 → persOf s n ≠ 5 → canTake s n = true →
    (port s n).txing = false → (port s n).pend = none → lgRetryOf s n = none → lgLateOf s n = none →
    fxqHighest s n (fun q => !held s n q) = some (q, it) → ∃ t, exec (.fxpSelect n) s = .next t ∧
      (port t n).pend = some (q, it) ∧ (port t n).txing = true ∧ t.out = .fieldStart n it.frame :: s.out ∧
      fxq t n q = (fxq s n q).drop 1) ∧
  (∀ (n : Fin 128) (age q : Nat) (it : FxpItem) (d : Option Nat) (s : State), (port s n).pend = some (q, it) →
    (port s n).txing = true → persOf s n ≠ 1 → persOf s n ≠ 5 →
    exec (.fxpTxSuccess n age d) s = .next (kept s (txSuccess n q (stampAgo s age) s))) ∧
  (∀ (n q ts : Nat) (s : State), txSuccess n q ts s = lgLeave n (txStamp n q ts (bump (fxpCtr n 1)
    (setPort n { port s n with pend := none, txing := false, grp := false, errs := 0, backoff := 0 } s)))) ∧
  (∀ (n : Fin 128) (s : State), ∃ t, exec (.txtsRead n) s = .next t ∧ t.rdata = rd s (fxpBase n + 0x20) ∧
    shadow t (fxpBase n + 0x24) = rd s (fxpBase n + 0x24) ∧ shadow t (fxpBase n + 0x28) = rd s (fxpBase n + 0x28) ∧
    rdB t (fxpBase n + 0x28) 31 = false) ∧
  (∀ (n : Fin 128) (s : State), persOf s n = 1 → rdB s (persReg s n 0x100) 18 = true → (port s n).dPin = true →
    exec (.trxFlag n false) s = .next (kept s
      (raise (lfFxp n 13) (setLive (lfFxp n 13) true (setPort n { port s n with dPin := false } s))))) ∧
  (∀ (n : Fin 128) (level : Bool) (s : State), persOf s n ≠ 1 → persOf s n ≠ 2 →
    exec (.trxFlag n level) s = .next (kept s (setPort n { port s n with dPin := level } s)))

/-- The CAN XL personality (R97, R102, R115 to R122): a frame received in ACTIVE is handed off and REC follows; arbitration lost
leaves the frame pending; an error is counted by its type; bus-off recovery starts by time or by command and ends in
integration; a port integrates into ACTIVE, MONITOR or RESTRICTED; FREEZE and its end.
The steps of TEC and REC are those of ISO 11898-1, PRESUMED: log entries 15 and 16. -/
def Obligations.CanCommands : Prop :=
  (∀ (n : Fin 128) (f : FieldFrame) (age : Nat) (s : State), persOf s n = 1 → onBus s n = true → opState s n = 2 →
    injFor s 0x0F n = false → f.fmt = .cc → exec (.canxRxFrame n f age) s = .next (kept s (nmwSettle
      (canxFrameEnd n (recSuccess n (canHandOff n { frame := f, ts := stampAgo s age } s)))))) ∧
  (∀ (n : Fin 128) (f : FieldFrame) (age : Nat) (s : State), persOf s n = 1 → onBus s n = true →
    (opState s n = 3 ∨ opState s n = 4) → injFor s 0x0F n = false → f.fmt = .cc → exec (.canxRxFrame n f age) s =
      .next (kept s (nmwSettle (canHandOff n { frame := f, ts := stampAgo s age } s)))) ∧
  (∀ (n : Fin 128) (f : FieldFrame) (age : Nat) (s : State), persOf s n = 1 → onBus s n = true → opState s n = 5 →
    injFor s 0x0F n = false → f.fmt = .cc → wakeMatch s n f = false →
    exec (.canxRxFrame n f age) s = .next (kept s (nmwSettle (bump (fxpCtr n 5) s)))) ∧
  (∀ (n : Fin 128) (s : State), persOf s n = 1 → (port s n).txing = true →
    exec (.canxArbLost n) s = .next (kept s (let u := bump (persCtr s n 5) (lgFail n true s)
      setPort n { port u n with txing := false, grp := false } u))) ∧
  (∀ (n : Fin 128) (e : CanErr) (tx x ex hv : Bool) (s : State), persOf s n = 1 → onBus s n = true → opState s n ≠ 5 →
    exec (.canxError n e tx x ex hv none) s = .next (kept s (canError n e tx x ex hv s))) ∧
  (∀ (n : Fin 128) (e : CanErr) (tx x ex hv : Bool) (s : State), persOf s n = 1 → onBus s n = true → opState s n = 5 →
    exec (.canxError n e tx x ex hv none) s = .next (kept s (bump (persCtr s n 9) s))) ∧
  (∀ (n : Fin 128) (s : State), persOf s n = 1 → opState s n = 6 → rdF s (persReg s n 0x100) 23 22 = 1 →
    exec (.boffDelayExpiry n) s = .next (kept s (setPort n { port s n with recovering := true } s))) ∧
  (∀ (q : Requester) (n : Fin 128) (s : State), hostOrKiln q = true → persOf s n = 1 → opState s n = 6 →
    rdF s (persReg s n 0x100) 23 22 = 2 →
    exec (.canxRecover q n) s = .next (kept s (setPort n { port s n with recovering := true } s))) ∧
  (∀ (n : Fin 128) (s : State), persOf s n = 1 → opState s n = 6 → (port s n).recovering = true →
    exec (.busOn n) s = .next (kept s (raise (lfFxp n 11) (setLive (lfFxp n 10) false
      (canxIntegrate n (setErrCtrs n 0 0 (setPort n { port s n with recovering := false } s))))))) ∧
  (∀ (n : Fin 128) (s : State), persOf s n = 1 → onBus s n = true → opState s n = 1 →
    exec (.canxIntegrated n) s = .next (kept s (setOp n (if rdB s (persReg s n 0x100) 26 then 3
      else if rdB s (persReg s n 0x100) 25 then 4 else 2) s))) ∧
  (∀ (q : Requester) (n : Fin 128) (s : State), hostOrKiln q = true → persOf s n = 1 → opState s n = 2 →
    (port s n).txing = false → ∃ u, exec (.canxFreeze q n false) s = .next (kept s (canxFrozen n u)) ∧
      u = wrB (persReg s n 0x11C) 0 true s) ∧
  (∀ (q : Requester) (n : Fin 128) (s : State), hostOrKiln q = true → persOf s n = 1 → opState s n = 2 →
    exec (.canxFreeze q n true) s = .next (kept s (wrB (persReg s n 0x11C) 0 true s))) ∧
  (∀ (q : Requester) (n : Fin 128) (s : State), hostOrKiln q = true → persOf s n = 1 → opState s n = 5 →
    exec (.canxUnfreeze q n) s = .next (kept s (setOp n 1 (wrB (persReg s n 0x11C) 0 false s))))

/-- The LIN personality (R126 to R132): a slot of a commander sends the header of a subscribing entry and awaits its response; a
responder measures the sync byte, checks parity and awaits a subscribed identifier; a good response is handed on, a wrong
checksum and a response that does not end are errors; a bit error ends the transmission; tables, sleep and wake.
Rests on the model's readings of log entries 17 and 18. -/
def Obligations.LinCommands : Prop :=
  (∀ (n : Fin 128) (s : State), linOn s n = true → linCmdr s n = true → safeOn s = false → (port s n).quiesce = false →
    (port s n).linRun = true → exec (.linSlotStart n) s = .next (kept s (linSlotStart n s))) ∧
  (∀ (n : Nat) (s : State), (port s n).txing = false → (port s n).linSleepReq = false → (port s n).linReq = none →
    fld (linEnt s n (port s n).linSlot) 14 12 = 2 →
    let i := (port s n).linSlot
    let id := fld (linEnt s n i) 5 0
    linSlotStart n s = linNext n i (setPort n { port s n with linHdr := some (id, i) }
      (emit (.linHeader n id) (setPort n { port s n with linHdr := none } s)))) ∧
  (∀ (n : Fin 128) (pid : Fin 256) (bitCyc i : Nat) (s : State), linOn s n = true → linCmdr s n = false →
    linAsleep s n = false → 85 * rdF s (persReg s n 0x100) 17 0 ≤ 100 * bitCyc →
    100 * bitCyc ≤ 115 * rdF s (persReg s n 0x100) 17 0 → linParityOk pid = true →
    (List.range 64).find? (fun i => fld (linEnt s n i) 14 12 != 0 && fld (linEnt s n i) 5 0 == pid.val % 64) = some i →
    fld (linEnt s n i) 14 12 = 2 → ∃ t, exec (.linHeaderRx n pid bitCyc) s = .next t ∧
      port t n = { port s n with linHdr := some (pid.val % 64, i), linBit := bitCyc } ∧ t.regs = s.regs ∧ t.out = s.out) ∧
  (∀ (n : Fin 128) (pid : Fin 256) (bitCyc : Nat) (s : State), linOn s n = true → linCmdr s n = false →
    linAsleep s n = false → 100 * bitCyc < 85 * rdF s (persReg s n 0x100) 17 0 →
    exec (.linHeaderRx n pid bitCyc) s = .next (kept s (linErr n 3 (setPort n { port s n with linHdr := none } s)))) ∧
  (∀ (n : Fin 128) (data : List Byte) (ck : Fin 256) (age id i : Nat) (s : State), linOn s n = true →
    (port s n).linHdr = some (id, i) → i < 64 → id ≠ 0x3C → injFor s 0x0F n = false →
    ck.val = linChecksum id (bit (linEnt s n i) 11) data →
    exec (.linRxResponse n data ck age) s = .next (kept s (nmwSettle (handOff n
      { frame := { fmt := .lin, id := id, data := data }, ts := stampAgo s age }
      (setPort n { port s n with linHdr := none } s))))) ∧
  (∀ (n : Fin 128) (data : List Byte) (ck : Fin 256) (age id i : Nat) (s : State), linOn s n = true →
    (port s n).linHdr = some (id, i) → i < 64 → injFor s 0x0F n = false →
    ck.val ≠ linChecksum id (bit (linEnt s n i) 11) data →
    exec (.linRxResponse n data ck age) s =
      .next (kept s (linChecksumBad n i (setPort n { port s n with linHdr := none } s)))) ∧
  (∀ (n : Fin 128) (h : Nat × Nat) (s : State), linOn s n = true → (port s n).linHdr = some h →
    exec (.linResponseTimeout n true) s = .next (kept s (linErr n 3 (setPort n { port s n with linHdr := none } s))) ∧
    exec (.linResponseTimeout n false) s = .next (kept s (raise (lfFxp n 9) (bump (persCtr s n 4)
      (setPort n { port s n with linHdr := none } s))))) ∧
  (∀ (n : Fin 128) (s : State), linOn s n = true →
    let u := emit (.fieldStop n) (linErr n 0 s)
    exec (.linTxBitError n) s = .next (kept s (if (port u n).txing then txAbandon n (lgFail n false u) else u))) ∧
  (∀ (q : Requester) (n : Fin 128) (t : Fin 8) (s : State), hostOrKiln q = true → persOf s n = 2 → (port s n).linRun = true →
    exec (.linSchedReq q n t) s =
      .next (kept s (setPort n { port s n with linReq := some t } (wrF (persReg s n 0x108) 18 16 t s)))) ∧
  (∀ (q : Requester) (n : Fin 128) (s : State), hostOrKiln q = true → linOn s n = true → linCmdr s n = true →
    linAsleep s n = false → exec (.linSleep q n) s = .next (kept s (setPort n { port s n with linSleepReq := true } s))) ∧
  (∀ (q : Requester) (n : Fin 128) (s : State), hostOrKiln q = true → linOn s n = true → safeOn s = false →
    exec (.linWake q n) s =
      .next (kept s (linWakeNow n (emit (.linWakePulse n (rdF s (persReg s n 0x104) 31 16)) s)))) ∧
  (∀ (n : Fin 128) (s : State), linOn s n = true → linAsleep s n = false →
    exec (.linIdleTimeout n) s = .next (kept s (linSleepNow n s))) ∧
  (∀ (n : Fin 128) (s : State), linOn s n = true → linAsleep s n = true →
    exec (.wakeRx n false) s = .next (kept s (nmwSettle (busWake n false (raise (lfFxp n 12) (linWakeNow n s)))))) ∧
  (∀ (n : Fin 128) (s : State), linOn s n = true → (port s n).linRestart = true →
    exec (.linScheduleRestart n) s = .next (kept s (setPort n { port s n with
      linRestart := false, linRun := true, linRet := none, linHdr := none,
      linSlot := linBase s n (fld (rd s (persReg s n 0x108)) 2 0) } s)))

/-- The T1S, SENT, SPI and PWM personalities (R134 to R149): frames with a good FCS are handed on; collisions are transmit errors
with a growing backoff; PLCA is lost and restored; calibration pulses, nibbles and CRCs; a transaction's bytes; capture periods,
missing edges and generated periods.
Rests on the model's readings of log entries 19 to 21, 23, 26 and 111 (J2716's slow messages are PRESUMED). -/
def Obligations.OtherBusCommands : Prop :=
  (∀ (n : Fin 128) (d : List Byte) (age : Nat) (s : State), t1sOn s n = true → 60 ≤ d.length → d.length ≤ 1518 →
    exec (.t1sRxFrame n d true age) s =
      .next (kept s (nmwSettle (handOff n { frame := { fmt := .t1s, data := d }, ts := stampAgo s age } s))) ∧
    exec (.t1sRxFrame n d false age) s = .next (kept s (raise (lfFxp n 11) (bump (persCtr s n 0) s)))) ∧
  (∀ (n : Fin 128) (s : State), t1sOn s n = true → exec (.t1sTxOpportunity n) s = .next (kept s (selectionPoint n s))) ∧
  (∀ (n : Fin 128) (s : State), t1sOn s n = true → ∃ u, u = raise (lfFxp n 9) (bump (persCtr s n 2) s) ∧
    exec (.t1sCollision n) s = .next (kept s (if (port u n).txing then
      txError n (setPort n { port u n with backoff := min 10 ((port u n).backoff + 1) } u) else u))) ∧
  (∀ (n : Fin 128) (s : State), t1sOn s n = true → plcaFollower s n = true →
    exec (.t1sBeaconRx n) s = .next (kept s (setLive (lfFxp n 8) false (wrB (persReg s n 0x108) 31 true s))) ∧
    exec (.plcaLost n) s =
      .next (kept s (raiseLive (lfFxp n 8) (bump (persCtr s n 3) (wrB (persReg s n 0x108) 31 false s))))) ∧
  (∀ (n : Fin 128) (cyc : Nat) (s : State), persOf s n = 4 → onBus s n = true → (port s n).sentWait = none →
    4 * (56 * rdF s (persReg s n 0x100) 15 0) ≤ 5 * cyc → 5 * cyc ≤ 6 * (56 * rdF s (persReg s n 0x100) 15 0) →
    exec (.sentCalPulse n cyc) s = .next (kept s (setLive (lfFxp n 10) false (setPort n { port s n with cal := cyc } s)))) ∧
  (∀ (n : Fin 128) (cyc : Nat) (s : State), persOf s n = 4 → onBus s n = true →
    5 * cyc < 4 * (56 * rdF s (persReg s n 0x100) 15 0) → exec (.sentCalPulse n cyc) s = .next (kept s (raiseLive (lfFxp n 10)
      (slowDrop n (setPort n { port s n with cal := 0, sentWait := none } (bump (persCtr s n 0) s)))))) ∧
  (∀ (n : Fin 128) (p : List Nat) (age : Nat) (s : State), persOf s n = 4 → onBus s n = true → (port s n).cal ≠ 0 →
    let cfg := rd s (persReg s n 0x100)
    let v := (p.map (sentTicks (port s n).cal)).map (· - 12)
    bit cfg 31 = false → bit cfg 24 = false → p.length = fld cfg 27 25 + 2 →
    (p.map (sentTicks (port s n).cal)).all (fun x => decide (12 ≤ x) && decide (x ≤ 27)) = true → injFor s 0x0F n = false →
    v.getD (fld cfg 27 25 + 1) 0 = sentCrc (bit cfg 30) (slice v 1 (fld cfg 27 25)) →
    exec (.sentRxFrame n p none age) s = .next (kept s (nmwSettle (sentValid n
      { frame := { fmt := .sent, data := b8 (v.getD 0 0) :: sentPack (slice v 1 (fld cfg 27 25)) }, ts := stampAgo s age } s)))) ∧
  (∀ (n : Fin 128) (miso : List Byte) (age q : Nat) (it : FxpItem) (s : State), (port s n).pend = some (q, it) →
    (port s n).txing = true → persOf s n = 5 → it.bridge = none → miso.length = it.frame.data.length →
    let u := txSuccess n q (stampAgo s age) s
    exec (.spicTransactionDone n miso age) s =
      .next (kept s (nmwSettle (handOff n { frame := { it.frame with data := miso }, ts := stampAgo u age } u)))) ∧
  (∀ (n : Fin 128) (c : Fin 4) (per high : BitVec 24) (l : Bool) (age : Nat) (s : State), onBus s n = true →
    pwmCaps s n c = true → ∃ u, u = reflexEvent {} (setLive (lfFxp n (8 + c)) false
      (wr (persReg s n (0x104 + 0x10 * c)) (w32 per.toNat) (wr (persReg s n (0x108 + 0x10 * c)) (w32 high.toNat) s))) ∧
    (fld (rd u (persReg u n (0x100 + 0x10 * c))) 15 0 = 0 →
      exec (.pwmxPeriodDone n c per high l age) s = .next (kept s (nmwSettle u))) ∧
    (fld (rd u (persReg u n (0x100 + 0x10 * c))) 15 0 = 1 →
      exec (.pwmxPeriodDone n c per high l age) s = .next (kept s (nmwSettle (handOff n
        { frame := { fmt := .pwmx, id := c, data := beBytes 3 per.toNat ++ beBytes 3 high.toNat ++ [b8 (b2n l), 0] },
          ts := stampAgo u age } (setPort n { port u n with pwmCnt := setAt (port u n).pwmCnt c 0 } u)))))) ∧
  (∀ (n : Fin 128) (c : Fin 4) (s : State), onBus s n = true → pwmCaps s n c = true → ∃ u,
    exec (.pwmxStuck n c) s = .next (kept s (nmwSettle (reflexEvent {} (raiseLive (lfFxp n (8 + c)) u)))) ∧
    u = wr (persReg s n (0x104 + 0x10 * c)) 0 (wr (persReg s n (0x108 + 0x10 * c)) 0 s)) ∧
  (∀ (n : Fin 128) (c : Fin 4) (s : State), onBus s n = true → pwmGen s n c = true → safeOn s = false →
    exec (.pwmxPeriodStart n c) s = .next (kept s (pwmStart n c s)))

/-- Lock groups (R151 to R155): a release of a configured, idle group counts and starts its members; one that meets a release
in progress sets BUSY; a retry starts the waiting members together; a give-up lets them go on alone.
Rests on the model's reading of log entry 29. -/
def Obligations.LockGroupCommands : Prop :=
  (∀ (q : Requester) (g : Fin 16) (ready : List (Fin 128)) (s : State), hostOrKiln q = true → rdB s (lgKey g 0) 31 = true →
    s.cfg.planFirst = false → (lgState s g).aligned = [] → (lgState s g).retryWait = [] → exec (.lgRelease q g ready) s =
      .next (kept s (((List.range 128).filter (lgMember (wrF (lgKey g 0x14) 3 0 0 (bump (lgKey g 0x20) s)) g)).foldl
        (fun u n => lgMemberRelease g (rdF s (lgKey g 0) 7 0) n (ready.map (·.val)) u)
        (wrF (lgKey g 0x14) 3 0 0 (bump (lgKey g 0x20) s))))) ∧
  (∀ (q : Requester) (g : Fin 16) (ready : List (Fin 128)) (s : State), hostOrKiln q = true → rdB s (lgKey g 0) 31 = true →
    s.cfg.planFirst = false → (lgState s g).aligned ≠ [] →
    exec (.lgRelease q g ready) s = .next (kept s (wrB (lgKey g 0x14) 31 true s))) ∧
  (∀ (g : Fin 16) (s : State), (lgState s g).retryWait ≠ [] →
    (lgState s g).retryWait.all (fun n => (lgState s g).atSel.contains n) = true →
    rdF s (lgKey g 0x14) 3 0 < fld (lgCtl s g) 27 24 → exec (.lgRetry g) s =
      .next (kept s ((lgState s g).retryWait.foldl (fun u n => lgStart n (setPort n { port u n with grp := true } u))
        (setLg g { lgState s g with aligned := (lgState s g).retryWait, retryWait := [], atSel := [] }
          (wrF (lgKey g 0x14) 3 0 (rdF s (lgKey g 0x14) 3 0 + 1) s))))) ∧
  (∀ (g : Fin 16) (s : State), (lgState s g).retryWait ≠ [] → exec (.lgGiveup g) s =
    .next (kept s ((lgState s g).retryWait.foldl (fun u n => setPort n { port u n with grp := false } u)
      (setLg g { lgState s g with retryWait := [], atSel := [] } (wrB (lgKey g 0x14) 30 true s)))))

/-- Ethernet MACs, links and the service port (R156 to R181): a good frame is counted, validated and steered; a runt and a bad
frame are counted; PFC pauses end, storms are cut off, PFC is refreshed; a link comes up and goes down; low-power idle is
entered and left; TC10 sleep and wake; the service port's frames reach Kiln.
Rests on the model's readings of log entries 30 to 32 and 47. -/
def Obligations.MacCommands : Prop :=
  (∀ (n : Fin 24) (bytes f : List Byte) (v : Bool) (line : RxLine) (s s1 u : State), linkUp s n = true →
    line.fecUncorr = 0 → line.fifoFull = false → injFor s1 0x10 n = false →
    s1 = bumpN (macCtr n 0) (bytes.length + 4)
      (bumpN (macCtr n 24) 0 (bumpN (macCtr n 23) line.fecCorr (bumpN (macCtr n 12) line.lpi s))) →
    64 ≤ bytes.length + 4 → bytes.length + 4 ≤ maxFrame s1 n →
    (macsecValidate n bytes (macCountRx n bytes s1) = (u, some (f, v)) →
      exec (.macRxFrame n bytes .good line) s = .next (kept s (nmwSettle (macSteer n
        { bytes := f, ingress := 128 + n.val, ts := macRxStamp s1 n line.age, validated := v } u)))) ∧
    (macsecValidate n bytes (macCountRx n bytes s1) = (u, none) →
      exec (.macRxFrame n bytes .good line) s = .next (kept s u)) ∧
    exec (.macRxFrame n bytes .bad line) s = .next (kept s (nmwSettle (macBad n
      { bytes := bytes, ingress := 128 + n.val, ts := macRxStamp s1 n line.age } (bump (macCtr n 4) s1))))) ∧
  (∀ (n : Fin 24) (bytes : List Byte) (k : FcsKind) (line : RxLine) (s : State), linkUp s n = false →
    exec (.macRxFrame n bytes k line) s = .next s) ∧
  (∀ (n : Fin 24) (p : Fin 8) (s : State),
    exec (.pfcPauseExpiry n p) s = .next (kept s (wrB (macStatus n) (16 + p) false s))) ∧
  (∀ (n : Fin 24) (p : Fin 8) (s : State), rdF s (macBase n + 0x54) 15 0 ≠ 0 → rdB s (macStatus n) (16 + p) = true →
    exec (.pfcStorm n p) s = .next (kept s (raiseLive (lfMac n 4) (bump (macCtr n 25) (wrB (macStatus n) (16 + p) false
      (setMac n { macOf s n with storm := nsetBit (macOf s n).storm p true, stormAt := setAt (macOf s n).stormAt p s.now }
        s)))))) ∧
  (∀ (n : Fin 24) (s : State), exec (.pfcRefresh n) s = .next (kept s (nmwSettle (pfcSend n
    (classBits ((pfcClasses s n).filter (fun p => nbit (macOf s n).xoff p && decide (xonOf s n p ≤ ingLevel s n p))))
    (fun _ => rdF s (macBase n + 0x50) 15 0) s)))) ∧
  (∀ (n : Fin 25) (sp : Fin 16) (v : Nat) (s : State), modeSpeed (rdF s (macBase n) 31 28) sp = some v →
    (n.val < 24 → s.boot.lanes.contains n.val = true) → linkUp s n = false →
    exec (.linkUp n sp) s = .next (kept s (shfSettle (macUp n v s)))) ∧
  (∀ (n : Fin 25) (cut ber : Bool) (s : State), linkUp s n = true →
    exec (.linkDown n cut ber) s = .next (kept s (brgDone (macDown n cut ber s)))) ∧
  (∀ (n : Fin 24) (s : State), rdB s (macBase n + 0x80) 31 = true → 3 ≤ rdF s (macBase n) 31 28 →
    rdF s (macBase n) 31 28 ≤ 6 → linkUp s n = true → rdB s (macStatus n) 29 = false →
    rdB s (macBase n + 0x80) 30 = false → (List.range 8).all (fun c => queueEmpty s (128 + n.val) c) = true →
    exec (.lpiEnter n) s = .next (kept s (bump (macCtr n 21) (wrB (macStatus n) 29 true s)))) ∧
  (∀ (n : Fin 24) (s : State),
    exec (.lpiWakeDone n) s = .next (kept s (setMac n { macOf s n with lpiWait := false } s))) ∧
  (∀ (q : Requester) (n : Fin 24) (s : State), hostOrKiln q = true → tc10On s n = true →
    exec (.tc10Sleep q n) s = .next (kept s (sleepPio n true (setMac n { macOf s n with sleepReq := true } s))) ∧
    exec (.tc10WakeCmd q n) s = .next (kept s (tc10Wake n s)) ∧
    exec (.tc10Wake n true) s = .next (kept s (nmwSettle (busWakeEth n (tc10Wake n (raiseLive (lfMac n 5) s))))) ∧
    exec (.tc10Wake n false) s = .next (kept s (setLive (lfMac n 5) false s))) ∧
  (∀ (bytes : List Byte) (s s1 : State), s1 = bumpN (macCtr 24 0) (bytes.length + 4) s → 64 ≤ bytes.length + 4 →
    bytes.length + 4 ≤ maxFrame s1 24 → beAt bytes 12 2 = 0x0806 →
    exec (.svcRxFrame bytes .good false) s = .next (kept s (emit (.kilnFrame 256 0 bytes) (macCountRx 24 bytes s1))) ∧
    exec (.svcRxFrame bytes .good true) s = .next (kept s (bump (macCtr 24 8) (macCountRx 24 bytes s1))) ∧
    exec (.svcRxFrame bytes .bad false) s = .next (kept s (bump (macCtr 24 4) s1)))

/-- Port scheduling and FRER (R318, R319, R323 to R329, R334): a selection point serves the class that the scheduler picks; a gate
list moves to its next entry and holds after its last; a residue copy is admitted or expires; a group is committed by its word
0; a recovering stream is reset by its timeout or by command.
Rests on the model's readings of log entries 48 to 50. -/
def Obligations.PortSchedulerCommands : Prop :=
  (∀ (n : Fin 24) (c : Nat) (s u v : State), portMay s n = true →
    u = forN 8 0 (fun c s => gateTooLong n c (eqOf s (128 + n.val) c).length s) (cbsUpdate n s) →
    portPick n u = (some c, v) → exec (.portSelect n) s = .next (kept s (nmwSettle (portServe n c v)))) ∧
  (∀ (n : Fin 24) (s u v : State), portMay s n = true →
    u = forN 8 0 (fun c s => gateTooLong n c (eqOf s (128 + n.val) c).length s) (cbsUpdate n s) →
    portPick n u = (none, v) → exec (.portSelect n) s = .next (kept s (nmwSettle v))) ∧
  (∀ (n : Fin 24) (e : Nat) (s : State), (macOf s n).gcl = some e → e + 1 < gclLen s (gclBank s n) n →
    exec (.gclEntry n) s = .next (kept s (setGates n (e + 1) (gclGates s (gclBank s n) n (e + 1))
      (setMac n { macOf s n with gcl := some (e + 1) } s)))) ∧
  (∀ (n : Fin 24) (e : Nat) (s : State), (macOf s n).gcl = some e → e + 1 = gclLen s (gclBank s n) n →
    exec (.gclEntry n) s = .next (kept s (setMac n { macOf s n with gcl := some (e + 1) } s))) ∧
  (∀ (i : Fin 28) (c : Fin 8) (p : Pkt) (rest : List (Nat × Pkt)) (s u : State),
    residueTake (gpnOf i) (residueOf s c) = some (p, rest) →
    shfAdmit (gpnOf i) c p false (setResidue c rest s) = (true, u) →
    exec (.residueAdmit i c) s = .next (kept s (shfSettle (kilnTake 1 u)))) ∧
  (∀ (c : Fin 8) (g : Nat) (p : Pkt) (rest : List (Nat × Pkt)) (s : State), residueOf s c = (g, p) :: rest →
    exec (.residueExpiry c) s = .next (kept s (shfSettle (raise (lfSwc 0)
      (bump (swcCtr (portIdx g) 3) (shfUnref p.pid (setResidue c rest s))))))) ∧
  (∀ (q : Requester) (g : Fin 4096) (w : Word) (s : State), hostOrKiln q = true → locked s = false → s.mcStage = [] →
    exec (.mcGroupCommit q g w) s = .next (kept s (wr (0x0F000000 + 0x20 * g.val) w s))) ∧
  (∀ (q : Requester) (g : Fin 4096) (w x : Word) (k : Nat) (s : State), hostOrKiln q = true → locked s = false →
    0 < k → k < 8 → s.mcStage = [(0x0F000000 + 0x20 * g.val + 4 * k, x)] →
    exec (.mcGroupCommit q g w) s = .next (kept s { wr (0x0F000000 + 0x20 * g.val + 4 * k) x
      (wr (0x0F000000 + 0x20 * g.val) w s) with mcStage := [] })) ∧
  (∀ (q : Requester) (g : Fin 4096) (w : Word) (s : State), hostOrKiln q = true → locked s = true →
    exec (.mcGroupCommit q g w) s = .next s) ∧
  (∀ (st : Fin 4096) (s : State), rdB s (strKey st + 4) 31 = false → recovering s st = true →
    exec (.frerResetTimeout st) s = .next (kept s (raise (lfSwc 5) (bump (strCtr st 6) (wrB (strKey st + 4) 31 true s))))) ∧
  (∀ (q : Requester) (st : Fin 4096) (s : State), hostOrKiln q = true →
    exec (.frerForceReset q st) s = .next (kept s (wrB (strKey st + 4) 31 true s)))

/-- The forwarding tables' commands (R231 to R251): a permitted table command in a slot that holds no pending command is
accepted, carried out by the table manager, and its code and result words are held in the slot; a learn event is placed; a
sweep visits the entries.
Rests on the model's readings of log entries 35 to 38. -/
def Obligations.TableCommands : Prop :=
  (∀ (q : Requester) (k : Fin 4) (s t : State) (c : Nat) (r : List Nat), tblMay k q = true →
    slotPending s (tblSlot k) = false →
    (runL2Insert (tblSlot k) false (slotAccept (tblSlot k) s) = (t, c, r) →
      exec (.l2Insert q k) s = .next (kept s (tblSettle (slotResult (tblSlot k) c r t)))) ∧
    (runL2Delete (tblSlot k) (slotAccept (tblSlot k) s) = (t, c, r) →
      exec (.l2Delete q k) s = .next (kept s (tblSettle (slotResult (tblSlot k) c r t)))) ∧
    (runL2Lookup (tblSlot k) (slotAccept (tblSlot k) s) = (t, c, r) →
      exec (.l2Lookup q k) s = .next (kept s (tblSettle (slotResult (tblSlot k) c r t)))) ∧
    (∀ m : Fin 4, runL2Flush (tblSlot k) m (slotAccept (tblSlot k) s) = (t, c, r) →
      exec (.l2Flush q k m) s = .next (kept s (tblSettle (slotResult (tblSlot k) c r t)))) ∧
    (runL2Relocate (tblSlot k) (slotAccept (tblSlot k) s) = (t, c, r) →
      exec (.l2Relocate q k) s = .next (kept s (tblSettle (slotResult (tblSlot k) c r t)))) ∧
    (∀ i : Fin 8, runLpmInsert (tblSlot k) i false (slotAccept (tblSlot k) s) = (t, c, r) →
      exec (.lpmInsert q k i) s = .next (kept s (tblSettle (slotResult (tblSlot k) c r t)))) ∧
    (∀ i : Fin 8, runLpmDelete (tblSlot k) i (slotAccept (tblSlot k) s) = (t, c, r) →
      exec (.lpmDelete q k i) s = .next (kept s (tblSettle (slotResult (tblSlot k) c r t)))) ∧
    (∀ i : Fin 8, runLpmLookup (tblSlot k) i (slotAccept (tblSlot k) s) = (t, c, r) →
      exec (.lpmLookup q k i) s = .next (kept s (tblSettle (slotResult (tblSlot k) c r t)))) ∧
    (∀ n : Fin 8192, exec (.nhWrite q k n) s = .next (kept s (tblSettle (slotResult (tblSlot k) 0 []
      (wrWords (0x08220000 + 0x10 * n.val) ((rdWords s (tblSlot k + 4) 8).take 4) (slotAccept (tblSlot k) s))))))) ∧
  (∀ (e : LearnEv) (rest : List LearnEv) (o : Nat) (s : State), s.tbl.learn = e :: rest →
    (l2Homes s e.vid e.mac ++ stashOffs).find? (fun o => !l2Valid s o) = some o →
    exec .learnPlace s = .next (kept s (tblSettle (bump (tblCtr 0) (tblChanged
      (l2Write o (l2Words false e.vid e.mac e.dest 0) { s with tbl := { s.tbl with learn := rest } })))))) ∧
  (∀ s : State, rdF s 0x00280400 11 0 ≠ 0 →
    exec .agingSweep s = .next (kept s (tblSettle ((l2Entries s).foldl (fun s o => sweepEntry o s) s)))) ∧
  (∀ (o : Nat) (s : State), l2Bad s o = false → bit (rd s o) 30 = false →
    (bit (rd s o) 29 = true → sweepEntry o s = wr o (setBit (setBit (rd s o) 29 false) 28 false) s) ∧
    (bit (rd s o) 29 = false → bit (rd s o) 28 = false → sweepEntry o s = wr o (setBit (rd s o) 28 true) s) ∧
    (bit (rd s o) 29 = false → bit (rd s o) 28 = true → sweepEntry o s = bump (tblCtr 3) (l2Clear o s)))

/-- R232, R233, R249: an insertion that finds its key, or a free entry among the key's candidate buckets, ends with OK, and a
lookup of that key in the state it leaves finds an entry that holds the key, the destination and the flags it was given (no
entry with an uncorrectable error, no injection). -/
def Obligations.InsertThenLookup : Prop :=
  ∀ (static : Bool) (vid mac w2 sgen : Nat) (s : State), vid < 2 ^ 12 → mac < 2 ^ 48 → injArmed s 0x09 = none →
    s.tbl.bad = [] → ((l2Homes s vid mac ++ stashOffs).any (l2Is s vid mac) = true ∨
      (l2Homes s vid mac).any (fun o => !l2Valid s o) = true) →
    ∃ t r o u, l2Insert static vid mac w2 sgen s = (t, cOk, r) ∧ l2Find vid mac t = (some o, u) ∧
      l2Valid t o = true ∧ l2Vid t o = vid ∧ l2Mac t o = mac ∧ l2Dest t o = w2 % 2 ^ 19 ∧
      bit (rd t (o + 8)) 31 = nbit w2 31 ∧ bit (rd t (o + 8)) 30 = nbit w2 30 ∧
      rd t 0x0028040C = rd s 0x0028040C + 1

/-- The classifier and the pipelines (R182, R201, R216): a write of 1 unblocks a class and clears a policer's latch; the oldest
packet at a source is admitted, and a recirculated packet makes its next pass.
Rests on the model's readings of log entries 33, 34, 39 and 40. -/
def Obligations.PipelineCommands : Prop :=
  (∀ (q : Requester) (c : Fin 4096) (s : State), hostOrKiln q = true →
    exec (.classUnblock q c) s = .next (kept s (blockedLive (wrB (blockedKey c) (c.val % 32) false s)))) ∧
  (∀ (q : Requester) (i : Fin 16384) (s : State), hostOrKiln q = true → ∃ t, exec (.marClear q i) s = .next t ∧
    t = kept s (wrB (marKey i) 31 false s) ∧ rdB t (marKey i) 31 = false ∧
    (∀ k, k ≠ marKey i → rd t k = rd s k)) ∧
  (∀ (i : Fin 28) (idle : List (Fin 24)) (p : Pkt) (rest : List Pkt) (s u : State), regionApplied s 17 = true →
    fld (rd s (regState 17)) 2 0 ≠ 4 → tblGet s.ing (gpnOf i) [] = p :: rest → p.bad = false →
    u = { s with ing := if rest = [] then tblErase s.ing (gpnOf i) else tblSet s.ing (gpnOf i) rest } →
    exec (.pipelineAdmit i idle) s =
      .next (kept s (nmwSettle (admitPass i idle (admitPass i idle false p u).1 p u).2))) ∧
  (∀ (q : Fin 2) (p : Pkt) (rest : List Pkt) (s : State), tblGet s.recirc q.val [] = p :: rest →
    exec (.recircAdmit q) s = .next (kept s (nmwSettle (onePass q p.node p.prof none false p (bump (wdgCtr q 4)
      (recircLive { s with recirc := if rest = [] then tblErase s.recirc q else tblSet s.recirc q rest }))).2))) ∧
  (∀ (i : Fin 28) (idle : List (Fin 24)) (s : State), regionApplied s 17 = false →
    exec (.pipelineAdmit i idle) s = .next s)

/-- The signal router's commands (R254 to R287): it takes packets from its port, class 7 first, while its lookup queue has room; it
looks items up in order; a waiting lookup takes a freed transient image; a limiter gains a token; a route's timer and an
image's MDT expire; an image or a container is sent.
Rests on the model's readings of log entries 41, 42, 44 and 45. -/
def Obligations.RouterCommands : Prop :=
  (∀ (c : Nat) (p : Pkt) (s : State), s.srt.lq.length < 1024 → s.srt.held = [] → shfHead s 155 c = some p → c < 8 →
    (∀ d, d < 8 → c < d → shfHead s 155 d = none) →
    exec .routerHandoff s = .next (kept s (shfSettle (routerTake p (shfUnref p.pid (shfPop 155 c s)))))) ∧
  (∀ (b : Bool) (it : RItem) (rest : List RItem) (s : State), s.srt.lq = it :: rest →
    exec (.routeLookup b) s =
      .next (kept s (nmwSettle (routeLookup b it (lqFill { s with srt := { s.srt with lq := rest } }))))) ∧
  (∀ (b : Bool) (it : RItem) (s : State), routeOf (bump (srtCtr 0) s) (srtBank s) (keyItem (bump (srtCtr 0) s) (srtBank s) it) =
    none → routeLookup b it s = unmatched (srtBank s) (keyItem (bump (srtCtr 0) s) (srtBank s) it) (bump (srtCtr 0) s)) ∧
  (∀ (x : TransWait) (rest : List TransWait) (s : State), s.srt.trans = x :: rest → exec .transientImageFree s =
    .next (kept s (nmwSettle (routeForward x.bank x.route x.item { s with srt := { s.srt with trans := rest } })))) ∧
  (∀ (l : Fin 4096) (s : State), l.val ≠ 0 → nbits (bw s (srtBank s) (oLim l) 0) 19 0 ≠ 0 → ∃ t,
    exec (.limiterToken l) s = .next t ∧ limTokens t (srtBank s) l =
      min (nbits (bw s (srtBank s) (oLim l) 1) 7 0) (limTokens s (srtBank s) l + 1) ∧
      (∀ m, m ≠ l.val → limTokens t (srtBank s) m = limTokens s (srtBank s) m) ∧ t.regs = s.regs ∧ t.counters = s.counters) ∧
  (∀ (r : Fin 262144) (b w due : Nat) (s : State), activeBank s 20 = some b → tblFind s.srt.timers r.val = some due →
    nbit (bw s b (oRoute r) 0) 31 = true → nbits (bw s b (oRoute r) 2) 23 19 = w → w ≠ 0 →
    (let v := bump (0x0E420000 + 8 * w) (bump (srtCtr 12) (wr 0x0030000C (w32 (2 ^ 31 + w * 2 ^ 18 + r.val))
       { s with srt := { s.srt with timers := tblErase s.srt.timers r.val,
                                    reached := s.srt.reached.filter (· != r.val) } }))
     let d := defaultMoves b (nbits (bw v b (oRoute r) 3) 31 24) (nbits (bw v b (oRoute r) 2) 18 0) (raise (lfSrt 0) v)
     exec (.routeTimeout r) s = .next (kept s (nmwSettle (triggeredSends b d.2 d.1))))) ∧
  (∀ (i : Fin 65536) (s : State), bit (rd s (imgState i)) 29 = true → bit (rd s (imgState i)) 30 = true →
    exec (.mdtExpiry i) s = .next (kept s (nmwSettle (imageRequest i
      (wr (imgState i) (setBit (setBit (rd s (imgState i)) 30 false) 29 false) s))))) ∧
  (∀ (i : Fin 65536) (s : State), bit (rd s (imgState i)) 29 = true → bit (rd s (imgState i)) 30 = false → ∃ t,
    exec (.mdtExpiry i) s = .next t ∧ rdB t (imgState i) 29 = false ∧ t.out = s.out ∧ t.counters = s.counters ∧
      (∀ k, k ≠ imgState i.val → rd t k = rd s k)) ∧
  (∀ (q : Requester) (i : Fin 65536) (s : State), hostOrKiln q = true →
    exec (.srtImgSend q i) s = .next (kept s (nmwSettle (imageRequest i s)))) ∧
  (∀ (i : Fin 65536) (s : State), (contOf s i).flush = true →
    exec (.containerFlush i) s = .next (kept s (nmwSettle (containerSend (srtBank s) i s))))

/-- The doorbells of a queue pair (R430, R431, R435): they take the host's index; one that passes the ring's size or moves back
puts the queue pair into ERROR, counts and raises DB_ERR, after which it neither sends nor delivers; those of a disabled queue
pair are ignored; another function's are not permitted.
Rests on the model's readings of log entries 82 and 83. -/
def Obligations.DoorbellCommands : Prop :=
  (∀ (req : Requester) (q : Fin 1024) (idx : BitVec 16) (s : State), qpMay s q req = true → qpRuns s q = true →
    let head := rdF s (qpKey q 0x2C) 15 0
    (idxDist head idx.toNat ≤ qpRing s q → idxDist head (qpOf s q).txProd ≤ idxDist head idx.toNat →
      exec (.txDoorbell req q idx) s = .next (kept s (setQp q { qpOf s q with txProd := idx.toNat } s))) ∧
    (qpRing s q < idxDist head idx.toNat ∨ idxDist head idx.toNat < idxDist head (qpOf s q).txProd →
      exec (.txDoorbell req q idx) s = .next (kept s (qpError q s)))) ∧
  (∀ (req : Requester) (q : Fin 1024) (idx : BitVec 16) (s : State), qpMay s q req = true → qpRuns s q = true →
    let next := (qpOf s q).rxbNext
    (idxDist next idx.toNat ≤ qpRing s q → idxDist next (qpOf s q).rxbProd ≤ idxDist next idx.toNat →
      exec (.rxbDoorbell req q idx) s = .next (kept s (setQp q { qpOf s q with rxbProd := idx.toNat } s))) ∧
    (qpRing s q < idxDist next idx.toNat ∨ idxDist next idx.toNat < idxDist next (qpOf s q).rxbProd →
      exec (.rxbDoorbell req q idx) s = .next (kept s (qpError q s)))) ∧
  (∀ (req : Requester) (q : Fin 1024) (idx : BitVec 16) (arm : Bool) (s : State), qpMay s q req = true → qpRuns s q = true →
    let tail := rdF s (qpKey q 0x30) 15 0
    (idxDist idx.toNat tail ≤ qpRing s q → idxDist idx.toNat tail ≤ idxDist (qpOf s q).cqCons tail →
      exec (.cqDoorbell req q idx arm) s = .next (kept s (qpSettle q (qpIrq q false (setQp q { qpOf s q with
        cqCons := idx.toNat, armed := (qpOf s q).armed || arm, armedTx := (qpOf s q).armedTx || arm } s))))) ∧
    (qpRing s q < idxDist idx.toNat tail ∨ idxDist (qpOf s q).cqCons tail < idxDist idx.toNat tail →
      exec (.cqDoorbell req q idx arm) s = .next (kept s (qpError q s)))) ∧
  (∀ (req : Requester) (q : Fin 1024) (idx : BitVec 16) (arm : Bool) (s : State), qpMay s q req = true → qpRuns s q = false →
    exec (.txDoorbell req q idx) s = .next s ∧ exec (.rxbDoorbell req q idx) s = .next s ∧
    exec (.cqDoorbell req q idx arm) s = .next s) ∧
  (∀ (q : Fin 1024) (s : State), qpErr (qpError q s) q = true ∧ qpRuns (qpError q s) q = false) ∧
  (∀ (q : Fin 1024) (ds : List SendDesc) (data : List Byte) (ok : Bool) (s : State), qpRuns s q = false →
    exec (.slipSend q ds data ok) s = .next s) ∧
  (∀ (f : Fin 8) (q : Fin 1024) (idx : BitVec 16) (arm : Bool) (s : State), f.val ≠ 0 → f.val ≠ qpOwner s q →
    exec (.txDoorbell (.host f) q idx) s = .next (kept s (accErr (.host f) 1 (qpKey q 0x20) s)) ∧
    exec (.rxbDoorbell (.host f) q idx) s = .next (kept s (accErr (.host f) 1 (qpKey q 0x24) s)) ∧
    exec (.cqDoorbell (.host f) q idx arm) s = .next (kept s (accErr (.host f) 1 (qpKey q 0x28) s)))

/-- Queue pairs (R432 to R448): enabling, disabling, quiescing, flushing; a good send is handed on and a bad one counted; items
are delivered; the interrupt delay ends; a capture ring is marked, rewound and released; a function-level reset.
Rests on the model's readings of log entries 82 to 84. -/
def Obligations.QueuePairCommands : Prop :=
  (∀ (req : Requester) (q : Fin 1024) (s : State), qpMay s q req = true → qpEn s q = false → qpBusy s q = false →
    (qpBadCfg s q = false → exec (.qpEnable req q) s = .next (kept s (qpSettle q (wrB (qpKey q 0) 31 true (wrB (qpKey q 0) 29 false
      (wrF (qpKey q 0x30) 15 0 0 (wrF (qpKey q 0x2C) 15 0 0 (setQp q {} s)))))))) ∧
    (qpBadCfg s q = true → exec (.qpEnable req q) s = .next (kept s (wrB (qpKey q 0) 29 true s)))) ∧
  (∀ (req : Requester) (q : Fin 1024) (l : List Nat) (s : State), qpMay s q req = true → qpEn s q = true →
    exec (.qpDisable req q l) s = .next (kept s (qpSettle q (wbFlush q (sendsFlushed q l (slipCut q
      (wrB (qpKey q 0) 30 true (wrB (qpKey q 0) 31 false s)))))))) ∧
  (∀ (q : Fin 1024) (s : State), qpBusy s q = true → qpEn s q = false → ∃ t, exec (.qpQuiesced q) s = .next t ∧
    qpBusy t q = false) ∧
  (∀ (req : Requester) (q : Fin 1024) (l : List Nat) (s : State), qpMay s q req = true → qpClass s q = 2 → qpRuns s q = true →
    exec (.qpFlush req q l) s = .next (kept s (qpSettle q (wbFlush q (sendsFlushed q l (slipCut q s)))))) ∧
  (∀ (q : Fin 1024) (d : SendDesc) (ds : List SendDesc) (data : List Byte) (s : State), qpRuns s q = true →
    (d :: ds).length ≤ idxDist (qpOf s q).txNext (qpOf s q).txProd → qpTxMode s q ≠ 1 → sendBad s q (d :: ds) = false →
    data.length = (d :: ds).foldl (fun n x => n + x.len) 0 →
    (let eop := ((qpOf s q).txNext + (d :: ds).length - 1) % 65536
     exec (.slipSend q (d :: ds) data true) s = .next (kept s (shfSettle (wbFlush q (sendHand q eop d data (bump (qpCtr q 0)
       (setQp q { qpOf s q with txNext := ((qpOf s q).txNext + (d :: ds).length) % 65536,
                                wbs := (qpOf s q).wbs ++ [{ eop := eop, wait := d.tsReq && qpTxMode s q == 0 }] } s)))))))) ∧
  (∀ (q : Fin 1024) (w : SendWb) (rest : List SendWb) (s : State), (qpOf s q).wbs = w :: rest →
    exec (.sendTsTimeout q) s = .next (kept s (sendDone q w.eop none s))) ∧
  (∀ (c : Nat) (p : Pkt) (q : Fin 1024) (addrs : List Nat) (s : State),
    [7, 6, 5, 4, 3, 2, 1, 0].find? (fun c => (shfHead s 152 c).isSome) = some c → shfHead s 152 c = some p →
    (qpOf s (p.qp % 1024)).cur = none →
    exec (.slipDeliver .queue q addrs none) s = .next (kept s (shfSettle (qpSettle (p.qp % 1024) (shfUnref p.pid
      (slipItem (p.qp % 1024) false (itemOfPkt c p) addrs (shfPop 152 c s)).2))))) ∧
  (∀ (q : Fin 1024) (addrs : List Nat) (s : State), qpRuns s q = true →
    exec (.slipDeliver .resume q addrs none) s = .next (kept s (qpSettle q (slipWrite q addrs s)))) ∧
  (∀ (q : Fin 1024) (s : State), exec (.qpItrExpiry q) s = .next (kept s (qpIrq q true s))) ∧
  (∀ (req : Requester) (q : Fin 1024) (s : State), qpMay s q req = true → qpClass s q = 1 → qpRuns s q = true →
    exec (.capMark req q) s =
      .next (kept s (qpSettle q (setQp q { qpOf s q with capMark := some (qpOf s q).capRd } s))) ∧
    (∀ m, (qpOf s q).capMark = some m → exec (.capRewind req q) s =
      .next (kept s (qpSettle q (setQp q { qpOf (slipCut q s) q with capRd := m } (slipCut q s))))) ∧
    (∀ n : Word, (qpOf s q).capMark = none → exec (.capRelease req q n) s = .next (kept s (qpSettle q (setQp q { qpOf s q with
      cap := (qpOf s q).cap.filter (fun i => seqBefore n.toNat i.seq || !seqBefore i.seq (qpOf s q).capRd) } s))))) ∧
  (∀ (f : Fin 8) (s : State), f.val ≠ 0 → exec (.functionFlr f true) s = .next (kept s (fnQpsOff f s)) ∧
    exec (.functionFlr f false) s = .next (kept s
      (dropWords (fun k => decide (bar2Key f 0 ≤ k) && decide (k < bar2Key f 0x1000)) (fnQpsOff f s))))

/-- Glaze's commands (R364, R368, R372, R374, R375) in a slot that holds no pending command, from a permitted writer: the digest,
the message code and its check, the signature check, MACsec channels and associations, freshness counters; slot 3 answers
BAD_COMMAND to the opcodes it does not take.
Rests on the model's readings of log entries 59 to 61. -/
def Obligations.GlazeCommands : Prop :=
  (∀ (q : Requester) (k : Fin 4) (s a : State), keySlotMay k q = true → slotPending s (glzSlot k) = false →
    a = slotAccept (glzSlot k) s →
    (∀ data : List Byte, k ≠ 3 → exec (.sha256 q k data) s = .next (kept s (slotResult (glzSlot k) 0
      (digestWords (Machine.sha256 (data.take (slotArg a (glzSlot k) 2)))) a))) ∧
    (∀ data key : List Byte, k ≠ 3 → commandKey a uHmac (slotArg a (glzSlot k) 3 % 4096) = .ok key →
      exec (.hmac q k data) s = .next (kept s (slotResult (glzSlot k) 0
        (digestWords (hmac256 key (data.take (slotArg a (glzSlot k) 2)))) a)) ∧
      (∀ (n : Fin 64) (x : List Byte), 16 ≤ n.val → n.val ≤ 32 → exec (.hmacVerify q k n data x) s = .next (kept s
        (slotResult (glzSlot k) (if (hmac256 key (data.take (slotArg a (glzSlot k) 2))).take n = x.take n then 0 else 0x20)
          [] a)))) ∧
    (∀ (w : Fin 4) (msg sig pub : List Byte) (trusted : Bool), k ≠ 3 →
      (trusted = true → w.val < 2 ∧ some (Machine.sha256 pub) = trustedHash a w) →
      exec (.lmsVerify q k trusted w msg sig pub) s = .next (kept s
        (match hssVerify pub (msg.take (slotArg a (glzSlot k) 2)) (sig.take (slotArg a (glzSlot k) 5)) with
         | .ok => slotResult (glzSlot k) 0 [] a
         | .bad => slotResult (glzSlot k) 0x20 [] a
         | .unsupported => slotResult (glzSlot k) 0x20 [1] a))) ∧
    (∀ (w : Fin 4) (msg sig pub : List Byte), k ≠ 3 → w.val < 2 → some (Machine.sha256 pub) ≠ trustedHash a w →
      exec (.lmsVerify q k true w msg sig pub) s = .next (kept s (slotResult (glzSlot k) 0x20 [] a))) ∧
    (∀ (n sc : Fin 32) (x : RxSc) (u : State), n.val < 24 → sc.val < 16 → x.en = true →
      x.implicit = nbit (slotArg a (glzSlot k) 2) 1 →
      x.sci = slotArg a (glzSlot k) 0 * 2 ^ 32 + slotArg a (glzSlot k) 1 →
      u = { a with glz := { a.glz with rxsc := tblSet a.glz.rxsc (16 * n.val + sc.val) x } } →
      nbit (slotArg a (glzSlot k) 2) 0 = true →
      exec (.rxscSet q k n sc) s = .next (kept s (slotResult (glzSlot k) 0 [] (wrB (msecKey n 0x20) sc true u)))) ∧
    (∀ (c : Nat), c = slotArg a (glzSlot k) 0 % 65536 → a.glz.fvSet.contains c = true →
      slotArg a (glzSlot k) 1 * 2 ^ 32 + slotArg a (glzSlot k) 2 < fvLatest a c →
      exec (.fvSet q k) s = .next (kept s (slotResult (glzSlot k) 0x13 [] a))) ∧
    (∀ (c : Nat), c = slotArg a (glzSlot k) 0 % 65536 → a.glz.fvSet.contains c = false → ∃ u,
      exec (.fvSet q k) s = .next (kept s (slotResult (glzSlot k) 0 [] u)) ∧ u.glz.fvSet = c :: a.glz.fvSet ∧
        u.regs = (setFv c (slotArg a (glzSlot k) 1 * 2 ^ 32 + slotArg a (glzSlot k) 2) 0 a).regs) ∧
    (∀ (c : Nat), c = slotArg a (glzSlot k) 0 % 65536 → exec (.fvRead q k) s = .next (kept s (slotResult (glzSlot k) 0
      ((rdWords a (fvKey c) 4).map (·.toNat) ++ [b2n (a.glz.fvSet.contains c)]) a)))) ∧
  (∀ (q : Requester) (k : Fin 4) (n sc : Fin 32) (tx : Bool) (an : Fin 4) (s a : State), keySlotMay k q = true →
    slotPending s (glzSlot k) = false → a = slotAccept (glzSlot k) s → n.val < 24 → (tx = false → sc.val < 16) →
    let i := saIndex tx an sc
    (∀ u, saInstall k n i a = (u, 0, []) →
      exec (.saInstall q k n tx an sc) s = .next (kept s (slotResult (glzSlot k) 0 [] u))) ∧
    (tx = false → saState a n i = 1 → exec (.saEnable q k n tx an sc) s = .next (kept s (slotResult (glzSlot k) 0 []
      (wrF (saKey n i) 31 30 2 a)))) ∧
    (saState a n i = 0 → exec (.saEnable q k n tx an sc) s = .next (kept s (slotResult (glzSlot k) 0x31 [] a))) ∧
    (saState a n i = 3 → exec (.saEnable q k n tx an sc) s = .next (kept s (slotResult (glzSlot k) 0x10 [] a))) ∧
    (∀ u, saRetire n i a = (u, 0, []) →
      exec (.saRetire q k n tx an sc) s = .next (kept s (slotResult (glzSlot k) 0 [] u)) ∧ saState u n i = 0) ∧
    exec (.saRead q k n tx an sc) s = .next (kept s (slotResult (glzSlot k) 0
      [saPn a n i / 2 ^ 32, saPn a n i % 2 ^ 32, saState a n i] a))) ∧
  (∀ (q : Requester) (data : List Byte) (s : State), keySlotMay 3 q = true → slotPending s (glzSlot 3) = false →
    exec (.sha256 q 3 data) s = .next (kept s (slotResult (glzSlot 3) 0x02 [] (slotAccept (glzSlot 3) s))))

/-- Saggar's commands and events (R381 to R406): reading a node; injecting and invalidating; the authenticated update; lifecycle
steps; attestation; the debug challenge, its response and its expiry; re-masking, derivation, and zeroisation by the pin.
Rests on the model's readings of log entries 54 to 58 and 61. -/
def Obligations.SaggarCommands : Prop :=
  (∀ (q : Requester) (k : Fin 4) (s a : State), keySlotMay k q = true → slotPending s (sagSlot k) = false →
    a = slotAccept (sagSlot k) s →
    (∀ h : Fin 4096, exec (.nodeRead q k h) s = .next (kept s (slotResult (sagSlot k) 0 (nodeWords a h) a))) ∧
    (∀ (h : Fin 4096) (key : List Byte) (p usage len : Nat) (u : State), k.val < 2 → authMode a = false →
      p = slotArg a (sagSlot k) 0 % 4096 → usage = slotArg a (sagSlot k) 2 % 64 →
      len = (if nbit (slotArg a (sagSlot k) 2) 8 then 32 else 16) → injectCheck a h p usage = 0 →
      commitStore (injectNode h p (slotArg a (sagSlot k) 1) usage ((nodeOf a p).depth + 1) (padTo (key.take len) len 0)) a =
        some u → exec (.keyInject q k h key) s = .next (kept s (slotResult (sagSlot k) 0 [] u))) ∧
    (∀ (h : Fin 4096) (u : State), k.val < 2 → authMode a = false → 8 ≤ h.val → lifecycle a < 3 → (nodeOf a h).st = 1 →
      invalidate h id a = some u → exec (.nodeInvalidate q k h) s = .next (kept s (slotResult (sagSlot k) 0 [] u))) ∧
    (∀ (h : Fin 4096) (key : List Byte), k.val < 2 → authMode a = true →
      exec (.keyInject q k h key) s = .next (kept s (slotResult (sagSlot k) 0x03 [] a)) ∧
      exec (.nodeInvalidate q k h) s = .next (kept s (slotResult (sagSlot k) 0x03 [] a))) ∧
    (∀ (m pt key : List Byte) (u : State) (c : Nat) (r : List Nat), updateMalformed m = false → beAt m 4 16 = a.sag.uid →
      commandKey a uWrap (beAt m 24 2) = .ok key →
      gcmOpen key (slice m 40 12) (m.take 52) (slice m 52 32) (slice m 84 16) = some pt →
      (a.sag.updCtr < beAt m 20 4 → updateApply m pt (beAt m 24 2) a = (u, c, r) →
        exec (.keyUpdate q k m) s = .next (kept s (slotResult (sagSlot k) c r u))) ∧
      (beAt m 20 4 ≤ a.sag.updCtr → exec (.keyUpdate q k m) s = .next (kept s (slotResult (sagSlot k) 0x13 [] a)))) ∧
    (∀ pub : List Byte, k ≠ 3 → lifecycle a = 0 → exec (.lifecycle q k 1 pub) s = .next (kept s (slotResult (sagSlot k) 0 []
      (emit (.otp "PROVISIONED" 0) (emit (.otp "OWNER_HASH" 0)
        (modSag (fun g => { g with ownerHash := some (Machine.sha256 pub), prov := true }) a)))))) ∧
    (∀ pub : List Byte, k ≠ 3 → lifecycle a = 1 → exec (.lifecycle q k 2 pub) s = .next (kept s (slotResult (sagSlot k) 0 []
      (burnAuthLock (emit (.otp "IN_FIELD" 0) (modSag (fun g => { g with inField := true }) a)))))) ∧
    (∀ (pub : List Byte) (n : Fin 8), k ≠ 3 → lifecycle a = 4 →
      exec (.lifecycle q k n pub) s = .next (kept s (slotResult (sagSlot k) 0x03 [] a))) ∧
    (∀ (nonce key : List Byte) (stuck i : Nat) (u : State), a.sag.rootFail = false → lifecycle a ≠ 4 →
      commandKey a uSign 1 = .ok key → takeLeaf stuck a = some (i, u) →
      (let v := drawn u
       let rep := attReport v i nonce
       exec (.attest q k nonce stuck) s = .next (kept s (slotResult (sagSlot k) 0 [i, 5216] (sagLive
         (slotWrite k (slotArg v (sagSlot k) 2 + 2 ^ 32 * slotArg v (sagSlot k) 3)
           (rep ++ attSign key i (freeVal u 256) rep) v)))))) ∧
    (k ≠ 3 → a.sag.failAt = none → a.sag.fails < 16 → trngInjected a = 0 → ∃ c : List Byte,
      exec (.debugChallenge q k) s = .next (kept s (slotResult (sagSlot k) 0 ((List.range 8).map (fun j => beAt c (4 * j) 4))
        (modSag (fun g => { g with chal := some c }) (drawn a)))) ∧
      c = Machine.sha256 (beBytes 16 a.sag.uid ++ beBytes 32 (freeVal a 256) ++ [b8 (lifecycle a)])) ∧
    (∀ (scope : Fin 4) (pub sig c : List Byte), k ≠ 3 → debugKeyHash a = some (Machine.sha256 pub) → a.sag.chal = some c →
      let x := modSag (fun g => { g with chal := none, dbg := g.dbg ||| scope.val, dbgSince := true, fails := 0 }) a
      exec (.debugResponse q k scope pub sig) s = .next (kept s
        (if hssVerify pub (beBytes 4 0x5A473844 ++ beBytes 16 a.sag.uid ++ c ++ beBytes 4 scope) sig = .ok then
           slotResult (sagSlot k) 0 [] (raise (lfSag 6)
             (if nbit scope 1 then modSag (fun g => { g with refuse := true }) (clearCache x) else x))
         else slotResult (sagSlot k) 0x20 [] (raise (lfSag 7)
           (modSag (fun g => { g with chal := none, fails := g.fails + 1, failAt := some a.now }) a)))))) ∧
  (∀ s : State, exec .debugChallengeExpiry s = .next (kept s (modSag (fun g => { g with chal := none }) s))) ∧
  (∀ s : State, ∃ t, exec .keyRemask s = .next t ∧
    t.sag.cache.map (·.node) = s.sag.cache.map (·.node) ∧ t.fresh = s.fresh + s.sag.cache.length ∧
    { t.sag with cache := s.sag.cache } = s.sag ∧ t.regs = s.regs) ∧
  (∀ (h : Fin 4096) (s : State), (nodeOf s h).st = 1 → keyRefused s h = false → s.sag.root ≠ none →
    exec (.keyDerivation h) s = .next (kept s (deriveKey h s))) ∧
  (∀ s : State, ∃ t, exec .zeroizePin s = .next t ∧ t.sag.zeroised = true ∧ t.sag.cache = [] ∧ t.sag.root = none ∧
    t.out = (if s.sag.zeroised then s.out else .otp "ZEROISED" 0 :: s.out) ∧ t.regs = s.regs)

/-- Foot's commands (R396, R516, R521 to R526): the key, and the commands that consume it within 100 ms; entering and leaving the
safe state; SAFE_N; the watchdog's configuration, kick, expiry and action; the battery reading; clearing FOOT_FAULT.
Rests on the model's readings of log entries 3, 66 and 67. -/
def Obligations.FootCommands : Prop :=
  (∀ (q : Requester) (w : Word) (s : State), footMay q = true → exec (.footCmdKey q w) s =
    .next (kept s { s with foot := { s.foot with key := if w = 0x4B4E then some (q, s.now) else none } })) ∧
  (∀ (q : Requester) (t : Nat) (s u : State), footMay q = true → s.foot.key = some (q, t) → s.now ≤ t + msT 100 →
    u = { s with foot := { s.foot with key := none } } →
    exec (.warmReset q) s = .next (kept s (resetTo false 3 u)) ∧ exec (.coldReset q) s = .next (kept s (resetTo true 4 u)) ∧
    exec (.zeroise q) s = .next (kept s (Machine.zeroise u)) ∧ exec (.retireClear q) s = .next (kept s (wr 0x000B0060 0 u))) ∧
  (∀ (q : Requester) (s : State), footMay q = true →
    (∀ k t, s.foot.key = some (k, t) → k ≠ q ∨ t + msT 100 < s.now) →
    exec (.warmReset q) s = .next (kept s (footReject s)) ∧ exec (.coldReset q) s = .next (kept s (footReject s)) ∧
    exec (.zeroise q) s = .next (kept s (footReject s)) ∧ exec (.retireClear q) s = .next (kept s (footReject s))) ∧
  (∀ (q : Requester) (s : State), footMay q = true → ∃ t, exec (.safeEnter q) s = .next t ∧ safeOn t = true ∧
    rdF t 0x000B0020 29 28 = 2 ∧ t = kept s (enterSafe 2 s)) ∧
  (∀ (q : Requester) (s : State), footMay q = true → rdB s 0x000B0020 30 = true → s.foot.wdgExpired = false →
    rdB s 0x00010000 31 = false → safeOn s = true → exec (.safeExit q) s = .next (kept s (nmwSettle (safeEnd s)))) ∧
  (∀ (q : Requester) (s : State), footMay q = true → s.foot.wdgExpired = true →
    exec (.safeExit q) s = .next (kept s (satInc 0x000B0018 15 0 s))) ∧
  (∀ s : State, exec (.safePinAssert true) s = .next (kept s (wrB 0x000B0020 30 true s)) ∧
    (rdB s 0x000B0020 30 = true → exec (.safePinAssert false) s =
      .next (kept s (enterSafe 0 (footFault 2 (wrB 0x000B0020 30 false s)))))) ∧
  (∀ (q : Requester) (s : State), footMay q = true → s.foot.wdgExpired = false → rdB s 0x000B0030 29 = false →
    injArmed s 0x05 = none → rdB s 0x000B0038 30 = false →
    (rdB s 0x000B0038 31 = false → ∃ t, exec (.footWdgKick q 0x5A5A) s = .next t ∧ t.foot.wdgLast = s.now ∧
      rdB t 0x000B0038 31 = true ∧ rdB t 0x000B0038 30 = true ∧ t.out = s.out ∧ t.counters = s.counters) ∧
    exec (.footWdgKick q 0xA5A5) s = .next (kept s (wdgExpire s)) ∧
    (rdB s 0x000B0038 31 = true → s.now < s.foot.wdgLast + msT (rdF s 0x000B0030 28 20) →
      exec (.footWdgKick q 0x5A5A) s = .next (kept s (wdgExpire s)))) ∧
  (∀ s : State, s.foot.wdgExpired = false → exec .footWdgExpiry s = .next (kept s (wdgExpire s))) ∧
  (∀ s : State, s.foot.wdgExpired = true →
    (rdF s 0x000B0030 31 30 = 1 → exec .footWdgAction s = .next (kept s (resetTo false 5 s))) ∧
    (rdF s 0x000B0030 31 30 = 2 → exec .footWdgAction s = .next (kept s (resetTo true 5 s)))) ∧
  (∀ (q : Requester) (w : Word) (s : State), footMay q = true → rdB s 0x000B0038 31 = false →
    (fld w 31 30 ≠ 3 → exec (.footWdgCfgWrite q w) s = .next (kept s (wr 0x000B0030 w s))) ∧
    (fld w 31 30 = 3 → exec (.footWdgCfgWrite q w) s = .next s)) ∧
  (∀ (l : List Nat) (ball v : Nat) (s : State), injArmed s 0x17 = none → ball = l.sum / 16 % 65536 →
    v = ball * rdF s 0x000B0058 15 0 / 1000 → v ≤ 65535 → leafBit s (lfFoot 2) 1 = false →
    (rdF (wr 0x000B0050 (w32 (ball * 65536 + v)) s) 0x000B0054 31 16 ≤ v →
      exec (.vbatReading l) s = .next (kept s (wr 0x000B0050 (w32 (ball * 65536 + v)) s))) ∧
    (v < rdF (wr 0x000B0050 (w32 (ball * 65536 + v)) s) 0x000B0054 31 16 →
      exec (.vbatReading l) s = .next (kept s (raiseLive (lfFoot 2) (wr 0x000B0050 (w32 (ball * 65536 + v)) s))))) ∧
  (∀ (q : Requester) (w : Word) (s : State), footMay q = true → ∃ t, exec (.footFaultClear q w) s = .next t ∧
    rd t 0x000B0040 = ((rd s 0x000B0040 &&& ~~~w) ||| (faultCauses s &&& 0x1F)) ∧
    (∀ k, k ≠ 0x000B0040 → rd t k = rd s k) ∧ t.counters = s.counters ∧ t.out = s.out)

/-- Device standby (R419, R422, R423): it is entered where nothing refuses it, else the refusal is shown; the core is power-gated;
a wake is recorded, and in standby the exit, a warm reset, begins; the standby timer and the WAKE command wake as well.
Rests on the model's readings of log entries 3 and 80. -/
def Obligations.StandbyCommands : Prop :=
  (∀ (q : Requester) (s : State), hostRights q = true → standbyRefused s = 0 → ∃ t, exec (.standbyEnter q) s = .next t ∧
    t.nmw.entering = true ∧ t.foot.wakeArmed = true ∧ t.foot.wakeGot = false ∧ rdF t 0x00070004 27 24 = 0 ∧
    (∀ n : Fin 128, wakePort t n = rd s (0x00070200 + 4 * n.val))) ∧
  (∀ (q : Requester) (s : State), hostRights q = true → standbyRefused s ≠ 0 →
    exec (.standbyEnter q) s = .next (kept s (wrF 0x00070004 27 24 (standbyRefused s) s))) ∧
  (∀ s : State, (∃ c : Nat, c < 16 ∧ ncState s c = 1) → standbyRefused s = 1) ∧
  (∀ s : State, rdB s 0x00070004 29 = true → (∀ c, c < 16 → ncState s c = 0 ∨ ncState s c = 3) →
    exec .standbyAuto s = .next (kept s (standbyStart s))) ∧
  (∀ s : State, s.nmw.entering = true →
    (let u := wrB 0x000B0100 29 true (coreReset false (forN 128 0 standbyPads s))
     (u.foot.wakeGot = false → exec .standbyDone s = .next (kept s u)) ∧
     (u.foot.wakeGot = true → exec .standbyDone s = .next (kept s (standbyExit u))))) ∧
  (∀ (k : Fin 6) (i : Fin 128) (m : Fin 8) (id : Fin 536870912) (s : State), wakeAllowed s k i m = true →
    s.foot.wakeArmed = true →
    (k.val < 4 → muted s i = true → exec (.standbyWake k i m id) s = .next (kept s (satInc (fwKey i) 7 3 s))) ∧
    (muted s i = false → s.foot.wakeGot = false → rdB s 0x000B0100 29 = false → ∃ t,
      exec (.standbyWake k i m id) s = .next t ∧ t.foot.wakeGot = true ∧ rdB t 0x000B0100 31 = true ∧
      rdF t 0x000B0100 28 26 = k.val ∧ rdF t 0x000B0100 14 8 = i.val) ∧
    (muted s i = false → s.foot.wakeGot = true →
      exec (.standbyWake k i m id) s = .next (kept s (wrB 0x000B0100 30 true s)))) ∧
  (∀ s : State, fld (tblGet s.nmw.footCopy 0x0007000C 0) 23 0 ≠ 0 →
    exec .standbyTimerExpiry s = .next (kept s (footWake 7 0 0 0 s))) ∧
  (∀ (q : Requester) (s : State), footMay q = true →
    exec (.footWakeCmd q) s = .next (kept s (footWake 6 0 0 0 s)))

/-- Craze's commands (R528, R533, R534, R537, R539 to R541): a route write settles its group; arming signals a pending group; leaves
are injected while the unlock is open; the two keys open it for a time; GO arms an injection, which expires; the monitors.
Rests on the model's readings of log entries 65 and 66. -/
def Obligations.CrazeCommands : Prop :=
  (∀ (q : Requester) (g : Fin 64) (w : Word) (s : State), hostOrKiln q = true → locked s = false →
    exec (.crzRouteWrite q g w) s = .next (kept s (settleGroup g (wr (routeKey g)
      (if g.val = 63 then setBit (w &&& 0xF73F0000) 31 true else w &&& 0xF73F0000) s)))) ∧
  (∀ (q : Requester) (g : Fin 64) (w : Word) (s : State), hostOrKiln q = true → locked s = true →
    exec (.crzRouteWrite q g w) s = .next s) ∧
  (∀ (f : Fin 8) (hi : Bool) (w : Word) (s : State), exec (.groupArm (.host 0) (some f) hi w) s = .next (kept s
    (forN 32 0 (fun b s => if bit w b then armGroup (some f.val) (32 * b2n hi + b) s else s) s)) ∧
    exec (.groupArm .kiln none hi w) s = .next (kept s
      (forN 32 0 (fun b s => if bit w b then armGroup none (32 * b2n hi + b) s else s) s))) ∧
  (∀ (q : Requester) (off : BitVec 28) (w : Word) (s : State), hostOrKiln q = true → injectLeaves off.toNat ≠ [] →
    (injOpen s = true → exec (.leafInject q off w) s = .next (kept s ((injectLeaves off.toNat).foldl
      (fun s e => if bit w e.1 && leafPresent s e.2 then raise e.2 s else s) s))) ∧
    (injOpen s = false → exec (.leafInject q off w) s = .next (kept s (wrB 0x00010014 27 true s)))) ∧
  (∀ (s : State) (q : Requester), q = .host 0 ∨ q = .kiln → s.crz.key1 = none → ∃ t u,
    exec (.injKeyWrite q 0x43525A31) s = .next t ∧ t.crz.key1 = some (q, s.now) ∧ injOpen t = false ∧
    exec (.injKeyWrite q 0xBCADA5CE) t = .next u ∧ u.crz.key1 = none ∧ injOpen u = true) ∧
  (∀ (s : State) (q : Requester) (w : Word), hostOrKiln q = true → w ≠ 0x43525A31 → w ≠ 0xBCADA5CE → ∃ t,
    exec (.injKeyWrite q w) s = .next t ∧ injOpen t = false ∧ t.crz.key1 = none) ∧
  (∀ s : State, exec .injUnlockExpiry s = .next (kept s (wrB 0x00010014 31 false s))) ∧
  (∀ (x : Nat × Nat × Nat) (s : State), s.crz.inj = some x → ∃ t, exec .injExpiry s = .next t ∧ t.crz.inj = none ∧
    rdB t 0x00010014 30 = false ∧ rdB t 0x00010014 28 = true) ∧
  (∀ (q : Requester) (d i a : Nat) (s : State), hostOrKiln q = true → d = rdF s 0x00010018 31 24 → i = rdF s 0x00010018 15 0 →
    a = (rd s 0x0001001C).toNat → injOpen s = true → s.crz.inj = none → injValid s d i a = true →
    (injNow s d i a = none → exec (.injGo q) s =
      .next (kept s (wrB 0x00010014 30 true { s with crz := { s.crz with inj := some (d, i, a) } }))) ∧
    (∀ u, injNow s d i a = some u → exec (.injGo q) s = .next (kept s (wrB 0x00010014 29 true u)))) ∧
  (∀ (q : Requester) (s : State), hostOrKiln q = true → injOpen s = false →
    exec (.injGo q) s = .next (kept s (wrB 0x00010014 27 true s))) ∧
  (∀ (r : Fin 6) (s : State), injFor s 0x14 (6 + r.val) = false → leafBit s (lfCrz (6 + r.val)) 1 = false →
    exec (.vmonFault r true) s = .next (kept s (setLive (lfCrz (6 + r.val)) true
      (raise (lfCrz (6 + r.val)) (setLive (lfCrz (6 + r.val)) true s)))) ∧
    exec (.vmonFault r false) s = .next (kept s (setLive (lfCrz (6 + r.val)) false s))) ∧
  (∀ (t : Int) (s : State), injArmed s 0x15 = none →
    (128 ≤ t → exec (.tempCrit t) s = .next (kept s (raise (lfCrz 12) (setLive (lfCrz 12) true s)))) ∧
    (t < 125 → exec (.tempCrit t) s = .next (kept s (setLive (lfCrz 12) false s)))) ∧
  (∀ s : State, ∃ t, exec (.busTimeout true) s = .next t ∧ t.rdata = 0xFFFFFFFF ∧ t.regs = (raise (lfCrz 13) s).regs) ∧
  (∀ s : State, exec (.busTimeout false) s = .next (kept s (raise (lfCrz 13) s)))

/-- Kiln's lockstep pairs (R506 to R520): a mismatch or a missed commit fails an active pair; a spare that mismatches goes to its
self-test; the replay ends a failover; a checkpoint commits or finds a divergence; a BIST ends; the memory scrub.
Rests on the model's readings of log entries 62 to 64. -/
def Obligations.KilnCommands : Prop :=
  (∀ (p : Fin 5) (n : Nat) (i o : List Nat) (s : State), resumesOn s p = false → pairRole s p = 1 →
    injFor s 0x01 p = false →
    exec (.lockstepMismatch p n i o) s = .next (kept s (failPair p 0 (withLogs p n i o s)))) ∧
  (∀ (p : Fin 5) (n : Nat) (i o : List Nat) (s : State), resumesOn s p = false → pairRole s p = 2 →
    exec (.lockstepMismatch p n i o) s =
      .next (kept s (klnSettle (selfTest p (recordFail p 0 (setRole p 3 s)))))) ∧
  (∀ (p : Fin 5) (n : Nat) (i o : List Nat) (s u : State), pairRole s p = 1 →
    u = withLogs p n i o (raise (lfKln 6) (bump (klnCtr 6) s)) → resumesOn u p = false →
    exec (.pairWdg p n i o) s = .next (kept s (failPair p 1 u))) ∧
  (∀ (outs : List Nat) (asked q : Nat) (f : Failover) (rest : List Failover) (s v : State), s.kiln.queue = f :: rest →
    f.onto = some q → injFor s 0x04 f.failed = false →
    (replayOk (kpair s f.failed) outs asked = true → pairRole v q ≠ 6 →
      v = (outs.drop (kpair s f.failed).outLog.length).foldl (fun s h => emit (.kilnNote "output" [q, h]) s) s →
      exec (.failoverResume outs asked) s = .next (kept s (klnSettle (failoverBegin 5 (selfTest f.failed
        { moveTasks f.failed q v with kiln := { (moveTasks f.failed q v).kiln with queue := rest } }))))) ∧
    (replayOk (kpair s f.failed) outs asked = false → exec (.failoverResume outs asked) s =
      .next (kept s (failoverBreaks q 2 (raise (lfKln 5) (bump (klnCtr 4) s)))))) ∧
  (∀ (p : Fin 5) (early : Bool) (s : State), pairRole s p = 1 → injFor s 0x02 p = false → (kpair s p).latent = false →
    exec (.kilnCheckpoint p early false) s = .next (kept s (commitPair p early s))) ∧
  (∀ (p : Fin 5) (early : Bool) (s u : State), pairRole s p = 1 → injFor s 0x02 p = false →
    u = raise (lfKln 2) (bump (klnCtr 3) (recordFail p 3 s)) →
    exec (.kilnCheckpoint p early true) s = .next (kept s (setKpair p { kpair u p with latent := true } u))) ∧
  (∀ (p : Fin 5) (s : State), pairRole s p = 4 →
    exec (.pairBistDone p true) s = .next (kept s (let u := { s with foot := { s.foot with
      transients := s.foot.transients.set p (s.foot.transients.getD p 0 + 1) } }
      klnSettle (setRole p 2 (failOutcome p 1 (bump (klnCtr 1) u))))) ∧
    exec (.pairBistDone p false) s = .next (kept s (klnSettle (retirePair p s)))) ∧
  (∀ s : State, injArmed s 0x07 = none →
    exec (.kilnMemScrub 2 true) s = .next (kept s (raise (lfCrz 1) s)) ∧
    exec (.kilnMemScrub 1 true) s = .next s) ∧
  (∀ (p q : Fin 5) (s : State), p ≠ q → pairRole (setRole p 2 s) p = 2 ∧ pairRole (setRole p 2 s) q = pairRole s q)

/-- The bridge at its requester (R451 to R461, R466, R470, R474, R475): window writes and reads leave as transactions; a waiting
request takes a tag; a read times out and its tag is released; slot commands lock, unlock, fence and use semaphores; the
oldest error entry is popped.
Rests on the model's readings of log entries 86 to 91. -/
def Obligations.BridgeRequesterCommands : Prop :=
  (∀ (km : Bool) (w : Fin 16) (off : Fin 2097152) (full : Bool) (data : List Byte) (s : State),
    exec (.brgWindowWrite (.window km w off) full data) s =
      .next (kept s (brgDone (winWrite w off full data s)))) ∧
  (∀ (w : Nat) (off : Nat) (data : List Byte) (s : State), bit (winCfg s w) 31 = true → bit (winCfg s w) 30 = false →
    fld (winCfg s w) 27 24 < 12 → didBad s (fld (winCfg s w) 10 0) = false → off % 4 = 0 → data.length = 4 → ∃ u,
    u = ({ ch := fld (winCfg s w) 27 24, addr := fld (winBase s w) 22 16 * 2 ^ 21 + off, len := 4, data := data } : BrgTx) ∧
      winWrite w off true data s = brgPost (fld (winCfg s w) 10 0) u s) ∧
  (∀ (w : Fin 16) (off : Fin 2097152) (tag len : Nat) (s : State), s.brg.reads = [] →
    exec (.brgWindowRead (.window false w off) tag len) s =
      .next (kept s (brgDone (winRead (.host tag) w off len s)))) ∧
  (∀ (tag : Fin 1024) (np : BrgNp) (s : State), tblFind s.brg.opens tag.val = none → s.brg.dead.contains tag.val = false →
    s.brg.wait.find? (fun np => decide (npOpen s np.tx.ch < rdF s (0x00080500 + 4 * np.tx.ch) 6 0)) = some np →
    exec (.brgNpIssue tag) s = .next (kept s (brgDone (brgIssue tag np s)))) ∧
  (∀ (tag : Fin 1024) (np : BrgNp) (s u : State), tblFind s.brg.opens tag.val = some np →
    u = modBrg (fun b => { b with opens := tblErase b.opens tag, dead := b.dead ++ [tag.val] }) s →
    exec (.brgReadTimeout tag) s = .next (kept s (brgDone (npEnd np 0x40 0 (ownDid u) [] (bump (brgCtr 2) u))))) ∧
  (∀ (tag : Fin 1024) (s : State), ∃ t, exec (.brgTagRelease tag) s = .next t ∧ t.brg.dead.contains tag.val = false ∧
    (∀ k, k ≠ tag.val → t.brg.dead.contains k = s.brg.dead.contains k) ∧ t.regs = s.regs ∧ t.out = s.out) ∧
  (∀ (q : Requester) (k c : Fin 4) (s a : State), (if k.val < 2 then hostRights q else decide (q = .kiln)) = true →
    slotPending s (brgSlot k) = false → a = slotAccept (brgSlot k) s →
    (∀ ch : Fin 16, ch.val < 12 → chBusy a ch = false →
      exec (.brgLock q k ch) s = .next (kept s (brgDone (lockCmd k ch a))) ∧
      exec (.brgUnlock q k ch) s = .next (kept s (brgDone (unlockCmd k ch a))) ∧
      exec (.brgFence q k ch) s = .next (kept s (brgDone (fenceCmd k ch a)))) ∧
    (∀ ch : Fin 16, 12 ≤ ch.val → exec (.brgLock q k ch) s =
      .next (kept s (brgDone (slotResult (brgSlot k) 0x02 [] a)))) ∧
    (2 ≤ k.val → chBusy a (12 + c.val) = false →
      exec (.semAcquire q k c) s = .next (kept s (brgDone (semCmd false k (12 + c.val) a))) ∧
      exec (.semRelease q k c) s = .next (kept s (brgDone (semCmd true k (12 + c.val) a))))) ∧
  (∀ (k c did bus : Nat) (s : State), winTarget s (slotArg s (brgSlot k) 0 % 16) = some (did, bus) → tblFind s.brg.seqs c = none →
    lockCmd k c s = lockStart c { did := did, bus := bus, slot := k }
      (modBrg (fun g => { g with seqs := tblSet g.seqs c { did := did, bus := bus, slot := k } }) s)) ∧
  (∀ (k c : Nat) (x : BrgSeq) (s : State), tblFind s.brg.seqs c = some x → x.phase = 3 →
    unlockCmd k c s = slotResult (brgSlot k) 0 [] (seqEnd c (sendUnlock c x s))) ∧
  (∀ (ch : Fin 12) (x : BrgSeq) (s : State), tblFind s.brg.seqs ch.val = some x → x.phase = 2 →
    exec (.brgLockBackoff ch) s =
      .next (kept s (brgDone (modBrg (fun b => { b with seqs := tblSet b.seqs ch { x with phase := 0 } }) s)))) ∧
  (∀ (q : Requester) (s : State), hostOrKiln q = true → ∃ t, exec (.brgErrlogPop q) s = .next t ∧
    t.brg.log = s.brg.log.drop 1 ∧ rd t 0x00080700 = w32 (s.brg.log.length - 1))

/-- The bridge at its target (R453 to R473): the first transaction of a type that order lets through is taken from the Coil's
frames and performed, answered, logged or relayed; held buses and semaphores expire; a LOCK's budget in the lock-wait buffer
ends.
Rests on the model's readings of log entries 85 to 91 and 112. -/
def Obligations.BridgeTargetCommands : Prop :=
  (∀ (f : CoilFrame) (t : BrgTx) (rest : List CoilFrame) (env : WrEnv) (s u : State),
    brgPick 0 [] s.col.inbox = some (f, t, rest) → u = modCol (fun c => { c with inbox := rest }) s →
    inReset u = false → brgWaits u t = false →
    exec (.brgWriteRx env) s = .next (kept s (brgDone (writePerform t env u)))) ∧
  (∀ (f : CoilFrame) (t : BrgTx) (rest : List CoilFrame) (e : Bool) (s u : State),
    brgPick 1 [] s.col.inbox = some (f, t, rest) → u = modCol (fun c => { c with inbox := rest }) s → t.budget ≠ 0 →
    (inReset u = true → exec (.brgReadRx e) s = .next (kept s (brgDone (brgAnswer t 0x41 6 [] u)))) ∧
    (inReset u = false → brgWaits u t = true → exec (.brgReadRx e) s = .next (kept s (brgDone (brgPark t {} u)))) ∧
    (inReset u = false → brgWaits u t = false → exec (.brgReadRx e) s = .next (kept s (brgDone (readPerform t e u))))) ∧
  (∀ (t : BrgTx) (s : State), t.tgt = 0 → brgDenied s t = false → t.len = 4 → inWindows t.addr = false →
    readPerform t false s = brgAnswer t 0 0 (bytesOfWords (readMany (brgRights t) 1 t.addr s).1)
      (readMany (brgRights t) 1 t.addr s).2) ∧
  (∀ (f : CoilFrame) (t : BrgTx) (rest : List CoilFrame) (np : BrgNp) (s u : State),
    brgPick 2 [] s.col.inbox = some (f, t, rest) → u = modCol (fun c => { c with inbox := rest }) s →
    (tblFind s.brg.opens t.tag = some np → exec .brgCplRx s = .next (kept s (brgDone (npEnd np t.code
      (if t.code = 0x41 then t.id else 0) f.src t.data (modBrg (fun b => { b with opens := tblErase b.opens t.tag }) u))))) ∧
    (tblFind s.brg.opens t.tag = none → exec .brgCplRx s = .next (kept s (brgDone (bump (brgCtr 3) u))))) ∧
  (∀ (f : CoilFrame) (t : BrgTx) (rest : List CoilFrame) (s u : State),
    brgPick 3 [] s.col.inbox = some (f, t, rest) → u = modCol (fun c => { c with inbox := rest }) s →
    64 ≤ u.col.revt.length → mgrDid (bump (colCtr 11) u) = 0 →
    exec .brgMsgRx s = .next (kept s (brgDone (bump (colCtr 11) u)))) ∧
  (∀ (f : CoilFrame) (t : BrgTx) (rest : List CoilFrame) (s u v : State),
    brgPick 3 [] s.col.inbox = some (f, t, rest) → u = modCol (fun c => { c with inbox := rest }) s →
    u.col.revt.length < 64 → v = raise (lfCol 7) (revtSync (modCol (fun c => { c with revt := c.revt ++
      [[w32 (t.req * 2 ^ 16 + byteAt t.data 1 * 2 ^ 8), w32 (beAt t.data 2 2 % 2048), w32 (beAt t.data 4 4),
        w32 (beAt t.data 8 4)]] }) u)) → mgrDid v = 0 →
    exec .brgMsgRx s = .next (kept s (brgDone v))) ∧
  (∀ (f : CoilFrame) (t : BrgTx) (rest : List CoilFrame) (s u : State),
    u = modCol (fun c => { c with inbox := rest }) s →
    (brgPick 4 [] s.col.inbox = some (f, t, rest) → t.budget ≠ 0 →
      exec .brgLockRx s = .next (kept s (brgDone (lockArrive t u)))) ∧
    (brgPick 4 [] s.col.inbox = some (f, t, rest) → t.budget = 0 → exec .brgLockRx s = .next (kept s u)) ∧
    (brgPick 5 [] s.col.inbox = some (f, t, rest) → brgBehind u.brg.lockWait t = false →
      exec .brgUnlockRx s = .next (kept s (brgDone (unlockArrive t u)))) ∧
    (brgPick 6 [] s.col.inbox = some (f, t, rest) → t.budget ≠ 0 →
      exec .brgSemAcqRx s = .next (kept s (brgDone (semAcqArrive t u)))) ∧
    (brgPick 7 [] s.col.inbox = some (f, t, rest) →
      exec .brgSemRelRx s = .next (kept s (brgDone (semRelArrive t u)))) ∧
    (brgPick 8 [] s.col.inbox = some (f, t, rest) →
      exec .brgErrRx s = .next (kept s (brgDone (brgErrIn t f.src u))))) ∧
  (∀ (t : BrgTx) (s : State), t.id < 64 → bit (rd s (semKey t.id)) 31 = false →
    semAcqArrive t s = brgAnswer t 0 0 [] (wr (semKey t.id) (w32 (2 ^ 31 + t.req % 2048 * 2 ^ 16 + t.ch % 16)) s)) ∧
  (∀ (t : BrgTx) (s : State), t.id < 64 → bit (rd s (semKey t.id)) 31 = true →
    semAcqArrive t s = brgAnswer t 0x42 0 (leBytes 4 (fld (rd s (semKey t.id)) 26 0)) s) ∧
  (∀ (b : Fin 129) (h : BrgBus) (s : State), tblFind s.brg.buses b.val = some h → h.est = true → b.val = 0 →
    exec (.brgLockExpiry b) s = .next (kept s (brgDone (brgPostedFail { req := h.did, ch := h.ch } 0x40 0
      (raise (lfBrg 3) (bump (brgCtr 7) (busFree 0 s))))))) ∧
  (∀ (n : Fin 64) (s : State), rdB s (semKey n) 31 = true →
    exec (.brgSemExpiry n) s = .next (kept s (raise (lfBrg 4) (bump (brgCtr 8) (wr (semKey n) 0 s))))) ∧
  (∀ (k : Fin 64) (w : BrgWait) (s : State), s.brg.lockWait[k.val]? = some w → w.tx.ty = 4 →
    exec (.lockWaitBudgetEnd k) s =
      .next (kept s (brgDone (modBrg (fun b => { b with lockWait := b.lockWait.eraseIdx k }) s))))

/-- The AUX view of Foot (R581): a write with a right PEC writes its words and is acknowledged; one with a wrong PEC is counted
and writes nothing; a read returns the words and their PEC; another address is not answered.
Rests on the model's reading of log entry 92. -/
def Obligations.AuxCommands : Prop :=
  (∀ (b d : List Byte) (a : Nat) (s : State), byteAt b 0 = auxByte s → a = beAt b 1 2 → auxAddrOk a = true → 8 ≤ b.length →
    d = (b.dropLast).drop 3 → d.length % 4 = 0 →
    (b.getLast? = some (pec b.dropLast) → exec (.auxWrite b) s = .next (kept s (brgDone (emit (.aux true [])
      (writeMany .aux {} (wordsOf (d.length / 4) d) (0x000B0000 + a) s))))) ∧
    (b.getLast? ≠ some (pec b.dropLast) → ∃ t, exec (.auxWrite b) s = .next t ∧ t.out = .aux true [] :: s.out ∧
      (∀ k, k ≠ 0x000B0008 → rd t k = rd s k) ∧ t.foot = s.foot)) ∧
  (∀ (dev : BitVec 7) (hi lo : Byte) (n : Nat) (s u : State) (ws : List Word), 2 * dev.toNat = auxByte s →
    auxAddrOk (hi.toNat * 256 + lo.toNat) = true → readMany .aux n (0x000B0000 + (hi.toNat * 256 + lo.toNat)) s = (ws, u) →
    exec (.auxRead dev hi lo n) s = .next (kept s (emit (.aux true (bytesOfWords ws ++
      [pec ([b8 (auxByte u), hi, lo, b8 (auxByte u + 1)] ++ bytesOfWords ws)])) u))) ∧
  (∀ (dev : BitVec 7) (hi lo : Byte) (n : Nat) (b : List Byte) (s : State), 2 * dev.toNat ≠ auxByte s →
    byteAt b 0 ≠ auxByte s → exec (.auxRead dev hi lo n) s = .next s ∧ exec (.auxWrite b) s = .next s)

/-- Coil frames and hierarchy (R477 to R503): frames that arrive are taken in order, own ones terminated; DATA and ROUTER frames
enter the switch and the router; discovery by HELLO, ASSIGN and JOIN; a link is lost; the remote-event FIFO is popped.
Rests on the model's readings of log entries 93 to 95. -/
def Obligations.CoilCommands : Prop :=
  (∀ s : State, role s = 2 → exec .coilHelloTimer s = .next (kept s
    (((linksOf s).filter (fun l => linkUp s (linkPort s l) && linkState s l != 3)).foldl
      (fun s l => coilOnLink l 7 (helloFrame s) s) s))) ∧
  (∀ (r : Nat) (p : Pkt) (rest : List Pkt) (s u : State), s.col.rx = p :: rest → u = modCol (fun c => { c with rx := rest }) s →
    coilParse u (p.ingress % 256 - 128) p = none →
    exec (.coilFrameRx r) s = .next (kept s (shfSettle (bump (colCtr 5) (shfUnref p.pid u))))) ∧
  (∀ (r l : Nat) (f : CoilFrame) (p : Pkt) (rest : List Pkt) (s u : State), s.col.rx = p :: rest →
    u = modCol (fun c => { c with rx := rest }) s → coilParse u (p.ingress % 256 - 128) p = some f → f.link = some l →
    linkState u l = 3 → exec (.coilFrameRx r) s = .next (kept s (shfSettle (shfUnref p.pid u)))) ∧
  (∀ (r l : Nat) (f : CoilFrame) (p : Pkt) (rest : List Pkt) (s u : State), s.col.rx = p :: rest →
    u = modCol (fun c => { c with rx := rest }) s → coilParse u (p.ingress % 256 - 128) p = some f → f.link = some l →
    linkState u l ≠ 3 → byteAt p.bytes (coilOff p.bytes) / 16 = 1 → f.svc ≤ 6 → f.dst ≠ 0 → f.dst ≠ 0x7FF →
    f.dst = ownDid u → f.src ≠ ownDid u →
    exec (.coilFrameRx r) s = .next (kept s (shfSettle (coilKeep f p.pid (bump (colCtr 1) u))))) ∧
  (∀ (f : CoilFrame) (p : Pkt) (s u : State), inboxTake (fun f => f.svc == 0) s = some (f, u) → f.wa / 2 ^ 30 = 0 →
    p = { bytes := f.data, ingress := 156, cls := f.cls, ts := f.ts, pid := f.pid, orig := some (f.wb % 2 ^ 19), ttl := f.ttl } →
    exec .coilDataRx s = .next (kept s (shfSettle (ingAppend 156 p (shfRetain p u))))) ∧
  (∀ (f : CoilFrame) (it : RItem) (n : Nat) (s u : State), inboxTake (fun f => f.svc == 1) s = some (f, u) →
    mehryrParse f.data 0x300 (beAt f.data 8 8) 0 f.data.length = some (it, n) → it.kind = 1 → f.wa % 256 < 128 →
    exec .coilRouterRx s = .next (kept s (let v := shfUnref f.pid u
      nmwSettle (shfSettle (deliver (srtBank v) (f.wa % 256) (f.wa / 2 ^ 24 % 8)
        { kind := 1, ext := it.ext, id := it.id, fmt := 3, data := it.data, rtr := it.rtr, dlc := it.dlc, sdt := it.sdt,
          af := it.af, sec := it.sec, ts := it.ts, src := it.src } none v))))) ∧
  (∀ (f : CoilFrame) (s u : State), inboxTake (fun f => f.svc == 1) s = some (f, u) →
    mehryrParse f.data 0x300 (beAt f.data 8 8) 0 f.data.length = none →
    exec .coilRouterRx s = .next (kept s (bump (colCtr 5) (shfUnref f.pid u)))) ∧
  (∀ (f : CoilFrame) (l : Nat) (s u : State), inboxTake (fun f => f.svc == 3 && frOp f == 1) s = some (f, u) →
    f.link = some l →
    (beAt f.data 16 2 % 2048 ≠ 0 → beAt f.data 16 2 % 2048 = ownDid u → beAt f.data 0 16 ≠ u.sag.uid →
      exec .helloRx s = .next (kept s (raise (lfCol 5) (bump (colCtr 8) u)))) ∧
    (beAt f.data 16 2 % 2048 = 0 → role u ≠ 0 →
      exec .helloRx s = .next (kept s (shfSettle (helloUnassigned l (beAt f.data 0 16) f.smac u)))) ∧
    (beAt f.data 16 2 % 2048 ≠ 0 → beAt f.data 16 2 % 2048 ≠ ownDid u → f.dmac = bootGroup →
      rdB (coilLinkUp l (beAt f.data 16 2 % 2048) u) (colLink l 0) 30 = true →
      exec .helloRx s = .next (kept s (shfSettle (coilLinkUp l (beAt f.data 16 2 % 2048) u))))) ∧
  (∀ (f : CoilFrame) (s u : State), inboxTake (fun f => f.svc == 3 && frOp f == 2) s = some (f, u) → role u = 1 →
    rdF u 0x00000004 13 12 = 0 → beAt f.data 0 16 = u.sag.uid → ∃ v,
    exec .assignRx s = .next (kept s (shfSettle (failedReport (coilOnPort 0 f.port 7 f.smac [] 0x88B5
      (discoveryFrame v 3 (discovery v.sag.uid (ownDid v) 0 (beBytes 4 (rd v (activeGen 0)).toNat))) v)))) ∧
    v = setFloors (modCol (fun c => { c with prov := some f.port, asgMac := f.smac })
      (wrF 0x00090004 28 25 (byteAt f.data 20) (wrF 0x00090004 10 0 (beAt f.data 18 2)
        (wrF 0x00000004 13 0 (0x2000 + beAt f.data 16 2 % 2048) u))))) ∧
  (∀ (f : CoilFrame) (l d : Nat) (s u : State), inboxTake (fun f => f.svc == 3 && frOp f == 3) s = some (f, u) →
    f.link = some l → d = beAt f.data 16 2 % 2048 → assignFind u (beAt f.data 0 16) = some (l, d) → memberState u d = 1 →
    exec .joinRx s = .next (kept s (let v := coilLinkUp l d u
      let v := raise (lfCol 2) (wrB 0x00000004 31 true (setMember d 2 l (beAt f.data 20 4) (beAt f.data 0 16) v))
      let v := modCol (fun c => { c with given := c.given.filter (fun e => e.1 / 32 != d) }) v
      shfSettle (configStart d (updRejoin d (coilLive v)))))) ∧
  (∀ (l : Fin 8) (s : State), linkState s l = 2 → exec (.coilLinkLost l) s = .next (kept s (brgDone
    ((brgQueued s (linkPort s l)).foldl (fun s t => brgLost t 2 s) (coilLinkDown l (brgUnqueue (linkPort s l) s)))))) ∧
  (∀ (q : Requester) (s : State), hostOrKiln q = true → ∃ t, exec (.colRevtPop q) s = .next t ∧
    t.col.revt = s.col.revt.drop 1 ∧ rd t 0x00090314 = w32 (s.col.revt.length - 1))

/-- Time over the Coil (R501): a worker follows its manager's SYNC; a domain without SYNC leaves LOCKED; the link delay is
measured; SYNC and the request leave on their timers.
Rests on the model's reading of log entry 96. -/
def Obligations.CoilTimeCommands : Prop :=
  (∀ (f : CoilFrame) (l : Nat) (rate : Word) (s u : State), inboxTake (fun f => f.svc == 4 && frOp f == 1) s = some (f, u) →
    f.link = some l → rdB u (colLink l 0) 30 = true → nbit f.wa 8 = false → domEnabled u false = true →
    (signed 32 rate.toNat).natAbs ≤ 549755814 → byteAt f.data 24 = 2 → tblFind u.col.gm 0 = none → ∀ age : Nat,
    exec (.syncRx rate false true age) s = .next (kept s (domainState false 2
      (wr 0x00060050 rate (modCol (fun c => { c with gm := tblSet c.gm 0 (beAt f.data 16 8) }) u))))) ∧
  (∀ (d : Bool) (l : Nat) (s : State), uplink s = some l → domLocked s d = true →
    exec (.coilSyncTimeout d) s = .next (kept s (domainState d 0 s))) ∧
  (∀ (f : CoilFrame) (l : Nat) (s u : State), inboxTake (fun f => f.svc == 4 && frOp f == 2) s = some (f, u) →
    f.link = some l → exec .pdelayReqRx s = .next (kept s (shfSettle (timeSend 3 l 3 false (f.wb % 2 ^ 16)
      (beBytes 8 f.ts ++ List.replicate 8 0) u)))) ∧
  (∀ (f : CoilFrame) (l t1 : Nat) (s u : State), inboxTake (fun f => f.svc == 4 && frOp f == 3) s = some (f, u) →
    f.link = some l → (tblGet u.col.pdelay l {}).t1 = some t1 → ∃ t, exec .pdelayRespRx s = .next t ∧
      (tblGet t.col.pdelay l {}).t1 = none ∧ (tblGet t.col.pdelay l {}).delay =
        (((tsNs f.ts - tsNs t1) - (tsNs (beAt f.data 8 8) - tsNs (beAt f.data 0 8))).tdiv 2).toNat ∧ t.regs = u.regs) ∧
  (∀ (l : Fin 8) (gm : BitVec 64) (s : State), linkState s l = 2 →
    (rdB s (colLink l 0) 30 = false →
      exec (.timeRelayTimer l 0 gm) s = .next (kept s (shfSettle (syncSend l false gm.toNat s))) ∧
      exec (.timeRelayTimer l 1 gm) s = .next (kept s (shfSettle (syncSend l true gm.toNat s)))) ∧
    (rdB s (colLink l 0) 30 = true → exec (.timeRelayTimer l 2 gm) s =
      .next (kept s (shfSettle (timeSend 4 l 2 false (timeSeq l s).1 [] (timeSeq l s).2)))))

/-- Transfers over the Coil (R498 to R500, R544, R548 to R551): a chunk is acknowledged and kept; an acknowledgment moves a
transfer on; a COMMAND runs in slot 3; a RESULT is taken by the manager; an ABORT ends a transfer; chunks are sent again, and
after eight sends the transfer is given up.
Rests on the model's readings of log entries 86 and 95. -/
def Obligations.TransferCommands : Prop :=
  (∀ (f : CoilFrame) (x : XferIn) (s u : State),
    inboxTake (fun f => (f.svc == 5 || f.svc == 6) && frOp f == 1) s = some (f, u) → fromManager u f = true → f.svc = 6 →
    tblFind u.col.xin 6 = some x → x.xfer = frXfer f → x.src = f.src → x.obj = frObj f → f.wb = x.data.length →
    f.data.length = 8 → exec .xferDataRx s = .next (kept s (shfSettle (xferTake { x with data := x.data ++ f.data }
      (xferAck f (x.data.length + 8) false (modCol (fun c => { c with
        xin := tblSet c.xin 6 { x with data := x.data ++ f.data } }) u)))))) ∧
  (∀ (f : CoilFrame) (x : XferIn) (s u : State),
    inboxTake (fun f => (f.svc == 5 || f.svc == 6) && frOp f == 1) s = some (f, u) → fromManager u f = true → f.svc = 6 →
    tblFind u.col.xin 6 = some x → x.xfer ≠ frXfer f →
    exec .xferDataRx s = .next (kept s (shfSettle (xferAck f 0 true u)))) ∧
  (∀ (f : CoilFrame) (x : XferOut) (s u : State),
    inboxTake (fun f => (f.svc == 5 || f.svc == 6) && frOp f == 2) s = some (f, u) →
    u.col.xout.find? (fun x => x.did == f.src && x.svc == f.svc && x.xfer / 2 == frXfer f / 2) = some x →
    (f.wa % 2 = 1 → exec .xferAckRx s =
      .next (kept s (shfSettle (setXout { x with busy := true, sent := x.acked, sends := 0 } u)))) ∧
    (f.wa % 2 = 0 → x.acked < f.wb → f.wb ≤ x.sent → f.wb ≠ x.data.length → exec .xferAckRx s =
      .next (kept s (shfSettle (xferPump 64 { x with acked := f.wb, sends := 1 } u))))) ∧
  (∀ (f : CoilFrame) (r : Nat) (s u v : State),
    inboxTake (fun f => (f.svc == 5 || (f.svc == 6 && beAt f.data 0 4 == 1)) && frOp f == 3) s = some (f, u) →
    fromManager u f = true → f.svc = 5 → slotPending u (cfgSlot 3) = false → beAt f.data 0 4 = 2 + r * 2 ^ 8 → r < 28 →
    v = modCol (fun c => { c with cmd := some (frObj f, frXfer f, f.src) })
      (wrWords (cfgSlot 3 + 4) ((List.range 8).map (fun k => w32 (beAt f.data (4 + 4 * k) 4))) u) →
    exec .xferCommandRx s = .next (kept s (shfSettle (coilResult
      (cfgAccept 3 .manager { swap := true, region := r } false (swapRun r) v))))) ∧
  (∀ (f : CoilFrame) (s u : State),
    inboxTake (fun f => (f.svc == 5 || (f.svc == 6 && frObj f != 0x81)) && frOp f == 4) s = some (f, u) →
    memberState u f.src = 2 →
    (f.svc = 5 → exec .xferResultRx s = .next (kept s (shfSettle (configResult f.src (frObj f) f.data u)))) ∧
    (f.svc = 6 → exec .xferResultRx s =
      .next (kept s (shfSettle (updResult f.src (frObj f) (frXfer f) (byteAt f.data 3) u))))) ∧
  (∀ (f : CoilFrame) (x : XferIn) (s u : State),
    inboxTake (fun f => (f.svc == 5 || f.svc == 6) && frOp f == 5) s = some (f, u) → fromManager u f = true → f.svc = 5 →
    tblFind u.col.xin 5 = some x → x.src = f.src → x.xfer = frXfer f →
    exec .xferAbortRx s = .next (kept s (modCol (fun c => { c with xin := tblErase c.xin 5 }) u))) ∧
  (∀ (n : Fin 65536) (x : XferOut) (s : State), s.col.xout.find? (fun y => y.xfer == n.val) = some x → x.acked < x.sent →
    (x.sends < 8 → exec (.xferRetxTimeout n) s = .next (kept s (shfSettle (setXout { x with sends := x.sends + 1 }
      (forN ((x.sent - x.acked + 1023) / 1024) 0 (fun k s => xferChunk x (x.acked + 1024 * k) s)
        (bumpN (colCtr 10) ((x.sent - x.acked + 1023) / 1024) s)))))) ∧
    (8 ≤ x.sends → x.svc = 5 → exec (.xferRetxTimeout n) s = .next (kept s (shfSettle (modCol (fun c => { c with
      prog := tblErase c.prog x.did }) (coilSend x.did x.svc 7 (xferWord 5 x.obj x.xfer) 0 [] (raise (lfCol 6) (xferEnd x s))))))))

/-- Update messages (R543 to R549, R553, R571, R572): in the session that is open, or while none is, a chunk is stored, a cycle
begins, its status is told, it is committed or aborted, a lock message is applied; the session times out; another session is
answered REGION_BUSY.
Rests on the model's readings of log entries 98 to 100. -/
def Obligations.UpdateMessages : Prop :=
  (∀ (x : BitVec 32) (s v : State), updTakes s = true → (updState s = 0 ∧ s.upd.opened = false) ∨ s.upd.sess = some x.toNat →
    v = modUpd (fun u => { u with last := s.now }) s →
    (∀ (e : Fin 65536) (off : BitVec 32) (d : List Byte) (t : State) (c : Nat) (m : List Byte),
      updChunk e off.toNat d (if v.upd.sess = some x.toNat then v
        else modUpd (fun u => { u with sess := some x.toNat, objs := [] }) v) = (t, c, m) →
      exec (.updData x e off d) s = .next (kept s (updReply 1 e x.toNat c m t))) ∧
    (v.upd.uncommitted = [] → updState v = 0 → v.upd.sess = some x.toNat →
      exec (.updBegin x) s = .next (kept s (match beginCheck v with
        | .inl c => updReply 2 0xFFFF x.toNat c [] v
        | .inr m => if refusal v = 0 then updReply 2 0xFFFF x.toNat 0 []
              (cycleBegin m (modUpd (fun u => { u with opened := true }) v))
            else updReply 2 0xFFFF x.toNat (refusal v) []
              (refused (refusal v) (modUpd (fun u => { u with opened := true }) v))))) ∧
    (∀ e : Fin 65536, exec (.updStatus x e) s = .next (kept s (updReply 3 e x.toNat 0 (beBytes 4 (updStatusWord v).toNat ++
      beBytes 4 (rd v 0x0003000C).toNat ++ beBytes 4 (rd v 0x00030010).toNat) v))) ∧
    (∀ t : State, updState v = 2 → refusal v = 0 → t = updReply 4 0xFFFF x.toNat 0 [] (setUpdState 3 v) → updState t = 3 →
      s.upd.sess = some x.toNat → rdB t 0x000B0070 31 = false → exec (.updCommit x) s = .next (kept s (activate t))) ∧
    (updState v < 3 → exec (.updAbort x) s = .next (kept s (updReply 5 0xFFFF x.toNat 0 [] (sessionEnd v)))) ∧
    (∀ (b : List Byte) (w : State), b = tblGet v.upd.objs 0xFFFE [] → inRecovery v = false → beAt b 4 16 = v.sag.uid →
      w = modUpd (fun u => { u with objs := tblErase u.objs 0xFFFE }) v →
      exec (.updLock x) s = .next (kept s (updReply 6 0xFFFE x.toNat (lockApply b w).2 [] (lockApply b w).1)))) ∧
  (∀ (x : BitVec 32) (e : Fin 65536) (off : BitVec 32) (d : List Byte) (s : State), updTakes s = true → updState s ≠ 0 →
    s.upd.sess ≠ some x.toNat →
    exec (.updData x e off d) s = .next (kept s (updReply 1 e x.toNat 0x50 [] s)) ∧
    exec (.updStatus x e) s = .next (kept s (updReply 3 e x.toNat 0x50 [] s)) ∧
    exec (.updAbort x) s = .next (kept s (updReply 5 0xFFFF x.toNat 0x50 [] s))) ∧
  (∀ (e : Nat) (d : List Byte) (s : State), e < 0xFFFE → updState s = 1 → e < manCount s.upd.man → d.length ≤ 1024 →
    d ≠ [] → (tblGet s.upd.objs e []).length + d.length < objLimit s e → d.length % 8 = 0 →
    updChunk e (tblGet s.upd.objs e []).length d s =
      (modUpd (fun u => { u with objs := tblSet u.objs e (tblGet s.upd.objs e [] ++ d) }) s, 0, [])) ∧
  (∀ s : State, s.upd.sess ≠ none → updState s ≤ 2 → updTakes s = true →
    exec .updSessionTimeout s = .next (kept s (sessionEnd s)))

/-- Staging and trials (R548 to R552): a part is staged where it is for; a device's own success or a worker's report leads to the
commit point, its failure or silence to reversion; a worker follows its manager's orders.
The numbers of the UPDATE objects are the model's choice: log entry 97; rests on log entries 98 to 100 as well. -/
def Obligations.UpdateOutcomes : Prop :=
  (∀ (i : Fin 256) (m : Man) (ok : Bool) (s : State), role s = 0 → manParse s.upd.man = some m → updState s = 1 →
    i.val < m.entries.length → (entryDids s m (manEntry s.upd.man i)).contains (ownDid s) = true →
    s.upd.staged.contains (i.val, ownDid s) = false → (tblGet s.upd.objs i.val []).length = (manEntry s.upd.man i).len →
    exec (.updPartStaged i ok) s = .next (kept s
      (if ok && partIs (manEntry s.upd.man i) (tblGet s.upd.objs i.val []) then
        partStaged i (ownDid s) (bankAdd (stageBank s) (manEntry s.upd.man i).ty (manEntry s.upd.man i).did
          (tblGet s.upd.objs i.val []) s)
      else stageFail (manEntry s.upd.man i).ty 0x63 (ownDid s)
        (modUpd (fun u => { u with objs := tblErase u.objs i.val }) s)))) ∧
  (∀ (d : Fin 2048) (s : State), d.val = ownDid s → trialGood s = true →
    (role s = 1 → s.upd.alone = false →
      exec (.trialReport d) s = .next (kept s (setUpdState 5 (updReport 0x81 0 0 0 s)))) ∧
    (role s ≠ 1 → exec (.trialReport d) s = .next (kept s (commitPoint (modUpd (fun u => { u with
      reported := u.reported.filter (· != d.val) ++ [d.val] }) s))))) ∧
  (∀ (d : Fin 2048) (f : CoilFrame) (s u : State), d.val ≠ ownDid s →
    inboxTake (fun f => f.svc == 6 && f.src == d.val && frOp f == 4 && frObj f == 0x81) s = some (f, u) →
    (byteAt f.data 3 = 0 → exec (.trialReport d) s = .next (kept s (commitPoint (modUpd (fun u => { u with
      reported := u.reported.filter (· != d.val) ++ [d.val] }) u)))) ∧
    (byteAt f.data 3 ≠ 0 → exec (.trialReport d) s = .next (kept s (revertAll (w32 (beAt f.data 4 4)) u)))) ∧
  (∀ (d : Fin 2048) (b : Nat) (s : State), trialBank s = some b → s.upd.reported.contains d.val = false → role s ≠ 1 →
    exec (.trialTimeout d) s = .next (kept s (revertAll (failWord 0x40 0x63 d) s))) ∧
  (∀ (f : CoilFrame) (s u : State), takeOrder 2 s = some (f, u) → rdB u 0x000B0070 31 = true →
    exec .commitOrder s = .next (kept s
      (match (bankMan u (rdF u 0x000B0070 30 30)).bind (fun m => commitBank (rdF u 0x000B0070 30 30) m u) with
      | none => u
      | some v => raise (lfUpd 3) (updReport 0x83 0 0 0 v)))) ∧
  (∀ (f : CoilFrame) (s u : State), takeOrder 3 s = some (f, u) →
    (rdB u 0x000B0070 31 = false → exec .revertOrder s = .next (kept s (bankDrop (1 - runBank u) u))) ∧
    (rdB u 0x000B0070 31 = true → exec .revertOrder s = .next (kept s (trialBack (failWord 0x40 0x63 (ownDid u))
      (bankDrop (rdF u 0x000B0070 30 30) (setUpdState 4 u))))))

/-- R8: a counter adds modulo 2^64. A read of its LO word, by a requester that reaches it, returns the low half, copies the
counter into the shadow and clears it, in that one command; a read of the HI word then returns the shadow, and the two halves
make the whole counter. Personality counters (R95) are those of the flexport's personality. FOOT_CMD_REJ and FOOT_AUX_ERR count
to 65,535 and stay there; their read returns and clears the one word and touches no shadow. -/
def Obligations.CounterRead : Prop :=
  (∀ (k n : Nat) (s : State), counter (bumpN k n s) k = (counter s k + n) % 2 ^ 64) ∧
  (∀ (q : Requester) (off j : Nat) (r : RegRow) (rows : List RegRow) (s : State),
    rows = (if 0x00100000 ≤ off ∧ off < 0x00180000 ∧ 0x100 ≤ off % 0x1000 then rowsPers (persOf s ((off - 0x00100000) / 0x1000))
      else blockRows off) →
    reach s q off = some off → reach s q (off + 4) = some (off + 4) → off % 8 = 0 → blockRows (off + 4) = blockRows off →
    injArmed s 0x16 = none → findRow rows off = some r → findRow rows (off + 4) = some r → r.kind = .counter →
    r.mirrored = false → rowWord r off = some (2 * j) → rowWord r (off + 4) = some (2 * j + 1) →
    ∃ t, exec (.counterRead q off) s = .next t ∧
      t.rdata = w32 (counter s (keyOf s off)) ∧ counter t (keyOf s off) = 0 ∧
      shadow t (keyOf s off + 4) = w32 (counter s (keyOf s off) / 2 ^ 32) ∧
      (∀ k, k ≠ keyOf s off → counter t k = counter s k) ∧ t.regs = s.regs ∧
      ∃ u, exec (.counterRead q (off + 4)) t = .next u ∧ u.rdata = w32 (counter s (keyOf s off) / 2 ^ 32) ∧
        u.counters = t.counters ∧ u.shadows = t.shadows ∧ u.regs = t.regs ∧
        (counter s (keyOf s off) < 2 ^ 64 → u.rdata.toNat * 2 ^ 32 + t.rdata.toNat = counter s (keyOf s off))) ∧
  (∀ (k : Nat) (s : State), k = 0x000B0018 ∨ k = 0x000B0008 →
    rdF (satInc k 15 0 s) k 15 0 = min 65535 (rdF s k 15 0 + 1) ∧
    (∀ q : Requester, reach s q k = some k → injArmed s 0x16 = none →
      ∃ t, exec (.counterRead q k) s = .next t ∧ t.rdata = rd s k ∧ rd t k = 0 ∧ (∀ j, j ≠ k → rd t j = rd s j) ∧
        t.counters = s.counters ∧ t.shadows = s.shadows))

/-- The protocol of a command slot (R52 to R55): a CMD write is refused with REJECTED alone while its writer is not permitted or a
command is pending; an accepted one latches the arguments, takes the next ticket and clears the results; its end holds code and
result words; RES_RELEASE from a permitted requester with the held ticket releases, any other value does nothing.
That slot 0 of the bridge has six result words is the model's choice: log entry 68. -/
def Obligations.SlotProtocol : Prop :=
  (nextTicket 255 = 1 ∧ ∀ n, n < 255 → nextTicket n = n + 1) ∧
  (∀ (b : Nat) (ok : Bool) (f : State → State) (s : State), ok = false ∨ slotPending s b = true →
    slotStatus (slotCommand b ok f s) b = slotStatus s b ||| 0x40000000 ∧
    ∀ k, k ≠ b + 0x24 → rd (slotCommand b ok f s) k = rd s k) ∧
  (∀ (b : Nat) (f : State → State) (s : State), slotPending s b = false →
    ∃ t, slotCommand b true f s = f t ∧ slotStatus t b = w32 (nextTicket (slotTicket s b) * 2 ^ 16 + 1) ∧
      slotPending t b = true ∧ slotTicket t b = nextTicket (slotTicket s b) ∧
      (∀ k, k < 8 → slotArg t b k = (rd s (b + 4 + 4 * k)).toNat) ∧
      (∀ k, k < resWords b → rd t (b + 0x28 + 4 * k) = 0) ∧
      (∀ k, k < b + 0x24 ∨ b + 0x48 ≤ k → rd t k = rd s k)) ∧
  (∀ (b c : Nat) (res : List Nat) (s : State), slotPending s b = true → c < 0xFF →
    ∃ t, slotResult b c res s = t ∧ slotStatus t b = w32 (2 ^ 31 + slotTicket s b * 2 ^ 16 + c) ∧
      (∀ k, k < resWords b → rd t (b + 0x28 + 4 * k) = w32 (res.getD k 0)) ∧
      (∀ k, k < b + 0x24 ∨ b + 0x48 ≤ k → rd t k = rd s k)) ∧
  (∀ (q : Requester) (e : Fin 5) (k : Fin 4) (v : BitVec 8) (s : State), slotMay e k q = true →
    (bit (slotStatus s (slotBase e k)) 31 = true → slotTicket s (slotBase e k) = v.toNat →
      ∃ t, exec (.resRelease q e k v) s = .next t ∧ bit (slotStatus t (slotBase e k)) 31 = false ∧
        fld (slotStatus t (slotBase e k)) 7 0 = 0 ∧ slotTicket t (slotBase e k) = v.toNat ∧
        (∀ j, j < resWords (slotBase e k) → rd t (slotBase e k + 0x28 + 4 * j) = 0) ∧
        (∀ j, j < slotBase e k + 0x24 ∨ slotBase e k + 0x48 ≤ j → rd t j = rd s j)) ∧
    (bit (slotStatus s (slotBase e k)) 31 = false ∨ slotTicket s (slotBase e k) ≠ v.toNat →
      exec (.resRelease q e k v) s = .next s)) ∧
  (∀ (q : Requester) (e : Fin 5) (k : Fin 4) (v : BitVec 8) (s : State), slotMay e k q = false →
    exec (.resRelease q e k v) s = .next (kept s (accErr q 1 (slotBase e k + 0x48) s)))

/-- Access types (R6): each bit of a written word follows the type of the field it lies in: W1S bits set, W1C bits clear, RW bits
take the value, RWL bits take it while not locked, all others (RO, RC, WO, reserved) keep theirs. -/
def Obligations.AccessTypes : Prop :=
  (∀ (r : RegRow) (held : Bool) (old w : Word) (b : Nat), b < 32 →
    bit (accessWord r held old w) b =
      (if bit (rowMask r .w1s) b = true ∧ bit w b = true then true
       else if bit (rowMask r .w1c) b = true ∧ bit w b = true then false
       else if bit (rowMask r .rw) b = true ∨ (held = false ∧ bit (rowMask r .rwl) b = true) then bit w b
       else bit old b)) ∧
  (∀ (r : RegRow) (a : Acc) (b : Nat), b < 32 →
    bit (rowMask r a) b = r.flds.any (fun f => decide (f.acc = a) && decide (f.lo ≤ b) && decide (b ≤ f.hi))) ∧
  (∀ (s : State) (off : Nat), locked s = true → rwlHeld s off = true) ∧
  (∀ (s : State) (n o : Nat), n < 128 → o < 0x1000 → locked s = false →
    rwlHeld s (fxpBase n + o) = rdB s (fxpBase n) 31)

/-- Register writes (R6, R574 to R576): a full write of a register of fields follows its fields' access types and what the new
fields entail; one with a byte disabled changes no register and is recorded; one by a requester without the right, or where the
requester reaches nothing, changes nothing else; a slot's arguments are written by its permitted requesters; an event STATUS bit
is cleared by writing 1.
Rests on the model's readings of log entries 68 and 101. -/
def Obligations.RegisterWrites : Prop :=
  (∀ (q : Requester) (off : Nat) (w : Word) (env : WrEnv) (s : State) (r : RegRow) (pers : Bool),
    pers = (decide (0x00100000 ≤ off) && decide (off < 0x00180000) && decide (0x100 ≤ off % 0x1000)) →
    reach s q off = some off → blockDead s off = false → slotAt off = none → ¬ (0x00011000 ≤ off ∧ off < 0x00011300) →
    ¬ (0x00100000 ≤ off ∧ off < 0x00180000 ∧ off % 0x1000 = 0) → regCommand q off w env s = none → off ≠ 0x00070004 →
    findRow (if pers then rowsPers (persOf s ((off - 0x00100000) / 0x1000)) else blockRows off) off = some r →
    rowMask r .rw ||| rowMask r .rwl ||| rowMask r .w1c ||| rowMask r .w1s ≠ 0 →
    (fieldMay s q off r = true → qpHeld s off = false → seedHeld s off = false → planHeld off = false →
      rowMask r .rw ||| (if rwlHeld s off then 0 else rowMask r .rwl) ||| rowMask r .w1c ||| rowMask r .w1s ≠ 0 →
      exec (.registerWrite q off true w env) s = .next (kept s (brgDone (fieldEffects off s
        (wr (keyOf s off) (accessWord r (rwlHeld s off) (rd s (keyOf s off)) w) s))))) ∧
    (fieldMay s q off r = false →
      exec (.registerWrite q off true w env) s = .next (kept s (brgDone (accErr q 1 off s)))) ∧
    (fieldMay s q off r = true → qpHeld s off = true ∨ seedHeld s off = true ∨ planHeld off = true →
      exec (.registerWrite q off true w env) s = .next (kept s (brgDone s)))) ∧
  (∀ (q : Requester) (off : Nat) (w : Word) (env : WrEnv) (s : State), reach s q off = some off → blockDead s off = false →
    (findRow (blockRows off) off).isSome = true →
    exec (.registerWrite q off false w env) s = .next (kept s (brgDone (accErr q 0 off s)))) ∧
  (∀ (off : Nat) (full : Bool) (w : Word) (env : WrEnv) (s : State), 2 ^ 28 ≤ off →
    exec (.registerWrite .kiln off full w env) s = .next (kept s (brgDone s)) ∧
    exec (.registerWrite .aux off full w env) s = .next (kept s (brgDone s))) ∧
  (∀ (q : Requester) (e : Fin 5) (k : Fin 4) (j : Fin 8) (w : Word) (env : WrEnv) (s : State), injArmed s 0x16 = none →
    reach s q (slotBase e k + 4 + 4 * j) = some (slotBase e k + 4 + 4 * j) →
    (slotMay e k q = true → exec (.registerWrite q (slotBase e k + 4 + 4 * j) true w env) s =
      .next (kept s (brgDone (wr (slotBase e k + 4 + 4 * j) w s)))) ∧
    (slotMay e k q = false → exec (.registerWrite q (slotBase e k + 4 + 4 * j) true w env) s =
      .next (kept s (brgDone (accErr q 1 (slotBase e k + 4 + 4 * j) s))))) ∧
  (∀ (w : Word) (env : WrEnv) (s : State), injArmed s 0x16 = none →
    ∃ v, exec (.registerWrite (.host 0) 0x00200040 true w env) s = .next (kept s (brgDone (wr 0x00200040 v s))) ∧
      ∀ b, b < 5 → bit v b = (bit (rd s 0x00200040) b && !bit w b))

/-- Entry snapshots (R248, R579) in the L2 table's window: a read of word 0 returns it and copies words 1 to 3 into shadows; a
later read of word 1, 2 or 3 returns the shadow, whatever the entry holds by then.
Rests on the model's reading of log entry 102. -/
def Obligations.EntrySnapshots : Prop :=
  (∀ (i : Fin 131072) (s : State), injArmed s 0x16 = none →
    ∃ t, exec (.entrySnapshotRead (.host 0) (0x08000000 + 0x10 * i)) s = .next t ∧
      t.rdata = rd s (0x08000000 + 0x10 * i) ∧
      (∀ j, 1 ≤ j → j < 4 → shadow t (0x08000000 + 0x10 * i + 4 * j) = rd s (0x08000000 + 0x10 * i + 4 * j)) ∧
      t.regs = s.regs ∧ t.counters = s.counters) ∧
  (∀ (i : Fin 131072) (j : Nat) (s : State), injArmed s 0x16 = none → 1 ≤ j → j < 4 →
    ∃ t, exec (.entrySnapshotRead (.host 0) (0x08000000 + 0x10 * i + 4 * j)) s = .next t ∧
      t.rdata = shadow s (0x08000000 + 0x10 * i + 4 * j) ∧ t.regs = s.regs ∧ t.shadows = s.shadows ∧ t.counters = s.counters)

/-- Requesters without rights (R576): a command register's write by a requester that is neither host function 0 (or has its
rights) nor Kiln firmware changes nothing but GLB_ACC_ERR, which keeps the first such write and only marks further ones. -/
def Obligations.StrangersRefused : Prop :=
  (∀ (q : Requester) (s : State), hostOrKiln q = false →
    (∀ c, exec (.classUnblock q c) s = .next (kept s (accErr q 1 (blockedKey c) s))) ∧
    (∀ m, exec (.marClear q m) s = .next (kept s (accErr q 1 (marKey m) s))) ∧
    (∀ g w, exec (.crzRouteWrite q g w) s = .next (kept s (accErr q 1 (routeKey g) s))) ∧
    (∀ w, exec (.injKeyWrite q w) s = .next (kept s (accErr q 1 0x00010010 s))) ∧
    exec (.injGo q) s = .next (kept s (accErr q 1 0x00010020 s)) ∧
    exec (.brgErrlogPop q) s = .next (kept s (accErr q 1 0x00080720 s)) ∧
    exec (.colRevtPop q) s = .next (kept s (accErr q 1 0x00090310 s)) ∧
    exec (.timSnap q) s = .next (kept s (accErr q 1 0x000600B0 s)) ∧
    exec (.autoSelEnable q) s = .next (kept s (accErr q 1 0x00060014 s)) ∧
    exec (.cfgLockSet q) s = .next (kept s (accErr q 1 0x000A0200 s)) ∧
    exec (.standbyEnter q) s = .next (kept s (accErr q 1 0x00070004 s)) ∧
    (∀ m, exec (.srtImgSend q m) s = .next (kept s (accErr q 1 0x00300008 s))) ∧
    (∀ n, exec (.tc10Sleep q n) s = .next (kept s (accErr q 1 (macBase n + 0x94) s)) ∧
      exec (.tc10WakeCmd q n) s = .next (kept s (accErr q 1 (macBase n + 0x94) s))) ∧
    (∀ g w, exec (.mcGroupCommit q g w) s = .next (kept s (accErr q 1 (0x0F000000 + 0x20 * g) s))) ∧
    (∀ st, exec (.frerForceReset q st) s = .next (kept s (accErr q 1 (strKey st + 4) s))) ∧
    (∀ n, exec (.fxpEnable q n) s = .next (kept s (accErr q 1 (fxpBase n) s)) ∧
      ∀ b, exec (.fxpDisable q n b) s = .next (kept s (accErr q 1 (fxpBase n) s))) ∧
    (∀ g l, exec (.lgRelease q g l) s = .next (kept s (accErr q 1 (lgKey g 0x18) s)))) ∧
  (∀ (q : Requester) (kind off : Nat) (s : State), kind < 2 → off < 2 ^ 28 →
    (rdB s 0x00000020 31 = false →
      rdB (accErr q kind off s) 0x00000020 31 = true ∧ rdB (accErr q kind off s) 0x00000020 30 = false ∧
      rdB (accErr q kind off s) 0x00000020 29 = decide (q = .kiln) ∧ rdF (accErr q kind off s) 0x00000020 28 28 = kind ∧
      rdF (accErr q kind off s) 0x00000020 27 0 = off) ∧
    (rdB s 0x00000020 31 = true → rd (accErr q kind off s) 0x00000020 = rd s 0x00000020 ||| 0x40000000) ∧
    (∀ k, k ≠ 0x00000020 → rd (accErr q kind off s) k = rd s k))

/-- Events (R527, R532, R534, R536): where no manager takes events, an occurrence sets the leaf's STATUS and settles its group;
LIVE moves alone; a group that is not pending signals nothing; a pending one sends its armed host vector once and disarms it, and
one routed to FAULT asserts FAULT_N. -/
def Obligations.EventLeaves : Prop :=
  (∀ (l : Nat) (s : State), mgrDid s = 0 → l < 2016 →
    raise l s = settleGroup (l / 32) (setLeafBit l 0 true s)) ∧
  (∀ (l : Nat) (s : State), (leafHome l).isSome = true →
    leafBit (setLeafBit l 0 true s) l 0 = true ∧
    (∀ v, leafBit (setLive l v s) l 1 = v ∧ leafBit (setLive l v s) l 0 = leafBit s l 0 ∧
      leafBit (setLive l v s) l 2 = leafBit s l 2)) ∧
  (∀ (g : Nat) (s : State), g < 63 → grpPending s g = false → settleGroup g s = s) ∧
  (∀ (g : Nat) (s : State), g < 63 → grpPending s g = true → rdB s (routeKey g) 28 = true → nbit s.crz.armHost g = true →
    rdB s (routeKey g) 29 = false → rdB s (routeKey g) 31 = false →
    settleGroup g s = sendVec (rdF s (routeKey g) 26 24) (rdF s (routeKey g) 21 16)
      { s with crz := { s.crz with armHost := nsetBit s.crz.armHost g false } } ∧
    nbit (settleGroup g s).crz.armHost g = false) ∧
  (∀ (g : Nat) (s : State), g < 63 → grpPending s g = true → rdB s (routeKey g) 28 = false → rdB s (routeKey g) 29 = false →
    rdB s (routeKey g) 31 = true → settleGroup g s = footFault 0 s ∧ faultAsserted (settleGroup g s) = true) ∧
  (∀ (g : Nat) (s : State), g < 64 → grpPending s g = true → rdB s (routeKey g) 30 = true → evtAsserted s = true)

/-- AES-GCM as MACsec and the tree store use it (R368, R390): what was sealed under a key and an IV opens under them to the plaintext, and
a changed tag does not open. -/
def Obligations.GcmOpenSeal : Prop :=
  ∀ (key iv aad pt : List Byte), (key.length = 16 ∨ key.length = 32) → iv.length = 12 →
    (gcmSeal key iv aad pt).1.length = pt.length ∧
    gcmOpen key iv aad (gcmSeal key iv aad pt).1 (gcmSeal key iv aad pt).2 = some pt ∧
    ∀ tag, tag ≠ (gcmSeal key iv aad pt).2 → gcmOpen key iv aad (gcmSeal key iv aad pt).1 tag = none

/-- R474: the error log holds 16 entries in arrival order, HEAD shows the oldest and POP removes it; an error that finds 16
entries is not recorded but counts in ERRLOG_OVF, and its event is raised all the same; LOG_FULL is LIVE exactly while the log
holds 16. -/
def Obligations.ErrorLog : Prop :=
  (∀ (x : BrgTx) (target reporter sub : Nat) (s : State), s.brg.log.length < 16 →
    ∃ t e, brgLog x target reporter sub s = t ∧ t.brg.log = s.brg.log ++ [e] ∧
      e.map (·.toNat) = [x.addr % 2 ^ 32, (x.code * 2 ^ 24 + x.ch % 16 * 2 ^ 20 + x.ty % 16 * 2 ^ 16 + target % 2048) % 2 ^ 32,
        reporter % 2048 * 2 ^ 16 + sub % 64 * 2 ^ 10 + x.tag % 1024, clkSub s.tim.wt] ∧
      rdWords t 0x00080710 4 = (padTo (t.brg.log.headD []) 4 0).take 4 ∧ rd t 0x00080700 = w32 t.brg.log.length ∧
      leafBit t (lfBrg 2) 1 = decide (16 ≤ t.brg.log.length)) ∧
  (∀ (x : BrgTx) (target reporter sub : Nat) (s : State), 16 ≤ s.brg.log.length →
    (brgLog x target reporter sub s).brg.log = s.brg.log ∧ (brgLog x target reporter sub s).regs = s.regs ∧
    counter (brgLog x target reporter sub s) (brgCtr 6) = (counter s (brgCtr 6) + 1) % 2 ^ 64) ∧
  (∀ (x : BrgTx) (target reporter sub : Nat) (s : State),
    leafBit (brgReadFailed x target reporter sub s) (lfBrg 0) 0 = true) ∧
  (∀ (q : Requester) (s : State), hostOrKiln q = true → s.brg.log.length ≤ 16 →
    ∃ t, exec (.brgErrlogPop q) s = .next t ∧ t.brg.log = s.brg.log.drop 1 ∧
      rdWords t 0x00080710 4 = (padTo (t.brg.log.headD []) 4 0).take 4 ∧ rd t 0x00080700 = w32 t.brg.log.length ∧
      leafBit t (lfBrg 2) 1 = false)

/-- R532: a group is pending exactly while one of its leaves has STATUS and ENABLE; CRZ_GRP_PEND0 and 1 show the groups 0 to 31
and 32 to 63 to any reader that reaches them; a leaf whose ENABLE is 0 is not forwarded over the Coil. -/
def Obligations.GroupPending : Prop :=
  (∀ (g : Nat) (s : State), grpPending s g = true ↔
    ∃ b, b < 32 ∧ leafBit s (32 * g + b) 0 = true ∧ leafBit s (32 * g + b) 2 = true) ∧
  (∀ (q : Requester) (s : State), q = .host 0 ∨ q = .kiln → injArmed s 0x16 = none →
    (∃ t, exec (.entrySnapshotRead q 0x00010080) s = .next t ∧ t.regs = s.regs ∧
      ∀ g, g < 32 → bit t.rdata g = grpPending s g) ∧
    (∃ t, exec (.entrySnapshotRead q 0x00010084) s = .next t ∧ t.regs = s.regs ∧
      ∀ g, g < 32 → bit t.rdata g = grpPending s (32 + g))) ∧
  (∀ (l : Nat) (s : State), leafBit s l 2 = false → forwardEvent l s = s) ∧
  (∀ (l : Nat) (s : State), mgrDid s ≠ 0 → leafBit s l 2 = true →
    nbit ((rd s 0x00090320).toNat + 2 ^ 32 * (rd s 0x00090324).toNat) (l / 32) = true →
    counter (forwardEvent l s) 0x00080900 = (counter s 0x00080900 + 1) % 2 ^ 64)
end

