-- ==== Sys2Proof/Laws/CanonBase.lean ====
section
/-! SUPPORT. Sys2Proof/Laws/CanonBase.lean: how a property of states passes through pairs, options, branches and folds, and
the canonical form of the stores under the operations that write them. -/

namespace Sys2Proof.Machine
open Sys2Proof

/-- P holds of the second, or of the first component; of an option's content, if there is any. -/
def InR {α β : Type} (P : β → Prop) (p : α × β) : Prop := P p.2
def InL {α β : Type} (P : α → Prop) (p : α × β) : Prop := P p.1
def InO {α : Type} (P : α → Prop) (o : Option α) : Prop := ∀ x, o = some x → P x
/-- A function keeps P. -/
def KeepsC (f : State → State) : Prop := ∀ s, s.Canon → (f s).Canon

theorem inR_mk {α β : Type} {P : β → Prop} {a : α} {b : β} (h : P b) : InR P (a, b) := h
theorem inL_mk {α β : Type} {P : α → Prop} {a : α} {b : β} (h : P a) : InL P (a, b) := h
theorem inR_snd {α β : Type} {P : β → Prop} {p : α × β} (h : InR P p) : P p.2 := h
theorem inL_fst {α β : Type} {P : α → Prop} {p : α × β} (h : InL P p) : P p.1 := h
theorem inO_some {α : Type} {P : α → Prop} {a : α} (h : P a) : InO P (some a) := by
  intro x hx
  cases hx
  exact h
theorem inO_none {α : Type} {P : α → Prop} : InO P (none : Option α) := by
  intro x hx
  cases hx
theorem getD_of {α : Type} {P : α → Prop} {o : Option α} {d : α} (h : InO P o) (hd : P d) : P (o.getD d) := by
  cases o with
  | none => exact hd
  | some a => exact h a rfl
theorem ite_of {α : Type} {P : α → Prop} {c : Prop} [Decidable c] {a b : α} (ha : P a) (hb : P b) :
    P (if c then a else b) := by
  split
  · exact ha
  · exact hb
theorem of_eq {α : Type} {P : α → Prop} {d p : α} (e : d = p) (h : P d) : P p := e ▸ h
theorem foldl_of {α σ : Type} {P : σ → Prop} {f : σ → α → σ} {l : List α} {s : σ} (h : P s)
    (hf : ∀ s a, P s → P (f s a)) : P (l.foldl f s) := by
  induction l generalizing s with
  | nil => exact h
  | cons a l ih => exact ih (hf s a h)
theorem forN_of {σ : Type} {P : σ → Prop} {n lo : Nat} {f : Nat → σ → σ} {s : σ} (h : P s)
    (hf : ∀ k s, P s → P (f k s)) : P (forN n lo f s) := by
  induction n generalizing lo s with
  | zero => exact h
  | succ n ih => exact ih (hf lo s h)
theorem goes_next {P : State → Prop} {t : State} (h : P t) : Goes P (.next t) := h

/-- A state with the same stores. -/
theorem canon_same {s t : State} (h : s.Canon) (h1 : t.regs = s.regs) (h2 : t.counters = s.counters)
    (h3 : t.shadows = s.shadows) (h4 : t.mirror = s.mirror) (h5 : t.flash = s.flash) : t.Canon := by
  obtain ⟨a, b, w, c, d, e⟩ := h
  exact ⟨h1 ▸ a, h2 ▸ b, h2 ▸ w, h3 ▸ c, h4 ▸ d, h5 ▸ e⟩

/-- A state with the stores of another one. -/
theorem canon_mk {pending : List Instr} {now : Nat} {slotArgs : Tbl (List Word)} {rdata : Word} {out : List Out}
    {fresh : Nat} {ing : Tbl (List Pkt)} {eq : Tbl (List Pkt)} {cfg : Cfg} {tim : Tim} {cones : Tbl Cone} {lockgrps : Tbl
    LockGrp} {fxp : Tbl FxpPort} {fq : Tbl (List FxpItem)} {mac : Tbl Mac} {wdgBad : List (Nat × Nat)} {pol : Tbl
    PolState} {badRules : List Nat} {tbl : Tbls} {srt : Srt} {rfx : Rfx} {shf : Shf} {recirc : Tbl (List Pkt)} {mcStage :
    Tbl Word} {glz : Glz} {sag : Sag} {nmw : Nmw} {qps : Tbl Qp} {brg : Brg} {col : Coil} {kiln : Kiln} {foot : Foot} {crz
    : Crz} {boot : Boot} {upd : Upd}
    {s : State} (h : s.Canon) : (State.mk pending now s.regs s.counters s.shadows s.mirror slotArgs rdata out fresh
    ing eq cfg tim cones lockgrps fxp fq mac wdgBad pol badRules tbl srt rfx shf recirc mcStage glz sag nmw qps brg col
    kiln foot crz s.flash boot upd).Canon :=
  ⟨h.1, h.2, h.3, h.4, h.5, h.6⟩

theorem keepsC_app {f : State → State} {s : State} (hf : KeepsC f) (h : s.Canon) : (f s).Canon := hf s h
theorem inO_map {α β : Type} {P : β → Prop} {f : α → β} {o : Option α} (h : ∀ a, P (f a)) : InO P (o.map f) := by
  cases o with
  | none => exact inO_none
  | some a => exact inO_some (h a)

theorem inO_map_of {α β : Type} {Q : α → Prop} {P : β → Prop} {f : α → β} {o : Option α} (h : InO Q o)
    (hf : ∀ a, Q a → P (f a)) : InO P (o.map f) := by
  cases o with
  | none => exact inO_none
  | some a => exact inO_some (hf a (h a rfl))

/-! ### Tables -/

theorem tblSorted_cons {α : Type} {k : Nat} {v : α} {t : Tbl α} :
    tblSorted ((k, v) :: t) = true ↔ (∀ e ∈ t, k < e.1) ∧ tblSorted t = true := by
  induction t generalizing k v with
  | nil => simp [tblSorted]
  | cons e t ih =>
    obtain ⟨b, y⟩ := e
    constructor
    · intro h
      simp only [tblSorted, Bool.and_eq_true, decide_eq_true_eq] at h
      refine ⟨fun e he => ?_, h.2⟩
      rcases List.mem_cons.1 he with rfl | he
      · exact h.1
      · exact Nat.lt_trans h.1 ((ih.1 h.2).1 e he)
    · intro ⟨h1, h2⟩
      simp only [tblSorted, Bool.and_eq_true, decide_eq_true_eq]
      exact ⟨h1 (b, y) (List.mem_cons_self), h2⟩

theorem tblSorted_filter {α : Type} {t : Tbl α} (p : Nat × α → Bool) (h : tblSorted t = true) :
    tblSorted (t.filter p) = true := by
  induction t with
  | nil => exact h
  | cons e t ih =>
    obtain ⟨k, v⟩ := e
    obtain ⟨h1, h2⟩ := tblSorted_cons.1 h
    rw [List.filter_cons]
    split
    · exact tblSorted_cons.2 ⟨fun e he => h1 e (List.mem_filter.1 he).1, ih h2⟩
    · exact ih h2

theorem tblSet_mem {α : Type} {t : Tbl α} {i : Nat} {v : α} {e : Nat × α} (h : e ∈ tblSet t i v) :
    e = (i, v) ∨ e ∈ t := by
  induction t with
  | nil => simpa [tblSet] using h
  | cons x t ih =>
    obtain ⟨k, y⟩ := x
    simp only [tblSet] at h
    split at h
    · rcases List.mem_cons.1 h with h | h
      · exact .inl h
      · exact .inr h
    · split at h
      · rcases List.mem_cons.1 h with h | h
        · exact .inl h
        · exact .inr (List.mem_cons_of_mem _ h)
      · rcases List.mem_cons.1 h with h | h
        · exact .inr (h ▸ List.mem_cons_self)
        · rcases ih h with h | h
          · exact .inl h
          · exact .inr (List.mem_cons_of_mem _ h)

theorem tblSorted_set {α : Type} {t : Tbl α} {i : Nat} {v : α} (h : tblSorted t = true) :
    tblSorted (tblSet t i v) = true := by
  induction t with
  | nil => rfl
  | cons x t ih =>
    obtain ⟨k, y⟩ := x
    obtain ⟨h1, h2⟩ := tblSorted_cons.1 h
    simp only [tblSet]
    split
    · rename_i hi
      refine tblSorted_cons.2 ⟨fun e he => ?_, h⟩
      rcases List.mem_cons.1 he with rfl | he
      · exact hi
      · exact Nat.lt_trans hi (h1 e he)
    · split
      · rename_i hk
        subst hk
        exact tblSorted_cons.2 ⟨h1, h2⟩
      · rename_i hi hk
        refine tblSorted_cons.2 ⟨fun e he => ?_, ih h2⟩
        rcases tblSet_mem he with rfl | he
        · exact Nat.lt_of_le_of_ne (Nat.le_of_not_lt hi) (fun e => hk e.symm)
        · exact h1 e he

theorem tblCanon_filter {α : Type} [DecidableEq α] {u : Nat → α} {t : Tbl α} (p : Nat × α → Bool)
    (h : tblCanon u t = true) : tblCanon u (t.filter p) = true := by
  simp only [tblCanon, Bool.and_eq_true, List.all_eq_true] at h ⊢
  exact ⟨tblSorted_filter p h.1, fun e he => h.2 e (List.mem_filter.1 he).1⟩

theorem tblCanon_erase {α : Type} [DecidableEq α] {u : Nat → α} {t : Tbl α} (i : Nat)
    (h : tblCanon u t = true) : tblCanon u (tblErase t i) = true := tblCanon_filter _ h

theorem tblCanon_set {α : Type} [DecidableEq α] {u : Nat → α} {t : Tbl α} {i : Nat} {v : α}
    (h : tblCanon u t = true) (hv : v ≠ u i) : tblCanon u (tblSet t i v) = true := by
  simp only [tblCanon, Bool.and_eq_true, List.all_eq_true] at h ⊢
  refine ⟨tblSorted_set h.1, fun e he => ?_⟩
  rcases tblSet_mem he with rfl | he
  · simp [hv]
  · exact h.2 e he

/-! ### The operations that write the stores -/

theorem wr_canon {k : Nat} {w : Word} {s : State} (h : s.Canon) : (wr k w s).Canon := by
  refine ⟨?_, h.2, h.3, h.4, tblCanon_erase _ h.5, h.6⟩
  show tblCanon resetWord (putWord s.regs k w) = true
  rw [putWord]
  split
  · exact tblCanon_erase _ h.1
  · exact tblCanon_set h.1 (by assumption)

theorem setShadow_canon {k : Nat} {w : Word} {s : State} (h : s.Canon) : (setShadow k w s).Canon := by
  refine ⟨h.1, h.2, h.3, ?_, h.5, h.6⟩
  show tblCanon _ (if w = 0 then tblErase s.shadows k else tblSet s.shadows k w) = true
  split
  · exact tblCanon_erase _ h.4
  · exact tblCanon_set h.4 (by assumption)

theorem bumpN_canon {k n : Nat} {s : State} (h : s.Canon) : (bumpN k n s).Canon := by
  have hw : ∀ e ∈ tblPut s.counters k ((counter s k + n) % 2 ^ 64), e.2 < 2 ^ 64 := by
    intro e he
    have old : ∀ e ∈ s.counters, e.2 < 2 ^ 64 := by
      intro e he
      have := List.all_eq_true.1 h.3 e he
      simpa using this
    rw [tblPut] at he
    split at he
    · exact old e (List.mem_filter.1 he).1
    · rcases tblSet_mem he with rfl | he
      · exact Nat.mod_lt _ (by decide)
      · exact old e he
  refine ⟨h.1, ?_, ?_, h.4, h.5, h.6⟩
  · show tblCanon _ (tblPut s.counters k ((counter s k + n) % 2 ^ 64)) = true
    rw [tblPut]
    split
    · exact tblCanon_erase _ h.2
    · exact tblCanon_set h.2 (by assumption)
  · exact List.all_eq_true.2 (fun e he => by simpa using hw e he)

theorem dropWords_canon {p : Nat → Bool} {s : State} (h : s.Canon) : (dropWords p s).Canon :=
  ⟨tblCanon_filter _ h.1, h.2, h.3, h.4, h.5, h.6⟩

theorem clearCounter_canon {k : Nat} {s : State} (h : s.Canon) : (clearCounter k s).Canon := by
  refine ⟨h.1, tblCanon_erase _ h.2, ?_, h.4, h.5, h.6⟩
  exact List.all_eq_true.2 (fun e he => List.all_eq_true.1 h.3 e (List.mem_filter.1 he).1)

theorem setMirror_canon {k : Nat} {d : Word} {s : State} (h : s.Canon) : (setMirror k d s).Canon := by
  refine ⟨h.1, h.2, h.3, h.4, ?_, h.6⟩
  show tblCanon _ (if d = 0 then tblErase s.mirror k else tblSet s.mirror k d) = true
  split
  · exact tblCanon_erase _ h.5
  · exact tblCanon_set h.5 (by assumption)

theorem mirrorAgree_canon {p : Nat → Bool} {s : State} (h : s.Canon) : (mirrorAgree p s).Canon :=
  ⟨h.1, h.2, h.3, h.4, tblCanon_filter _ h.5, h.6⟩

theorem setBank_canon {b : Nat} {k : Bank} {s : State} (h : s.Canon) : (setBank b k s).Canon := by
  refine ⟨h.1, h.2, h.3, h.4, h.5, ?_⟩
  show (s.flash.set b k).length = 2
  rw [List.length_set]
  exact h.6

theorem id_canon {s : State} (h : s.Canon) : (id s).Canon := h

theorem done_canon {s t : State} (h : t.Canon) : Goes State.Canon (done s t) :=
  canon_same h rfl rfl rfl rfl rfl

theorem reset_canon : State.reset.Canon := by
  constructor <;> rfl

end Sys2Proof.Machine
end

