-- ==== Sys2Proof/Laws/Canon1.lean ====
section
/-! SUPPORT. Sys2Proof/Laws/Canon1.lean: every operation keeps the canonical form of the stores (State.Canon), one lemma per operation, part 1. -/

set_option linter.unusedVariables false

namespace Sys2Proof.Machine
open Sys2Proof

theorem bump_canon {k : Nat} {s : Machine.State} (hc1 : s.Canon) : (bump k s).Canon := by
  unfold bump
  refine bumpN_canon ?_
  exact hc1

theorem emit_canon {o : Out} {s : Machine.State} (hc1 : s.Canon) : (emit o s).Canon := by
  unfold emit
  refine canon_mk ?_
  exact hc1

theorem wrB_canon {k : Nat} {b : Nat} {v : Bool} {s : Machine.State} (hc1 : s.Canon) : (wrB k b v s).Canon := by
  unfold wrB
  refine wr_canon ?_
  exact hc1

theorem setMac_canon {n : Nat} {m : Mac} {s : Machine.State} (hc1 : s.Canon) : (setMac n m s).Canon := by
  unfold setMac
  refine canon_mk ?_
  exact hc1

theorem lpiWake_canon {n : Nat} {s : Machine.State} (hc1 : s.Canon) : (lpiWake n s).Canon := by
  unfold lpiWake
  refine ite_of ?_ ?_
  · refine wrB_canon ?_
    refine setMac_canon ?_
    exact hc1
  · exact hc1

theorem pfcSend_canon {n : Nat} {vec : Nat} {time : Nat → Nat} {s : Machine.State} (hc1 : s.Canon) :
    (pfcSend n vec time s).Canon := by
  unfold pfcSend
  refine ite_of ?_ ?_
  · exact hc1
  · refine bump_canon ?_
    refine emit_canon ?_
    refine lpiWake_canon ?_
    exact hc1

theorem pfcCheck_canon {n : Nat} {s : Machine.State} (hc1 : s.Canon) : (pfcCheck n s).Canon := by
  unfold pfcCheck
  extract_lets +onlyGivenNames y0
  clear_value y0
  refine ite_of ?_ ?_
  · exact hc1
  · extract_lets +onlyGivenNames y1
    clear_value y1
    extract_lets +onlyGivenNames y2
    clear_value y2
    extract_lets +onlyGivenNames y3
    clear_value y3
    extract_lets +onlyGivenNames y4
    clear_value y4
    extract_lets +onlyGivenNames y5
    clear_value y5
    extract_lets +onlyGivenNames y6
    clear_value y6
    extract_lets +onlyGivenNames y7
    have h8 : State.Canon y7 := by
      unfold y7
      refine ite_of ?_ ?_
      · exact hc1
      · refine pfcSend_canon ?_
        exact hc1
    clear_value y7
    extract_lets +onlyGivenNames y9
    have h10 : State.Canon y9 := by
      unfold y9
      refine pfcSend_canon ?_
      exact h8
    clear_value y9
    extract_lets +onlyGivenNames y11
    clear_value y11
    refine setMac_canon ?_
    exact h10

theorem setLeafBit_canon {l : Nat} {reg : Nat} {v : Bool} {s : Machine.State} (hc1 : s.Canon) :
    (setLeafBit l reg v s).Canon := by
  unfold setLeafBit
  split
  · rename_i v0 v1 v2 v3
    refine wrB_canon ?_
    exact hc1
  · rename_i v4 v5
    exact hc1

theorem setPkt_canon {pid : Nat} {v : PktCells} {s : Machine.State} (hc1 : s.Canon) : (setPkt pid v s).Canon := by
  unfold setPkt
  refine canon_mk ?_
  exact hc1

theorem shfOpen_canon {infl : Bool} {p : Pkt} {s : Machine.State} (hc1 : s.Canon) :
    InR State.Canon (shfOpen infl p s) := by
  unfold shfOpen
  extract_lets +onlyGivenNames y0
  clear_value y0
  extract_lets +onlyGivenNames y1
  clear_value y1
  refine inR_mk ?_
  refine setPkt_canon ?_
  refine canon_mk ?_
  exact hc1

theorem shfUnref_canon {pid : Nat} {s : Machine.State} (hc1 : s.Canon) : (shfUnref pid s).Canon := by
  unfold shfUnref
  refine ite_of ?_ ?_
  · exact hc1
  · refine ite_of ?_ ?_
    · refine canon_mk ?_
      exact hc1
    · refine setPkt_canon ?_
      exact hc1

theorem cbsUpdate_canon {n : Nat} {s : Machine.State} (hc1 : s.Canon) : (cbsUpdate n s).Canon := by
  unfold cbsUpdate
  extract_lets +onlyGivenNames y0
  clear_value y0
  refine ite_of ?_ ?_
  · exact hc1
  · extract_lets +onlyGivenNames y1
    clear_value y1
    refine ite_of ?_ ?_
    · exact hc1
    · extract_lets +onlyGivenNames y2
      clear_value y2
      refine setMac_canon ?_
      exact hc1

theorem shfTouch_canon {g : Nat} {s : Machine.State} (hc1 : s.Canon) : (shfTouch g s).Canon := by
  unfold shfTouch
  refine ite_of ?_ ?_
  · refine lpiWake_canon ?_
    refine cbsUpdate_canon ?_
    exact hc1
  · exact hc1

theorem injDone_canon {s : Machine.State} (hc1 : s.Canon) : (injDone s).Canon := by
  unfold injDone
  refine wrB_canon ?_
  refine wrB_canon ?_
  refine canon_mk ?_
  exact hc1

theorem setEq_canon {g : Nat} {c : Nat} {l : List Pkt} {s : Machine.State} (hc1 : s.Canon) : (setEq g c l s).Canon := by
  unfold setEq
  refine canon_mk ?_
  exact hc1

theorem shfPut_canon {g : Nat} {c : Nat} {p : Pkt} {s : Machine.State} (hc1 : s.Canon) : (shfPut g c p s).Canon := by
  unfold shfPut
  extract_lets +onlyGivenNames y0
  clear_value y0
  extract_lets +onlyGivenNames y1
  clear_value y1
  extract_lets +onlyGivenNames y2
  have h3 : State.Canon y2 := by
    unfold y2
    refine bump_canon ?_
    refine wr_canon ?_
    exact hc1
  clear_value y2
  split
  · rename_i v4 v5 v6 v7
    refine ite_of ?_ ?_
    · refine shfUnref_canon ?_
      refine injDone_canon ?_
      exact h3
    · refine setEq_canon ?_
      exact h3
  · rename_i v8 v9
    refine setEq_canon ?_
    exact h3

theorem shfAdmit_canon {g : Nat} {c : Nat} {p : Pkt} {single : Bool} {s : Machine.State} (hc1 : s.Canon) :
    InR State.Canon (shfAdmit g c p single s) := by
  unfold shfAdmit
  extract_lets +onlyGivenNames y0
  clear_value y0
  extract_lets +onlyGivenNames y1
  clear_value y1
  extract_lets +onlyGivenNames y2
  have h3 : State.Canon y2 := by
    unfold y2
    refine setPkt_canon ?_
    exact hc1
  clear_value y2
  extract_lets +onlyGivenNames y4
  clear_value y4
  split
  · rename_i v5 v6
    refine inR_mk ?_
    exact h3
  · rename_i v7 v8 v9
    extract_lets +onlyGivenNames y10
    have h11 : State.Canon y10 := by
      unfold y10
      refine shfTouch_canon ?_
      exact h3
    clear_value y10
    refine ite_of ?_ ?_
    · refine inR_mk ?_
      refine shfPut_canon ?_
      refine bump_canon ?_
      refine setPkt_canon ?_
      exact h11
    · extract_lets +onlyGivenNames y12
      clear_value y12
      refine inR_mk ?_
      refine shfPut_canon ?_
      refine setPkt_canon ?_
      exact h11

theorem setResidue_canon {c : Nat} {l : List (Nat × Pkt)} {s : Machine.State} (hc1 : s.Canon) :
    (setResidue c l s).Canon := by
  unfold setResidue
  refine canon_mk ?_
  exact hc1

theorem residueAdmit_canon {g : Nat} {c : Nat} {a : Nat} {a3 : Machine.State} (hc1 : a3.Canon) :
    (residueAdmit g c a a3).Canon := by
  fun_induction residueAdmit g c a a3
  · rename_i v0
    exact hc1
  · rename_i v1 v2 v3
    exact hc1
  · rename_i v4 v5 v6 v7 v8 v9 v10 v11
    have h12 : State.Canon v9 := by
      refine (of_eq (P := (InR State.Canon)) v10 ?_)
      refine shfAdmit_canon ?_
      refine setResidue_canon ?_
      exact hc1
    refine v11 ?_
    exact h12
  · rename_i v13 v14 v15 v16 v17 v18 v19
    have h20 : State.Canon v18 := by
      refine (of_eq (P := (InR State.Canon)) v19 ?_)
      refine shfAdmit_canon ?_
      refine setResidue_canon ?_
      exact hc1
    exact hc1

theorem shfOffer_canon {g : Nat} {c : Nat} {p : Pkt} {single : Bool} {s : Machine.State} (hc1 : s.Canon) :
    InR State.Canon (shfOffer g c p single s) := by
  unfold shfOffer
  extract_lets +onlyGivenNames y0
  have h1 : State.Canon y0 := by
    unfold y0
    refine residueAdmit_canon ?_
    exact hc1
  clear_value y0
  refine ite_of ?_ ?_
  · refine inR_mk ?_
    exact h1
  · refine shfAdmit_canon ?_
    exact h1

theorem setRsq_canon {q : Nat} {l : List Pkt} {s : Machine.State} (hc1 : s.Canon) : (setRsq q l s).Canon := by
  unfold setRsq
  refine canon_mk ?_
  exact hc1

theorem shfPop_canon {g : Nat} {c : Nat} {s : Machine.State} (hc1 : s.Canon) : (shfPop g c s).Canon := by
  unfold shfPop
  extract_lets +onlyGivenNames y0
  clear_value y0
  extract_lets +onlyGivenNames y1
  have h2 : State.Canon y1 := by
    unfold y1
    split
    · rename_i v3 v4 v5 v6
      refine setRsq_canon ?_
      exact hc1
    · rename_i v7 v8
      refine setEq_canon ?_
      exact hc1
  clear_value y1
  refine wr_canon ?_
  exact h2

theorem kilnTake_canon {a : Nat} {a1 : Machine.State} (hc1 : a1.Canon) : (kilnTake a a1).Canon := by
  fun_induction kilnTake a a1
  · rename_i v0
    exact hc1
  · rename_i v1 v2 v3
    exact hc1
  · rename_i v4 v5 v6 v7 v8
    exact hc1
  · rename_i v9 v10 v11 v12 v13 v14 v15
    refine v15 ?_
    refine shfUnref_canon ?_
    refine emit_canon ?_
    refine shfPop_canon ?_
    exact hc1

theorem shfTry_canon {g : Nat} {c : Nat} {p : Pkt} {s : Machine.State} (hc1 : s.Canon) :
    InR State.Canon (shfTry g c p s) := by
  unfold shfTry
  split
  rename_i v0 v1 v2 v3
  have h4 : State.Canon v2 := by
    refine (of_eq (P := (InR State.Canon)) v3 ?_)
    refine ite_of ?_ ?_
    · refine shfOpen_canon ?_
      exact hc1
    · refine inR_mk ?_
      exact hc1
  refine ite_of ?_ ?_
  · refine inR_mk ?_
    refine bump_canon ?_
    refine shfUnref_canon ?_
    exact h4
  · split
    · rename_i v5 v6 v7
      have h8 : State.Canon v6 := by
        refine (of_eq (P := (InR State.Canon)) v7 ?_)
        refine shfOffer_canon ?_
        exact h4
      refine inR_mk ?_
      refine ite_of ?_ ?_
      · refine kilnTake_canon ?_
        exact h8
      · exact h8
    · rename_i v9 v10 v11
      have h12 : State.Canon v10 := by
        refine (of_eq (P := (InR State.Canon)) v11 ?_)
        refine shfOffer_canon ?_
        exact h4
      refine inR_mk ?_
      refine bump_canon ?_
      refine shfUnref_canon ?_
      exact h12

theorem shfEnqueue_canon {g : Nat} {c : Nat} {p : Pkt} {s : Machine.State} (hc1 : s.Canon) :
    (shfEnqueue g c p s).Canon := by
  unfold shfEnqueue
  refine inR_snd ?_
  refine shfTry_canon ?_
  exact hc1

theorem coilOnPort_canon {op : Nat} {n : Nat} {cls : Nat} {da : List Byte} {tag : List Byte} {ety : Nat} {frame : List Byte} {s : Machine.State} (hc1 : s.Canon) :
    (coilOnPort op n cls da tag ety frame s).Canon := by
  unfold coilOnPort
  extract_lets +onlyGivenNames y0
  clear_value y0
  refine ite_of ?_ ?_
  · refine bump_canon ?_
    exact hc1
  · refine shfEnqueue_canon ?_
    refine bump_canon ?_
    exact hc1

theorem coilOnLinkOp_canon {op : Nat} {l : Nat} {cls : Nat} {frame : List Byte} {s : Machine.State} (hc1 : s.Canon) :
    (coilOnLinkOp op l cls frame s).Canon := by
  unfold coilOnLinkOp
  split
  · rename_i v0 v1 v2
    refine coilOnPort_canon ?_
    exact hc1
  · rename_i v3 v4
    extract_lets +onlyGivenNames y5
    clear_value y5
    refine coilOnPort_canon ?_
    exact hc1

theorem coilOnLink_canon {l : Nat} {cls : Nat} {frame : List Byte} {s : Machine.State} (hc1 : s.Canon) :
    (coilOnLink l cls frame s).Canon := by
  unfold coilOnLink
  refine coilOnLinkOp_canon ?_
  exact hc1

theorem coilToward_canon {did : Nat} {cls : Nat} {frame : List Byte} {s : Machine.State} (hc1 : s.Canon) :
    (coilToward did cls frame s).Canon := by
  unfold coilToward
  split
  · rename_i v0 v1 v2
    refine coilOnLink_canon ?_
    exact hc1
  · rename_i v3 v4
    split
    · rename_i v5 v6 v7
      refine coilOnPort_canon ?_
      exact hc1
    · rename_i v8 v9
      refine bump_canon ?_
      exact hc1

theorem coilSend_canon {did : Nat} {svc : Nat} {cls : Nat} {wa : Nat} {wb : Nat} {payload : List Byte} {s : Machine.State} (hc1 : s.Canon) :
    (coilSend did svc cls wa wb payload s).Canon := by
  unfold coilSend
  refine coilToward_canon ?_
  exact hc1

theorem forwardEvent_canon {l : Nat} {s : Machine.State} (hc1 : s.Canon) : (forwardEvent l s).Canon := by
  unfold forwardEvent
  refine ite_of ?_ ?_
  · refine coilSend_canon ?_
    refine bump_canon ?_
    exact hc1
  · exact hc1

theorem sendVec_canon {fn : Nat} {vec : Nat} {s : Machine.State} (hc1 : s.Canon) : (sendVec fn vec s).Canon := by
  unfold sendVec
  refine ite_of ?_ ?_
  · refine emit_canon ?_
    refine wrB_canon ?_
    exact hc1
  · refine emit_canon ?_
    exact hc1

theorem footFault_canon {b : Nat} {s : Machine.State} (hc1 : s.Canon) : (footFault b s).Canon := by
  unfold footFault
  refine wrB_canon ?_
  exact hc1

theorem settleGroup_canon {g : Nat} {s : Machine.State} (hc1 : s.Canon) : (settleGroup g s).Canon := by
  unfold settleGroup
  extract_lets +onlyGivenNames y0
  clear_value y0
  extract_lets +onlyGivenNames y1
  clear_value y1
  extract_lets +onlyGivenNames y2
  clear_value y2
  extract_lets +onlyGivenNames y3
  have h4 : State.Canon y3 := by
    unfold y3
    refine ite_of ?_ ?_
    · refine sendVec_canon ?_
      refine canon_mk ?_
      exact hc1
    · exact hc1
  clear_value y3
  extract_lets +onlyGivenNames y5
  clear_value y5
  extract_lets +onlyGivenNames y6
  have h7 : State.Canon y6 := by
    unfold y6
    refine ite_of ?_ ?_
    · refine emit_canon ?_
      refine canon_mk ?_
      exact h4
    · exact h4
  clear_value y6
  refine ite_of ?_ ?_
  · refine footFault_canon ?_
    exact h7
  · exact h7

theorem raiseLeaf_canon {l : Nat} {s : Machine.State} (hc1 : s.Canon) : (raiseLeaf l s).Canon := by
  unfold raiseLeaf
  extract_lets +onlyGivenNames y0
  clear_value y0
  extract_lets +onlyGivenNames y1
  have h2 : State.Canon y1 := by
    unfold y1
    refine setLeafBit_canon ?_
    exact hc1
  clear_value y1
  extract_lets +onlyGivenNames y3
  have h4 : State.Canon y3 := by
    unfold y3
    refine ite_of ?_ ?_
    · exact h2
    · refine forwardEvent_canon ?_
      exact h2
  clear_value y3
  refine settleGroup_canon ?_
  exact h4

theorem wrF_canon {k : Nat} {hi : Nat} {lo : Nat} {v : Nat} {s : Machine.State} (hc1 : s.Canon) :
    (wrF k hi lo v s).Canon := by
  unfold wrF
  refine wr_canon ?_
  exact hc1

theorem safePads_canon {n : Nat} {s : Machine.State} (hc1 : s.Canon) : (safePads n s).Canon := by
  unfold safePads
  extract_lets +onlyGivenNames y0
  clear_value y0
  split
  · rename_i v1 v2
    extract_lets +onlyGivenNames y3
    have h4 : State.Canon y3 := by
      unfold y3
      refine emit_canon ?_
      exact hc1
    clear_value y3
    refine ite_of ?_ ?_
    · refine emit_canon ?_
      exact h4
    · exact h4
  · rename_i v5 v6
    refine emit_canon ?_
    exact hc1
  · rename_i v7 v8
    refine emit_canon ?_
    exact hc1
  · rename_i v9 v10
    extract_lets +onlyGivenNames y11
    have h12 : State.Canon y11 := by
      unfold y11
      refine emit_canon ?_
      refine emit_canon ?_
      exact hc1
    clear_value y11
    refine ite_of ?_ ?_
    · refine forN_of ?_ ?_
      · exact h12
      · intro x13
        intro x14
        intro h15
        refine emit_canon ?_
        exact h15
    · exact h12
  · rename_i v16 v17
    refine forN_of ?_ ?_
    · exact hc1
    · intro x18
      intro x19
      intro h20
      refine ite_of ?_ ?_
      · refine emit_canon ?_
        exact h20
      · exact h20
  · rename_i v21 v22 v23 v24 v25 v26
    exact hc1

theorem setPort_canon {n : Nat} {p : FxpPort} {s : Machine.State} (hc1 : s.Canon) : (setPort n p s).Canon := by
  unfold setPort
  refine canon_mk ?_
  exact hc1

theorem setFxq_canon {n : Nat} {q : Nat} {l : List FxpItem} {s : Machine.State} (hc1 : s.Canon) :
    (setFxq n q l s).Canon := by
  unfold setFxq
  refine canon_mk ?_
  exact hc1

theorem requeuePending_canon {n : Nat} {s : Machine.State} (hc1 : s.Canon) : (requeuePending n s).Canon := by
  unfold requeuePending
  split
  · rename_i v0 v1 v2 v3
    extract_lets +onlyGivenNames y4
    have h5 : State.Canon y4 := by
      unfold y4
      refine ite_of ?_ ?_
      · refine emit_canon ?_
        exact hc1
      · exact hc1
    clear_value y4
    refine setPort_canon ?_
    refine setFxq_canon ?_
    exact h5
  · rename_i v6 v7
    exact hc1

theorem setLive_canon {l : Nat} {v : Bool} {s : Machine.State} (hc1 : s.Canon) : (setLive l v s).Canon := by
  unfold setLive
  refine setLeafBit_canon ?_
  exact hc1

theorem enterSafe_canon {cause : Nat} {s : Machine.State} (hc1 : s.Canon) : (enterSafe cause s).Canon := by
  unfold enterSafe
  extract_lets +onlyGivenNames y0
  have h1 : State.Canon y0 := by
    unfold y0
    refine wrF_canon ?_
    refine wrB_canon ?_
    exact hc1
  clear_value y0
  extract_lets +onlyGivenNames y2
  have h3 : State.Canon y2 := by
    unfold y2
    refine forN_of ?_ ?_
    · exact h1
    · intro x4
      intro x5
      intro h6
      refine safePads_canon ?_
      refine requeuePending_canon ?_
      exact h6
  clear_value y2
  refine raiseLeaf_canon ?_
  refine setLive_canon ?_
  exact h3

theorem raise_canon {l : Nat} {s : Machine.State} (hc1 : s.Canon) : (raise l s).Canon := by
  unfold raise
  extract_lets +onlyGivenNames y0
  clear_value y0
  extract_lets +onlyGivenNames y1
  have h2 : State.Canon y1 := by
    unfold y1
    refine raiseLeaf_canon ?_
    exact hc1
  clear_value y1
  refine ite_of ?_ ?_
  · refine enterSafe_canon ?_
    exact h2
  · exact h2

theorem raiseLive_canon {l : Nat} {s : Machine.State} (hc1 : s.Canon) : (raiseLive l s).Canon := by
  unfold raiseLive
  refine raise_canon ?_
  refine setLive_canon ?_
  exact hc1

theorem liveTo_canon {l : Nat} {v : Bool} {s : Machine.State} (hc1 : s.Canon) : (liveTo l v s).Canon := by
  unfold liveTo
  refine ite_of ?_ ?_
  · refine ite_of ?_ ?_
    · exact hc1
    · refine raiseLive_canon ?_
      exact hc1
  · refine setLive_canon ?_
    exact hc1

theorem wmSee_canon {b : Nat} {lvl : Nat} {s : Machine.State} (hc1 : s.Canon) : InL State.Canon (wmSee b lvl s) := by
  unfold wmSee
  refine ite_of ?_ ?_
  · extract_lets +onlyGivenNames y0
    clear_value y0
    extract_lets +onlyGivenNames y1
    clear_value y1
    extract_lets +onlyGivenNames y2
    clear_value y2
    extract_lets +onlyGivenNames y3
    clear_value y3
    extract_lets +onlyGivenNames y4
    clear_value y4
    extract_lets +onlyGivenNames y5
    have h6 : State.Canon y5 := by
      unfold y5
      refine wrF_canon ?_
      refine wrF_canon ?_
      exact hc1
    clear_value y5
    extract_lets +onlyGivenNames y7
    have h8 : State.Canon y7 := by
      unfold y7
      refine ite_of ?_ ?_
      · refine wrB_canon ?_
        refine wrB_canon ?_
        exact h6
      · exact h6
    clear_value y7
    extract_lets +onlyGivenNames y9
    have h10 : State.Canon y9 := by
      unfold y9
      refine ite_of ?_ ?_
      · refine wrB_canon ?_
        refine wrB_canon ?_
        exact h8
      · exact h8
    clear_value y9
    refine inL_mk ?_
    exact h10
  · refine inL_mk ?_
    exact hc1

theorem wmSettle_canon {s : Machine.State} (hc1 : s.Canon) : (wmSettle s).Canon := by
  unfold wmSettle
  refine forN_of ?_ ?_
  · exact hc1
  · intro x0
    intro x1
    intro h2
    refine ite_of ?_ ?_
    · split
      rename_i v3 v4 v5 v6
      have h7 : State.Canon v4 := by
        refine (of_eq (P := (InL State.Canon)) v6 ?_)
        refine wmSee_canon ?_
        exact h2
      extract_lets +onlyGivenNames y8
      have h9 : State.Canon y8 := by
        unfold y8
        refine setLive_canon ?_
        exact h7
      clear_value y8
      refine ite_of ?_ ?_
      · refine raise_canon ?_
        exact h9
      · exact h9
    · exact h2

theorem shfSettle_canon {s : Machine.State} (hc1 : s.Canon) : (shfSettle s).Canon := by
  unfold shfSettle
  extract_lets +onlyGivenNames y0
  have h1 : State.Canon y0 := by
    unfold y0
    refine forN_of ?_ ?_
    · exact hc1
    · intro x2
      intro x3
      intro h4
      refine pfcCheck_canon ?_
      exact h4
  clear_value y0
  extract_lets +onlyGivenNames y5
  have h6 : State.Canon y5 := by
    unfold y5
    refine liveTo_canon ?_
    exact h1
  clear_value y5
  extract_lets +onlyGivenNames y7
  have h8 : State.Canon y7 := by
    unfold y7
    refine liveTo_canon ?_
    exact h6
  clear_value y7
  extract_lets +onlyGivenNames y9
  have h10 : State.Canon y9 := by
    unfold y9
    refine liveTo_canon ?_
    exact h8
  clear_value y9
  extract_lets +onlyGivenNames y11
  have h12 : State.Canon y11 := by
    unfold y11
    refine liveTo_canon ?_
    exact h10
  clear_value y11
  extract_lets +onlyGivenNames y13
  have h14 : State.Canon y13 := by
    unfold y13
    refine liveTo_canon ?_
    exact h12
  clear_value y13
  refine wmSettle_canon ?_
  exact h14

theorem setNcState_canon {c : Nat} {st : Nat} {s : Machine.State} (hc1 : s.Canon) : (setNcState c st s).Canon := by
  unfold setNcState
  refine wrF_canon ?_
  exact hc1

theorem setNc_canon {c : Nat} {v : NmwC} {s : Machine.State} (hc1 : s.Canon) : (setNc c v s).Canon := by
  unfold setNc
  refine canon_mk ?_
  exact hc1

theorem setCont_canon {i : Nat} {c : Cont} {s : Machine.State} (hc1 : s.Canon) : (setCont i c s).Canon := by
  unfold setCont
  refine canon_mk ?_
  exact hc1

theorem sendMade_canon {b : Nat} {i : Nat} {s : Machine.State} (hc1 : s.Canon) : (sendMade b i s).Canon := by
  unfold sendMade
  extract_lets +onlyGivenNames y0
  clear_value y0
  refine wr_canon ?_
  refine wr_canon ?_
  exact hc1

theorem ncLatch_canon {c : Nat} {bus : Option Nat} {s : Machine.State} (hc1 : s.Canon) : (ncLatch c bus s).Canon := by
  unfold ncLatch
  refine setNc_canon ?_
  exact hc1

theorem txWake_canon {n : Nat} {s : Machine.State} (hc1 : s.Canon) : (txWake n s).Canon := by
  unfold txWake
  split
  · rename_i v0 v1 v2
    refine ite_of ?_ ?_
    · refine ncLatch_canon ?_
      exact hc1
    · exact hc1
  · rename_i v3 v4
    exact hc1

theorem pwmTake_canon {n : Nat} {it : FxpItem} {s : Machine.State} (hc1 : s.Canon) : (pwmTake n it s).Canon := by
  unfold pwmTake
  extract_lets +onlyGivenNames y0
  clear_value y0
  extract_lets +onlyGivenNames y1
  clear_value y1
  extract_lets +onlyGivenNames y2
  clear_value y2
  refine ite_of ?_ ?_
  · refine raise_canon ?_
    refine bump_canon ?_
    exact hc1
  · extract_lets +onlyGivenNames y3
    clear_value y3
    refine bump_canon ?_
    refine setPort_canon ?_
    exact hc1

theorem fxpAppend_canon {n : Nat} {q : Nat} {it : FxpItem} {s : Machine.State} (hc1 : s.Canon) :
    (fxpAppend n q it s).Canon := by
  unfold fxpAppend
  extract_lets +onlyGivenNames y0
  have h1 : State.Canon y0 := by
    unfold y0
    refine txWake_canon ?_
    exact hc1
  clear_value y0
  refine ite_of ?_ ?_
  · refine pwmTake_canon ?_
    exact h1
  · refine ite_of ?_ ?_
    · refine setPort_canon ?_
      exact h1
    · refine setFxq_canon ?_
      exact h1

theorem fxpEnqueue_canon {b : Nat} {n : Nat} {q : Nat} {it : FxpItem} {s : Machine.State} (hc1 : s.Canon) :
    (fxpEnqueue b n q it s).Canon := by
  unfold fxpEnqueue
  extract_lets +onlyGivenNames y0
  clear_value y0
  refine ite_of ?_ ?_
  · refine bump_canon ?_
    exact hc1
  · split
    · rename_i v1 v2 v3
      refine bump_canon ?_
      refine setFxq_canon ?_
      refine txWake_canon ?_
      exact hc1
    · rename_i v4 v5
      refine ite_of ?_ ?_
      · extract_lets +onlyGivenNames y6
        have h7 : State.Canon y6 := by
          unfold y6
          refine raise_canon ?_
          refine bump_canon ?_
          exact hc1
        clear_value y6
        refine ite_of ?_ ?_
        · refine setFxq_canon ?_
          exact h7
        · exact h7
      · refine fxpAppend_canon ?_
        exact hc1

theorem formatDrop_canon {s : Machine.State} (hc1 : s.Canon) : (formatDrop s).Canon := by
  unfold formatDrop
  refine raise_canon ?_
  refine bump_canon ?_
  exact hc1

theorem shfArrive_canon {p : Pkt} {s : Machine.State} (hc1 : s.Canon) : InR State.Canon (shfArrive p s) := by
  unfold shfArrive
  refine ite_of ?_ ?_
  · refine inR_mk ?_
    refine bump_canon ?_
    exact hc1
  · split
    rename_i v0 v1 v2 v3
    have h4 : State.Canon v2 := by
      refine (of_eq (P := (InR State.Canon)) v3 ?_)
      refine shfOpen_canon ?_
      exact hc1
    refine inR_mk ?_
    exact h4

theorem ingAppend_canon {g : Nat} {p : Pkt} {s : Machine.State} (hc1 : s.Canon) : (ingAppend g p s).Canon := by
  unfold ingAppend
  refine canon_mk ?_
  exact hc1

theorem ingArrive_canon {g : Nat} {p : Pkt} {s : Machine.State} (hc1 : s.Canon) : (ingArrive g p s).Canon := by
  unfold ingArrive
  split
  · rename_i v0 v1 v2 v3
    have h4 : State.Canon v2 := by
      refine (of_eq (P := (InR State.Canon)) v3 ?_)
      refine shfArrive_canon ?_
      exact hc1
    refine ingAppend_canon ?_
    exact h4
  · rename_i v5 v6 v7
    have h8 : State.Canon v6 := by
      refine (of_eq (P := (InR State.Canon)) v7 ?_)
      refine shfArrive_canon ?_
      exact hc1
    exact h8

theorem handIn_canon {bytes : List Byte} {cls : Nat} {ts : Nat} {direct : Option (Nat × Nat)} {s : Machine.State} (hc1 : s.Canon) :
    (handIn bytes cls ts direct s).Canon := by
  unfold handIn
  refine ingArrive_canon ?_
  exact hc1

theorem deliver_canon {b : Nat} {dest : Nat} {txq : Nat} {o : OutFrame} {img : Option Nat} {s : Machine.State} (hc1 : s.Canon) :
    (deliver b dest txq o img s).Canon := by
  unfold deliver
  extract_lets +onlyGivenNames y0
  clear_value y0
  extract_lets +onlyGivenNames y1
  clear_value y1
  refine ite_of ?_ ?_
  · refine coilSend_canon ?_
    exact hc1
  · refine ite_of ?_ ?_
    · split
      · rename_i v2 v3 v4
        refine fxpEnqueue_canon ?_
        exact hc1
      · rename_i v5 v6
        refine formatDrop_canon ?_
        exact hc1
    · refine ite_of ?_ ?_
      · refine formatDrop_canon ?_
        exact hc1
      · refine ite_of ?_ ?_
        · refine handIn_canon ?_
          exact hc1
        · refine ite_of ?_ ?_
          · refine handIn_canon ?_
            exact hc1
          · refine ite_of ?_ ?_
            · refine shfEnqueue_canon ?_
              exact hc1
            · refine bump_canon ?_
              exact hc1

theorem containerSend_canon {b : Nat} {i : Nat} {s : Machine.State} (hc1 : s.Canon) : (containerSend b i s).Canon := by
  unfold containerSend
  extract_lets +onlyGivenNames y0
  clear_value y0
  refine ite_of ?_ ?_
  · exact hc1
  · extract_lets +onlyGivenNames y1
    clear_value y1
    extract_lets +onlyGivenNames y2
    clear_value y2
    extract_lets +onlyGivenNames y3
    have h4 : State.Canon y3 := by
      unfold y3
      refine setCont_canon ?_
      exact hc1
    clear_value y3
    extract_lets +onlyGivenNames y5
    have h6 : State.Canon y5 := by
      unfold y5
      refine bump_canon ?_
      refine sendMade_canon ?_
      exact h4
    clear_value y5
    refine deliver_canon ?_
    exact h6

theorem setPoolByte_canon {o : Nat} {v : Byte} {s : Machine.State} (hc1 : s.Canon) : (setPoolByte o v s).Canon := by
  unfold setPoolByte
  refine wrF_canon ?_
  exact hc1

theorem setImgBit_canon {base : Nat} {p : Nat} {v : Bool} {s : Machine.State} (hc1 : s.Canon) :
    (setImgBit base p v s).Canon := by
  unfold setImgBit
  refine setPoolByte_canon ?_
  exact hc1

theorem imgTake_canon {b : Nat} {i : Nat} {s : Machine.State} (hc1 : s.Canon) : InR State.Canon (imgTake b i s) := by
  unfold imgTake
  extract_lets +onlyGivenNames y0
  clear_value y0
  refine inR_mk ?_
  refine foldl_of ?_ ?_
  · exact hc1
  · intro x1
    intro x2
    intro h3
    refine setImgBit_canon ?_
    exact h3

theorem glzEcc_canon {off : Nat} {len : Nat} {s : Machine.State} (hc1 : s.Canon) :
    InR State.Canon (glzEcc off len s) := by
  unfold glzEcc
  split
  · rename_i v0 v1 v2 v3
    refine ite_of ?_ ?_
    · refine ite_of ?_ ?_
      · refine inR_mk ?_
        refine raise_canon ?_
        refine injDone_canon ?_
        exact hc1
      · refine inR_mk ?_
        refine injDone_canon ?_
        exact hc1
    · refine inR_mk ?_
      exact hc1
  · rename_i v4 v5
    refine inR_mk ?_
    exact hc1

theorem wrWords_canon {k : Nat} {a : List Word} {a2 : Machine.State} (hc1 : a2.Canon) : (wrWords k a a2).Canon := by
  fun_induction wrWords k a a2
  · rename_i v0 v1
    exact hc1
  · rename_i v2 v3 v4 v5 v6
    refine v6 ?_
    refine wr_canon ?_
    exact hc1

theorem setFv_canon {c : Nat} {latest : Nat} {bitmap : Nat} {s : Machine.State} (hc1 : s.Canon) :
    (setFv c latest bitmap s).Canon := by
  unfold setFv
  refine wrWords_canon ?_
  exact hc1

theorem fvUse_canon {c : Nat} {v : Nat} {s : Machine.State} (hc1 : s.Canon) : (fvUse c v s).Canon := by
  unfold fvUse
  extract_lets +onlyGivenNames y0
  clear_value y0
  extract_lets +onlyGivenNames y1
  clear_value y1
  refine ite_of ?_ ?_
  · refine setFv_canon ?_
    exact hc1
  · refine setFv_canon ?_
    exact hc1

theorem glzGenerate_canon {p : Nat} {idv : Nat} {isXl : Bool} {af : Nat} {pdu : List Byte} {s : Machine.State} (hc1 : s.Canon) :
    InL State.Canon (glzGenerate p idv isXl af pdu s) := by
  unfold glzGenerate
  split
  rename_i v0 v1 v2 v3
  have h4 : State.Canon v2 := by
    refine (of_eq (P := (InR State.Canon)) v3 ?_)
    refine glzEcc_canon ?_
    exact hc1
  extract_lets +onlyGivenNames y5
  clear_value y5
  extract_lets +onlyGivenNames y6
  clear_value y6
  extract_lets +onlyGivenNames y7
  clear_value y7
  extract_lets +onlyGivenNames y8
  have h9 : (InL State.Canon) y8 := by
    unfold y8
    refine inL_mk ?_
    refine bump_canon ?_
    exact h4
  clear_value y8
  refine ite_of ?_ ?_
  · exact h9
  · refine ite_of ?_ ?_
    · exact h9
    · split
      · rename_i v10 v11 v12
        exact h9
      · rename_i v13 v14 v15
        extract_lets +onlyGivenNames y16
        clear_value y16
        refine ite_of ?_ ?_
        · exact h9
        · refine ite_of ?_ ?_
          · refine inL_mk ?_
            refine raise_canon ?_
            refine bump_canon ?_
            exact h4
          · extract_lets +onlyGivenNames y17
            clear_value y17
            extract_lets +onlyGivenNames y18
            have h19 : State.Canon y18 := by
              unfold y18
              refine bump_canon ?_
              refine fvUse_canon ?_
              exact h4
            clear_value y18
            refine ite_of ?_ ?_
            · refine inL_mk ?_
              exact h19
            · extract_lets +onlyGivenNames y20
              clear_value y20
              extract_lets +onlyGivenNames y21
              clear_value y21
              extract_lets +onlyGivenNames y22
              clear_value y22
              extract_lets +onlyGivenNames y23
              clear_value y23
              extract_lets +onlyGivenNames y24
              clear_value y24
              extract_lets +onlyGivenNames y25
              clear_value y25
              refine inL_mk ?_
              exact h19

theorem containerPlace_canon {b : Nat} {i : Nat} {o : OutFrame} {s : Machine.State} (hc1 : s.Canon) :
    (containerPlace b i o s).Canon := by
  unfold containerPlace
  extract_lets +onlyGivenNames y0
  clear_value y0
  extract_lets +onlyGivenNames y1
  clear_value y1
  split
  · rename_i v2 v3
    refine formatDrop_canon ?_
    exact hc1
  · rename_i v4 v5 v6
    extract_lets +onlyGivenNames y7
    clear_value y7
    refine ite_of ?_ ?_
    · refine bump_canon ?_
      exact hc1
    · extract_lets +onlyGivenNames y8
      have h9 : State.Canon y8 := by
        unfold y8
        refine ite_of ?_ ?_
        · refine containerSend_canon ?_
          exact hc1
        · exact hc1
      clear_value y8
      extract_lets +onlyGivenNames y10
      clear_value y10
      extract_lets +onlyGivenNames y11
      have h12 : State.Canon y11 := by
        unfold y11
        refine setCont_canon ?_
        exact h9
      clear_value y11
      refine ite_of ?_ ?_
      · refine ite_of ?_ ?_
        · refine wrB_canon ?_
          exact h12
        · refine containerSend_canon ?_
          exact h12
      · exact h12

theorem imageSend_canon {b : Nat} {i : Nat} {s : Machine.State} (hc1 : s.Canon) : (imageSend b i s).Canon := by
  unfold imageSend
  extract_lets +onlyGivenNames y0
  clear_value y0
  refine ite_of ?_ ?_
  · exact hc1
  · refine ite_of ?_ ?_
    · refine containerSend_canon ?_
      exact hc1
    · extract_lets +onlyGivenNames y1
      clear_value y1
      extract_lets +onlyGivenNames y2
      clear_value y2
      split
      rename_i v3 v4 v5 v6
      have h7 : State.Canon v5 := by
        refine (of_eq (P := (InR State.Canon)) v6 ?_)
        refine imgTake_canon ?_
        exact hc1
      extract_lets +onlyGivenNames y8
      have h9 : State.Canon y8 := by
        unfold y8
        refine sendMade_canon ?_
        exact h7
      clear_value y8
      extract_lets +onlyGivenNames y10
      clear_value y10
      extract_lets +onlyGivenNames y11
      clear_value y11
      split
      rename_i v12 v13 v14 v15 v16
      have h17 : State.Canon v13 := by
        refine (of_eq (P := (InL State.Canon)) v16 ?_)
        refine ite_of ?_ ?_
        · extract_lets +onlyGivenNames y18
          clear_value y18
          split
          rename_i v19 v20 v21 v22
          have h23 : State.Canon v20 := by
            refine (of_eq (P := (InL State.Canon)) v22 ?_)
            refine glzGenerate_canon ?_
            exact h9
          refine inL_mk ?_
          exact h23
        · refine inL_mk ?_
          exact h9
      split
      · rename_i v24
        exact h17
      · rename_i v25 v26
        extract_lets +onlyGivenNames y27
        clear_value y27
        refine ite_of ?_ ?_
        · refine containerPlace_canon ?_
          exact h17
        · refine deliver_canon ?_
          exact h17

theorem imageRequest_canon {i : Nat} {s : Machine.State} (hc1 : s.Canon) : (imageRequest i s).Canon := by
  unfold imageRequest
  split
  · rename_i v0 v1 v2
    refine imageSend_canon ?_
    exact hc1
  · rename_i v3 v4
    exact hc1

theorem setPoolBytes_canon {o : Nat} {a : List Byte} {a2 : Machine.State} (hc1 : a2.Canon) :
    (setPoolBytes o a a2).Canon := by
  fun_induction setPoolBytes o a a2
  · rename_i v0 v1
    exact hc1
  · rename_i v2 v3 v4 v5 v6
    refine v6 ?_
    refine setPoolByte_canon ?_
    exact hc1

theorem ringOn_canon {car : Nat × Nat} {msg : List Byte} {s : Machine.State} (hc1 : s.Canon) :
    (ringOn car msg s).Canon := by
  unfold ringOn
  refine ite_of ?_ ?_
  · split
    · rename_i v0 v1 v2
      extract_lets +onlyGivenNames y3
      clear_value y3
      refine imageRequest_canon ?_
      refine setPoolBytes_canon ?_
      exact hc1
    · rename_i v4 v5
      exact hc1
  · refine ite_of ?_ ?_
    · extract_lets +onlyGivenNames y6
      clear_value y6
      extract_lets +onlyGivenNames y7
      clear_value y7
      refine ingArrive_canon ?_
      exact hc1
    · exact hc1

theorem ringSend_canon {c : Nat} {ty : Nat} {dst : Nat} {consent : Nat} {s : Machine.State} (hc1 : s.Canon) :
    (ringSend c ty dst consent s).Canon := by
  unfold ringSend
  extract_lets +onlyGivenNames y0
  clear_value y0
  extract_lets +onlyGivenNames y1
  clear_value y1
  refine foldl_of ?_ ?_
  · refine wrF_canon ?_
    exact hc1
  · intro x2
    intro x3
    intro h4
    refine ringOn_canon ?_
    exact h4

theorem ringOwn_canon {c : Nat} {ty : Nat} {s : Machine.State} (hc1 : s.Canon) : (ringOwn c ty s).Canon := by
  unfold ringOwn
  refine ringSend_canon ?_
  exact hc1

theorem ringPass_canon {c : Nat} {s : Machine.State} (hc1 : s.Canon) : (ringPass c s).Canon := by
  unfold ringPass
  extract_lets +onlyGivenNames y0
  clear_value y0
  refine ringSend_canon ?_
  refine setNc_canon ?_
  exact hc1

theorem sleepAbort_canon {c : Nat} {own : Bool} {s : Machine.State} (hc1 : s.Canon) : (sleepAbort c own s).Canon := by
  unfold sleepAbort
  extract_lets +onlyGivenNames y0
  clear_value y0
  extract_lets +onlyGivenNames y1
  have h2 : State.Canon y1 := by
    unfold y1
    refine setNcState_canon ?_
    refine setNc_canon ?_
    exact hc1
  clear_value y1
  extract_lets +onlyGivenNames y3
  have h4 : State.Canon y3 := by
    unfold y3
    refine ite_of ?_ ?_
    · refine ringOwn_canon ?_
      exact h2
    · exact h2
  clear_value y3
  refine ringPass_canon ?_
  refine raise_canon ?_
  refine bump_canon ?_
  exact h4

theorem setOp_canon {n : Nat} {st : Nat} {s : Machine.State} (hc1 : s.Canon) : (setOp n st s).Canon := by
  unfold setOp
  refine wrF_canon ?_
  exact hc1

theorem canxUnfreeze_canon {n : Nat} {s : Machine.State} (hc1 : s.Canon) : (canxUnfreeze n s).Canon := by
  unfold canxUnfreeze
  extract_lets +onlyGivenNames y0
  have h1 : State.Canon y0 := by
    unfold y0
    refine wrB_canon ?_
    exact hc1
  clear_value y0
  refine ite_of ?_ ?_
  · refine setOp_canon ?_
    exact h1
  · exact h1

theorem linWakeNow_canon {n : Nat} {s : Machine.State} (hc1 : s.Canon) : (linWakeNow n s).Canon := by
  unfold linWakeNow
  extract_lets +onlyGivenNames y0
  clear_value y0
  extract_lets +onlyGivenNames y1
  have h2 : State.Canon y1 := by
    unfold y1
    refine emit_canon ?_
    refine setLive_canon ?_
    exact hc1
  clear_value y1
  refine setPort_canon ?_
  exact h2

theorem canxPinC_canon {n : Nat} {s : Machine.State} (hc1 : s.Canon) : (canxPinC n s).Canon := by
  unfold canxPinC
  extract_lets +onlyGivenNames y0
  clear_value y0
  extract_lets +onlyGivenNames y1
  clear_value y1
  split
  · rename_i v2 v3
    refine emit_canon ?_
    exact hc1
  · rename_i v4 v5
    refine emit_canon ?_
    exact hc1
  · rename_i v6 v7 v8
    exact hc1

theorem canxFrozen_canon {n : Nat} {s : Machine.State} (hc1 : s.Canon) : (canxFrozen n s).Canon := by
  unfold canxFrozen
  refine setOp_canon ?_
  refine requeuePending_canon ?_
  exact hc1

theorem canxIntegrate_canon {n : Nat} {s : Machine.State} (hc1 : s.Canon) : (canxIntegrate n s).Canon := by
  unfold canxIntegrate
  refine ite_of ?_ ?_
  · refine canxFrozen_canon ?_
    exact hc1
  · refine setOp_canon ?_
    exact hc1

theorem engineStart_canon {n : Nat} {s : Machine.State} (hc1 : s.Canon) : (engineStart n s).Canon := by
  unfold engineStart
  extract_lets +onlyGivenNames y0
  clear_value y0
  extract_lets +onlyGivenNames y1
  have h2 : State.Canon y1 := by
    unfold y1
    refine setPort_canon ?_
    exact hc1
  clear_value y1
  extract_lets +onlyGivenNames y3
  have h4 : State.Canon y3 := by
    unfold y3
    refine wrB_canon ?_
    exact h2
  clear_value y3
  split
  · rename_i v5 v6
    extract_lets +onlyGivenNames y7
    have h8 : State.Canon y7 := by
      unfold y7
      refine setLive_canon ?_
      refine setLive_canon ?_
      refine setLive_canon ?_
      exact h4
    clear_value y7
    extract_lets +onlyGivenNames y9
    clear_value y9
    refine canxPinC_canon ?_
    refine canxIntegrate_canon ?_
    refine wrF_canon ?_
    refine wrF_canon ?_
    exact h8
  · rename_i v10 v11
    extract_lets +onlyGivenNames y12
    clear_value y12
    extract_lets +onlyGivenNames y13
    clear_value y13
    extract_lets +onlyGivenNames y14
    clear_value y14
    refine emit_canon ?_
    refine setLive_canon ?_
    refine setPort_canon ?_
    exact h4
  · rename_i v15 v16
    extract_lets +onlyGivenNames y17
    clear_value y17
    extract_lets +onlyGivenNames y18
    clear_value y18
    extract_lets +onlyGivenNames y19
    have h20 : State.Canon y19 := by
      unfold y19
      refine wrB_canon ?_
      exact h4
    clear_value y19
    refine emit_canon ?_
    refine setLive_canon ?_
    refine setPort_canon ?_
    exact h20
  · rename_i v21 v22
    refine setLive_canon ?_
    refine setPort_canon ?_
    exact h4
  · rename_i v23 v24
    refine forN_of ?_ ?_
    · refine setPort_canon ?_
      exact h4
    · intro x25
      intro x26
      intro h27
      refine ite_of ?_ ?_
      · extract_lets +onlyGivenNames y28
        clear_value y28
        refine emit_canon ?_
        refine setPort_canon ?_
        exact h27
      · exact h27
  · rename_i v29 v30 v31 v32 v33 v34
    exact h4

theorem pinConflict_canon {p : Nat} {s : Machine.State} (hc1 : s.Canon) : (pinConflict p s).Canon := by
  unfold pinConflict
  refine raise_canon ?_
  refine bump_canon ?_
  exact hc1

theorem drivePin_canon {drv : Nat} {p : Nat} {level : Bool} {s : Machine.State} (hc1 : s.Canon) :
    (drivePin drv p level s).Canon := by
  unfold drivePin
  refine ite_of ?_ ?_
  · extract_lets +onlyGivenNames y0
    have h1 : State.Canon y0 := by
      unfold y0
      refine wrF_canon ?_
      refine wrB_canon ?_
      exact hc1
    clear_value y0
    refine emit_canon ?_
    exact h1
  · exact hc1

theorem pinRequest_canon {drv : Nat} {p : Nat} {level : Bool} {s : Machine.State} (hc1 : s.Canon) :
    (pinRequest drv p level s).Canon := by
  unfold pinRequest
  refine ite_of ?_ ?_
  · refine pinConflict_canon ?_
    exact hc1
  · refine ite_of ?_ ?_
    · refine pinConflict_canon ?_
      exact hc1
    · refine drivePin_canon ?_
      exact hc1

theorem sleepPio_canon {n : Nat} {v : Bool} {s : Machine.State} (hc1 : s.Canon) : (sleepPio n v s).Canon := by
  unfold sleepPio
  extract_lets +onlyGivenNames y0
  clear_value y0
  refine pinRequest_canon ?_
  exact hc1

theorem tc10Wake_canon {n : Nat} {s : Machine.State} (hc1 : s.Canon) : (tc10Wake n s).Canon := by
  unfold tc10Wake
  refine ite_of ?_ ?_
  · extract_lets +onlyGivenNames y0
    clear_value y0
    extract_lets +onlyGivenNames y1
    clear_value y1
    extract_lets +onlyGivenNames y2
    have h3 : State.Canon y2 := by
      unfold y2
      refine wrB_canon ?_
      refine setMac_canon ?_
      exact hc1
    clear_value y2
    extract_lets +onlyGivenNames y4
    have h5 : State.Canon y4 := by
      unfold y4
      refine ite_of ?_ ?_
      · refine setLive_canon ?_
        exact h3
      · exact h3
    clear_value y4
    refine sleepPio_canon ?_
    refine setLive_canon ?_
    exact h5
  · exact hc1

theorem portWake_canon {n : Nat} {pulse : Bool} {s : Machine.State} (hc1 : s.Canon) : (portWake n pulse s).Canon := by
  unfold portWake
  refine ite_of ?_ ?_
  · split
    · rename_i v0 v1
      refine canxUnfreeze_canon ?_
      exact hc1
    · rename_i v2 v3
      refine ite_of ?_ ?_
      · extract_lets +onlyGivenNames y4
        have h5 : State.Canon y4 := by
          unfold y4
          refine linWakeNow_canon ?_
          exact hc1
        clear_value y4
        refine ite_of ?_ ?_
        · refine emit_canon ?_
          exact h5
        · exact h5
      · exact hc1
    · rename_i v6 v7
      refine ite_of ?_ ?_
      · refine engineStart_canon ?_
        refine canon_mk ?_
        exact hc1
      · exact hc1
    · rename_i v8 v9 v10 v11
      exact hc1
  · refine ite_of ?_ ?_
    · refine tc10Wake_canon ?_
      exact hc1
    · exact hc1

theorem clusterWake_canon {c : Nat} {s : Machine.State} (hc1 : s.Canon) : (clusterWake c s).Canon := by
  unfold clusterWake
  extract_lets +onlyGivenNames y0
  clear_value y0
  extract_lets +onlyGivenNames y1
  clear_value y1
  extract_lets +onlyGivenNames y2
  have h3 : State.Canon y2 := by
    unfold y2
    refine setNcState_canon ?_
    refine setNc_canon ?_
    exact hc1
  clear_value y2
  extract_lets +onlyGivenNames y4
  have h5 : State.Canon y4 := by
    unfold y4
    refine foldl_of ?_ ?_
    · exact h3
    · intro x6
      intro x7
      intro h8
      refine portWake_canon ?_
      exact h8
  clear_value y4
  refine ringOwn_canon ?_
  exact h5

theorem ncSettle_canon {c : Nat} {s : Machine.State} (hc1 : s.Canon) : (ncSettle c s).Canon := by
  unfold ncSettle
  split
  · rename_i v0 v1
    exact hc1
  · rename_i v2 v3 v4
    split
    · rename_i v5 v6 v7 v8
      refine sleepAbort_canon ?_
      exact hc1
    · rename_i v9 v10 v11
      refine clusterWake_canon ?_
      refine raise_canon ?_
      exact hc1
    · rename_i v12 v13 v14 v15
      extract_lets +onlyGivenNames y16
      clear_value y16
      extract_lets +onlyGivenNames y17
      have h18 : State.Canon y17 := by
        unfold y17
        refine setNcState_canon ?_
        refine setNc_canon ?_
        exact hc1
      clear_value y17
      refine portWake_canon ?_
      refine raise_canon ?_
      exact h18
    · rename_i v19 v20 v21
      refine clusterWake_canon ?_
      exact hc1
    · rename_i v22 v23 v24 v25 v26 v27 v28
      refine setNc_canon ?_
      exact hc1

theorem nmwSettle_canon {s : Machine.State} (hc1 : s.Canon) : (nmwSettle s).Canon := by
  unfold nmwSettle
  extract_lets +onlyGivenNames y0
  have h1 : State.Canon y0 := by
    unfold y0
    refine shfSettle_canon ?_
    exact hc1
  clear_value y0
  refine ite_of ?_ ?_
  · exact h1
  · refine forN_of ?_ ?_
    · exact h1
    · intro x2
      intro x3
      intro h4
      refine ncSettle_canon ?_
      exact h4

theorem modBrg_canon {f : Brg → Brg} {s : Machine.State} (hc1 : s.Canon) : (modBrg f s).Canon := by
  unfold modBrg
  refine canon_mk ?_
  exact hc1

theorem slotResult_canon {base : Nat} {code : Nat} {res : List Nat} {s : Machine.State} (hc1 : s.Canon) :
    (slotResult base code res s).Canon := by
  unfold slotResult
  refine ite_of ?_ ?_
  · extract_lets +onlyGivenNames y0
    clear_value y0
    extract_lets +onlyGivenNames y1
    have h2 : State.Canon y1 := by
      unfold y1
      refine wrWords_canon ?_
      refine wr_canon ?_
      exact hc1
    clear_value y1
    refine ite_of ?_ ?_
    · refine raise_canon ?_
      exact h2
    · exact h2
  · exact hc1

theorem brgRequest_canon {did : Nat} {t : BrgTx} {who : BrgWho} {s : Machine.State} (hc1 : s.Canon) :
    (brgRequest did t who s).Canon := by
  unfold brgRequest
  extract_lets +onlyGivenNames y0
  clear_value y0
  refine modBrg_canon ?_
  exact hc1

theorem lockStart_canon {c : Nat} {q : BrgSeq} {s : Machine.State} (hc1 : s.Canon) : (lockStart c q s).Canon := by
  unfold lockStart
  split
  · rename_i v0 v1 v2
    exact hc1
  · rename_i v3 v4
    extract_lets +onlyGivenNames y5
    have h6 : State.Canon y5 := by
      unfold y5
      refine modBrg_canon ?_
      exact hc1
    clear_value y5
    refine brgRequest_canon ?_
    refine wrF_canon ?_
    exact h6

theorem lockCmd_canon {k : Nat} {c : Nat} {s : Machine.State} (hc1 : s.Canon) : (lockCmd k c s).Canon := by
  unfold lockCmd
  split
  · rename_i v0 v1
    refine slotResult_canon ?_
    exact hc1
  · rename_i v2 v3 v4 v5
    refine ite_of ?_ ?_
    · refine slotResult_canon ?_
      exact hc1
    · extract_lets +onlyGivenNames y6
      clear_value y6
      refine lockStart_canon ?_
      refine modBrg_canon ?_
      exact hc1

theorem busFree_canon {b : Nat} {s : Machine.State} (hc1 : s.Canon) : (busFree b s).Canon := by
  unfold busFree
  refine modBrg_canon ?_
  exact hc1

theorem seqEnd_canon {c : Nat} {s : Machine.State} (hc1 : s.Canon) : (seqEnd c s).Canon := by
  unfold seqEnd
  extract_lets +onlyGivenNames y0
  have h1 : State.Canon y0 := by
    unfold y0
    split
    · rename_i v2 v3 v4
      refine ite_of ?_ ?_
      · refine busFree_canon ?_
        exact hc1
      · exact hc1
    · rename_i v5 v6
      exact hc1
  clear_value y0
  refine wrF_canon ?_
  refine modBrg_canon ?_
  exact h1

theorem unlockArrive_canon {t : BrgTx} {s : Machine.State} (hc1 : s.Canon) : (unlockArrive t s).Canon := by
  unfold unlockArrive
  extract_lets +onlyGivenNames y0
  clear_value y0
  extract_lets +onlyGivenNames y1
  have h2 : State.Canon y1 := by
    unfold y1
    split
    · rename_i v3 v4 v5
      refine ite_of ?_ ?_
      · refine busFree_canon ?_
        exact hc1
      · exact hc1
    · rename_i v6 v7
      exact hc1
  clear_value y1
  refine modBrg_canon ?_
  exact h2

theorem brgCount_canon {did : Nat} {t : BrgTx} {s : Machine.State} (hc1 : s.Canon) : (brgCount did t s).Canon := by
  unfold brgCount
  refine modBrg_canon ?_
  exact hc1

theorem brgLogSync_canon {s : Machine.State} (hc1 : s.Canon) : (brgLogSync s).Canon := by
  unfold brgLogSync
  extract_lets +onlyGivenNames y0
  clear_value y0
  extract_lets +onlyGivenNames y1
  have h2 : State.Canon y1 := by
    unfold y1
    refine wrWords_canon ?_
    refine wr_canon ?_
    exact hc1
  clear_value y1
  extract_lets +onlyGivenNames y3
  clear_value y3
  refine ite_of ?_ ?_
  · refine raiseLive_canon ?_
    exact h2
  · refine setLive_canon ?_
    exact h2

theorem brgLog_canon {t : BrgTx} {target : Nat} {reporter : Nat} {sub : Nat} {s : Machine.State} (hc1 : s.Canon) :
    (brgLog t target reporter sub s).Canon := by
  unfold brgLog
  refine ite_of ?_ ?_
  · refine bump_canon ?_
    exact hc1
  · extract_lets +onlyGivenNames y0
    clear_value y0
    refine brgLogSync_canon ?_
    refine modBrg_canon ?_
    exact hc1

theorem brgErrIn_canon {t : BrgTx} {reporter : Nat} {s : Machine.State} (hc1 : s.Canon) :
    (brgErrIn t reporter s).Canon := by
  unfold brgErrIn
  extract_lets +onlyGivenNames y0
  clear_value y0
  extract_lets +onlyGivenNames y1
  clear_value y1
  extract_lets +onlyGivenNames y2
  have h3 : State.Canon y2 := by
    unfold y2
    refine modBrg_canon ?_
    exact hc1
  clear_value y2
  refine raise_canon ?_
  refine brgLog_canon ?_
  refine bump_canon ?_
  exact h3

theorem brgOut_canon {did : Nat} {t : BrgTx} {s : Machine.State} (hc1 : s.Canon) : (brgOut did t s).Canon := by
  unfold brgOut
  refine coilSend_canon ?_
  exact hc1

theorem brgPostedFail_canon {t : BrgTx} {code : Nat} {sub : Nat} {s : Machine.State} (hc1 : s.Canon) :
    (brgPostedFail t code sub s).Canon := by
  unfold brgPostedFail
  extract_lets +onlyGivenNames y0
  clear_value y0
  refine ite_of ?_ ?_
  · refine brgErrIn_canon ?_
    exact hc1
  · refine brgOut_canon ?_
    refine bump_canon ?_
    exact hc1

theorem brgPost_canon {did : Nat} {t : BrgTx} {s : Machine.State} (hc1 : s.Canon) : (brgPost did t s).Canon := by
  unfold brgPost
  extract_lets +onlyGivenNames y0
  clear_value y0
  extract_lets +onlyGivenNames y1
  have h2 : State.Canon y1 := by
    unfold y1
    refine brgCount_canon ?_
    exact hc1
  clear_value y1
  split
  · rename_i v3 v4 v5
    refine brgPostedFail_canon ?_
    exact h2
  · rename_i v6 v7
    refine brgOut_canon ?_
    refine bump_canon ?_
    exact h2

theorem sendUnlock_canon {c : Nat} {q : BrgSeq} {s : Machine.State} (hc1 : s.Canon) : (sendUnlock c q s).Canon := by
  unfold sendUnlock
  extract_lets +onlyGivenNames y0
  clear_value y0
  refine ite_of ?_ ?_
  · refine unlockArrive_canon ?_
    exact hc1
  · refine brgPost_canon ?_
    exact hc1

theorem unlockCmd_canon {k : Nat} {c : Nat} {s : Machine.State} (hc1 : s.Canon) : (unlockCmd k c s).Canon := by
  unfold unlockCmd
  split
  · rename_i v0 v1 v2
    refine ite_of ?_ ?_
    · refine slotResult_canon ?_
      refine seqEnd_canon ?_
      refine sendUnlock_canon ?_
      exact hc1
    · refine slotResult_canon ?_
      exact hc1
  · rename_i v3 v4
    refine slotResult_canon ?_
    exact hc1

theorem fenceCmd_canon {k : Nat} {c : Nat} {s : Machine.State} (hc1 : s.Canon) : (fenceCmd k c s).Canon := by
  unfold fenceCmd
  extract_lets +onlyGivenNames y0
  clear_value y0
  extract_lets +onlyGivenNames y1
  clear_value y1
  split
  · rename_i v2
    refine slotResult_canon ?_
    exact hc1
  · rename_i v3 v4
    refine brgRequest_canon ?_
    exact hc1

theorem semRelArrive_canon {t : BrgTx} {s : Machine.State} (hc1 : s.Canon) : (semRelArrive t s).Canon := by
  unfold semRelArrive
  extract_lets +onlyGivenNames y0
  clear_value y0
  refine ite_of ?_ ?_
  · refine wr_canon ?_
    exact hc1
  · refine brgPostedFail_canon ?_
    exact hc1

theorem semCmd_canon {rel : Bool} {k : Nat} {c : Nat} {s : Machine.State} (hc1 : s.Canon) :
    (semCmd rel k c s).Canon := by
  unfold semCmd
  extract_lets +onlyGivenNames y0
  clear_value y0
  extract_lets +onlyGivenNames y1
  clear_value y1
  refine ite_of ?_ ?_
  · refine slotResult_canon ?_
    exact hc1
  · refine ite_of ?_ ?_
    · extract_lets +onlyGivenNames y2
      clear_value y2
      refine slotResult_canon ?_
      refine ite_of ?_ ?_
      · refine semRelArrive_canon ?_
        refine brgCount_canon ?_
        exact hc1
      · refine brgPost_canon ?_
        exact hc1
    · refine brgRequest_canon ?_
      exact hc1

theorem brgCmdRun_canon {k : Nat} {op : Nat} {c : Nat} {s : Machine.State} (hc1 : s.Canon) :
    (brgCmdRun k op c s).Canon := by
  unfold brgCmdRun
  split
  · rename_i v0
    refine lockCmd_canon ?_
    exact hc1
  · rename_i v1
    refine unlockCmd_canon ?_
    exact hc1
  · rename_i v2
    refine fenceCmd_canon ?_
    exact hc1
  · rename_i v3
    refine semCmd_canon ?_
    exact hc1
  · rename_i v4 v5 v6 v7 v8
    refine semCmd_canon ?_
    exact hc1

theorem brgStart_canon {a : Nat} {a1 : Machine.State} (hc1 : a1.Canon) : (brgStart a a1).Canon := by
  fun_induction brgStart a a1
  · rename_i v0
    exact hc1
  · rename_i v1 v2 v3 v4 v5
    refine v5 ?_
    refine brgCmdRun_canon ?_
    refine modBrg_canon ?_
    exact hc1
  · rename_i v6 v7 v8 v9 v10 v11 v12 v13
    refine v13 ?_
    refine lockStart_canon ?_
    exact hc1
  · rename_i v14 v15 v16 v17 v18 v19 v20
    exact hc1
  · rename_i v21 v22 v23 v24
    exact hc1

theorem lockLost_canon {c : Nat} {q : BrgSeq} {s : Machine.State} (hc1 : s.Canon) : (lockLost c q s).Canon := by
  unfold lockLost
  extract_lets +onlyGivenNames y0
  have h1 : State.Canon y0 := by
    unfold y0
    refine bump_canon ?_
    refine seqEnd_canon ?_
    exact hc1
  clear_value y0
  refine ite_of ?_ ?_
  · refine slotResult_canon ?_
    exact h1
  · refine modBrg_canon ?_
    exact h1

theorem lockAnswer_canon {c : Nat} {q : BrgSeq} {code : Nat} {sub : Nat} {s : Machine.State} (hc1 : s.Canon) :
    (lockAnswer c q code sub s).Canon := by
  unfold lockAnswer
  refine ite_of ?_ ?_
  · extract_lets +onlyGivenNames y0
    have h1 : State.Canon y0 := by
      unfold y0
      refine modBrg_canon ?_
      exact hc1
    clear_value y0
    refine slotResult_canon ?_
    refine wrF_canon ?_
    exact h1
  · refine ite_of ?_ ?_
    · refine lockLost_canon ?_
      exact hc1
    · refine slotResult_canon ?_
      refine seqEnd_canon ?_
      exact hc1

theorem fenceAnswer_canon {c : Nat} {slot : Nat} {code : Nat} {sub : Nat} {s : Machine.State} (hc1 : s.Canon) :
    (fenceAnswer c slot code sub s).Canon := by
  unfold fenceAnswer
  extract_lets +onlyGivenNames y0
  clear_value y0
  extract_lets +onlyGivenNames y1
  have h2 : State.Canon y1 := by
    unfold y1
    refine modBrg_canon ?_
    exact hc1
  clear_value y1
  refine ite_of ?_ ?_
  · refine slotResult_canon ?_
    exact h2
  · refine slotResult_canon ?_
    exact h2

theorem slotAnswer_canon {slot : Nat} {t : BrgTx} {code : Nat} {sub : Nat} {data : List Byte} {s : Machine.State} (hc1 : s.Canon) :
    (slotAnswer slot t code sub data s).Canon := by
  unfold slotAnswer
  split
  · rename_i v0 v1
    split
    · rename_i v2 v3 v4
      refine ite_of ?_ ?_
      · refine lockAnswer_canon ?_
        exact hc1
      · exact hc1
    · rename_i v5 v6
      exact hc1
  · rename_i v7 v8
    refine slotResult_canon ?_
    exact hc1
  · rename_i v9 v10 v11
    refine fenceAnswer_canon ?_
    exact hc1

theorem brgReadFailed_canon {t : BrgTx} {target : Nat} {reporter : Nat} {sub : Nat} {s : Machine.State} (hc1 : s.Canon) :
    (brgReadFailed t target reporter sub s).Canon := by
  unfold brgReadFailed
  extract_lets +onlyGivenNames y0
  have h1 : State.Canon y0 := by
    unfold y0
    refine wrF_canon ?_
    refine wrF_canon ?_
    exact hc1
  clear_value y0
  refine raise_canon ?_
  refine brgLog_canon ?_
  exact h1

theorem brgReadAnswer_canon {r : BrgRead} {s : Machine.State} (hc1 : s.Canon) : (brgReadAnswer r s).Canon := by
  unfold brgReadAnswer
  extract_lets +onlyGivenNames y0
  clear_value y0
  split
  · rename_i v1 v2 v3
    refine ite_of ?_ ?_
    · refine emit_canon ?_
      exact hc1
    · refine ite_of ?_ ?_
      · refine emit_canon ?_
        exact hc1
      · refine emit_canon ?_
        exact hc1
  · rename_i v4 v5 v6
    refine emit_canon ?_
    exact hc1
  · rename_i v7 v8 v9
    exact hc1
  · rename_i v10 v11 v12
    refine brgOut_canon ?_
    exact hc1

theorem brgPiece_canon {who : BrgWho} {t : BrgTx} {code : Nat} {data : List Byte} {s : Machine.State} (hc1 : s.Canon) :
    (brgPiece who t code data s).Canon := by
  unfold brgPiece
  split
  · rename_i v0 v1
    exact hc1
  · rename_i v2 v3 v4
    extract_lets +onlyGivenNames y5
    clear_value y5
    extract_lets +onlyGivenNames y6
    clear_value y6
    extract_lets +onlyGivenNames y7
    refine ite_of ?_ ?_
    · refine brgReadAnswer_canon ?_
      refine modBrg_canon ?_
      exact hc1
    · refine modBrg_canon ?_
      exact hc1

theorem npEnd_canon {np : BrgNp} {code : Nat} {sub : Nat} {reporter : Nat} {data : List Byte} {s : Machine.State} (hc1 : s.Canon) :
    (npEnd np code sub reporter data s).Canon := by
  unfold npEnd
  extract_lets +onlyGivenNames y0
  clear_value y0
  extract_lets +onlyGivenNames y1
  clear_value y1
  split
  · rename_i v2 v3 v4
    extract_lets +onlyGivenNames y5
    have h6 : State.Canon y5 := by
      unfold y5
      refine ite_of ?_ ?_
      · exact hc1
      · refine brgLog_canon ?_
        exact hc1
    clear_value y5
    refine slotAnswer_canon ?_
    exact h6
  · rename_i v7 v8
    extract_lets +onlyGivenNames y9
    have h10 : State.Canon y9 := by
      unfold y9
      refine ite_of ?_ ?_
      · exact hc1
      · refine brgReadFailed_canon ?_
        exact hc1
    clear_value y9
    refine brgPiece_canon ?_
    exact h10

theorem brgAnswer_canon {t : BrgTx} {code : Nat} {sub : Nat} {data : List Byte} {s : Machine.State} (hc1 : s.Canon) :
    (brgAnswer t code sub data s).Canon := by
  unfold brgAnswer
  refine ite_of ?_ ?_
  · split
    · rename_i v0 v1 v2
      refine npEnd_canon ?_
      refine modBrg_canon ?_
      exact hc1
    · rename_i v3 v4
      exact hc1
  · refine brgOut_canon ?_
    exact hc1

theorem brgPark_canon {t : BrgTx} {env : WrEnv} {s : Machine.State} (hc1 : s.Canon) : (brgPark t env s).Canon := by
  unfold brgPark
  refine ite_of ?_ ?_
  · refine modBrg_canon ?_
    exact hc1
  · refine ite_of ?_ ?_
    · refine brgAnswer_canon ?_
      exact hc1
    · refine brgPostedFail_canon ?_
      exact hc1

theorem lockTake_canon {t : BrgTx} {s : Machine.State} (hc1 : s.Canon) : (lockTake t s).Canon := by
  unfold lockTake
  refine ite_of ?_ ?_
  · refine brgPark_canon ?_
    exact hc1
  · refine brgAnswer_canon ?_
    refine modBrg_canon ?_
    exact hc1

theorem lockWithdraw_canon {c : Nat} {q : BrgSeq} {s : Machine.State} (hc1 : s.Canon) : (lockWithdraw c q s).Canon := by
  unfold lockWithdraw
  extract_lets +onlyGivenNames y0
  have h1 : State.Canon y0 := by
    unfold y0
    split
    · rename_i v2 v3 v4
      refine sendUnlock_canon ?_
      exact hc1
    · rename_i v5 v6
      refine modBrg_canon ?_
      exact hc1
  clear_value y0
  refine lockLost_canon ?_
  exact h1

theorem lockArrive_canon {t : BrgTx} {s : Machine.State} (hc1 : s.Canon) : (lockArrive t s).Canon := by
  unfold lockArrive
  refine ite_of ?_ ?_
  · refine brgAnswer_canon ?_
    exact hc1
  · refine ite_of ?_ ?_
    · refine brgPark_canon ?_
      exact hc1
    · refine ite_of ?_ ?_
      · refine brgAnswer_canon ?_
        exact hc1
      · split
        · rename_i v0 v1 v2 v3
          refine ite_of ?_ ?_
          · refine lockTake_canon ?_
            exact hc1
          · refine ite_of ?_ ?_
            · refine lockTake_canon ?_
              refine lockWithdraw_canon ?_
              exact hc1
            · refine brgAnswer_canon ?_
              exact hc1
        · rename_i v4 v5
          refine lockTake_canon ?_
          exact hc1

theorem sensorRefuse_canon {t : BrgTx} {sub : Nat} {s : Machine.State} (hc1 : s.Canon) :
    (sensorRefuse t sub s).Canon := by
  unfold sensorRefuse
  refine ite_of ?_ ?_
  · refine brgAnswer_canon ?_
    exact hc1
  · refine brgPostedFail_canon ?_
    exact hc1

theorem sensorArrive_canon {t : BrgTx} {s : Machine.State} (hc1 : s.Canon) : (sensorArrive t s).Canon := by
  unfold sensorArrive
  refine ite_of ?_ ?_
  · refine sensorRefuse_canon ?_
    exact hc1
  · extract_lets +onlyGivenNames y0
    clear_value y0
    extract_lets +onlyGivenNames y1
    clear_value y1
    extract_lets +onlyGivenNames y2
    have h3 : State.Canon y2 := by
      unfold y2
      refine modBrg_canon ?_
      exact hc1
    clear_value y2
    refine fxpAppend_canon ?_
    exact h3

theorem readBad_canon {who : BrgWho} {t : BrgTx} {did : Nat} {n : Nat} {s : Machine.State} (hc1 : s.Canon) :
    (readBad who t did n s).Canon := by
  unfold readBad
  extract_lets +onlyGivenNames y0
  clear_value y0
  refine brgReadAnswer_canon ?_
  refine brgReadFailed_canon ?_
  exact hc1

theorem readOpen_canon {who : BrgWho} {k : Nat} {s : Machine.State} (hc1 : s.Canon) : (readOpen who k s).Canon := by
  unfold readOpen
  refine modBrg_canon ?_
  exact hc1

theorem regFetch_canon {who : BrgWho} {did : Nat} {ch : Nat} {priv : Bool} {addr : Nat} {n : Nat} {s : Machine.State} (hc1 : s.Canon) :
    (regFetch who did ch priv addr n s).Canon := by
  unfold regFetch
  extract_lets +onlyGivenNames y0
  clear_value y0
  refine ite_of ?_ ?_
  · refine readBad_canon ?_
    exact hc1
  · extract_lets +onlyGivenNames y1
    clear_value y1
    refine foldl_of ?_ ?_
    · refine readOpen_canon ?_
      exact hc1
    · intro x2
      intro x3
      intro h4
      refine brgRequest_canon ?_
      exact h4

theorem winRead_canon {who : BrgWho} {w : Nat} {off : Nat} {len : Nat} {s : Machine.State} (hc1 : s.Canon) :
    (winRead who w off len s).Canon := by
  unfold winRead
  extract_lets +onlyGivenNames y0
  clear_value y0
  extract_lets +onlyGivenNames y1
  clear_value y1
  extract_lets +onlyGivenNames y2
  clear_value y2
  refine ite_of ?_ ?_
  · refine readBad_canon ?_
    exact hc1
  · refine ite_of ?_ ?_
    · refine ite_of ?_ ?_
      · extract_lets +onlyGivenNames y3
        clear_value y3
        refine brgReadAnswer_canon ?_
        exact hc1
      · split
        · rename_i v4 v5
          refine readBad_canon ?_
          exact hc1
        · rename_i v6 v7 v8 v9
          extract_lets +onlyGivenNames y10
          clear_value y10
          refine ite_of ?_ ?_
          · refine readBad_canon ?_
            exact hc1
          · refine brgRequest_canon ?_
            refine readOpen_canon ?_
            exact hc1
    · refine regFetch_canon ?_
      exact hc1

theorem mirrorCompare_canon {k : Nat} {s : Machine.State} (hc1 : s.Canon) : (mirrorCompare k s).Canon := by
  unfold mirrorCompare
  refine ite_of ?_ ?_
  · refine setLive_canon ?_
    exact hc1
  · extract_lets +onlyGivenNames y0
    have h1 : State.Canon y0 := by
      unfold y0
      refine ite_of ?_ ?_
      · refine ite_of ?_ ?_
        · exact hc1
        · refine wrB_canon ?_
          exact hc1
      · refine wr_canon ?_
        refine wrF_canon ?_
        refine wrB_canon ?_
        exact hc1
    clear_value y0
    refine raiseLive_canon ?_
    refine wrB_canon ?_
    exact h1

theorem setShadows_canon {k : Nat} {a : List Word} {a2 : Machine.State} (hc1 : a2.Canon) :
    (setShadows k a a2).Canon := by
  fun_induction setShadows k a a2
  · rename_i v0 v1
    exact hc1
  · rename_i v2 v3 v4 v5 v6
    refine v6 ?_
    refine setShadow_canon ?_
    exact hc1

theorem setRdata_canon {w : Word} {s : Machine.State} (hc1 : s.Canon) : (setRdata w s).Canon := by
  unfold setRdata
  refine canon_mk ?_
  exact hc1

theorem setPin_canon {p : Nat} {v : PioPin} {s : Machine.State} (hc1 : s.Canon) : (setPin p v s).Canon := by
  unfold setPin
  refine canon_mk ?_
  exact hc1

theorem execCapTsRead_canon {pin : Fin 64} {s : Machine.State} (hc1 : s.Canon) :
    Goes State.Canon (execCapTsRead pin s) := by
  unfold execCapTsRead
  extract_lets +onlyGivenNames y0
  clear_value y0
  refine done_canon ?_
  split
  · rename_i v1 v2
    refine setRdata_canon ?_
    refine wr_canon ?_
    exact hc1
  · rename_i v3 v4 v5 v6 v7
    extract_lets +onlyGivenNames y8
    clear_value y8
    extract_lets +onlyGivenNames y9
    have h10 : State.Canon y9 := by
      unfold y9
      refine setPin_canon ?_
      exact hc1
    clear_value y9
    extract_lets +onlyGivenNames y11
    have h12 : State.Canon y11 := by
      unfold y11
      refine wr_canon ?_
      exact h10
    clear_value y11
    extract_lets +onlyGivenNames y13
    have h14 : State.Canon y13 := by
      unfold y13
      refine wr_canon ?_
      exact h12
    clear_value y13
    refine setRdata_canon ?_
    exact h14

theorem readEntry_canon {base : Nat} {n : Nat} {off : Nat} {s : Machine.State} (hc1 : s.Canon) :
    InR State.Canon (readEntry base n off s) := by
  unfold readEntry
  refine ite_of ?_ ?_
  · refine inR_mk ?_
    refine setShadows_canon ?_
    exact hc1
  · refine inR_mk ?_
    exact hc1

theorem readWord_canon {off : Nat} {s : Machine.State} (hc1 : s.Canon) : InR State.Canon (readWord off s) := by
  unfold readWord
  split
  · rename_i v0 v1
    refine inR_mk ?_
    exact hc1
  · rename_i v2 v3 v4
    extract_lets +onlyGivenNames y5
    clear_value y5
    extract_lets +onlyGivenNames y6
    have h7 : State.Canon y6 := by
      unfold y6
      refine ite_of ?_ ?_
      · refine mirrorCompare_canon ?_
        exact hc1
      · exact hc1
    clear_value y6
    refine ite_of ?_ ?_
    · extract_lets +onlyGivenNames y8
      clear_value y8
      refine ite_of ?_ ?_
      · extract_lets +onlyGivenNames y9
        clear_value y9
        refine inR_mk ?_
        refine setShadow_canon ?_
        refine clearCounter_canon ?_
        exact h7
      · refine inR_mk ?_
        exact h7
    · refine ite_of ?_ ?_
      · refine ite_of ?_ ?_
        · refine inR_mk ?_
          refine wrB_canon ?_
          refine setShadows_canon ?_
          exact h7
        · refine inR_mk ?_
          exact h7
      · refine ite_of ?_ ?_
        · split
          · rename_i v10 v11 v12
            have h13 : State.Canon v11 := by
              refine (of_eq (P := (Goes State.Canon)) v12 ?_)
              refine execCapTsRead_canon ?_
              exact h7
            refine inR_mk ?_
            exact h13
          · rename_i v14 v15
            refine inR_mk ?_
            exact h7
        · refine ite_of ?_ ?_
          · refine inR_mk ?_
            refine ite_of ?_ ?_
            · refine wr_canon ?_
              exact h7
            · refine wr_canon ?_
              exact h7
          · refine ite_of ?_ ?_
            · refine inR_mk ?_
              refine wr_canon ?_
              exact h7
            · split
              rename_i v16 v17 v18 v19
              refine ite_of ?_ ?_
              · refine readEntry_canon ?_
                exact h7
              · extract_lets +onlyGivenNames y20
                clear_value y20
                refine inR_mk ?_
                exact h7

theorem readFor_canon {q : Requester} {off : Nat} {s : Machine.State} (hc1 : s.Canon) :
    InR State.Canon (readFor q off s) := by
  unfold readFor
  split
  · rename_i v0 v1
    refine ite_of ?_ ?_
    · refine inR_mk ?_
      exact hc1
    · split
      · rename_i v2 v3 v4
        refine ite_of ?_ ?_
        · refine inR_mk ?_
          refine raise_canon ?_
          refine injDone_canon ?_
          exact hc1
        · refine readWord_canon ?_
          exact hc1
      · rename_i v5 v6
        refine inR_mk ?_
        exact hc1
  · rename_i v7 v8
    split
    · rename_i v9 v10 v11
      refine ite_of ?_ ?_
      · refine inR_mk ?_
        refine raise_canon ?_
        refine injDone_canon ?_
        exact hc1
      · refine readWord_canon ?_
        exact hc1
    · rename_i v12 v13
      refine inR_mk ?_
      exact hc1

theorem readMany_canon {q : Requester} {a : Nat} {a2 : Nat} {a3 : Machine.State} (hc1 : a3.Canon) :
    InR State.Canon (readMany q a a2 a3) := by
  fun_induction readMany q a a2 a3
  · rename_i v0 v1
    refine inR_mk ?_
    exact hc1
  · rename_i v2 v3 v4 v5 v6 v7 v8 v9 v10 v11
    have h12 : State.Canon v6 := by
      refine (of_eq (P := (InR State.Canon)) v7 ?_)
      refine readFor_canon ?_
      exact hc1
    have h13 : State.Canon v9 := by
      refine (of_eq (P := (InR State.Canon)) v10 ?_)
      refine v11 ?_
      exact h12
    refine inR_mk ?_
    exact h13

theorem readPerform_canon {t : BrgTx} {memErr : Bool} {s : Machine.State} (hc1 : s.Canon) :
    (readPerform t memErr s).Canon := by
  unfold readPerform
  refine ite_of ?_ ?_
  · refine sensorArrive_canon ?_
    exact hc1
  · refine ite_of ?_ ?_
    · refine brgAnswer_canon ?_
      exact hc1
    · refine ite_of ?_ ?_
      · refine brgAnswer_canon ?_
        exact hc1
      · refine ite_of ?_ ?_
        · refine brgAnswer_canon ?_
          exact hc1
        · refine ite_of ?_ ?_
          · refine brgAnswer_canon ?_
            exact hc1
          · refine ite_of ?_ ?_
            · refine winRead_canon ?_
              exact hc1
            · split
              rename_i v0 v1 v2 v3
              have h4 : State.Canon v2 := by
                refine (of_eq (P := (InR State.Canon)) v3 ?_)
                refine readMany_canon ?_
                exact hc1
              refine brgAnswer_canon ?_
              exact h4

theorem brgBad_canon {t : BrgTx} {did : Nat} {s : Machine.State} (hc1 : s.Canon) : (brgBad t did s).Canon := by
  unfold brgBad
  refine brgLog_canon ?_
  exact hc1

theorem sensorLocal_canon {t : BrgTx} {s : Machine.State} (hc1 : s.Canon) : (sensorLocal t s).Canon := by
  unfold sensorLocal
  extract_lets +onlyGivenNames y0
  clear_value y0
  extract_lets +onlyGivenNames y1
  have h2 : State.Canon y1 := by
    unfold y1
    refine brgCount_canon ?_
    exact hc1
  clear_value y1
  refine ite_of ?_ ?_
  · refine brgPark_canon ?_
    exact h2
  · refine sensorArrive_canon ?_
    exact h2

theorem regSend_canon {did : Nat} {ch : Nat} {priv : Bool} {full : Bool} {addr : Nat} {data : List Byte} {s : Machine.State} (hc1 : s.Canon) :
    (regSend did ch priv full addr data s).Canon := by
  unfold regSend
  extract_lets +onlyGivenNames y0
  clear_value y0
  refine ite_of ?_ ?_
  · refine brgBad_canon ?_
    exact hc1
  · refine foldl_of ?_ ?_
    · exact hc1
    · intro x1
      intro x2
      intro h3
      refine brgPost_canon ?_
      exact h3

theorem winWrite_canon {w : Nat} {off : Nat} {full : Bool} {data : List Byte} {s : Machine.State} (hc1 : s.Canon) :
    (winWrite w off full data s).Canon := by
  unfold winWrite
  extract_lets +onlyGivenNames y0
  clear_value y0
  extract_lets +onlyGivenNames y1
  clear_value y1
  refine ite_of ?_ ?_
  · refine brgBad_canon ?_
    exact hc1
  · refine ite_of ?_ ?_
    · refine ite_of ?_ ?_
      · refine modBrg_canon ?_
        exact hc1
      · split
        · rename_i v2 v3
          refine brgBad_canon ?_
          exact hc1
        · rename_i v4 v5 v6 v7
          extract_lets +onlyGivenNames y8
          clear_value y8
          refine ite_of ?_ ?_
          · refine brgBad_canon ?_
            exact hc1
          · refine ite_of ?_ ?_
            · refine sensorLocal_canon ?_
              exact hc1
            · refine brgPost_canon ?_
              exact hc1
    · refine regSend_canon ?_
      exact hc1

theorem accErr_canon {q : Requester} {kind : Nat} {off : Nat} {s : Machine.State} (hc1 : s.Canon) :
    (accErr q kind off s).Canon := by
  unfold accErr
  refine ite_of ?_ ?_
  · refine wrB_canon ?_
    exact hc1
  · refine wr_canon ?_
    exact hc1

theorem after_canon {o : Machine.State → Host.Outcome Machine.State Fault Refusal} {s : Machine.State} (hc1 : ∀ (a : Machine.State), a.Canon → Goes State.Canon (o a)) (hc2 : s.Canon) :
    (after o s).Canon := by
  unfold after
  split
  · rename_i v0 v1 v2
    have h3 : State.Canon v1 := by
      refine (of_eq (P := (Goes State.Canon)) v2 ?_)
      refine hc1 _ ?_
      exact hc2
    exact h3
  · rename_i v4 v5
    exact hc2

theorem slotClear_canon {base : Nat} {s : Machine.State} (hc1 : s.Canon) : (slotClear base s).Canon := by
  unfold slotClear
  refine wrWords_canon ?_
  exact hc1

theorem slotAccept_canon {base : Nat} {s : Machine.State} (hc1 : s.Canon) : (slotAccept base s).Canon := by
  unfold slotAccept
  extract_lets +onlyGivenNames y0
  clear_value y0
  extract_lets +onlyGivenNames y1
  have h2 : State.Canon y1 := by
    unfold y1
    refine canon_mk ?_
    exact hc1
  clear_value y1
  refine slotClear_canon ?_
  refine wr_canon ?_
  exact h2

theorem slotReject_canon {base : Nat} {s : Machine.State} (hc1 : s.Canon) : (slotReject base s).Canon := by
  unfold slotReject
  refine wrB_canon ?_
  exact hc1

theorem slotCommand_canon {base : Nat} {permitted : Bool} {f : Machine.State → Machine.State} {s : Machine.State} (hc1 : KeepsC f) (hc2 : s.Canon) :
    (slotCommand base permitted f s).Canon := by
  unfold slotCommand
  refine ite_of ?_ ?_
  · refine hc1 _ ?_
    refine slotAccept_canon ?_
    exact hc2
  · refine slotReject_canon ?_
    exact hc2

theorem cfgAccept_canon {slot : Fin 4} {q : Requester} {c : CfgCmd} {bad : Bool} {f : Machine.State → Machine.State} {s : Machine.State} (hc1 : KeepsC f) (hc2 : s.Canon) :
    (cfgAccept slot q c bad f s).Canon := by
  unfold cfgAccept
  extract_lets +onlyGivenNames y0
  clear_value y0
  refine slotCommand_canon ?_ ?_
  · intro s1 h2
    dsimp -zeta only
    refine ite_of ?_ ?_
    · refine slotResult_canon ?_
      exact h2
    · refine ite_of ?_ ?_
      · refine slotResult_canon ?_
        exact h2
      · extract_lets +onlyGivenNames y3
        clear_value y3
        extract_lets +onlyGivenNames y4
        clear_value y4
        extract_lets +onlyGivenNames y5
        have h6 : State.Canon y5 := by
          unfold y5
          refine canon_mk ?_
          exact h2
        clear_value y5
        refine ite_of ?_ ?_
        · refine hc1 _ ?_
          exact h6
        · exact h6
  · exact hc2

theorem bootDone_canon {s : Machine.State} (hc1 : s.Canon) : (bootDone s).Canon := by
  unfold bootDone
  extract_lets +onlyGivenNames y0
  clear_value y0
  extract_lets +onlyGivenNames y1
  have h2 : State.Canon y1 := by
    unfold y1
    refine canon_mk ?_
    exact hc1
  clear_value y1
  refine ite_of ?_ ?_
  · exact h2
  · refine wrF_canon ?_
    refine wr_canon ?_
    exact h2

theorem modCol_canon {f : Coil → Coil} {s : Machine.State} (hc1 : s.Canon) : (modCol f s).Canon := by
  unfold modCol
  refine canon_mk ?_
  exact hc1

theorem coilResult_canon {s : Machine.State} (hc1 : s.Canon) : (coilResult s).Canon := by
  unfold coilResult
  split
  · rename_i v0 v1 v2 v3 v4
    refine ite_of ?_ ?_
    · refine coilSend_canon ?_
      refine modCol_canon ?_
      exact hc1
    · exact hc1
  · rename_i v5 v6
    exact hc1

theorem bootNote_canon {c : CfgCmd} {code : Nat} {s : Machine.State} (hc1 : s.Canon) : (bootNote c code s).Canon := by
  unfold bootNote
  extract_lets +onlyGivenNames y0
  have h1 : State.Canon y0 := by
    unfold y0
    refine ite_of ?_ ?_
    · exact hc1
    · refine wrF_canon ?_
      refine wrB_canon ?_
      exact hc1
  clear_value y0
  refine ite_of ?_ ?_
  · refine ite_of ?_ ?_
    · refine canon_mk ?_
      exact h1
    · exact h1
  · refine ite_of ?_ ?_
    · refine wrF_canon ?_
      refine wr_canon ?_
      exact h1
    · exact h1

theorem cfgEnd_canon {code : Nat} {res : List Nat} {s : Machine.State} (hc1 : s.Canon) : (cfgEnd code res s).Canon := by
  unfold cfgEnd
  split
  · rename_i v0 v1
    exact hc1
  · rename_i v2 v3 v4 v5
    extract_lets +onlyGivenNames y6
    clear_value y6
    extract_lets +onlyGivenNames y7
    have h8 : State.Canon y7 := by
      unfold y7
      refine canon_mk ?_
      exact hc1
    clear_value y7
    extract_lets +onlyGivenNames y9
    have h10 : State.Canon y9 := by
      unfold y9
      split
      · rename_i v11 v12 v13
        refine coilResult_canon ?_
        refine slotResult_canon ?_
        exact h8
      · rename_i v14 v15
        exact h8
    clear_value y9
    refine ite_of ?_ ?_
    · refine bootNote_canon ?_
      exact h10
    · exact h10

theorem setBankState_canon {r : Nat} {v : Nat} {s : Machine.State} (hc1 : s.Canon) : (setBankState r v s).Canon := by
  unfold setBankState
  refine wrF_canon ?_
  exact hc1

theorem setAct_canon {r : Nat} {v : Nat} {s : Machine.State} (hc1 : s.Canon) : (setAct r v s).Canon := by
  unfold setAct
  refine wrF_canon ?_
  exact hc1

theorem loadStart_canon {r : Nat} {s : Machine.State} (hc1 : s.Canon) : (loadStart r s).Canon := by
  unfold loadStart
  extract_lets +onlyGivenNames y0
  clear_value y0
  extract_lets +onlyGivenNames y1
  have h2 : State.Canon y1 := by
    unfold y1
    refine canon_mk ?_
    exact hc1
  clear_value y1
  refine ite_of ?_ ?_
  · refine setBankState_canon ?_
    exact h2
  · refine setAct_canon ?_
    exact h2

theorem cfgNext_canon {a : Nat} {a1 : Machine.State} (hc1 : a1.Canon) : (cfgNext a a1).Canon := by
  fun_induction cfgNext a a1
  · rename_i v0
    exact hc1
  · rename_i v1 v2 v3 v4
    refine bootDone_canon ?_
    exact hc1
  · rename_i v5 v6 v7 v8
    exact hc1
  · rename_i v9 v10 v11 v12 v13 v14
    exact hc1
  · rename_i v15 v16 v17 v18 v19 v20 v21 v22
    refine v22 ?_
    refine cfgEnd_canon ?_
    exact hc1
  · rename_i v23 v24 v25 v26 v27 v28 v29 v30 v31
    refine v31 ?_
    refine cfgEnd_canon ?_
    exact hc1
  · rename_i v32 v33 v34 v35 v36 v37 v38 v39
    refine loadStart_canon ?_
    exact hc1

theorem execLoad_canon {req : Requester} {slot : Fin 4} {region : Fin 32} {src : Fin 4} {s : Machine.State} (hc1 : s.Canon) :
    Goes State.Canon (execLoad req slot region src s) := by
  unfold execLoad
  refine done_canon ?_
  refine cfgAccept_canon ?_ ?_
  · intro s0 h1
    dsimp -zeta only
    refine cfgNext_canon ?_
    exact h1
  · exact hc1

theorem cfgFinish_canon {code : Nat} {res : List Nat} {s : Machine.State} (hc1 : s.Canon) :
    (cfgFinish code res s).Canon := by
  unfold cfgFinish
  extract_lets +onlyGivenNames y0
  have h1 : State.Canon y0 := by
    unfold y0
    refine cfgEnd_canon ?_
    exact hc1
  clear_value y0
  refine cfgNext_canon ?_
  exact h1

theorem bankFlip_canon {r : Nat} {st : Nat} {s : Machine.State} (hc1 : s.Canon) : (bankFlip r st s).Canon := by
  unfold bankFlip
  extract_lets +onlyGivenNames y0
  clear_value y0
  extract_lets +onlyGivenNames y1
  clear_value y1
  extract_lets +onlyGivenNames y2
  clear_value y2
  refine setBankState_canon ?_
  refine wrB_canon ?_
  refine wr_canon ?_
  refine wr_canon ?_
  exact hc1

theorem imgInit_canon {b : Nat} {i : Nat} {s : Machine.State} (hc1 : s.Canon) : (imgInit b i s).Canon := by
  unfold imgInit
  extract_lets +onlyGivenNames y0
  clear_value y0
  extract_lets +onlyGivenNames y1
  clear_value y1
  extract_lets +onlyGivenNames y2
  clear_value y2
  extract_lets +onlyGivenNames y3
  have h4 : State.Canon y3 := by
    unfold y3
    refine forN_of ?_ ?_
    · exact hc1
    · intro x5
      intro x6
      intro h7
      extract_lets +onlyGivenNames y8
      clear_value y8
      refine ite_of ?_ ?_
      · refine wr_canon ?_
        exact h7
      · refine wr_canon ?_
        exact h7
  clear_value y3
  refine wrF_canon ?_
  exact h4

theorem imagesActivate_canon {b : Nat} {first : Bool} {s : Machine.State} (hc1 : s.Canon) :
    (imagesActivate b first s).Canon := by
  unfold imagesActivate
  refine foldl_of ?_ ?_
  · exact hc1
  · intro x0
    intro x1
    intro h2
    refine ite_of ?_ ?_
    · exact h2
    · refine imgInit_canon ?_
      exact h2

theorem timerStart_canon {r : Nat} {us : Nat} {s : Machine.State} (hc1 : s.Canon) : (timerStart r us s).Canon := by
  unfold timerStart
  refine canon_mk ?_
  exact hc1

theorem timersActivate_canon {b : Nat} {s : Machine.State} (hc1 : s.Canon) : (timersActivate b s).Canon := by
  unfold timersActivate
  refine foldl_of ?_ ?_
  · refine canon_mk ?_
    exact hc1
  · intro x0
    intro x1
    intro h2
    extract_lets +onlyGivenNames y3
    clear_value y3
    refine timerStart_canon ?_
    exact h2

theorem swapRun_canon {r : Nat} {s : Machine.State} (hc1 : s.Canon) : (swapRun r s).Canon := by
  unfold swapRun
  extract_lets +onlyGivenNames y0
  clear_value y0
  extract_lets +onlyGivenNames y1
  clear_value y1
  refine ite_of ?_ ?_
  · refine cfgFinish_canon ?_
    exact hc1
  · refine ite_of ?_ ?_
    · refine cfgFinish_canon ?_
      exact hc1
    · refine ite_of ?_ ?_
      · refine cfgFinish_canon ?_
        exact hc1
      · refine ite_of ?_ ?_
        · refine canon_mk ?_
          exact hc1
        · extract_lets +onlyGivenNames y2
          have h3 : State.Canon y2 := by
            unfold y2
            refine bankFlip_canon ?_
            exact hc1
          clear_value y2
          extract_lets +onlyGivenNames y4
          clear_value y4
          extract_lets +onlyGivenNames y5
          have h6 : State.Canon y5 := by
            unfold y5
            refine ite_of ?_ ?_
            · refine wrB_canon ?_
              refine wrF_canon ?_
              exact h3
            · refine imagesActivate_canon ?_
              refine timersActivate_canon ?_
              exact h3
          clear_value y5
          refine cfgFinish_canon ?_
          exact h6

theorem execSwap_canon {req : Requester} {slot : Fin 4} {region : Fin 32} {s : Machine.State} (hc1 : s.Canon) :
    Goes State.Canon (execSwap req slot region s) := by
  unfold execSwap
  refine done_canon ?_
  refine cfgAccept_canon ?_ ?_
  · intro s0 h1
    refine swapRun_canon ?_
    exact h1
  · exact hc1

theorem safeLeave_canon {s : Machine.State} (hc1 : s.Canon) : (safeLeave s).Canon := by
  unfold safeLeave
  refine ite_of ?_ ?_
  · refine setLive_canon ?_
    refine wrB_canon ?_
    exact hc1
  · exact hc1

theorem coreReset_canon {cold : Bool} {s : State} (hc1 : s.Canon) : (coreReset cold s).Canon := by
  refine ⟨tblCanon_filter _ hc1.1, tblCanon_filter _ hc1.2, ?_, rfl, rfl, hc1.6⟩
  exact List.all_eq_true.2 (fun e he => List.all_eq_true.1 hc1.3 e (List.mem_filter.1 he).1)

theorem resetTo_canon {cold : Bool} {cause : Nat} {s : Machine.State} (hc1 : s.Canon) :
    (resetTo cold cause s).Canon := by
  unfold resetTo
  extract_lets +onlyGivenNames y0
  clear_value y0
  extract_lets +onlyGivenNames y1
  have h2 : State.Canon y1 := by
    unfold y1
    refine safeLeave_canon ?_
    refine coreReset_canon ?_
    exact hc1
  clear_value y1
  refine wrF_canon ?_
  refine canon_mk ?_
  exact h2

theorem execWarmRestart_canon {req : Requester} {slot : Fin 4} {src : Fin 4} {s : Machine.State} (hc1 : s.Canon) :
    Goes State.Canon (execWarmRestart req slot src s) := by
  unfold execWarmRestart
  extract_lets +onlyGivenNames y0
  clear_value y0
  refine done_canon ?_
  refine slotCommand_canon ?_ ?_
  · intro s1 h2
    dsimp -zeta only
    refine ite_of ?_ ?_
    · refine slotResult_canon ?_
      exact h2
    · refine resetTo_canon ?_
      refine canon_mk ?_
      exact h2
  · exact hc1

theorem slotRun_canon {base : Nat} {permitted : Bool} {f : Machine.State → Machine.State × Nat × List Nat} {s : Machine.State} (hc1 : ∀ (a : Machine.State), a.Canon → InL State.Canon (f a)) (hc2 : s.Canon) :
    (slotRun base permitted f s).Canon := by
  unfold slotRun
  refine slotCommand_canon ?_ ?_
  · intro s0 h1
    dsimp -zeta only
    refine slotResult_canon ?_
    refine inL_fst ?_
    refine hc1 _ ?_
    exact h1
  · exact hc2

theorem answer_canon {c : Nat} {s : Machine.State} (hc1 : s.Canon) : InL State.Canon (answer c s) := by
  unfold answer
  refine inL_mk ?_
  exact hc1

theorem badOpcode_canon {e : Nat} {k : Nat} {q : Requester} {s : Machine.State} (hc1 : s.Canon) :
    (badOpcode e k q s).Canon := by
  unfold badOpcode
  refine slotRun_canon ?_ ?_
  · intro x0
    intro h1
    refine answer_canon ?_
    exact h1
  · exact hc1

theorem cfgCmdWrite_canon {q : Requester} {k : Fin 4} {w : Word} {a : Machine.State} (hc1 : a.Canon) :
    (cfgCmdWrite q k w a).Canon := by
  unfold cfgCmdWrite
  refine keepsC_app ?_ ?_
  · split
    · rename_i v0 v1
      intro s2 h3
      refine after_canon ?_ ?_
      · intro x4
        intro h5
        refine execLoad_canon ?_
        exact h5
      · exact h3
    · rename_i v6 v7
      intro s8 h9
      refine after_canon ?_ ?_
      · intro x10
        intro h11
        refine execSwap_canon ?_
        exact h11
      · exact h9
    · rename_i v12 v13
      intro s14 h15
      refine after_canon ?_ ?_
      · intro x16
        intro h17
        refine execWarmRestart_canon ?_
        exact h17
      · exact h15
    · rename_i v18 v19 v20 v21
      intro s22 h23
      refine badOpcode_canon ?_
      exact h23
  · exact hc1

theorem glzCommand_canon {q : Requester} {slot : Fin 4} {slot3 : Bool} {f : Machine.State → Machine.State × Nat × List Nat} {s : Machine.State} (hc1 : ∀ (a : Machine.State), a.Canon → InL State.Canon (f a)) (hc2 : s.Canon) :
    (glzCommand q slot slot3 f s).Canon := by
  unfold glzCommand
  refine slotRun_canon ?_ ?_
  · intro x0
    intro h1
    refine ite_of ?_ ?_
    · refine inL_mk ?_
      exact h1
    · refine hc1 _ ?_
      exact h1
  · exact hc2

theorem execSha256_canon {q : Requester} {slot : Fin 4} {data : List Byte} {s : Machine.State} (hc1 : s.Canon) :
    Goes State.Canon (execSha256 q slot data s) := by
  unfold execSha256
  refine done_canon ?_
  refine glzCommand_canon ?_ ?_
  · intro x0
    intro h1
    refine inL_mk ?_
    exact h1
  · exact hc1

theorem execHmac_canon {q : Requester} {slot : Fin 4} {data : List Byte} {s : Machine.State} (hc1 : s.Canon) :
    Goes State.Canon (execHmac q slot data s) := by
  unfold execHmac
  refine done_canon ?_
  refine glzCommand_canon ?_ ?_
  · intro x0
    intro h1
    split
    · rename_i v2 v3 v4
      refine answer_canon ?_
      exact h1
    · rename_i v5 v6 v7
      refine inL_mk ?_
      exact h1
  · exact hc1

theorem execHmacVerify_canon {q : Requester} {slot : Fin 4} {n : Fin 64} {data : List Byte} {expected : List Byte} {s : Machine.State} (hc1 : s.Canon) :
    Goes State.Canon (execHmacVerify q slot n data expected s) := by
  unfold execHmacVerify
  refine done_canon ?_
  refine glzCommand_canon ?_ ?_
  · intro x0
    intro h1
    refine ite_of ?_ ?_
    · refine answer_canon ?_
      exact h1
    · split
      · rename_i v2 v3 v4
        refine answer_canon ?_
        exact h1
      · rename_i v5 v6 v7
        refine answer_canon ?_
        exact h1
  · exact hc1

theorem execLmsVerify_canon {q : Requester} {slot : Fin 4} {trusted : Bool} {which : Fin 4} {msg : List Byte} {sig : List Byte} {pub : List Byte} {s : Machine.State} (hc1 : s.Canon) :
    Goes State.Canon (execLmsVerify q slot trusted which msg sig pub s) := by
  unfold execLmsVerify
  refine done_canon ?_
  refine glzCommand_canon ?_ ?_
  · intro x0
    intro h1
    refine ite_of ?_ ?_
    · refine answer_canon ?_
      exact h1
    · refine ite_of ?_ ?_
      · refine answer_canon ?_
        exact h1
      · split
        · rename_i v2 v3
          refine answer_canon ?_
          exact h1
        · rename_i v4 v5
          refine answer_canon ?_
          exact h1
        · rename_i v6 v7
          refine inL_mk ?_
          exact h1
  · exact hc1

theorem execRxscSet_canon {q : Requester} {slot : Fin 4} {port : Fin 32} {sc : Fin 32} {s : Machine.State} (hc1 : s.Canon) :
    Goes State.Canon (execRxscSet q slot port sc s) := by
  unfold execRxscSet
  refine done_canon ?_
  refine glzCommand_canon ?_ ?_
  · intro x0
    intro h1
    refine ite_of ?_ ?_
    · refine answer_canon ?_
      exact h1
    · extract_lets +onlyGivenNames y2
      clear_value y2
      extract_lets +onlyGivenNames y3
      clear_value y3
      extract_lets +onlyGivenNames y4
      clear_value y4
      extract_lets +onlyGivenNames y5
      clear_value y5
      extract_lets +onlyGivenNames y6
      have h7 : State.Canon y6 := by
        unfold y6
        refine canon_mk ?_
        exact h1
      clear_value y6
      refine inL_mk ?_
      refine wrB_canon ?_
      exact h7
  · exact hc1

theorem saCommand_canon {q : Requester} {slot : Fin 4} {port : Fin 32} {tx : Bool} {an : Fin 4} {sc : Fin 32} {f : Nat → Nat → Machine.State → Machine.State × Nat × List Nat} {s : Machine.State} (hc1 : ∀ (a a_1 : Nat) (a_2 : Machine.State), a_2.Canon → InL State.Canon (f a a_1 a_2)) (hc2 : s.Canon) :
    (saCommand q slot port tx an sc f s).Canon := by
  unfold saCommand
  refine glzCommand_canon ?_ ?_
  · intro x0
    intro h1
    refine ite_of ?_ ?_
    · refine answer_canon ?_
      exact h1
    · refine hc1 _ _ _ ?_
      exact h1
  · exact hc2

theorem setTxSa_canon {n : Nat} {an : Option Nat} {s : Machine.State} (hc1 : s.Canon) : (setTxSa n an s).Canon := by
  unfold setTxSa
  extract_lets +onlyGivenNames y0
  clear_value y0
  extract_lets +onlyGivenNames y1
  have h2 : State.Canon y1 := by
    unfold y1
    refine wr_canon ?_
    exact hc1
  clear_value y1
  refine setLive_canon ?_
  exact h2

theorem drawn_canon {s : Machine.State} (hc1 : s.Canon) : (drawn s).Canon := by
  unfold drawn
  refine canon_mk ?_
  exact hc1

theorem draw_canon {w : Nat} {s : Machine.State} (hc1 : s.Canon) : InR State.Canon (draw w s) := by
  unfold draw
  refine inR_mk ?_
  refine drawn_canon ?_
  exact hc1

theorem modSag_canon {f : Sag → Sag} {s : Machine.State} (hc1 : s.Canon) : (modSag f s).Canon := by
  unfold modSag
  refine canon_mk ?_
  exact hc1

theorem cacheKey_canon {h : Nat} {key : List Byte} {s : Machine.State} (hc1 : s.Canon) : (cacheKey h key s).Canon := by
  unfold cacheKey
  extract_lets +onlyGivenNames y0
  clear_value y0
  extract_lets +onlyGivenNames y1
  clear_value y1
  split
  rename_i v2 v3 v4 v5
  have h6 : State.Canon v4 := by
    refine (of_eq (P := (InR State.Canon)) v5 ?_)
    refine draw_canon ?_
    exact hc1
  extract_lets +onlyGivenNames y7
  clear_value y7
  refine modSag_canon ?_
  exact h6

theorem deriveKey_canon {h : Nat} {s : Machine.State} (hc1 : s.Canon) : (deriveKey h s).Canon := by
  unfold deriveKey
  refine foldl_of ?_ ?_
  · exact hc1
  · intro x0
    intro x1
    intro h2
    split
    · rename_i v3 v4 v5
      refine cacheKey_canon ?_
      exact h2
    · rename_i v6 v7
      exact h2

theorem saInstall_canon {slot : Fin 4} {n : Nat} {k : Nat} {s : Machine.State} (hc1 : s.Canon) :
    InL State.Canon (saInstall slot n k s) := by
  unfold saInstall
  extract_lets +onlyGivenNames y0
  clear_value y0
  extract_lets +onlyGivenNames y1
  clear_value y1
  refine ite_of ?_ ?_
  · refine answer_canon ?_
    exact hc1
  · split
    · rename_i v2 v3 v4
      refine answer_canon ?_
      exact hc1
    · rename_i v5 v6 v7
      refine ite_of ?_ ?_
      · refine answer_canon ?_
        exact hc1
      · extract_lets +onlyGivenNames y8
        clear_value y8
        extract_lets +onlyGivenNames y9
        have h10 : State.Canon y9 := by
          unfold y9
          refine ite_of ?_ ?_
          · refine setTxSa_canon ?_
            exact hc1
          · exact hc1
        clear_value y9
        extract_lets +onlyGivenNames y11
        have h12 : State.Canon y11 := by
          unfold y11
          refine wrWords_canon ?_
          exact h10
        clear_value y11
        refine inL_mk ?_
        refine deriveKey_canon ?_
        refine canon_mk ?_
        exact h12

theorem execSaInstall_canon {q : Requester} {slot : Fin 4} {port : Fin 32} {tx : Bool} {an : Fin 4} {sc : Fin 32} {s : Machine.State} (hc1 : s.Canon) :
    Goes State.Canon (execSaInstall q slot port tx an sc s) := by
  unfold execSaInstall
  refine done_canon ?_
  refine saCommand_canon ?_ ?_
  · intro x0
    intro x1
    intro x2
    intro h3
    refine saInstall_canon ?_
    exact h3
  · exact hc1

theorem saEnable_canon {n : Nat} {k : Nat} {s : Machine.State} (hc1 : s.Canon) : InL State.Canon (saEnable n k s) := by
  unfold saEnable
  refine ite_of ?_ ?_
  · refine answer_canon ?_
    exact hc1
  · refine ite_of ?_ ?_
    · refine answer_canon ?_
      exact hc1
    · refine ite_of ?_ ?_
      · refine inL_mk ?_
        refine wrF_canon ?_
        exact hc1
      · extract_lets +onlyGivenNames y0
        have h1 : State.Canon y0 := by
          unfold y0
          split
          · rename_i v2 v3 v4
            refine ite_of ?_ ?_
            · refine wrF_canon ?_
              exact hc1
            · exact hc1
          · rename_i v5 v6
            exact hc1
        clear_value y0
        refine inL_mk ?_
        refine setTxSa_canon ?_
        refine wrF_canon ?_
        exact h1

theorem execSaEnable_canon {q : Requester} {slot : Fin 4} {port : Fin 32} {tx : Bool} {an : Fin 4} {sc : Fin 32} {s : Machine.State} (hc1 : s.Canon) :
    Goes State.Canon (execSaEnable q slot port tx an sc s) := by
  unfold execSaEnable
  refine done_canon ?_
  refine saCommand_canon ?_ ?_
  · intro x0
    intro x1
    intro x2
    intro h3
    refine saEnable_canon ?_
    exact h3
  · exact hc1

theorem saRetire_canon {n : Nat} {k : Nat} {s : Machine.State} (hc1 : s.Canon) : InL State.Canon (saRetire n k s) := by
  unfold saRetire
  extract_lets +onlyGivenNames y0
  have h1 : State.Canon y0 := by
    unfold y0
    refine ite_of ?_ ?_
    · refine setTxSa_canon ?_
      exact hc1
    · exact hc1
  clear_value y0
  extract_lets +onlyGivenNames y2
  have h3 : State.Canon y2 := by
    unfold y2
    refine wrWords_canon ?_
    exact h1
  clear_value y2
  refine inL_mk ?_
  refine canon_mk ?_
  exact h3

theorem execSaRetire_canon {q : Requester} {slot : Fin 4} {port : Fin 32} {tx : Bool} {an : Fin 4} {sc : Fin 32} {s : Machine.State} (hc1 : s.Canon) :
    Goes State.Canon (execSaRetire q slot port tx an sc s) := by
  unfold execSaRetire
  refine done_canon ?_
  refine saCommand_canon ?_ ?_
  · intro x0
    intro x1
    intro x2
    intro h3
    refine saRetire_canon ?_
    exact h3
  · exact hc1

theorem execSaRead_canon {q : Requester} {slot : Fin 4} {port : Fin 32} {tx : Bool} {an : Fin 4} {sc : Fin 32} {s : Machine.State} (hc1 : s.Canon) :
    Goes State.Canon (execSaRead q slot port tx an sc s) := by
  unfold execSaRead
  refine done_canon ?_
  refine saCommand_canon ?_ ?_
  · intro x0
    intro x1
    intro x2
    intro h3
    refine inL_mk ?_
    exact h3
  · exact hc1

theorem fvSet_canon {slot : Fin 4} {s : Machine.State} (hc1 : s.Canon) : InL State.Canon (fvSet slot s) := by
  unfold fvSet
  extract_lets +onlyGivenNames y0
  clear_value y0
  extract_lets +onlyGivenNames y1
  clear_value y1
  extract_lets +onlyGivenNames y2
  clear_value y2
  refine ite_of ?_ ?_
  · refine answer_canon ?_
    exact hc1
  · extract_lets +onlyGivenNames y3
    have h4 : State.Canon y3 := by
      unfold y3
      refine setFv_canon ?_
      exact hc1
    clear_value y3
    refine inL_mk ?_
    refine canon_mk ?_
    exact h4

theorem execFvSet_canon {q : Requester} {slot : Fin 4} {s : Machine.State} (hc1 : s.Canon) :
    Goes State.Canon (execFvSet q slot s) := by
  unfold execFvSet
  refine done_canon ?_
  refine glzCommand_canon ?_ ?_
  · intro x0
    intro h1
    refine fvSet_canon ?_
    exact h1
  · exact hc1

theorem execFvRead_canon {q : Requester} {slot : Fin 4} {s : Machine.State} (hc1 : s.Canon) :
    Goes State.Canon (execFvRead q slot s) := by
  unfold execFvRead
  refine done_canon ?_
  refine glzCommand_canon ?_ ?_
  · intro x0
    intro h1
    extract_lets +onlyGivenNames y2
    clear_value y2
    refine inL_mk ?_
    exact h1
  · exact hc1

theorem glzCmdWrite_canon {q : Requester} {k : Fin 4} {w : Word} {e : WrEnv} {a : Machine.State} (hc1 : a.Canon) :
    (glzCmdWrite q k w e a).Canon := by
  unfold glzCmdWrite
  refine keepsC_app ?_ ?_
  · split
    · rename_i v0 v1
      intro s2 h3
      refine after_canon ?_ ?_
      · intro x4
        intro h5
        refine execSha256_canon ?_
        exact h5
      · exact h3
    · rename_i v6 v7
      intro s8 h9
      refine after_canon ?_ ?_
      · intro x10
        intro h11
        refine execHmac_canon ?_
        exact h11
      · exact h9
    · rename_i v12 v13
      intro s14 h15
      refine after_canon ?_ ?_
      · intro x16
        intro h17
        refine execHmacVerify_canon ?_
        exact h17
      · exact h15
    · rename_i v18 v19
      intro s20 h21
      refine after_canon ?_ ?_
      · intro x22
        intro h23
        refine execLmsVerify_canon ?_
        exact h23
      · exact h21
    · rename_i v24 v25
      intro s26 h27
      refine after_canon ?_ ?_
      · intro x28
        intro h29
        refine execRxscSet_canon ?_
        exact h29
      · exact h27
    · rename_i v30 v31
      intro s32 h33
      refine after_canon ?_ ?_
      · intro x34
        intro h35
        refine execSaInstall_canon ?_
        exact h35
      · exact h33
    · rename_i v36 v37
      intro s38 h39
      refine after_canon ?_ ?_
      · intro x40
        intro h41
        refine execSaEnable_canon ?_
        exact h41
      · exact h39
    · rename_i v42 v43
      intro s44 h45
      refine after_canon ?_ ?_
      · intro x46
        intro h47
        refine execSaRetire_canon ?_
        exact h47
      · exact h45
    · rename_i v48 v49
      intro s50 h51
      refine after_canon ?_ ?_
      · intro x52
        intro h53
        refine execSaRead_canon ?_
        exact h53
      · exact h51
    · rename_i v54 v55
      intro s56 h57
      refine after_canon ?_ ?_
      · intro x58
        intro h59
        refine execFvSet_canon ?_
        exact h59
      · exact h57
    · rename_i v60 v61
      intro s62 h63
      refine after_canon ?_ ?_
      · intro x64
        intro h65
        refine execFvRead_canon ?_
        exact h65
      · exact h63
    · rename_i v66 v67 v68 v69 v70 v71 v72 v73 v74 v75 v76 v77
      intro s78 h79
      refine badOpcode_canon ?_
      exact h79
  · exact hc1

theorem sagCommand_canon {q : Requester} {slot : Fin 4} {slot3 : Bool} {f : Machine.State → Machine.State × Nat × List Nat} {s : Machine.State} (hc1 : ∀ (a : Machine.State), a.Canon → InL State.Canon (f a)) (hc2 : s.Canon) :
    (sagCommand q slot slot3 f s).Canon := by
  unfold sagCommand
  refine slotRun_canon ?_ ?_
  · intro x0
    intro h1
    refine ite_of ?_ ?_
    · refine inL_mk ?_
      exact h1
    · refine hc1 _ ?_
      exact h1
  · exact hc2

theorem execNodeRead_canon {q : Requester} {slot : Fin 4} {h : Fin 4096} {s : Machine.State} (hc1 : s.Canon) :
    Goes State.Canon (execNodeRead q slot h s) := by
  unfold execNodeRead
  refine done_canon ?_
  refine sagCommand_canon ?_ ?_
  · intro x0
    intro h1
    refine inL_mk ?_
    exact h1
  · exact hc1

theorem committed_canon {r : Option Machine.State} {s : Machine.State} (hc1 : InO State.Canon r) (hc2 : s.Canon) :
    InL State.Canon (committed r s) := by
  unfold committed
  split
  · rename_i v0 v1
    refine inL_mk ?_
    exact hc1 _ rfl
  · rename_i v2
    refine inL_mk ?_
    exact hc2

theorem sagCond_canon {b : Nat} {v : Bool} {s : Machine.State} (hc1 : s.Canon) : (sagCond b v s).Canon := by
  unfold sagCond
  refine ite_of ?_ ?_
  · refine raiseLive_canon ?_
    exact hc1
  · refine setLive_canon ?_
    exact hc1

theorem sagLive_canon {s : Machine.State} (hc1 : s.Canon) : (sagLive s).Canon := by
  unfold sagLive
  refine ite_of ?_ ?_
  · refine sagCond_canon ?_
    refine sagCond_canon ?_
    refine sagCond_canon ?_
    refine sagCond_canon ?_
    refine sagCond_canon ?_
    exact hc1
  · exact hc1

theorem commitStore_canon {f : Sag → Sag} {s : Machine.State} (hc1 : s.Canon) : InO State.Canon (commitStore f s) := by
  unfold commitStore
  refine ite_of ?_ ?_
  · exact inO_none
  · extract_lets +onlyGivenNames y0
    clear_value y0
    extract_lets +onlyGivenNames y1
    have h2 : State.Canon y1 := by
      unfold y1
      refine modSag_canon ?_
      exact hc1
    clear_value y1
    refine inO_some ?_
    refine sagLive_canon ?_
    refine emit_canon ?_
    refine emit_canon ?_
    exact h2

theorem orphanFlows_canon {hs : List Nat} {s : Machine.State} (hc1 : s.Canon) : (orphanFlows hs s).Canon := by
  unfold orphanFlows
  extract_lets +onlyGivenNames y0
  clear_value y0
  extract_lets +onlyGivenNames y1
  clear_value y1
  extract_lets +onlyGivenNames y2
  have h3 : State.Canon y2 := by
    unfold y2
    refine foldl_of ?_ ?_
    · exact hc1
    · intro x4
      intro x5
      intro h6
      refine wrF_canon ?_
      exact h6
  clear_value y2
  split
  · rename_i v7 v8 v9 v10
    refine raise_canon ?_
    refine wr_canon ?_
    exact h3
  · rename_i v11 v12 v13 v14
    extract_lets +onlyGivenNames y15
    clear_value y15
    refine raise_canon ?_
    refine wr_canon ?_
    exact h3
  · rename_i v16 v17
    exact h3

theorem afterInvalidation_canon {hs : List Nat} {s : Machine.State} (hc1 : s.Canon) :
    (afterInvalidation hs s).Canon := by
  unfold afterInvalidation
  extract_lets +onlyGivenNames y0
  have h1 : State.Canon y0 := by
    unfold y0
    refine modSag_canon ?_
    exact hc1
  clear_value y0
  refine orphanFlows_canon ?_
  refine raise_canon ?_
  exact h1

theorem invalidate_canon {n : Nat} {f : Sag → Sag} {s : Machine.State} (hc1 : s.Canon) :
    InO State.Canon (invalidate n f s) := by
  unfold invalidate
  extract_lets +onlyGivenNames y0
  clear_value y0
  refine inO_map_of (Q := State.Canon) ?_ ?_
  · refine commitStore_canon ?_
    exact hc1
  · intro x1
    intro h2
    refine afterInvalidation_canon ?_
    exact h2

end Sys2Proof.Machine
end

