-- ==== Sys2Proof/Laws/Canon2.lean ====
section
/-! SUPPORT. Sys2Proof/Laws/Canon2.lean: every operation keeps the canonical form of the stores (State.Canon), one lemma per operation, part 2. -/

set_option linter.unusedVariables false

namespace Sys2Proof.Machine
open Sys2Proof

theorem updateApply_canon {m : List Byte} {pt : List Byte} {auth : Nat} {s : Machine.State} (hc1 : s.Canon) :
    InL State.Canon (updateApply m pt auth s) := by
  unfold updateApply
  extract_lets +onlyGivenNames y0
  clear_value y0
  extract_lets +onlyGivenNames y1
  clear_value y1
  extract_lets +onlyGivenNames y2
  clear_value y2
  split
  · rename_i v3 v4
    extract_lets +onlyGivenNames y5
    clear_value y5
    refine ite_of ?_ ?_
    · refine answer_canon ?_
      exact hc1
    · refine ite_of ?_ ?_
      · refine answer_canon ?_
        exact hc1
      · refine committed_canon ?_ ?_
        · refine commitStore_canon ?_
          exact hc1
        · exact hc1
  · rename_i v6 v7
    refine ite_of ?_ ?_
    · refine answer_canon ?_
      exact hc1
    · refine committed_canon ?_ ?_
      · refine invalidate_canon ?_
        exact hc1
      · exact hc1
  · rename_i v8 v9 v10
    refine ite_of ?_ ?_
    · refine answer_canon ?_
      exact hc1
    · split
      · rename_i v11 v12
        refine answer_canon ?_
        exact hc1
      · rename_i v13 v14 v15
        have h16 : State.Canon v14 := by
          refine (of_eq (P := (InO State.Canon)) v15 ?_) _ rfl
          refine commitStore_canon ?_
          exact hc1
        refine inL_mk ?_
        refine emit_canon ?_
        refine modSag_canon ?_
        exact h16

theorem keyUpdate_canon {m : List Byte} {s : Machine.State} (hc1 : s.Canon) : InL State.Canon (keyUpdate m s) := by
  unfold keyUpdate
  extract_lets +onlyGivenNames y0
  clear_value y0
  refine ite_of ?_ ?_
  · refine answer_canon ?_
    exact hc1
  · refine ite_of ?_ ?_
    · refine answer_canon ?_
      exact hc1
    · split
      · rename_i v1 v2 v3
        refine answer_canon ?_
        exact hc1
      · rename_i v4 v5 v6
        split
        · rename_i v7 v8
          refine answer_canon ?_
          exact hc1
        · rename_i v9 v10 v11
          refine ite_of ?_ ?_
          · refine answer_canon ?_
            exact hc1
          · refine updateApply_canon ?_
            exact hc1

theorem execKeyUpdate_canon {q : Requester} {slot : Fin 4} {m : List Byte} {s : Machine.State} (hc1 : s.Canon) :
    Goes State.Canon (execKeyUpdate q slot m s) := by
  unfold execKeyUpdate
  refine done_canon ?_
  refine sagCommand_canon ?_ ?_
  · intro x0
    intro h1
    refine keyUpdate_canon ?_
    exact h1
  · exact hc1

theorem keyInject_canon {slot : Fin 4} {h : Nat} {key : List Byte} {s : Machine.State} (hc1 : s.Canon) :
    InL State.Canon (keyInject slot h key s) := by
  unfold keyInject
  extract_lets +onlyGivenNames y0
  clear_value y0
  extract_lets +onlyGivenNames y1
  clear_value y1
  extract_lets +onlyGivenNames y2
  clear_value y2
  extract_lets +onlyGivenNames y3
  clear_value y3
  refine ite_of ?_ ?_
  · refine answer_canon ?_
    exact hc1
  · extract_lets +onlyGivenNames y4
    clear_value y4
    refine ite_of ?_ ?_
    · refine answer_canon ?_
      exact hc1
    · refine committed_canon ?_ ?_
      · refine commitStore_canon ?_
        exact hc1
      · exact hc1

theorem execKeyInject_canon {q : Requester} {slot : Fin 4} {h : Fin 4096} {key : List Byte} {s : Machine.State} (hc1 : s.Canon) :
    Goes State.Canon (execKeyInject q slot h key s) := by
  unfold execKeyInject
  refine done_canon ?_
  refine sagCommand_canon ?_ ?_
  · intro x0
    intro h1
    refine keyInject_canon ?_
    exact h1
  · exact hc1

theorem nodeInvalidate_canon {slot : Fin 4} {h : Nat} {s : Machine.State} (hc1 : s.Canon) :
    InL State.Canon (nodeInvalidate slot h s) := by
  unfold nodeInvalidate
  refine ite_of ?_ ?_
  · refine answer_canon ?_
    exact hc1
  · refine committed_canon ?_ ?_
    · refine invalidate_canon ?_
      exact hc1
    · exact hc1

theorem execNodeInvalidate_canon {q : Requester} {slot : Fin 4} {h : Fin 4096} {s : Machine.State} (hc1 : s.Canon) :
    Goes State.Canon (execNodeInvalidate q slot h s) := by
  unfold execNodeInvalidate
  refine done_canon ?_
  refine sagCommand_canon ?_ ?_
  · intro x0
    intro h1
    refine nodeInvalidate_canon ?_
    exact h1
  · exact hc1

theorem burnAuthLock_canon {s : Machine.State} (hc1 : s.Canon) : (burnAuthLock s).Canon := by
  unfold burnAuthLock
  refine ite_of ?_ ?_
  · refine emit_canon ?_
    refine modSag_canon ?_
    exact hc1
  · exact hc1

theorem clearCache_canon {s : Machine.State} (hc1 : s.Canon) : (clearCache s).Canon := by
  unfold clearCache
  refine modSag_canon ?_
  exact hc1

theorem lifecycleTo_canon {target : Nat} {pub : List Byte} {s : Machine.State} (hc1 : s.Canon) :
    InL State.Canon (lifecycleTo target pub s) := by
  unfold lifecycleTo
  split
  · rename_i v0 v1 v2
    extract_lets +onlyGivenNames y3
    have h4 : State.Canon y3 := by
      unfold y3
      refine modSag_canon ?_
      exact hc1
    clear_value y3
    refine inL_mk ?_
    refine emit_canon ?_
    refine emit_canon ?_
    exact h4
  · rename_i v5 v6 v7
    refine inL_mk ?_
    refine burnAuthLock_canon ?_
    refine emit_canon ?_
    refine modSag_canon ?_
    exact hc1
  · rename_i v8 v9 v10
    extract_lets +onlyGivenNames y11
    clear_value y11
    refine inL_mk ?_
    refine emit_canon ?_
    refine emit_canon ?_
    refine emit_canon ?_
    refine clearCache_canon ?_
    refine modSag_canon ?_
    exact hc1
  · rename_i v12 v13
    refine ite_of ?_ ?_
    · refine inL_mk ?_
      refine emit_canon ?_
      refine modSag_canon ?_
      exact hc1
    · refine answer_canon ?_
      exact hc1
  · rename_i v14 v15 v16 v17 v18 v19 v20
    refine answer_canon ?_
    exact hc1

theorem execLifecycle_canon {q : Requester} {slot : Fin 4} {target : Fin 8} {pub : List Byte} {s : Machine.State} (hc1 : s.Canon) :
    Goes State.Canon (execLifecycle q slot target pub s) := by
  unfold execLifecycle
  refine done_canon ?_
  refine sagCommand_canon ?_ ?_
  · intro x0
    intro h1
    refine lifecycleTo_canon ?_
    exact h1
  · exact hc1

theorem takeLeaf.burn_canon {stuck : Nat} {s : Machine.State} (hc1 : s.Canon) :
    InO (InR State.Canon) (takeLeaf.burn stuck s) := by
  unfold takeLeaf.burn
  extract_lets +onlyGivenNames y0
  clear_value y0
  refine ite_of ?_ ?_
  · exact inO_none
  · refine inO_some ?_
    refine inR_mk ?_
    refine emit_canon ?_
    refine modSag_canon ?_
    exact hc1

theorem takeLeaf_canon {stuck : Nat} {s : Machine.State} (hc1 : s.Canon) :
    InO (InR State.Canon) (takeLeaf stuck s) := by
  unfold takeLeaf
  split
  · rename_i v0 v1 v2 v3
    refine ite_of ?_ ?_
    · refine inO_some ?_
      refine inR_mk ?_
      refine modSag_canon ?_
      exact hc1
    · refine takeLeaf.burn_canon ?_
      exact hc1
  · rename_i v4 v5
    refine takeLeaf.burn_canon ?_
    exact hc1

theorem slotWrite_canon {slot : Fin 4} {addr : Nat} {bytes : List Byte} {s : Machine.State} (hc1 : s.Canon) :
    (slotWrite slot addr bytes s).Canon := by
  unfold slotWrite
  refine ite_of ?_ ?_
  · refine emit_canon ?_
    exact hc1
  · refine emit_canon ?_
    exact hc1

theorem attest_canon {slot : Fin 4} {nonce : List Byte} {stuck : Nat} {s : Machine.State} (hc1 : s.Canon) :
    InL State.Canon (attest slot nonce stuck s) := by
  unfold attest
  refine ite_of ?_ ?_
  · refine answer_canon ?_
    exact hc1
  · split
    · rename_i v0 v1 v2
      refine answer_canon ?_
      exact hc1
    · rename_i v3 v4 v5
      split
      · rename_i v6 v7
        refine answer_canon ?_
        exact hc1
      · rename_i v8 v9 v10 v11
        have h12 : State.Canon v10 := by
          refine (of_eq (P := (InO (InR State.Canon))) v11 ?_) _ rfl
          refine takeLeaf_canon ?_
          exact hc1
        split
        rename_i v13 v14 v15 v16
        have h17 : State.Canon v15 := by
          refine (of_eq (P := (InR State.Canon)) v16 ?_)
          refine draw_canon ?_
          exact h12
        extract_lets +onlyGivenNames y18
        clear_value y18
        extract_lets +onlyGivenNames y19
        clear_value y19
        refine inL_mk ?_
        refine sagLive_canon ?_
        refine slotWrite_canon ?_
        exact h17

theorem execAttest_canon {q : Requester} {slot : Fin 4} {nonce : List Byte} {stuck : Nat} {s : Machine.State} (hc1 : s.Canon) :
    Goes State.Canon (execAttest q slot nonce stuck s) := by
  unfold execAttest
  refine done_canon ?_
  refine sagCommand_canon ?_ ?_
  · intro x0
    intro h1
    refine attest_canon ?_
    exact h1
  · exact hc1

theorem debugChallenge_canon {s : Machine.State} (hc1 : s.Canon) : InL State.Canon (debugChallenge s) := by
  unfold debugChallenge
  extract_lets +onlyGivenNames y0
  clear_value y0
  extract_lets +onlyGivenNames y1
  clear_value y1
  refine ite_of ?_ ?_
  · refine answer_canon ?_
    exact hc1
  · refine ite_of ?_ ?_
    · refine answer_canon ?_
      refine raise_canon ?_
      refine injDone_canon ?_
      exact hc1
    · extract_lets +onlyGivenNames y2
      have h3 : State.Canon y2 := by
        unfold y2
        refine ite_of ?_ ?_
        · exact hc1
        · refine injDone_canon ?_
          exact hc1
      clear_value y2
      split
      rename_i v4 v5 v6 v7
      have h8 : State.Canon v6 := by
        refine (of_eq (P := (InR State.Canon)) v7 ?_)
        refine draw_canon ?_
        exact h3
      extract_lets +onlyGivenNames y9
      clear_value y9
      refine inL_mk ?_
      refine modSag_canon ?_
      exact h8

theorem execDebugChallenge_canon {q : Requester} {slot : Fin 4} {s : Machine.State} (hc1 : s.Canon) :
    Goes State.Canon (execDebugChallenge q slot s) := by
  unfold execDebugChallenge
  refine done_canon ?_
  refine sagCommand_canon ?_ ?_
  · intro x0
    intro h1
    refine debugChallenge_canon ?_
    exact h1
  · exact hc1

theorem debugResponse_canon {scope : Nat} {pub : List Byte} {sig : List Byte} {s : Machine.State} (hc1 : s.Canon) :
    InL State.Canon (debugResponse scope pub sig s) := by
  unfold debugResponse
  split
  · rename_i v0 v1 v2 v3 v4 v5
    extract_lets +onlyGivenNames y6
    have h7 : State.Canon y6 := by
      unfold y6
      refine modSag_canon ?_
      exact hc1
    clear_value y6
    extract_lets +onlyGivenNames y8
    clear_value y8
    refine ite_of ?_ ?_
    · extract_lets +onlyGivenNames y9
      have h10 : State.Canon y9 := by
        unfold y9
        refine modSag_canon ?_
        exact h7
      clear_value y9
      extract_lets +onlyGivenNames y11
      have h12 : State.Canon y11 := by
        unfold y11
        refine ite_of ?_ ?_
        · refine modSag_canon ?_
          refine clearCache_canon ?_
          exact h10
        · exact h10
      clear_value y11
      refine inL_mk ?_
      refine raise_canon ?_
      exact h12
    · refine inL_mk ?_
      refine raise_canon ?_
      refine modSag_canon ?_
      exact h7
  · rename_i v13 v14 v15
    refine answer_canon ?_
    exact hc1

theorem execDebugResponse_canon {q : Requester} {slot : Fin 4} {scope : Fin 4} {pub : List Byte} {sig : List Byte} {s : Machine.State} (hc1 : s.Canon) :
    Goes State.Canon (execDebugResponse q slot scope pub sig s) := by
  unfold execDebugResponse
  refine done_canon ?_
  refine sagCommand_canon ?_ ?_
  · intro x0
    intro h1
    refine debugResponse_canon ?_
    exact h1
  · exact hc1

theorem sagCmdWrite_canon {q : Requester} {k : Fin 4} {w : Word} {e : WrEnv} {a : Machine.State} (hc1 : a.Canon) :
    (sagCmdWrite q k w e a).Canon := by
  unfold sagCmdWrite
  refine keepsC_app ?_ ?_
  · split
    · rename_i v0 v1
      intro s2 h3
      refine after_canon ?_ ?_
      · intro x4
        intro h5
        refine execNodeRead_canon ?_
        exact h5
      · exact h3
    · rename_i v6 v7
      intro s8 h9
      refine after_canon ?_ ?_
      · intro x10
        intro h11
        refine execKeyUpdate_canon ?_
        exact h11
      · exact h9
    · rename_i v12 v13
      intro s14 h15
      refine after_canon ?_ ?_
      · intro x16
        intro h17
        refine execKeyInject_canon ?_
        exact h17
      · exact h15
    · rename_i v18 v19
      intro s20 h21
      refine after_canon ?_ ?_
      · intro x22
        intro h23
        refine execNodeInvalidate_canon ?_
        exact h23
      · exact h21
    · rename_i v24 v25
      intro s26 h27
      refine after_canon ?_ ?_
      · intro x28
        intro h29
        refine execLifecycle_canon ?_
        exact h29
      · exact h27
    · rename_i v30 v31
      intro s32 h33
      refine after_canon ?_ ?_
      · intro x34
        intro h35
        refine execAttest_canon ?_
        exact h35
      · exact h33
    · rename_i v36 v37
      intro s38 h39
      refine after_canon ?_ ?_
      · intro x40
        intro h41
        refine execDebugChallenge_canon ?_
        exact h41
      · exact h39
    · rename_i v42 v43
      intro s44 h45
      refine after_canon ?_ ?_
      · intro x46
        intro h47
        refine execDebugResponse_canon ?_
        exact h47
      · exact h45
    · rename_i v48 v49 v50 v51 v52 v53 v54 v55 v56
      intro s57 h58
      refine badOpcode_canon ?_
      exact h58
  · exact hc1

theorem liveFollows_canon {l : Nat} {c : Bool} {s : Machine.State} (hc1 : s.Canon) : (liveFollows l c s).Canon := by
  unfold liveFollows
  refine ite_of ?_ ?_
  · refine raiseLive_canon ?_
    exact hc1
  · refine ite_of ?_ ?_
    · exact hc1
    · refine setLive_canon ?_
      exact hc1

theorem tblSettle_canon {s : Machine.State} (hc1 : s.Canon) : (tblSettle s).Canon := by
  unfold tblSettle
  extract_lets +onlyGivenNames y0
  clear_value y0
  extract_lets +onlyGivenNames y1
  have h2 : State.Canon y1 := by
    unfold y1
    refine wr_canon ?_
    exact hc1
  clear_value y1
  refine liveFollows_canon ?_
  refine liveFollows_canon ?_
  exact h2

theorem tblCommand_canon {q : Requester} {slot : Fin 4} {f : Machine.State → Machine.State × Nat × List Nat} {s : Machine.State} (hc1 : ∀ (a : Machine.State), a.Canon → InL State.Canon (f a)) (hc2 : s.Canon) :
    (tblCommand q slot f s).Canon := by
  unfold tblCommand
  refine tblSettle_canon ?_
  refine slotRun_canon ?_ ?_
  · exact hc1
  · exact hc2

theorem tblChanged_canon {s : Machine.State} (hc1 : s.Canon) : (tblChanged s).Canon := by
  unfold tblChanged
  refine wr_canon ?_
  exact hc1

theorem l2Write_canon {o : Nat} {ws : List Word} {s : Machine.State} (hc1 : s.Canon) : (l2Write o ws s).Canon := by
  unfold l2Write
  extract_lets +onlyGivenNames y0
  clear_value y0
  extract_lets +onlyGivenNames y1
  have h2 : State.Canon y1 := by
    unfold y1
    refine wrWords_canon ?_
    refine canon_mk ?_
    exact hc1
  clear_value y1
  split
  · rename_i v3 v4 v5 v6
    refine ite_of ?_ ?_
    · extract_lets +onlyGivenNames y7
      have h8 : State.Canon y7 := by
        unfold y7
        refine injDone_canon ?_
        exact h2
      clear_value y7
      refine ite_of ?_ ?_
      · refine canon_mk ?_
        exact h8
      · exact h8
    · exact h2
  · rename_i v9 v10
    exact h2

theorem l2Clear_canon {o : Nat} {s : Machine.State} (hc1 : s.Canon) : (l2Clear o s).Canon := by
  unfold l2Clear
  refine tblChanged_canon ?_
  refine l2Write_canon ?_
  exact hc1

theorem relocate_canon {a : List Nat} {a1 : Machine.State} (hc1 : a1.Canon) : InR State.Canon (relocate a a1) := by
  fun_induction relocate a a1
  · rename_i v0
    refine inR_mk ?_
    exact hc1
  · rename_i v1 v2
    refine inR_mk ?_
    exact hc1
  · rename_i v3 v4 v5 v6 v7 v8
    refine v8 ?_
    unfold v7
    refine bump_canon ?_
    refine l2Clear_canon ?_
    refine l2Write_canon ?_
    exact hc1

theorem l2Place_canon {vid : Nat} {mac : Nat} {s : Machine.State} (hc1 : s.Canon) :
    InR (InR State.Canon) (l2Place vid mac s) := by
  unfold l2Place
  extract_lets +onlyGivenNames y0
  clear_value y0
  split
  · rename_i v1 v2 v3
    refine inR_mk ?_
    refine inR_mk ?_
    exact hc1
  · rename_i v4 v5
    split
    · rename_i v6 v7 v8
      split
      rename_i v9 v10 v11 v12
      have h13 : State.Canon v11 := by
        refine (of_eq (P := (InR State.Canon)) v12 ?_)
        refine relocate_canon ?_
        exact hc1
      refine inR_mk ?_
      refine inR_mk ?_
      exact h13
    · rename_i v14 v15
      refine inR_mk ?_
      refine inR_mk ?_
      exact hc1

theorem l2Insert_canon {static : Bool} {vid : Nat} {mac : Nat} {w2 : Nat} {sgen : Nat} {s : Machine.State} (hc1 : s.Canon) :
    InL State.Canon (l2Insert static vid mac w2 sgen s) := by
  unfold l2Insert
  extract_lets +onlyGivenNames y0
  clear_value y0
  split
  · rename_i v1 v2 v3
    extract_lets +onlyGivenNames y4
    clear_value y4
    refine inL_mk ?_
    refine tblChanged_canon ?_
    refine l2Write_canon ?_
    exact hc1
  · rename_i v5 v6
    split
    rename_i v7 v8 v9 v10 v11
    have h12 : State.Canon v10 := by
      refine (of_eq (P := (InR (InR State.Canon))) v11 ?_)
      refine l2Place_canon ?_
      exact hc1
    split
    · rename_i v13 v14 v15
      extract_lets +onlyGivenNames y16
      clear_value y16
      extract_lets +onlyGivenNames y17
      have h18 : State.Canon y17 := by
        unfold y17
        refine canon_mk ?_
        exact h12
      clear_value y17
      refine inL_mk ?_
      refine tblChanged_canon ?_
      refine l2Write_canon ?_
      exact h18
    · rename_i v19 v20
      refine inL_mk ?_
      exact h12

theorem runL2Insert_canon {b : Nat} {loader : Bool} {s : Machine.State} (hc1 : s.Canon) :
    InL State.Canon (runL2Insert b loader s) := by
  unfold runL2Insert
  refine l2Insert_canon ?_
  exact hc1

theorem execL2Insert_canon {req : Requester} {slot : Fin 4} {s : Machine.State} (hc1 : s.Canon) :
    Goes State.Canon (execL2Insert req slot s) := by
  unfold execL2Insert
  refine done_canon ?_
  refine tblCommand_canon ?_ ?_
  · intro x0
    intro h1
    refine runL2Insert_canon ?_
    exact h1
  · exact hc1

theorem l2Meet_canon {o : Nat} {s : Machine.State} (hc1 : s.Canon) : (l2Meet o s).Canon := by
  unfold l2Meet
  refine ite_of ?_ ?_
  · refine raise_canon ?_
    refine bump_canon ?_
    refine canon_mk ?_
    exact hc1
  · exact hc1

theorem l2Find_canon {vid : Nat} {mac : Nat} {s : Machine.State} (hc1 : s.Canon) :
    InR State.Canon (l2Find vid mac s) := by
  unfold l2Find
  extract_lets +onlyGivenNames y0
  clear_value y0
  extract_lets +onlyGivenNames y1
  have h2 : State.Canon y1 := by
    unfold y1
    refine foldl_of ?_ ?_
    · exact hc1
    · intro x3
      intro x4
      intro h5
      refine l2Meet_canon ?_
      exact h5
  clear_value y1
  refine inR_mk ?_
  exact h2

theorem runL2Delete_canon {b : Nat} {s : Machine.State} (hc1 : s.Canon) : InL State.Canon (runL2Delete b s) := by
  unfold runL2Delete
  split
  · rename_i v0 v1 v2 v3
    have h4 : State.Canon v2 := by
      refine (of_eq (P := (InR State.Canon)) v3 ?_)
      refine l2Find_canon ?_
      exact hc1
    refine inL_mk ?_
    refine l2Clear_canon ?_
    exact h4
  · rename_i v5 v6 v7
    have h8 : State.Canon v6 := by
      refine (of_eq (P := (InR State.Canon)) v7 ?_)
      refine l2Find_canon ?_
      exact hc1
    refine inL_mk ?_
    exact h8

theorem execL2Delete_canon {req : Requester} {slot : Fin 4} {s : Machine.State} (hc1 : s.Canon) :
    Goes State.Canon (execL2Delete req slot s) := by
  unfold execL2Delete
  refine done_canon ?_
  refine tblCommand_canon ?_ ?_
  · intro x0
    intro h1
    refine runL2Delete_canon ?_
    exact h1
  · exact hc1

theorem runL2Lookup_canon {b : Nat} {s : Machine.State} (hc1 : s.Canon) : InL State.Canon (runL2Lookup b s) := by
  unfold runL2Lookup
  split
  · rename_i v0 v1 v2 v3
    have h4 : State.Canon v2 := by
      refine (of_eq (P := (InR State.Canon)) v3 ?_)
      refine l2Find_canon ?_
      exact hc1
    refine inL_mk ?_
    exact h4
  · rename_i v5 v6 v7
    have h8 : State.Canon v6 := by
      refine (of_eq (P := (InR State.Canon)) v7 ?_)
      refine l2Find_canon ?_
      exact hc1
    refine inL_mk ?_
    exact h8

theorem execL2Lookup_canon {req : Requester} {slot : Fin 4} {s : Machine.State} (hc1 : s.Canon) :
    Goes State.Canon (execL2Lookup req slot s) := by
  unfold execL2Lookup
  refine done_canon ?_
  refine tblCommand_canon ?_ ?_
  · intro x0
    intro h1
    refine runL2Lookup_canon ?_
    exact h1
  · exact hc1

theorem runL2Flush_canon {b : Nat} {mode : Nat} {s : Machine.State} (hc1 : s.Canon) :
    InL State.Canon (runL2Flush b mode s) := by
  unfold runL2Flush
  extract_lets +onlyGivenNames y0
  clear_value y0
  extract_lets +onlyGivenNames y1
  clear_value y1
  extract_lets +onlyGivenNames y2
  clear_value y2
  refine inL_mk ?_
  refine foldl_of ?_ ?_
  · exact hc1
  · intro x3
    intro x4
    intro h5
    refine l2Clear_canon ?_
    exact h5

theorem execL2Flush_canon {req : Requester} {slot : Fin 4} {mode : Fin 4} {s : Machine.State} (hc1 : s.Canon) :
    Goes State.Canon (execL2Flush req slot mode s) := by
  unfold execL2Flush
  refine done_canon ?_
  refine tblCommand_canon ?_ ?_
  · intro x0
    intro h1
    refine runL2Flush_canon ?_
    exact h1
  · exact hc1

theorem runL2Relocate_canon {b : Nat} {s : Machine.State} (hc1 : s.Canon) : InL State.Canon (runL2Relocate b s) := by
  unfold runL2Relocate
  extract_lets +onlyGivenNames y0
  clear_value y0
  refine ite_of ?_ ?_
  · refine inL_mk ?_
    exact hc1
  · split
    · rename_i v1 v2 v3 v4 v5
      have h6 : State.Canon v4 := by
        refine (of_eq (P := (InR (InR State.Canon))) v5 ?_)
        refine l2Place_canon ?_
        exact hc1
      refine inL_mk ?_
      refine l2Clear_canon ?_
      refine l2Write_canon ?_
      exact h6
    · rename_i v7 v8 v9 v10
      have h11 : State.Canon v9 := by
        refine (of_eq (P := (InR (InR State.Canon))) v10 ?_)
        refine l2Place_canon ?_
        exact hc1
      refine inL_mk ?_
      exact h11

theorem execL2Relocate_canon {req : Requester} {slot : Fin 4} {s : Machine.State} (hc1 : s.Canon) :
    Goes State.Canon (execL2Relocate req slot s) := by
  unfold execL2Relocate
  refine done_canon ?_
  refine tblCommand_canon ?_ ?_
  · intro x0
    intro h1
    refine runL2Relocate_canon ?_
    exact h1
  · exact hc1

theorem setPrefixes_canon {l : List Prefix} {s : Machine.State} (hc1 : s.Canon) : (setPrefixes l s).Canon := by
  unfold setPrefixes
  refine canon_mk ?_
  exact hc1

theorem trieZero_canon {st : Nat} {base : Nat} {size : Nat} {s : Machine.State} (hc1 : s.Canon) :
    (trieZero st base size s).Canon := by
  unfold trieZero
  extract_lets +onlyGivenNames y0
  clear_value y0
  refine dropWords_canon ?_
  exact hc1

theorem trieBuild_canon {w : Nat} {key : Nat} {p : Nat} {a : List Nat} {a4 : Nat} {a5 : Nat} {a6 : Nat} {a7 : Nat} {a8 : Machine.State} (hc1 : a8.Canon) :
    InO (InR (InR State.Canon)) (trieBuild w key p a a4 a5 a6 a7 a8) := by
  fun_induction trieBuild w key p a a4 a5 a6 a7 a8
  · rename_i v0 v1 v2 v3 v4
    exact inO_none
  · rename_i v5 v6 v7 v8 v9 v10 v11 v12
    refine inO_some ?_
    refine inR_mk ?_
    refine inR_mk ?_
    exact hc1
  · rename_i v13 v14 v15 v16 v17 v18 v19 v20 v21 v22 v23
    refine v23 ?_
    exact hc1
  · rename_i v24 v25 v26 v27 v28 v29 v30 v31 v32
    exact inO_none
  · rename_i v33 v34 v35 v36 v37 v38 v39 v40 v41 v42 v43 v44
    exact inO_none
  · rename_i v45 v46 v47 v48 v49 v50 v51 v52 v53 v54 v55 v56 v57 v58 v59 v60
    refine v60 ?_
    unfold v59
    refine wr_canon ?_
    refine wrB_canon ?_
    unfold v58
    refine trieZero_canon ?_
    refine canon_mk ?_
    exact hc1

theorem lpmInsert_canon {i : Nat} {p : Nat} {key : Nat} {result : Nat} {sgen : Nat} {s : Machine.State} (hc1 : s.Canon) :
    InL State.Canon (lpmInsert i p key result sgen s) := by
  unfold lpmInsert
  extract_lets +onlyGivenNames y0
  clear_value y0
  extract_lets +onlyGivenNames y1
  clear_value y1
  extract_lets +onlyGivenNames y2
  clear_value y2
  extract_lets +onlyGivenNames y3
  clear_value y3
  refine ite_of ?_ ?_
  · refine inL_mk ?_
    exact hc1
  · refine ite_of ?_ ?_
    · refine inL_mk ?_
      exact hc1
    · extract_lets +onlyGivenNames y4
      have h5 : KeepsC y4 := by
        unfold y4
        intro s6 h7
        dsimp -zeta only
        refine setPrefixes_canon ?_
        exact h7
      clear_value y4
      refine ite_of ?_ ?_
      · refine inL_mk ?_
        refine h5 _ ?_
        refine wr_canon ?_
        exact hc1
      · split
        · rename_i v8 v9
          refine inL_mk ?_
          exact hc1
        · rename_i v10 v11 v12 v13 v14 v15 v16 v17
          have h18 : State.Canon v16 := by
            refine (of_eq (P := (InO (InR (InR State.Canon)))) v17 ?_) _ rfl
            refine trieBuild_canon ?_
            exact hc1
          extract_lets +onlyGivenNames y19
          clear_value y19
          extract_lets +onlyGivenNames y20
          have h21 : State.Canon y20 := by
            unfold y20
            refine foldl_of ?_ ?_
            · exact h18
            · intro x22
              intro x23
              intro h24
              refine wr_canon ?_
              exact h24
          clear_value y20
          refine inL_mk ?_
          refine h5 _ ?_
          exact h21

theorem runLpmInsert_canon {b : Nat} {i : Nat} {loader : Bool} {s : Machine.State} (hc1 : s.Canon) :
    InL State.Canon (runLpmInsert b i loader s) := by
  unfold runLpmInsert
  refine lpmInsert_canon ?_
  exact hc1

theorem execLpmInsert_canon {req : Requester} {slot : Fin 4} {inst : Fin 8} {s : Machine.State} (hc1 : s.Canon) :
    Goes State.Canon (execLpmInsert req slot inst s) := by
  unfold execLpmInsert
  refine done_canon ?_
  refine tblCommand_canon ?_ ?_
  · intro x0
    intro h1
    refine runLpmInsert_canon ?_
    exact h1
  · exact hc1

theorem trieUnlink_canon {a : List (Nat × Nat × Nat × Nat)} {a1 : Nat} {a2 : Machine.State} (hc1 : a2.Canon) :
    InR State.Canon (trieUnlink a a1 a2) := by
  fun_induction trieUnlink a a1 a2
  · rename_i v0 v1
    refine inR_mk ?_
    exact hc1
  · rename_i v2 v3 v4 v5 v6 v7 v8 v9 v10 v11
    refine v11 ?_
    refine wr_canon ?_
    refine wrB_canon ?_
    unfold v10
    refine trieZero_canon ?_
    refine canon_mk ?_
    exact hc1
  · rename_i v12 v13 v14 v15 v16 v17 v18 v19
    refine inR_mk ?_
    exact hc1

theorem lpmDelete_canon {i : Nat} {p : Nat} {key : Nat} {s : Machine.State} (hc1 : s.Canon) :
    InL State.Canon (lpmDelete i p key s) := by
  unfold lpmDelete
  extract_lets +onlyGivenNames y0
  clear_value y0
  extract_lets +onlyGivenNames y1
  clear_value y1
  refine ite_of ?_ ?_
  · refine inL_mk ?_
    exact hc1
  · refine ite_of ?_ ?_
    · refine ite_of ?_ ?_
      · refine inL_mk ?_
        refine setPrefixes_canon ?_
        refine wr_canon ?_
        exact hc1
      · refine inL_mk ?_
        exact hc1
    · refine ite_of ?_ ?_
      · refine inL_mk ?_
        exact hc1
      · extract_lets +onlyGivenNames y2
        have h3 : State.Canon y2 := by
          unfold y2
          refine setPrefixes_canon ?_
          exact hc1
        clear_value y2
        extract_lets +onlyGivenNames y4
        clear_value y4
        split
        · rename_i v5 v6
          refine inL_mk ?_
          exact h3
        · rename_i v7 v8 v9 v10 v11 v12 v13 v14
          have h15 : State.Canon v13 := by
            refine (of_eq (P := (InO (InR (InR State.Canon)))) v14 ?_) _ rfl
            refine trieBuild_canon ?_
            exact h3
          extract_lets +onlyGivenNames y16
          clear_value y16
          extract_lets +onlyGivenNames y17
          clear_value y17
          extract_lets +onlyGivenNames y18
          have h19 : (InR State.Canon) y18 := by
            unfold y18
            refine foldl_of ?_ ?_
            · refine inR_mk ?_
              exact h3
            · intro x20
              intro x21
              intro h22
              extract_lets +onlyGivenNames y23
              clear_value y23
              extract_lets +onlyGivenNames y24
              clear_value y24
              refine ite_of ?_ ?_
              · extract_lets +onlyGivenNames y25
                clear_value y25
                refine inR_mk ?_
                refine wr_canon ?_
                refine inR_snd ?_
                exact h22
              · exact h22
          clear_value y18
          split
          rename_i v26 v27 v28 v29
          have h30 : State.Canon v28 := by
            refine (of_eq (P := (InR State.Canon)) v29 ?_)
            refine trieUnlink_canon ?_
            refine inR_snd ?_
            exact h19
          refine inL_mk ?_
          exact h30

theorem runLpmDelete_canon {b : Nat} {i : Nat} {s : Machine.State} (hc1 : s.Canon) :
    InL State.Canon (runLpmDelete b i s) := by
  unfold runLpmDelete
  refine lpmDelete_canon ?_
  exact hc1

theorem execLpmDelete_canon {req : Requester} {slot : Fin 4} {inst : Fin 8} {s : Machine.State} (hc1 : s.Canon) :
    Goes State.Canon (execLpmDelete req slot inst s) := by
  unfold execLpmDelete
  refine done_canon ?_
  refine tblCommand_canon ?_ ?_
  · intro x0
    intro h1
    refine runLpmDelete_canon ?_
    exact h1
  · exact hc1

theorem runLpmLookup_canon {b : Nat} {i : Nat} {s : Machine.State} (hc1 : s.Canon) :
    InL State.Canon (runLpmLookup b i s) := by
  unfold runLpmLookup
  refine ite_of ?_ ?_
  · refine inL_mk ?_
    exact hc1
  · split
    · rename_i v0 v1 v2 v3
      refine inL_mk ?_
      exact hc1
    · rename_i v4 v5
      refine inL_mk ?_
      exact hc1

theorem execLpmLookup_canon {req : Requester} {slot : Fin 4} {inst : Fin 8} {s : Machine.State} (hc1 : s.Canon) :
    Goes State.Canon (execLpmLookup req slot inst s) := by
  unfold execLpmLookup
  refine done_canon ?_
  refine tblCommand_canon ?_ ?_
  · intro x0
    intro h1
    refine runLpmLookup_canon ?_
    exact h1
  · exact hc1

theorem runNhWrite_canon {b : Nat} {n : Nat} {s : Machine.State} (hc1 : s.Canon) :
    InL State.Canon (runNhWrite b n s) := by
  unfold runNhWrite
  refine inL_mk ?_
  refine wrWords_canon ?_
  exact hc1

theorem execNhWrite_canon {req : Requester} {slot : Fin 4} {n : Fin 8192} {s : Machine.State} (hc1 : s.Canon) :
    Goes State.Canon (execNhWrite req slot n s) := by
  unfold execNhWrite
  refine done_canon ?_
  refine tblCommand_canon ?_ ?_
  · intro x0
    intro h1
    refine runNhWrite_canon ?_
    exact h1
  · exact hc1

theorem tblCmdWrite_canon {q : Requester} {k : Fin 4} {w : Word} {a : Machine.State} (hc1 : a.Canon) :
    (tblCmdWrite q k w a).Canon := by
  unfold tblCmdWrite
  refine keepsC_app ?_ ?_
  · split
    · rename_i v0 v1
      intro s2 h3
      refine after_canon ?_ ?_
      · intro x4
        intro h5
        refine execL2Insert_canon ?_
        exact h5
      · exact h3
    · rename_i v6 v7
      intro s8 h9
      refine after_canon ?_ ?_
      · intro x10
        intro h11
        refine execL2Delete_canon ?_
        exact h11
      · exact h9
    · rename_i v12 v13
      intro s14 h15
      refine after_canon ?_ ?_
      · intro x16
        intro h17
        refine execL2Lookup_canon ?_
        exact h17
      · exact h15
    · rename_i v18 v19
      intro s20 h21
      refine after_canon ?_ ?_
      · intro x22
        intro h23
        refine execL2Flush_canon ?_
        exact h23
      · exact h21
    · rename_i v24 v25
      intro s26 h27
      refine after_canon ?_ ?_
      · intro x28
        intro h29
        refine execL2Relocate_canon ?_
        exact h29
      · exact h27
    · rename_i v30 v31
      intro s32 h33
      refine after_canon ?_ ?_
      · intro x34
        intro h35
        refine execLpmInsert_canon ?_
        exact h35
      · exact h33
    · rename_i v36 v37
      intro s38 h39
      refine after_canon ?_ ?_
      · intro x40
        intro h41
        refine execLpmDelete_canon ?_
        exact h41
      · exact h39
    · rename_i v42 v43
      intro s44 h45
      refine after_canon ?_ ?_
      · intro x46
        intro h47
        refine execLpmLookup_canon ?_
        exact h47
      · exact h45
    · rename_i v48 v49
      intro s50 h51
      refine after_canon ?_ ?_
      · intro x52
        intro h53
        refine execNhWrite_canon ?_
        exact h53
      · exact h51
    · rename_i v54 v55 v56 v57 v58 v59 v60 v61 v62 v63
      intro s64 h65
      refine badOpcode_canon ?_
      exact h65
  · exact hc1

theorem brgCommand_canon {req : Requester} {k : Nat} {op : Nat} {param : Nat} {s : Machine.State} (hc1 : s.Canon) :
    (brgCommand req k op param s).Canon := by
  unfold brgCommand
  extract_lets +onlyGivenNames y0
  clear_value y0
  extract_lets +onlyGivenNames y1
  clear_value y1
  refine slotCommand_canon ?_ ?_
  · intro s2 h3
    dsimp -zeta only
    refine ite_of ?_ ?_
    · refine slotResult_canon ?_
      exact h3
    · refine ite_of ?_ ?_
      · refine modBrg_canon ?_
        exact h3
      · refine brgCmdRun_canon ?_
        exact h3
  · exact hc1

theorem cmdWrite_canon {e : Nat} {k : Nat} {q : Requester} {w : Word} {env : WrEnv} {a : Machine.State} (hc1 : a.Canon) :
    (cmdWrite e k q w env a).Canon := by
  unfold cmdWrite
  refine keepsC_app ?_ ?_
  · split
    · rename_i v0
      intro s1 h2
      refine cfgCmdWrite_canon ?_
      exact h2
    · rename_i v3
      intro s4 h5
      refine glzCmdWrite_canon ?_
      exact h5
    · rename_i v6
      intro s7 h8
      refine sagCmdWrite_canon ?_
      exact h8
    · rename_i v9
      intro s10 h11
      refine tblCmdWrite_canon ?_
      exact h11
    · rename_i v12 v13 v14 v15 v16
      intro s17 h18
      refine brgCommand_canon ?_
      exact h18
  · exact hc1

theorem regCmd_canon {q : Requester} {ok : Bool} {off : Nat} {f : Machine.State → Machine.State} {s : Machine.State} (hc1 : KeepsC f) (hc2 : s.Canon) :
    (regCmd q ok off f s).Canon := by
  unfold regCmd
  refine ite_of ?_ ?_
  · refine hc1 _ ?_
    exact hc2
  · refine accErr_canon ?_
    exact hc2

theorem resRelease_canon {e : Nat} {k : Nat} {v : Nat} {s : Machine.State} (hc1 : s.Canon) :
    (resRelease e k v s).Canon := by
  unfold resRelease
  extract_lets +onlyGivenNames y0
  clear_value y0
  extract_lets +onlyGivenNames y1
  clear_value y1
  refine ite_of ?_ ?_
  · refine slotClear_canon ?_
    refine wr_canon ?_
    exact hc1
  · exact hc1

theorem slotRegWrite_canon {e : Nat} {k : Nat} {o : Nat} {q : Requester} {off : Nat} {w : Word} {env : WrEnv} {s : Machine.State} (hc1 : s.Canon) :
    (slotRegWrite e k o q off w env s).Canon := by
  unfold slotRegWrite
  refine ite_of ?_ ?_
  · refine cmdWrite_canon ?_
    exact hc1
  · refine ite_of ?_ ?_
    · refine regCmd_canon ?_ ?_
      · intro s0 h1
        refine wr_canon ?_
        exact h1
      · exact hc1
    · refine ite_of ?_ ?_
      · refine regCmd_canon ?_ ?_
        · intro s2 h3
          refine resRelease_canon ?_
          exact h3
        · exact hc1
      · exact hc1

theorem onBit_canon {w : Word} {b : Nat} {f : Machine.State → Machine.State} {s : Machine.State} (hc1 : KeepsC f) (hc2 : s.Canon) :
    (onBit w b f s).Canon := by
  unfold onBit
  refine ite_of ?_ ?_
  · refine hc1 _ ?_
    exact hc2
  · exact hc2

theorem leafWrite_canon {q : Requester} {off : Nat} {w : Word} {s : Machine.State} (hc1 : s.Canon) :
    (leafWrite q off w s).Canon := by
  unfold leafWrite
  extract_lets +onlyGivenNames y0
  clear_value y0
  refine regCmd_canon ?_ ?_
  · intro s1 h2
    dsimp -zeta only
    refine ite_of ?_ ?_
    · refine forN_of ?_ ?_
      · exact h2
      · intro x3
        intro x4
        intro h5
        refine onBit_canon ?_ ?_
        · intro s6 h7
          refine setLeafBit_canon ?_
          exact h7
        · exact h5
    · refine ite_of ?_ ?_
      · exact h2
      · refine settleGroup_canon ?_
        refine forN_of ?_ ?_
        · exact h2
        · intro x8
          intro x9
          intro h10
          refine setLeafBit_canon ?_
          exact h10
  · exact hc1

theorem msixUnmask_canon {off : Nat} {s : Machine.State} (hc1 : s.Canon) : (msixUnmask off s).Canon := by
  unfold msixUnmask
  extract_lets +onlyGivenNames y0
  clear_value y0
  extract_lets +onlyGivenNames y1
  clear_value y1
  extract_lets +onlyGivenNames y2
  clear_value y2
  refine ite_of ?_ ?_
  · refine emit_canon ?_
    refine wrB_canon ?_
    exact hc1
  · exact hc1

theorem conesLive_canon {s : Machine.State} (hc1 : s.Canon) : (conesLive s).Canon := by
  unfold conesLive
  extract_lets +onlyGivenNames y0
  clear_value y0
  refine setLive_canon ?_
  refine setLive_canon ?_
  exact hc1

theorem coneLate_canon {n : Nat} {s : Machine.State} (hc1 : s.Canon) : (coneLate n s).Canon := by
  unfold coneLate
  refine raiseLive_canon ?_
  refine wrB_canon ?_
  exact hc1

theorem conesLate_canon {s : Machine.State} (hc1 : s.Canon) : (conesLate s).Canon := by
  unfold conesLate
  refine foldl_of ?_ ?_
  · exact hc1
  · intro x0
    intro x1
    intro h2
    refine ite_of ?_ ?_
    · refine coneLate_canon ?_
      exact h2
    · exact h2

theorem setWt_canon {st : Nat} {sel : Bool} {s : Machine.State} (hc1 : s.Canon) : (setWt st sel s).Canon := by
  unfold setWt
  refine wrF_canon ?_
  refine wrB_canon ?_
  exact hc1

theorem wtInit_canon {v : Nat} {st : Nat} {sel : Bool} {s : Machine.State} (hc1 : s.Canon) :
    (wtInit v st sel s).Canon := by
  unfold wtInit
  extract_lets +onlyGivenNames y0
  clear_value y0
  extract_lets +onlyGivenNames y1
  have h2 : State.Canon y1 := by
    unfold y1
    refine canon_mk ?_
    exact hc1
  clear_value y1
  refine conesLate_canon ?_
  refine wr_canon ?_
  refine wrB_canon ?_
  refine setWt_canon ?_
  exact h2

theorem wtHoldover_canon {s : Machine.State} (hc1 : s.Canon) : (wtHoldover s).Canon := by
  unfold wtHoldover
  extract_lets +onlyGivenNames y0
  clear_value y0
  extract_lets +onlyGivenNames y1
  have h2 : State.Canon y1 := by
    unfold y1
    refine canon_mk ?_
    exact hc1
  clear_value y1
  refine raiseLive_canon ?_
  refine wr_canon ?_
  refine wrF_canon ?_
  exact h2

theorem wtFollow_canon {d : Bool} {s : Machine.State} (hc1 : s.Canon) : (wtFollow d s).Canon := by
  unfold wtFollow
  extract_lets +onlyGivenNames y0
  clear_value y0
  extract_lets +onlyGivenNames y1
  have h2 : State.Canon y1 := by
    unfold y1
    refine setWt_canon ?_
    exact hc1
  clear_value y1
  extract_lets +onlyGivenNames y3
  clear_value y3
  extract_lets +onlyGivenNames y4
  have h5 : State.Canon y4 := by
    unfold y4
    refine canon_mk ?_
    exact h2
  clear_value y4
  extract_lets +onlyGivenNames y6
  have h7 : State.Canon y6 := by
    unfold y6
    refine setLive_canon ?_
    exact h5
  clear_value y6
  refine ite_of ?_ ?_
  · refine raise_canon ?_
    exact h7
  · exact h7

theorem selAutoNow_canon {s : Machine.State} (hc1 : s.Canon) : (selAutoNow s).Canon := by
  unfold selAutoNow
  split
  · rename_i v0 v1 v2 v3 v4
    exact hc1
  · rename_i v5 v6 v7 v8 v9 v10
    refine wtFollow_canon ?_
    exact hc1
  · rename_i v11 v12 v13 v14 v15 v16
    refine wtHoldover_canon ?_
    exact hc1
  · rename_i v17 v18 v19 v20 v21 v22
    refine wtFollow_canon ?_
    exact hc1
  · rename_i v23 v24 v25 v26 v27 v28
    refine wtHoldover_canon ?_
    exact hc1
  · rename_i v29 v30 v31 v32 v33 v34
    refine canon_mk ?_
    exact hc1
  · rename_i v35 v36 v37 v38 v39 v40
    refine canon_mk ?_
    exact hc1

theorem wtRelock_canon {d : Bool} {s : Machine.State} (hc1 : s.Canon) : (wtRelock d s).Canon := by
  unfold wtRelock
  extract_lets +onlyGivenNames y0
  have h1 : State.Canon y0 := by
    unfold y0
    refine wtFollow_canon ?_
    exact hc1
  clear_value y0
  refine ite_of ?_ ?_
  · refine raise_canon ?_
    exact h1
  · exact h1

theorem reselect_canon {s : Machine.State} (hc1 : s.Canon) : (reselect s).Canon := by
  unfold reselect
  split
  · rename_i v0 v1
    split
    · rename_i v2 v3 v4
      refine ite_of ?_ ?_
      · refine wtInit_canon ?_
        exact hc1
      · exact hc1
    · rename_i v5 v6
      exact hc1
  · rename_i v7 v8
    refine ite_of ?_ ?_
    · extract_lets +onlyGivenNames y9
      clear_value y9
      refine ite_of ?_ ?_
      · refine wtHoldover_canon ?_
        exact hc1
      · refine ite_of ?_ ?_
        · exact hc1
        · refine wtFollow_canon ?_
          exact hc1
    · refine ite_of ?_ ?_
      · refine selAutoNow_canon ?_
        exact hc1
      · refine ite_of ?_ ?_
        · refine ite_of ?_ ?_
          · refine wtFollow_canon ?_
            exact hc1
          · exact hc1
        · refine wtHoldover_canon ?_
          exact hc1
  · rename_i v10 v11 v12
    split
    · rename_i v13 v14 v15
      refine wtRelock_canon ?_
      exact hc1
    · rename_i v16 v17
      exact hc1

theorem domainState_canon {domB : Bool} {st : Nat} {s : Machine.State} (hc1 : s.Canon) :
    (domainState domB st s).Canon := by
  unfold domainState
  extract_lets +onlyGivenNames y0
  clear_value y0
  extract_lets +onlyGivenNames y1
  clear_value y1
  extract_lets +onlyGivenNames y2
  clear_value y2
  extract_lets +onlyGivenNames y3
  have h4 : State.Canon y3 := by
    unfold y3
    refine ite_of ?_ ?_
    · refine wrF_canon ?_
      exact hc1
    · refine wrF_canon ?_
      exact hc1
  clear_value y3
  extract_lets +onlyGivenNames y5
  clear_value y5
  extract_lets +onlyGivenNames y6
  have h7 : State.Canon y6 := by
    unfold y6
    refine setLive_canon ?_
    exact h4
  clear_value y6
  extract_lets +onlyGivenNames y8
  have h9 : State.Canon y8 := by
    unfold y8
    refine ite_of ?_ ?_
    · refine raise_canon ?_
      exact h7
    · exact h7
  clear_value y8
  refine reselect_canon ?_
  exact h9

theorem coilLive_canon {s : Machine.State} (hc1 : s.Canon) : (coilLive s).Canon := by
  unfold coilLive
  extract_lets +onlyGivenNames y0
  clear_value y0
  extract_lets +onlyGivenNames y1
  clear_value y1
  extract_lets +onlyGivenNames y2
  have h3 : State.Canon y2 := by
    unfold y2
    refine setLive_canon ?_
    refine setLive_canon ?_
    exact hc1
  clear_value y2
  extract_lets +onlyGivenNames y4
  have h5 : State.Canon y4 := by
    unfold y4
    refine setLive_canon ?_
    refine setLive_canon ?_
    exact h3
  clear_value y4
  refine wrB_canon ?_
  exact h5

theorem linkFit_canon {l : Nat} {s : Machine.State} (hc1 : s.Canon) : (linkFit l s).Canon := by
  unfold linkFit
  extract_lets +onlyGivenNames y0
  clear_value y0
  extract_lets +onlyGivenNames y1
  clear_value y1
  extract_lets +onlyGivenNames y2
  have h3 : ∀ (v : Nat) (s : Machine.State), s.Canon → (y2 v s).Canon := by
    intro x4
    intro x5
    intro h6
    unfold y2
    refine wrF_canon ?_
    exact h6
  clear_value y2
  refine ite_of ?_ ?_
  · refine h3 _ _ ?_
    exact hc1
  · refine ite_of ?_ ?_
    · refine h3 _ _ ?_
      exact hc1
    · refine ite_of ?_ ?_
      · refine h3 _ _ ?_
        exact hc1
      · refine ite_of ?_ ?_
        · refine h3 _ _ ?_
          exact hc1
        · exact hc1

theorem sensorFail_canon {k : Nat} {sub : Nat} {s : Machine.State} (hc1 : s.Canon) : (sensorFail k sub s).Canon := by
  unfold sensorFail
  split
  · rename_i v0 v1 v2 v3
    refine sensorRefuse_canon ?_
    refine modBrg_canon ?_
    exact hc1
  · rename_i v4 v5
    exact hc1

theorem fxqFlush_canon {n : Nat} {s : Machine.State} (hc1 : s.Canon) : InR State.Canon (fxqFlush n s) := by
  unfold fxqFlush
  extract_lets +onlyGivenNames y0
  have h1 : State.Canon y0 := by
    unfold y0
    refine ite_of ?_ ?_
    · exact hc1
    · refine requeuePending_canon ?_
      exact hc1
  clear_value y0
  extract_lets +onlyGivenNames y2
  clear_value y2
  extract_lets +onlyGivenNames y3
  clear_value y3
  refine inR_mk ?_
  refine foldl_of ?_ ?_
  · refine forN_of ?_ ?_
    · exact h1
    · intro x4
      intro x5
      intro h6
      refine setFxq_canon ?_
      exact h6
  · intro x7
    intro x8
    intro h9
    refine sensorFail_canon ?_
    exact h9

theorem pwmHalt_canon {p : Nat} {s : Machine.State} (hc1 : s.Canon) : (pwmHalt p s).Canon := by
  unfold pwmHalt
  refine setPin_canon ?_
  refine wrB_canon ?_
  exact hc1

theorem pinsApplied_canon {s : Machine.State} {t : Machine.State} (hc1 : s.Canon) (hc2 : t.Canon) :
    (pinsApplied s t).Canon := by
  unfold pinsApplied
  refine forN_of ?_ ?_
  · exact hc2
  · intro x0
    intro x1
    intro h2
    extract_lets +onlyGivenNames y3
    have h4 : State.Canon y3 := by
      unfold y3
      refine ite_of ?_ ?_
      · refine pwmHalt_canon ?_
        exact h2
      · exact h2
    clear_value y3
    refine ite_of ?_ ?_
    · refine drivePin_canon ?_
      exact h4
    · exact h4

theorem qpWmLive_canon {s : Machine.State} (hc1 : s.Canon) : (qpWmLive s).Canon := by
  unfold qpWmLive
  refine setLive_canon ?_
  exact hc1

theorem wmEnable_canon {was : Bool} {b : Nat} {lvl : Nat} {s : Machine.State} (hc1 : s.Canon) :
    (wmEnable was b lvl s).Canon := by
  unfold wmEnable
  refine ite_of ?_ ?_
  · refine wr_canon ?_
    refine wr_canon ?_
    exact hc1
  · exact hc1

theorem fieldEffects_canon {off : Nat} {s : Machine.State} {t : Machine.State} (hc1 : s.Canon) (hc2 : t.Canon) :
    (fieldEffects off s t).Canon := by
  unfold fieldEffects
  refine ite_of ?_ ?_
  · refine msixUnmask_canon ?_
    exact hc2
  · refine ite_of ?_ ?_
    · refine forN_of ?_ ?_
      · exact hc2
      · intro x0
        intro x1
        intro h2
        refine settleGroup_canon ?_
        exact h2
    · refine ite_of ?_ ?_
      · refine conesLive_canon ?_
        exact hc2
      · refine ite_of ?_ ?_
        · refine ite_of ?_ ?_
          · refine reselect_canon ?_
            exact hc2
          · exact hc2
        · refine ite_of ?_ ?_
          · extract_lets +onlyGivenNames y3
            clear_value y3
            refine domainState_canon ?_
            exact hc2
          · refine ite_of ?_ ?_
            · refine burnAuthLock_canon ?_
              exact hc2
            · refine ite_of ?_ ?_
              · refine coilLive_canon ?_
                refine linkFit_canon ?_
                exact hc2
              · refine ite_of ?_ ?_
                · extract_lets +onlyGivenNames y4
                  clear_value y4
                  refine ite_of ?_ ?_
                  · exact hc2
                  · extract_lets +onlyGivenNames y5
                    have h6 : (InR State.Canon) y5 := by
                      unfold y5
                      refine fxqFlush_canon ?_
                      exact hc2
                    clear_value y5
                    refine bumpN_canon ?_
                    refine inR_snd ?_
                    exact h6
                · refine ite_of ?_ ?_
                  · refine pinsApplied_canon ?_ ?_
                    · exact hc1
                    · exact hc2
                  · refine ite_of ?_ ?_
                    · refine qpWmLive_canon ?_
                      exact hc2
                    · refine ite_of ?_ ?_
                      · extract_lets +onlyGivenNames y7
                        clear_value y7
                        refine ite_of ?_ ?_
                        · refine wmEnable_canon ?_
                          exact hc2
                        · refine ite_of ?_ ?_
                          · exact hc2
                          · refine wrB_canon ?_
                            exact hc2
                      · refine ite_of ?_ ?_
                        · refine wmEnable_canon ?_
                          exact hc2
                        · refine ite_of ?_ ?_
                          · refine ite_of ?_ ?_
                            · refine wr_canon ?_
                              exact hc2
                            · exact hc2
                          · exact hc2

theorem fieldWrite_canon {q : Requester} {off : Nat} {w : Word} {s : Machine.State} (hc1 : s.Canon) :
    (fieldWrite q off w s).Canon := by
  unfold fieldWrite
  extract_lets +onlyGivenNames y0
  clear_value y0
  split
  · rename_i v1 v2
    exact hc1
  · rename_i v3 v4 v5
    extract_lets +onlyGivenNames y6
    clear_value y6
    refine ite_of ?_ ?_
    · exact hc1
    · refine ite_of ?_ ?_
      · refine accErr_canon ?_
        exact hc1
      · refine ite_of ?_ ?_
        · exact hc1
        · extract_lets +onlyGivenNames y7
          clear_value y7
          refine fieldEffects_canon ?_ ?_
          · exact hc1
          · refine wr_canon ?_
            exact hc1

theorem engineEnable_canon {n : Nat} {s : Machine.State} (hc1 : s.Canon) : (engineEnable n s).Canon := by
  unfold engineEnable
  refine ite_of ?_ ?_
  · exact hc1
  · refine ite_of ?_ ?_
    · refine raiseLive_canon ?_
      exact hc1
    · refine engineStart_canon ?_
      refine setLive_canon ?_
      refine wrB_canon ?_
      exact hc1

theorem execFxpEnable_canon {req : Requester} {port : Fin 128} {s : Machine.State} (hc1 : s.Canon) :
    Goes State.Canon (execFxpEnable req port s) := by
  unfold execFxpEnable
  refine done_canon ?_
  refine regCmd_canon ?_ ?_
  · intro s0 h1
    dsimp -zeta only
    refine ite_of ?_ ?_
    · exact h1
    · refine engineEnable_canon ?_
      exact h1
  · exact hc1

theorem setLg_canon {g : Nat} {v : LockGrp} {s : Machine.State} (hc1 : s.Canon) : (setLg g v s).Canon := by
  unfold setLg
  extract_lets +onlyGivenNames y0
  clear_value y0
  extract_lets +onlyGivenNames y1
  have h2 : State.Canon y1 := by
    unfold y1
    refine canon_mk ?_
    exact hc1
  clear_value y1
  refine wrB_canon ?_
  exact h2

theorem lgLeave_canon {n : Nat} {s : Machine.State} (hc1 : s.Canon) : (lgLeave n s).Canon := by
  unfold lgLeave
  refine foldl_of ?_ ?_
  · exact hc1
  · intro x0
    intro x1
    intro h2
    refine ite_of ?_ ?_
    · refine setLg_canon ?_
      exact h2
    · exact h2

theorem engineStop_canon {n : Nat} {cut : Bool} {s : Machine.State} (hc1 : s.Canon) : (engineStop n cut s).Canon := by
  unfold engineStop
  extract_lets +onlyGivenNames y0
  have h1 : State.Canon y0 := by
    unfold y0
    refine ite_of ?_ ?_
    · refine raise_canon ?_
      refine bump_canon ?_
      exact hc1
    · exact hc1
  clear_value y0
  extract_lets +onlyGivenNames y2
  have h3 : State.Canon y2 := by
    unfold y2
    refine lgLeave_canon ?_
    refine requeuePending_canon ?_
    exact h1
  clear_value y2
  extract_lets +onlyGivenNames y4
  clear_value y4
  extract_lets +onlyGivenNames y5
  have h6 : State.Canon y5 := by
    unfold y5
    refine setPort_canon ?_
    exact h3
  clear_value y5
  extract_lets +onlyGivenNames y7
  have h8 : State.Canon y7 := by
    unfold y7
    refine wrB_canon ?_
    exact h6
  clear_value y7
  split
  · rename_i v9 v10
    refine canxPinC_canon ?_
    refine emit_canon ?_
    refine setLive_canon ?_
    refine setOp_canon ?_
    exact h8
  · rename_i v11 v12
    refine emit_canon ?_
    refine emit_canon ?_
    exact h8
  · rename_i v13 v14
    refine emit_canon ?_
    exact h8
  · rename_i v15 v16 v17 v18
    exact h8

theorem execFxpDisable_canon {req : Requester} {port : Fin 128} {busy : Bool} {s : Machine.State} (hc1 : s.Canon) :
    Goes State.Canon (execFxpDisable req port busy s) := by
  unfold execFxpDisable
  refine done_canon ?_
  refine regCmd_canon ?_ ?_
  · intro s0 h1
    dsimp -zeta only
    refine ite_of ?_ ?_
    · extract_lets +onlyGivenNames y2
      have h3 : State.Canon y2 := by
        unfold y2
        refine wrB_canon ?_
        exact h1
      clear_value y2
      refine ite_of ?_ ?_
      · refine setPort_canon ?_
        exact h3
      · refine engineStop_canon ?_
        exact h3
    · exact h1
  · exact hc1

theorem fxpCfgWrite_canon {q : Requester} {off : Nat} {w : Word} {e : WrEnv} {s : Machine.State} (hc1 : s.Canon) :
    (fxpCfgWrite q off w e s).Canon := by
  unfold fxpCfgWrite
  extract_lets +onlyGivenNames y0
  clear_value y0
  extract_lets +onlyGivenNames y1
  have h2 : State.Canon y1 := by
    unfold y1
    refine fieldWrite_canon ?_
    exact hc1
  clear_value y1
  refine ite_of ?_ ?_
  · exact h2
  · refine ite_of ?_ ?_
    · refine after_canon ?_ ?_
      · intro x3
        intro h4
        refine execFxpEnable_canon ?_
        exact h4
      · exact h2
    · refine after_canon ?_ ?_
      · intro x5
        intro h6
        refine execFxpDisable_canon ?_
        exact h6
      · exact h2

theorem execLeafInject_canon {req : Requester} {off : BitVec 28} {w : Word} {s : Machine.State} (hc1 : s.Canon) :
    Goes State.Canon (execLeafInject req off w s) := by
  unfold execLeafInject
  refine done_canon ?_
  extract_lets +onlyGivenNames y0
  clear_value y0
  refine ite_of ?_ ?_
  · exact hc1
  · refine regCmd_canon ?_ ?_
    · intro s1 h2
      dsimp -zeta only
      refine ite_of ?_ ?_
      · refine foldl_of ?_ ?_
        · exact h2
        · intro x3
          intro x4
          intro h5
          refine ite_of ?_ ?_
          · refine raise_canon ?_
            exact h5
          · exact h5
      · refine wrB_canon ?_
        exact h2
    · exact hc1

theorem execInjKeyWrite_canon {req : Requester} {w : Word} {s : Machine.State} (hc1 : s.Canon) :
    Goes State.Canon (execInjKeyWrite req w s) := by
  unfold execInjKeyWrite
  refine done_canon ?_
  refine regCmd_canon ?_ ?_
  · intro s0 h1
    dsimp -zeta only
    extract_lets +onlyGivenNames y2
    clear_value y2
    extract_lets +onlyGivenNames y3
    clear_value y3
    extract_lets +onlyGivenNames y4
    have h5 : ∀ (k : Option (Requester × Nat)) (o : Bool), (y4 k o).Canon := by
      intro x6
      intro x7
      unfold y4
      refine wrB_canon ?_
      refine canon_mk ?_
      exact h1
    clear_value y4
    split
    · rename_i v8 v9 v10 v11
      refine ite_of ?_ ?_
      · refine h5 _ _
      · refine ite_of ?_ ?_
        · refine h5 _ _
        · refine h5 _ _
    · rename_i v12 v13
      refine ite_of ?_ ?_
      · refine h5 _ _
      · refine h5 _ _
  · exact hc1

theorem injNow_canon {s : Machine.State} {det : Nat} {idx : Nat} {arg : Nat} (hc1 : s.Canon) :
    InO State.Canon (injNow s det idx arg) := by
  unfold injNow
  split
  · rename_i v0
    extract_lets +onlyGivenNames y1
    clear_value y1
    refine inO_some ?_
    refine setMirror_canon ?_
    exact hc1
  · rename_i v2
    refine inO_some ?_
    refine canon_mk ?_
    exact hc1
  · rename_i v3 v4 v5
    exact inO_none

theorem execInjGo_canon {req : Requester} {s : Machine.State} (hc1 : s.Canon) : Goes State.Canon (execInjGo req s) := by
  unfold execInjGo
  refine done_canon ?_
  refine regCmd_canon ?_ ?_
  · intro s0 h1
    dsimp -zeta only
    extract_lets +onlyGivenNames y2
    clear_value y2
    extract_lets +onlyGivenNames y3
    clear_value y3
    extract_lets +onlyGivenNames y4
    clear_value y4
    refine ite_of ?_ ?_
    · split
      · rename_i v5 v6 v7
        have h8 : State.Canon v6 := by
          refine (of_eq (P := (InO State.Canon)) v7 ?_) _ rfl
          refine injNow_canon ?_
          exact h1
        refine wrB_canon ?_
        exact h8
      · rename_i v9 v10
        refine wrB_canon ?_
        refine canon_mk ?_
        exact h1
    · refine wrB_canon ?_
      exact h1
  · exact hc1

theorem armGroup_canon {fn : Option Nat} {g : Nat} {s : Machine.State} (hc1 : s.Canon) : (armGroup fn g s).Canon := by
  unfold armGroup
  split
  · rename_i v0 v1
    extract_lets +onlyGivenNames y2
    clear_value y2
    refine ite_of ?_ ?_
    · refine settleGroup_canon ?_
      refine canon_mk ?_
      exact hc1
    · exact hc1
  · rename_i v3
    refine settleGroup_canon ?_
    refine canon_mk ?_
    exact hc1

theorem execGroupArm_canon {req : Requester} {fn : Option (Fin 8)} {hi : Bool} {w : Word} {s : Machine.State} (hc1 : s.Canon) :
    Goes State.Canon (execGroupArm req fn hi w s) := by
  unfold execGroupArm
  refine done_canon ?_
  extract_lets +onlyGivenNames y0
  clear_value y0
  refine regCmd_canon ?_ ?_
  · intro s1 h2
    dsimp -zeta only
    refine forN_of ?_ ?_
    · exact h2
    · intro x3
      intro x4
      intro h5
      refine ite_of ?_ ?_
      · refine armGroup_canon ?_
        exact h5
      · exact h5
  · exact hc1

theorem execCrzRouteWrite_canon {req : Requester} {g : Fin 64} {w : Word} {s : Machine.State} (hc1 : s.Canon) :
    Goes State.Canon (execCrzRouteWrite req g w s) := by
  unfold execCrzRouteWrite
  refine done_canon ?_
  refine regCmd_canon ?_ ?_
  · intro s0 h1
    dsimp -zeta only
    refine ite_of ?_ ?_
    · exact h1
    · extract_lets +onlyGivenNames y2
      clear_value y2
      refine settleGroup_canon ?_
      refine wr_canon ?_
      exact h1
  · exact hc1

theorem crzWrite_canon {q : Requester} {off : Nat} {w : Word} : InO KeepsC (crzWrite q off w) := by
  unfold crzWrite
  refine ite_of ?_ ?_
  · refine inO_some ?_
    intro s0 h1
    refine after_canon ?_ ?_
    · intro x2
      intro h3
      refine execInjKeyWrite_canon ?_
      exact h3
    · exact h1
  · refine ite_of ?_ ?_
    · refine inO_some ?_
      intro s4 h5
      refine onBit_canon ?_ ?_
      · intro s6 h7
        refine after_canon ?_ ?_
        · intro x8
          intro h9
          refine execInjGo_canon ?_
          exact h9
        · exact h7
      · exact h5
    · refine ite_of ?_ ?_
      · refine inO_some ?_
        intro s10 h11
        refine after_canon ?_ ?_
        · intro x12
          intro h13
          refine execGroupArm_canon ?_
          exact h13
        · exact h11
      · refine ite_of ?_ ?_
        · refine inO_some ?_
          intro s14 h15
          refine after_canon ?_ ?_
          · intro x16
            intro h17
            refine execCrzRouteWrite_canon ?_
            exact h17
          · exact h15
        · refine ite_of ?_ ?_
          · refine inO_some ?_
            intro s18 h19
            refine after_canon ?_ ?_
            · intro x20
              intro h21
              refine execGroupArm_canon ?_
              exact h21
            · exact h19
          · exact inO_none

theorem execRateWrite_canon {req : Requester} {domB : Bool} {rate : Word} {s : Machine.State} (hc1 : s.Canon) :
    Goes State.Canon (execRateWrite req domB rate s) := by
  unfold execRateWrite
  extract_lets +onlyGivenNames y0
  clear_value y0
  extract_lets +onlyGivenNames y1
  clear_value y1
  extract_lets +onlyGivenNames y2
  clear_value y2
  refine done_canon ?_
  refine regCmd_canon ?_ ?_
  · intro s3 h4
    dsimp -zeta only
    extract_lets +onlyGivenNames y5
    have h6 : State.Canon y5 := by
      unfold y5
      refine wr_canon ?_
      exact h4
    clear_value y5
    refine ite_of ?_ ?_
    · refine raise_canon ?_
      exact h6
    · exact h6
  · exact hc1

theorem execDomainStep_canon {req : Requester} {domB : Bool} {s : Machine.State} (hc1 : s.Canon) :
    Goes State.Canon (execDomainStep req domB s) := by
  unfold execDomainStep
  extract_lets +onlyGivenNames y0
  clear_value y0
  refine done_canon ?_
  refine regCmd_canon ?_ ?_
  · intro s1 h2
    dsimp -zeta only
    extract_lets +onlyGivenNames y3
    clear_value y3
    extract_lets +onlyGivenNames y4
    clear_value y4
    refine canon_mk ?_
    exact h2
  · exact hc1

theorem execSelAuto_canon {req : Requester} {s : Machine.State} (hc1 : s.Canon) :
    Goes State.Canon (execSelAuto req s) := by
  unfold execSelAuto
  refine done_canon ?_
  refine regCmd_canon ?_ ?_
  · intro s0 h1
    dsimp -zeta only
    refine reselect_canon ?_
    refine wrB_canon ?_
    refine wrF_canon ?_
    exact h1
  · exact hc1

theorem selForce_canon {d : Bool} {s : Machine.State} (hc1 : s.Canon) : (selForce d s).Canon := by
  unfold selForce
  refine ite_of ?_ ?_
  · refine reselect_canon ?_
    refine wrB_canon ?_
    refine wrF_canon ?_
    exact hc1
  · refine wrB_canon ?_
    exact hc1

theorem execSelForceA_canon {req : Requester} {s : Machine.State} (hc1 : s.Canon) :
    Goes State.Canon (execSelForceA req s) := by
  unfold execSelForceA
  refine done_canon ?_
  refine regCmd_canon ?_ ?_
  · intro s0 h1
    refine selForce_canon ?_
    exact h1
  · exact hc1

theorem execSelForceB_canon {req : Requester} {s : Machine.State} (hc1 : s.Canon) :
    Goes State.Canon (execSelForceB req s) := by
  unfold execSelForceB
  refine done_canon ?_
  refine regCmd_canon ?_ ?_
  · intro s0 h1
    refine selForce_canon ?_
    exact h1
  · exact hc1

theorem execTimSnap_canon {req : Requester} {s : Machine.State} (hc1 : s.Canon) :
    Goes State.Canon (execTimSnap req s) := by
  unfold execTimSnap
  refine done_canon ?_
  refine regCmd_canon ?_ ?_
  · intro s0 h1
    dsimp -zeta only
    refine wrWords_canon ?_
    exact h1
  · exact hc1

theorem setCone_canon {n : Nat} {c : Cone} {s : Machine.State} (hc1 : s.Canon) : (setCone n c s).Canon := by
  unfold setCone
  refine canon_mk ?_
  exact hc1

theorem coneNext_canon {n : Nat} {tgt : Nat} {s : Machine.State} (hc1 : s.Canon) : (coneNext n tgt s).Canon := by
  unfold coneNext
  refine wrWords_canon ?_
  exact hc1

theorem coneArm_canon {n : Nat} {s : Machine.State} (hc1 : s.Canon) : (coneArm n s).Canon := by
  unfold coneArm
  extract_lets +onlyGivenNames y0
  clear_value y0
  extract_lets +onlyGivenNames y1
  clear_value y1
  refine ite_of ?_ ?_
  · extract_lets +onlyGivenNames y2
    clear_value y2
    extract_lets +onlyGivenNames y3
    have h4 : State.Canon y3 := by
      unfold y3
      refine ite_of ?_ ?_
      · refine pinRequest_canon ?_
        exact hc1
      · exact hc1
    clear_value y3
    extract_lets +onlyGivenNames y5
    have h6 : State.Canon y5 := by
      unfold y5
      refine ite_of ?_ ?_
      · exact h4
      · refine wrB_canon ?_
        exact h4
    clear_value y5
    extract_lets +onlyGivenNames y7
    have h8 : State.Canon y7 := by
      unfold y7
      refine setCone_canon ?_
      exact h6
    clear_value y7
    extract_lets +onlyGivenNames y9
    have h10 : State.Canon y9 := by
      unfold y9
      refine coneNext_canon ?_
      refine wr_canon ?_
      refine wrB_canon ?_
      exact h8
    clear_value y9
    refine ite_of ?_ ?_
    · refine coneLate_canon ?_
      exact h10
    · exact h10
  · refine raiseLive_canon ?_
    refine wrB_canon ?_
    refine wrB_canon ?_
    exact hc1

theorem execConeArm_canon {req : Requester} {cone : Fin 96} {ctrl : Word} {s : Machine.State} (hc1 : s.Canon) :
    Goes State.Canon (execConeArm req cone ctrl s) := by
  unfold execConeArm
  refine done_canon ?_
  refine ite_of ?_ ?_
  · exact hc1
  · refine regCmd_canon ?_ ?_
    · intro s0 h1
      dsimp -zeta only
      refine coneArm_canon ?_
      refine wr_canon ?_
      exact h1
    · exact hc1

theorem conePin_canon {n : Nat} {c : Cone} {level : Bool} {s : Machine.State} (hc1 : s.Canon) :
    (conePin n c level s).Canon := by
  unfold conePin
  refine pinRequest_canon ?_
  refine wrB_canon ?_
  exact hc1

theorem coneDisarm_canon {n : Nat} {s : Machine.State} (hc1 : s.Canon) : (coneDisarm n s).Canon := by
  unfold coneDisarm
  extract_lets +onlyGivenNames y0
  clear_value y0
  extract_lets +onlyGivenNames y1
  have h2 : State.Canon y1 := by
    unfold y1
    refine wrB_canon ?_
    exact hc1
  clear_value y1
  refine ite_of ?_ ?_
  · refine conePin_canon ?_
    exact h2
  · exact h2

theorem execConeDisarm_canon {req : Requester} {cone : Fin 96} {ctrl : Word} {s : Machine.State} (hc1 : s.Canon) :
    Goes State.Canon (execConeDisarm req cone ctrl s) := by
  unfold execConeDisarm
  refine done_canon ?_
  refine ite_of ?_ ?_
  · exact hc1
  · refine regCmd_canon ?_ ?_
    · intro s0 h1
      dsimp -zeta only
      refine coneDisarm_canon ?_
      refine wr_canon ?_
      exact h1
    · exact hc1

theorem pwmStart_canon {n : Nat} {c : Nat} {s : Machine.State} (hc1 : s.Canon) : (pwmStart n c s).Canon := by
  unfold pwmStart
  extract_lets +onlyGivenNames y0
  clear_value y0
  extract_lets +onlyGivenNames y1
  clear_value y1
  refine emit_canon ?_
  refine setPort_canon ?_
  exact hc1

theorem pwmRelease_canon {n : Nat} {mask : Nat} {s : Machine.State} (hc1 : s.Canon) : (pwmRelease n mask s).Canon := by
  unfold pwmRelease
  extract_lets +onlyGivenNames y0
  have h1 : State.Canon y0 := by
    unfold y0
    refine foldl_of ?_ ?_
    · exact hc1
    · intro x2
      intro x3
      intro h4
      refine ite_of ?_ ?_
      · refine foldl_of ?_ ?_
        · refine setFxq_canon ?_
          exact h4
        · intro x5
          intro x6
          intro h7
          refine pwmTake_canon ?_
          exact h7
      · exact h4
  clear_value y0
  refine forN_of ?_ ?_
  · exact h1
  · intro x8
    intro x9
    intro h10
    refine ite_of ?_ ?_
    · refine pwmStart_canon ?_
      exact h10
    · exact h10

theorem linRespond_canon {n : Nat} {s : Machine.State} (hc1 : s.Canon) : (linRespond n s).Canon := by
  unfold linRespond
  split
  · rename_i v0 v1 v2 v3
    extract_lets +onlyGivenNames y4
    clear_value y4
    refine emit_canon ?_
    refine setPort_canon ?_
    exact hc1
  · rename_i v5 v6
    exact hc1

theorem txStart_canon {n : Nat} {s : Machine.State} (hc1 : s.Canon) : (txStart n s).Canon := by
  unfold txStart
  split
  · rename_i v0 v1 v2 v3
    refine ite_of ?_ ?_
    · extract_lets +onlyGivenNames y4
      clear_value y4
      extract_lets +onlyGivenNames y5
      have h6 : State.Canon y5 := by
        unfold y5
        refine raise_canon ?_
        refine bump_canon ?_
        refine setPort_canon ?_
        exact hc1
      clear_value y5
      split
      · rename_i v7 v8 v9
        refine sensorFail_canon ?_
        exact h6
      · rename_i v10 v11
        exact h6
    · refine emit_canon ?_
      refine setPort_canon ?_
      exact hc1
  · rename_i v12 v13
    exact hc1

theorem lgStart_canon {n : Nat} {s : Machine.State} (hc1 : s.Canon) : (lgStart n s).Canon := by
  unfold lgStart
  refine ite_of ?_ ?_
  · split
    · rename_i v0 v1 v2 v3
      refine linRespond_canon ?_
      refine emit_canon ?_
      exact hc1
    · rename_i v4 v5
      exact hc1
  · refine txStart_canon ?_
    exact hc1

theorem linTake_canon {n : Nat} {q : Nat} {id : Nat} {it : FxpItem} {grp : Bool} {s : Machine.State} (hc1 : s.Canon) :
    (linTake n q id it grp s).Canon := by
  unfold linTake
  extract_lets +onlyGivenNames y0
  have h1 : State.Canon y0 := by
    unfold y0
    refine requeuePending_canon ?_
    exact hc1
  clear_value y0
  extract_lets +onlyGivenNames y2
  clear_value y2
  extract_lets +onlyGivenNames y3
  clear_value y3
  refine setPort_canon ?_
  refine setFxq_canon ?_
  exact h1

theorem takePending_canon {n : Nat} {q : Nat} {it : FxpItem} {grp : Bool} {s : Machine.State} (hc1 : s.Canon) :
    (takePending n q it grp s).Canon := by
  unfold takePending
  extract_lets +onlyGivenNames y0
  have h1 : State.Canon y0 := by
    unfold y0
    refine requeuePending_canon ?_
    exact hc1
  clear_value y0
  refine setPort_canon ?_
  refine setFxq_canon ?_
  exact h1

theorem lgMemberRelease_canon {g : Nat} {mask : Nat} {n : Nat} {ready : List Nat} {s : Machine.State} (hc1 : s.Canon) :
    (lgMemberRelease g mask n ready s).Canon := by
  unfold lgMemberRelease
  refine ite_of ?_ ?_
  · refine ite_of ?_ ?_
    · refine pwmRelease_canon ?_
      exact hc1
    · exact hc1
  · split
    · rename_i v0 v1
      exact hc1
    · rename_i v2 v3 v4 v5
      refine ite_of ?_ ?_
      · exact hc1
      · refine ite_of ?_ ?_
        · extract_lets +onlyGivenNames y6
          have h7 : State.Canon y6 := by
            unfold y6
            refine lgStart_canon ?_
            refine ite_of ?_ ?_
            · refine linTake_canon ?_
              exact hc1
            · refine takePending_canon ?_
              exact hc1
          clear_value y6
          refine ite_of ?_ ?_
          · refine setLg_canon ?_
            exact h7
          · exact h7
        · extract_lets +onlyGivenNames y8
          have h9 : State.Canon y8 := by
            unfold y8
            refine bump_canon ?_
            exact hc1
          clear_value y8
          refine setLg_canon ?_
          exact h9

theorem lgRelease_canon {g : Nat} {ready : List Nat} {s : Machine.State} (hc1 : s.Canon) :
    (lgRelease g ready s).Canon := by
  unfold lgRelease
  refine ite_of ?_ ?_
  · exact hc1
  · refine ite_of ?_ ?_
    · refine wrB_canon ?_
      exact hc1
    · extract_lets +onlyGivenNames y0
      clear_value y0
      extract_lets +onlyGivenNames y1
      have h2 : State.Canon y1 := by
        unfold y1
        refine wrF_canon ?_
        refine bump_canon ?_
        exact hc1
      clear_value y1
      refine foldl_of ?_ ?_
      · exact h2
      · intro x3
        intro x4
        intro h5
        refine lgMemberRelease_canon ?_
        exact h5

theorem execLgRelease_canon {req : Requester} {group : Fin 16} {ready : List (Fin 128)} {s : Machine.State} (hc1 : s.Canon) :
    Goes State.Canon (execLgRelease req group ready s) := by
  unfold execLgRelease
  refine done_canon ?_
  refine regCmd_canon ?_ ?_
  · intro s0 h1
    refine lgRelease_canon ?_
    exact h1
  · exact hc1

theorem timWrite_canon {q : Requester} {off : Nat} {w : Word} {e : WrEnv} : InO KeepsC (timWrite q off w e) := by
  unfold timWrite
  refine ite_of ?_ ?_
  · refine inO_some ?_
    intro s0 h1
    refine after_canon ?_ ?_
    · intro x2
      intro h3
      refine execRateWrite_canon ?_
      exact h3
    · exact h1
  · refine ite_of ?_ ?_
    · refine inO_some ?_
      intro s4 h5
      refine onBit_canon ?_ ?_
      · intro s6 h7
        refine after_canon ?_ ?_
        · intro x8
          intro h9
          refine execDomainStep_canon ?_
          exact h9
        · exact h7
      · exact h5
    · refine ite_of ?_ ?_
      · refine inO_some ?_
        intro s10 h11
        dsimp -zeta only
        extract_lets +onlyGivenNames y12
        have h13 : State.Canon y12 := by
          unfold y12
          refine ite_of ?_ ?_
          · refine onBit_canon ?_ ?_
            · intro s14 h15
              refine wrB_canon ?_
              exact h15
            · exact h11
          · exact h11
        clear_value y12
        split
        · rename_i v16 v17
          refine after_canon ?_ ?_
          · intro x18
            intro h19
            refine execSelAuto_canon ?_
            exact h19
          · exact h13
        · rename_i v20 v21
          refine after_canon ?_ ?_
          · intro x22
            intro h23
            refine execSelForceA_canon ?_
            exact h23
          · exact h13
        · rename_i v24 v25
          refine after_canon ?_ ?_
          · intro x26
            intro h27
            refine execSelForceB_canon ?_
            exact h27
          · exact h13
        · rename_i v28 v29 v30 v31
          exact h13
      · refine ite_of ?_ ?_
        · refine inO_some ?_
          intro s32 h33
          refine onBit_canon ?_ ?_
          · intro s34 h35
            refine after_canon ?_ ?_
            · intro x36
              intro h37
              refine execTimSnap_canon ?_
              exact h37
            · exact h35
          · exact h33
        · refine ite_of ?_ ?_
          · extract_lets +onlyGivenNames y38
            clear_value y38
            refine inO_some ?_
            refine ite_of ?_ ?_
            · intro s39 h40
              refine after_canon ?_ ?_
              · intro x41
                intro h42
                refine execConeArm_canon ?_
                exact h42
              · exact h40
            · intro s43 h44
              refine after_canon ?_ ?_
              · intro x45
                intro h46
                refine execConeDisarm_canon ?_
                exact h46
              · exact h44
          · refine ite_of ?_ ?_
            · refine inO_some ?_
              intro s47 h48
              refine onBit_canon ?_ ?_
              · intro s49 h50
                refine after_canon ?_ ?_
                · intro x51
                  intro h52
                  refine execLgRelease_canon ?_
                  exact h52
                · exact h50
              · exact h48
            · exact inO_none

theorem localWake_canon {c : Nat} {s : Machine.State} (hc1 : s.Canon) : (localWake c s).Canon := by
  unfold localWake
  refine ite_of ?_ ?_
  · refine ncSettle_canon ?_
    refine ncLatch_canon ?_
    exact hc1
  · exact hc1

theorem execNcWake_canon {req : Requester} {c : Fin 16} {s : Machine.State} (hc1 : s.Canon) :
    Goes State.Canon (execNcWake req c s) := by
  unfold execNcWake
  refine done_canon ?_
  refine regCmd_canon ?_ ?_
  · intro s0 h1
    refine localWake_canon ?_
    exact h1
  · exact hc1

theorem execNcConsentWrite_canon {req : Requester} {c : Fin 16} {v : Bool} {s : Machine.State} (hc1 : s.Canon) :
    Goes State.Canon (execNcConsentWrite req c v s) := by
  unfold execNcConsentWrite
  refine done_canon ?_
  refine regCmd_canon ?_ ?_
  · intro s0 h1
    dsimp -zeta only
    extract_lets +onlyGivenNames y2
    have h3 : State.Canon y2 := by
      unfold y2
      refine wrB_canon ?_
      exact h1
    clear_value y2
    refine ite_of ?_ ?_
    · exact h3
    · refine localWake_canon ?_
      exact h3
  · exact hc1

theorem errlogPop_canon {s : Machine.State} (hc1 : s.Canon) : (errlogPop s).Canon := by
  unfold errlogPop
  refine brgLogSync_canon ?_
  refine modBrg_canon ?_
  exact hc1

theorem revtSync_canon {s : Machine.State} (hc1 : s.Canon) : (revtSync s).Canon := by
  unfold revtSync
  refine coilLive_canon ?_
  refine wrWords_canon ?_
  refine wr_canon ?_
  exact hc1

theorem execColRevtPop_canon {req : Requester} {s : Machine.State} (hc1 : s.Canon) :
    Goes State.Canon (execColRevtPop req s) := by
  unfold execColRevtPop
  refine done_canon ?_
  refine regCmd_canon ?_ ?_
  · intro s0 h1
    dsimp -zeta only
    refine revtSync_canon ?_
    refine modCol_canon ?_
    exact h1
  · exact hc1

theorem execCfgLockSet_canon {req : Requester} {s : Machine.State} (hc1 : s.Canon) :
    Goes State.Canon (execCfgLockSet req s) := by
  unfold execCfgLockSet
  refine done_canon ?_
  refine regCmd_canon ?_ ?_
  · intro s0 h1
    refine wrB_canon ?_
    exact h1
  · exact hc1

theorem footCmd_canon {q : Requester} {off : Nat} {f : Machine.State → Machine.State} {s : Machine.State} (hc1 : KeepsC f) (hc2 : s.Canon) :
    (footCmd q off f s).Canon := by
  unfold footCmd
  refine regCmd_canon ?_ ?_
  · exact hc1
  · exact hc2

theorem execFootCmdKey_canon {req : Requester} {w : Word} {s : Machine.State} (hc1 : s.Canon) :
    Goes State.Canon (execFootCmdKey req w s) := by
  unfold execFootCmdKey
  refine done_canon ?_
  refine footCmd_canon ?_ ?_
  · intro s0 h1
    dsimp -zeta only
    refine canon_mk ?_
    exact h1
  · exact hc1

theorem execSafeEnter_canon {req : Requester} {s : Machine.State} (hc1 : s.Canon) :
    Goes State.Canon (execSafeEnter req s) := by
  unfold execSafeEnter
  refine done_canon ?_
  refine footCmd_canon ?_ ?_
  · intro s0 h1
    refine enterSafe_canon ?_
    exact h1
  · exact hc1

theorem engineSafeEnd_canon {n : Nat} {s : Machine.State} (hc1 : s.Canon) : (engineSafeEnd n s).Canon := by
  unfold engineSafeEnd
  refine ite_of ?_ ?_
  · exact hc1
  · split
    · rename_i v0 v1
      refine canxPinC_canon ?_
      exact hc1
    · rename_i v2 v3
      extract_lets +onlyGivenNames y4
      clear_value y4
      refine setPort_canon ?_
      exact hc1
    · rename_i v5 v6
      refine forN_of ?_ ?_
      · exact hc1
      · intro x7
        intro x8
        intro h9
        refine ite_of ?_ ?_
        · refine pwmStart_canon ?_
          exact h9
        · exact h9
    · rename_i v10 v11 v12 v13
      exact hc1

theorem safeEnd_canon {s : Machine.State} (hc1 : s.Canon) : (safeEnd s).Canon := by
  unfold safeEnd
  refine forN_of ?_ ?_
  · refine setLive_canon ?_
    refine wrB_canon ?_
    exact hc1
  · intro x0
    intro x1
    intro h2
    refine engineSafeEnd_canon ?_
    exact h2

theorem satInc_canon {k : Nat} {hi : Nat} {lo : Nat} {s : Machine.State} (hc1 : s.Canon) :
    (satInc k hi lo s).Canon := by
  unfold satInc
  refine ite_of ?_ ?_
  · refine wrF_canon ?_
    exact hc1
  · exact hc1

theorem execSafeExit_canon {req : Requester} {s : Machine.State} (hc1 : s.Canon) :
    Goes State.Canon (execSafeExit req s) := by
  unfold execSafeExit
  refine done_canon ?_
  refine footCmd_canon ?_ ?_
  · intro s0 h1
    dsimp -zeta only
    refine ite_of ?_ ?_
    · refine ite_of ?_ ?_
      · refine nmwSettle_canon ?_
        refine safeEnd_canon ?_
        exact h1
      · exact h1
    · refine satInc_canon ?_
      exact h1
  · exact hc1

theorem footReject_canon {s : Machine.State} (hc1 : s.Canon) : (footReject s).Canon := by
  unfold footReject
  refine raise_canon ?_
  refine satInc_canon ?_
  exact hc1

theorem footKeyed_canon {q : Requester} {f : Machine.State → Machine.State} {s : Machine.State} (hc1 : KeepsC f) (hc2 : s.Canon) :
    (footKeyed q f s).Canon := by
  unfold footKeyed
  split
  · rename_i v0 v1 v2 v3
    refine ite_of ?_ ?_
    · refine hc1 _ ?_
      refine canon_mk ?_
      exact hc2
    · refine footReject_canon ?_
      exact hc2
  · rename_i v4 v5
    refine footReject_canon ?_
    exact hc2

theorem execWarmReset_canon {req : Requester} {s : Machine.State} (hc1 : s.Canon) :
    Goes State.Canon (execWarmReset req s) := by
  unfold execWarmReset
  refine done_canon ?_
  refine footCmd_canon ?_ ?_
  · intro s0 h1
    refine footKeyed_canon ?_ ?_
    · intro s2 h3
      refine resetTo_canon ?_
      exact h3
    · exact h1
  · exact hc1

theorem execColdReset_canon {req : Requester} {s : Machine.State} (hc1 : s.Canon) :
    Goes State.Canon (execColdReset req s) := by
  unfold execColdReset
  refine done_canon ?_
  refine footCmd_canon ?_ ?_
  · intro s0 h1
    refine footKeyed_canon ?_ ?_
    · intro s2 h3
      refine resetTo_canon ?_
      exact h3
    · exact h1
  · exact hc1

theorem zeroise_canon {s : Machine.State} (hc1 : s.Canon) : (zeroise s).Canon := by
  unfold zeroise
  extract_lets +onlyGivenNames y0
  have h1 : State.Canon y0 := by
    unfold y0
    refine clearCache_canon ?_
    exact hc1
  clear_value y0
  refine ite_of ?_ ?_
  · exact h1
  · refine emit_canon ?_
    refine modSag_canon ?_
    exact h1

theorem execZeroise_canon {req : Requester} {s : Machine.State} (hc1 : s.Canon) :
    Goes State.Canon (execZeroise req s) := by
  unfold execZeroise
  refine done_canon ?_
  refine footCmd_canon ?_ ?_
  · intro s0 h1
    refine footKeyed_canon ?_ ?_
    · intro s2 h3
      refine zeroise_canon ?_
      exact h3
    · exact h1
  · exact hc1

theorem standbyExit_canon {s : Machine.State} (hc1 : s.Canon) : (standbyExit s).Canon := by
  unfold standbyExit
  refine resetTo_canon ?_
  refine wrB_canon ?_
  exact hc1

theorem footWake_canon {source : Nat} {index : Nat} {mask : Nat} {id : Nat} {s : Machine.State} (hc1 : s.Canon) :
    (footWake source index mask id s).Canon := by
  unfold footWake
  refine ite_of ?_ ?_
  · exact hc1
  · refine ite_of ?_ ?_
    · refine wrB_canon ?_
      exact hc1
    · extract_lets +onlyGivenNames y0
      clear_value y0
      extract_lets +onlyGivenNames y1
      have h2 : State.Canon y1 := by
        unfold y1
        refine wr_canon ?_
        refine wr_canon ?_
        exact hc1
      clear_value y1
      extract_lets +onlyGivenNames y3
      clear_value y3
      extract_lets +onlyGivenNames y4
      have h5 : State.Canon y4 := by
        unfold y4
        refine canon_mk ?_
        exact h2
      clear_value y4
      refine ite_of ?_ ?_
      · refine standbyExit_canon ?_
        exact h5
      · exact h5

theorem execFootWakeCmd_canon {req : Requester} {s : Machine.State} (hc1 : s.Canon) :
    Goes State.Canon (execFootWakeCmd req s) := by
  unfold execFootWakeCmd
  refine done_canon ?_
  refine footCmd_canon ?_ ?_
  · intro s0 h1
    refine footWake_canon ?_
    exact h1
  · exact hc1

theorem execRetireClear_canon {req : Requester} {s : Machine.State} (hc1 : s.Canon) :
    Goes State.Canon (execRetireClear req s) := by
  unfold execRetireClear
  refine done_canon ?_
  refine footCmd_canon ?_ ?_
  · intro s0 h1
    refine footKeyed_canon ?_ ?_
    · intro s2 h3
      refine wr_canon ?_
      exact h3
    · exact h1
  · exact hc1

theorem execFootWdgCfgWrite_canon {req : Requester} {w : Word} {s : Machine.State} (hc1 : s.Canon) :
    Goes State.Canon (execFootWdgCfgWrite req w s) := by
  unfold execFootWdgCfgWrite
  refine done_canon ?_
  refine footCmd_canon ?_ ?_
  · intro s0 h1
    dsimp -zeta only
    refine ite_of ?_ ?_
    · exact h1
    · refine wr_canon ?_
      exact h1
  · exact hc1

theorem wdgExpire_canon {s : Machine.State} (hc1 : s.Canon) : (wdgExpire s).Canon := by
  unfold wdgExpire
  refine raise_canon ?_
  refine satInc_canon ?_
  refine footFault_canon ?_
  refine enterSafe_canon ?_
  refine canon_mk ?_
  exact hc1

theorem wdgKick_canon {v : Word} {s : Machine.State} (hc1 : s.Canon) : (wdgKick v s).Canon := by
  unfold wdgKick
  extract_lets +onlyGivenNames y0
  clear_value y0
  extract_lets +onlyGivenNames y1
  have h2 : State.Canon y1 := by
    unfold y1
    refine ite_of ?_ ?_
    · refine injDone_canon ?_
      exact hc1
    · exact hc1
  clear_value y1
  extract_lets +onlyGivenNames y3
  clear_value y3
  extract_lets +onlyGivenNames y4
  clear_value y4
  refine ite_of ?_ ?_
  · refine wdgExpire_canon ?_
    exact h2
  · extract_lets +onlyGivenNames y5
    have h6 : State.Canon y5 := by
      unfold y5
      refine wrB_canon ?_
      refine wrB_canon ?_
      exact h2
    clear_value y5
    refine canon_mk ?_
    exact h6

theorem execFootWdgKick_canon {req : Requester} {v : Word} {s : Machine.State} (hc1 : s.Canon) :
    Goes State.Canon (execFootWdgKick req v s) := by
  unfold execFootWdgKick
  refine done_canon ?_
  refine footCmd_canon ?_ ?_
  · intro s0 h1
    dsimp -zeta only
    refine ite_of ?_ ?_
    · exact h1
    · refine wdgKick_canon ?_
      exact h1
  · exact hc1

theorem execFootFaultClear_canon {req : Requester} {w : Word} {s : Machine.State} (hc1 : s.Canon) :
    Goes State.Canon (execFootFaultClear req w s) := by
  unfold execFootFaultClear
  refine done_canon ?_
  refine footCmd_canon ?_ ?_
  · intro s0 h1
    dsimp -zeta only
    refine wr_canon ?_
    exact h1
  · exact hc1

theorem mutedLive_canon {s : Machine.State} (hc1 : s.Canon) : (mutedLive s).Canon := by
  unfold mutedLive
  refine setLive_canon ?_
  exact hc1

theorem muteEnd_canon {n : Nat} {s : Machine.State} (hc1 : s.Canon) : (muteEnd n s).Canon := by
  unfold muteEnd
  refine mutedLive_canon ?_
  refine wrF_canon ?_
  refine wrB_canon ?_
  exact hc1

theorem execFootFwClear_canon {req : Requester} {port : Fin 128} {s : Machine.State} (hc1 : s.Canon) :
    Goes State.Canon (execFootFwClear req port s) := by
  unfold execFootFwClear
  refine done_canon ?_
  refine regCmd_canon ?_ ?_
  · intro s0 h1
    dsimp -zeta only
    refine muteEnd_canon ?_
    refine wrF_canon ?_
    exact h1
  · exact hc1

theorem footWrite_canon {q : Requester} {off : Nat} {w : Word} : InO KeepsC (footWrite q off w) := by
  unfold footWrite
  refine ite_of ?_ ?_
  · refine inO_some ?_
    intro s0 h1
    refine after_canon ?_ ?_
    · intro x2
      intro h3
      refine execFootCmdKey_canon ?_
      exact h3
    · exact h1
  · refine ite_of ?_ ?_
    · refine inO_some ?_
      split
      · rename_i v4 v5
        intro s6 h7
        refine after_canon ?_ ?_
        · intro x8
          intro h9
          refine execSafeEnter_canon ?_
          exact h9
        · exact h7
      · rename_i v10 v11
        intro s12 h13
        refine after_canon ?_ ?_
        · intro x14
          intro h15
          refine execSafeExit_canon ?_
          exact h15
        · exact h13
      · rename_i v16 v17
        intro s18 h19
        refine after_canon ?_ ?_
        · intro x20
          intro h21
          refine execWarmReset_canon ?_
          exact h21
        · exact h19
      · rename_i v22 v23
        intro s24 h25
        refine after_canon ?_ ?_
        · intro x26
          intro h27
          refine execColdReset_canon ?_
          exact h27
        · exact h25
      · rename_i v28 v29
        intro s30 h31
        refine after_canon ?_ ?_
        · intro x32
          intro h33
          refine execZeroise_canon ?_
          exact h33
        · exact h31
      · rename_i v34 v35
        intro s36 h37
        refine after_canon ?_ ?_
        · intro x38
          intro h39
          refine execFootWakeCmd_canon ?_
          exact h39
        · exact h37
      · rename_i v40 v41
        intro s42 h43
        refine after_canon ?_ ?_
        · intro x44
          intro h45
          refine execRetireClear_canon ?_
          exact h45
        · exact h43
      · rename_i v46 v47 v48 v49 v50 v51 v52 v53
        intro s54 h55
        refine id_canon ?_
        exact h55
    · refine ite_of ?_ ?_
      · refine inO_some ?_
        intro s56 h57
        refine after_canon ?_ ?_
        · intro x58
          intro h59
          refine execFootWdgCfgWrite_canon ?_
          exact h59
        · exact h57
      · refine ite_of ?_ ?_
        · refine inO_some ?_
          intro s60 h61
          refine after_canon ?_ ?_
          · intro x62
            intro h63
            refine execFootWdgKick_canon ?_
            exact h63
          · exact h61
        · refine ite_of ?_ ?_
          · refine inO_some ?_
            intro s64 h65
            refine after_canon ?_ ?_
            · intro x66
              intro h67
              refine execFootFaultClear_canon ?_
              exact h67
            · exact h65
          · refine ite_of ?_ ?_
            · refine inO_some ?_
              intro s68 h69
              refine onBit_canon ?_ ?_
              · intro s70 h71
                refine after_canon ?_ ?_
                · intro x72
                  intro h73
                  refine execFootFwClear_canon ?_
                  exact h73
                · exact h71
              · exact h69
            · exact inO_none

theorem execCanxRecover_canon {req : Requester} {port : Fin 128} {s : Machine.State} (hc1 : s.Canon) :
    Goes State.Canon (execCanxRecover req port s) := by
  unfold execCanxRecover
  refine done_canon ?_
  refine regCmd_canon ?_ ?_
  · intro s0 h1
    dsimp -zeta only
    refine ite_of ?_ ?_
    · refine setPort_canon ?_
      exact h1
    · exact h1
  · exact hc1

theorem canxFreeze_canon {n : Nat} {busy : Bool} {s : Machine.State} (hc1 : s.Canon) : (canxFreeze n busy s).Canon := by
  unfold canxFreeze
  extract_lets +onlyGivenNames y0
  have h1 : State.Canon y0 := by
    unfold y0
    refine wrB_canon ?_
    exact hc1
  clear_value y0
  refine ite_of ?_ ?_
  · refine canxFrozen_canon ?_
    exact h1
  · exact h1

theorem execCanxFreeze_canon {req : Requester} {port : Fin 128} {busy : Bool} {s : Machine.State} (hc1 : s.Canon) :
    Goes State.Canon (execCanxFreeze req port busy s) := by
  unfold execCanxFreeze
  refine done_canon ?_
  refine regCmd_canon ?_ ?_
  · intro s0 h1
    dsimp -zeta only
    refine ite_of ?_ ?_
    · refine canxFreeze_canon ?_
      exact h1
    · exact h1
  · exact hc1

theorem execCanxUnfreeze_canon {req : Requester} {port : Fin 128} {s : Machine.State} (hc1 : s.Canon) :
    Goes State.Canon (execCanxUnfreeze req port s) := by
  unfold execCanxUnfreeze
  refine done_canon ?_
  refine regCmd_canon ?_ ?_
  · intro s0 h1
    dsimp -zeta only
    refine ite_of ?_ ?_
    · refine canxUnfreeze_canon ?_
      exact h1
    · exact h1
  · exact hc1

theorem linSwitch_canon {n : Nat} {s : Machine.State} (hc1 : s.Canon) : (linSwitch n s).Canon := by
  unfold linSwitch
  split
  · rename_i v0 v1 v2 v3 v4
    extract_lets +onlyGivenNames y5
    have h6 : State.Canon y5 := by
      unfold y5
      refine wrF_canon ?_
      exact hc1
    clear_value y5
    extract_lets +onlyGivenNames y7
    clear_value y7
    extract_lets +onlyGivenNames y8
    have h9 : State.Canon y8 := by
      unfold y8
      refine setPort_canon ?_
      exact h6
    clear_value y8
    refine raise_canon ?_
    exact h9
  · rename_i v10 v11 v12
    exact hc1

theorem execLinSchedReq_canon {req : Requester} {port : Fin 128} {table : Fin 8} {s : Machine.State} (hc1 : s.Canon) :
    Goes State.Canon (execLinSchedReq req port table s) := by
  unfold execLinSchedReq
  extract_lets +onlyGivenNames y0
  clear_value y0
  refine done_canon ?_
  refine regCmd_canon ?_ ?_
  · intro s1 h2
    dsimp -zeta only
    refine ite_of ?_ ?_
    · exact h2
    · extract_lets +onlyGivenNames y3
      have h4 : State.Canon y3 := by
        unfold y3
        refine wrF_canon ?_
        exact h2
      clear_value y3
      extract_lets +onlyGivenNames y5
      clear_value y5
      extract_lets +onlyGivenNames y6
      have h7 : State.Canon y6 := by
        unfold y6
        refine setPort_canon ?_
        exact h4
      clear_value y6
      refine ite_of ?_ ?_
      · exact h7
      · refine linSwitch_canon ?_
        exact h7
  · exact hc1

theorem execLinWake_canon {req : Requester} {port : Fin 128} {s : Machine.State} (hc1 : s.Canon) :
    Goes State.Canon (execLinWake req port s) := by
  unfold execLinWake
  extract_lets +onlyGivenNames y0
  clear_value y0
  refine done_canon ?_
  refine regCmd_canon ?_ ?_
  · intro s1 h2
    dsimp -zeta only
    refine ite_of ?_ ?_
    · refine linWakeNow_canon ?_
      refine emit_canon ?_
      exact h2
    · exact h2
  · exact hc1

theorem execLinSleep_canon {req : Requester} {port : Fin 128} {s : Machine.State} (hc1 : s.Canon) :
    Goes State.Canon (execLinSleep req port s) := by
  unfold execLinSleep
  extract_lets +onlyGivenNames y0
  clear_value y0
  refine done_canon ?_
  refine regCmd_canon ?_ ?_
  · intro s1 h2
    dsimp -zeta only
    refine ite_of ?_ ?_
    · refine setPort_canon ?_
      exact h2
    · exact h2
  · exact hc1

theorem persWrite_canon {q : Requester} {port : Fin 128} {o : Nat} {w : Word} {e : WrEnv} {s : Machine.State} (hc1 : s.Canon) :
    InO KeepsC (persWrite q port o w e s) := by
  unfold persWrite
  split
  · rename_i v0 v1 v2
    refine inO_some ?_
    intro s3 h4
    dsimp -zeta only
    extract_lets +onlyGivenNames y5
    have h6 : State.Canon y5 := by
      unfold y5
      refine ite_of ?_ ?_
      · refine canxPinC_canon ?_
        refine wrB_canon ?_
        exact h4
      · exact h4
    clear_value y5
    extract_lets +onlyGivenNames y7
    have h8 : State.Canon y7 := by
      unfold y7
      refine onBit_canon ?_ ?_
      · intro s9 h10
        refine after_canon ?_ ?_
        · intro x11
          intro h12
          refine execCanxRecover_canon ?_
          exact h12
        · exact h10
      · exact h6
    clear_value y7
    refine ite_of ?_ ?_
    · exact h8
    · refine ite_of ?_ ?_
      · refine after_canon ?_ ?_
        · intro x13
          intro h14
          refine execCanxFreeze_canon ?_
          exact h14
        · exact h8
      · refine after_canon ?_ ?_
        · intro x15
          intro h16
          refine execCanxUnfreeze_canon ?_
          exact h16
        · exact h8
  · rename_i v17 v18 v19
    refine inO_some ?_
    intro s20 h21
    refine after_canon ?_ ?_
    · intro x22
      intro h23
      refine execLinSchedReq_canon ?_
      exact h23
    · exact h21
  · rename_i v24 v25 v26
    refine inO_some ?_
    intro s27 h28
    dsimp -zeta only
    refine onBit_canon ?_ ?_
    · intro s29 h30
      refine after_canon ?_ ?_
      · intro x31
        intro h32
        refine execLinWake_canon ?_
        exact h32
      · exact h30
    · refine onBit_canon ?_ ?_
      · intro s33 h34
        refine after_canon ?_ ?_
        · intro x35
          intro h36
          refine execLinSleep_canon ?_
          exact h36
        · exact h34
      · exact h28
  · rename_i v37 v38 v39 v40 v41 v42
    exact inO_none

theorem execTc10WakeCmd_canon {req : Requester} {port : Fin 24} {s : Machine.State} (hc1 : s.Canon) :
    Goes State.Canon (execTc10WakeCmd req port s) := by
  unfold execTc10WakeCmd
  refine done_canon ?_
  refine regCmd_canon ?_ ?_
  · intro s0 h1
    refine tc10Wake_canon ?_
    exact h1
  · exact hc1

theorem tc10Sleep_canon {n : Nat} {s : Machine.State} (hc1 : s.Canon) : (tc10Sleep n s).Canon := by
  unfold tc10Sleep
  refine ite_of ?_ ?_
  · refine sleepPio_canon ?_
    refine setMac_canon ?_
    exact hc1
  · exact hc1

theorem execTc10Sleep_canon {req : Requester} {port : Fin 24} {s : Machine.State} (hc1 : s.Canon) :
    Goes State.Canon (execTc10Sleep req port s) := by
  unfold execTc10Sleep
  refine done_canon ?_
  refine regCmd_canon ?_ ?_
  · intro s0 h1
    refine tc10Sleep_canon ?_
    exact h1
  · exact hc1

theorem execSrtImgSend_canon {req : Requester} {img : Fin 65536} {s : Machine.State} (hc1 : s.Canon) :
    Goes State.Canon (execSrtImgSend req img s) := by
  unfold execSrtImgSend
  refine done_canon ?_
  refine regCmd_canon ?_ ?_
  · intro s0 h1
    dsimp -zeta only
    refine nmwSettle_canon ?_
    refine imageRequest_canon ?_
    exact h1
  · exact hc1

theorem execPioOutWrite_canon {req : Requester} {pin : Fin 64} {level : Bool} {s : Machine.State} (hc1 : s.Canon) :
    Goes State.Canon (execPioOutWrite req pin level s) := by
  unfold execPioOutWrite
  refine done_canon ?_
  refine ite_of ?_ ?_
  · refine pinRequest_canon ?_
    exact hc1
  · refine accErr_canon ?_
    exact hc1

theorem setQp_canon {q : Nat} {v : Qp} {s : Machine.State} (hc1 : s.Canon) : (setQp q v s).Canon := by
  unfold setQp
  refine canon_mk ?_
  exact hc1

theorem qpSettle_canon {q : Nat} {s : Machine.State} (hc1 : s.Canon) : (qpSettle q s).Canon := by
  unfold qpSettle
  extract_lets +onlyGivenNames y0
  clear_value y0
  extract_lets +onlyGivenNames y1
  have h2 : State.Canon y1 := by
    unfold y1
    refine ite_of ?_ ?_
    · refine wr_canon ?_
      refine wr_canon ?_
      exact hc1
    · exact hc1
  clear_value y1
  split
  rename_i v3 v4 v5 v6
  have h7 : State.Canon v4 := by
    refine (of_eq (P := (InL State.Canon)) v6 ?_)
    refine wmSee_canon ?_
    exact h2
  refine ite_of ?_ ?_
  · refine qpWmLive_canon ?_
    refine raise_canon ?_
    refine wrB_canon ?_
    exact h7
  · exact h7

theorem execQpEnable_canon {req : Requester} {q : Fin 1024} {s : Machine.State} (hc1 : s.Canon) :
    Goes State.Canon (execQpEnable req q s) := by
  unfold execQpEnable
  refine done_canon ?_
  refine regCmd_canon ?_ ?_
  · intro s0 h1
    dsimp -zeta only
    refine ite_of ?_ ?_
    · exact h1
    · refine ite_of ?_ ?_
      · refine wrB_canon ?_
        exact h1
      · extract_lets +onlyGivenNames y2
        have h3 : State.Canon y2 := by
          unfold y2
          refine wrF_canon ?_
          refine wrF_canon ?_
          refine setQp_canon ?_
          exact h1
        clear_value y2
        refine qpSettle_canon ?_
        refine wrB_canon ?_
        refine wrB_canon ?_
        exact h3
  · exact hc1

theorem qpAnnounce_canon {q : Nat} {tx : Bool} {s : Machine.State} (hc1 : s.Canon) : (qpAnnounce q tx s).Canon := by
  unfold qpAnnounce
  extract_lets +onlyGivenNames y0
  clear_value y0
  refine ite_of ?_ ?_
  · refine sendVec_canon ?_
    refine setQp_canon ?_
    exact hc1
  · refine sendVec_canon ?_
    refine setQp_canon ?_
    exact hc1

theorem qpIrq_canon {q : Nat} {expired : Bool} {s : Machine.State} (hc1 : s.Canon) : (qpIrq q expired s).Canon := by
  unfold qpIrq
  extract_lets +onlyGivenNames y0
  clear_value y0
  extract_lets +onlyGivenNames y1
  clear_value y1
  extract_lets +onlyGivenNames y2
  have h3 : State.Canon y2 := by
    unfold y2
    refine ite_of ?_ ?_
    · refine qpAnnounce_canon ?_
      exact hc1
    · exact hc1
  clear_value y2
  refine ite_of ?_ ?_
  · refine qpAnnounce_canon ?_
    exact h3
  · exact h3

theorem wbDrain_canon {q : Nat} {a : Nat} {a2 : Machine.State} (hc1 : a2.Canon) : (wbDrain q a a2).Canon := by
  fun_induction wbDrain q a a2
  · rename_i v0
    exact hc1
  · rename_i v1 v2 v3
    exact hc1
  · rename_i v4 v5 v6 v7 v8 v9
    exact hc1
  · rename_i v10 v11 v12 v13 v14 v15 v16 v17 v18 v19 v20
    refine v20 ?_
    refine wrF_canon ?_
    unfold v19
    refine emit_canon ?_
    unfold v18
    refine setQp_canon ?_
    exact hc1

theorem wbFlush_canon {q : Nat} {s : Machine.State} (hc1 : s.Canon) : (wbFlush q s).Canon := by
  unfold wbFlush
  refine qpIrq_canon ?_
  refine wbDrain_canon ?_
  exact hc1

theorem sendsFlushed_canon {q : Nat} {a : List Nat} {a2 : Machine.State} (hc1 : a2.Canon) :
    (sendsFlushed q a a2).Canon := by
  fun_induction sendsFlushed q a a2
  · rename_i v0
    exact hc1
  · rename_i v1 v2 v3 v4 v5 v6
    exact hc1
  · rename_i v7 v8 v9 v10 v11 v12 v13
    refine v13 ?_
    refine setQp_canon ?_
    exact hc1

theorem cqWrite_canon {q : Nat} {it : SlipItem} {sop : Bool} {eop : Bool} {trunc : Bool} {bytes : Nat} {buf : Nat} {s : Machine.State} (hc1 : s.Canon) :
    (cqWrite q it sop eop trunc bytes buf s).Canon := by
  unfold cqWrite
  extract_lets +onlyGivenNames y0
  clear_value y0
  extract_lets +onlyGivenNames y1
  have h2 : State.Canon y1 := by
    unfold y1
    refine emit_canon ?_
    exact hc1
  clear_value y1
  extract_lets +onlyGivenNames y3
  have h4 : State.Canon y3 := by
    unfold y3
    refine wrF_canon ?_
    exact h2
  clear_value y3
  refine qpIrq_canon ?_
  refine setQp_canon ?_
  exact h4

theorem slipCut_canon {q : Nat} {s : Machine.State} (hc1 : s.Canon) : (slipCut q s).Canon := by
  unfold slipCut
  split
  · rename_i v0 v1
    exact hc1
  · rename_i v2 v3 v4 v5
    extract_lets +onlyGivenNames y6
    clear_value y6
    refine ite_of ?_ ?_
    · refine setQp_canon ?_
      exact hc1
    · refine cqWrite_canon ?_
      refine setQp_canon ?_
      exact hc1

theorem qpStop_canon {q : Nat} {sends : List Nat} {s : Machine.State} (hc1 : s.Canon) : (qpStop q sends s).Canon := by
  unfold qpStop
  extract_lets +onlyGivenNames y0
  have h1 : State.Canon y0 := by
    unfold y0
    refine wrB_canon ?_
    refine wrB_canon ?_
    exact hc1
  clear_value y0
  refine qpSettle_canon ?_
  refine wbFlush_canon ?_
  refine sendsFlushed_canon ?_
  refine slipCut_canon ?_
  exact h1

theorem execQpDisable_canon {req : Requester} {q : Fin 1024} {sends : List Nat} {s : Machine.State} (hc1 : s.Canon) :
    Goes State.Canon (execQpDisable req q sends s) := by
  unfold execQpDisable
  refine done_canon ?_
  refine regCmd_canon ?_ ?_
  · intro s0 h1
    dsimp -zeta only
    refine ite_of ?_ ?_
    · refine qpStop_canon ?_
      exact h1
    · exact h1
  · exact hc1

theorem execCapRewind_canon {req : Requester} {q : Fin 1024} {s : Machine.State} (hc1 : s.Canon) :
    Goes State.Canon (execCapRewind req q s) := by
  unfold execCapRewind
  refine done_canon ?_
  refine regCmd_canon ?_ ?_
  · intro s0 h1
    dsimp -zeta only
    split
    · rename_i v2 v3 v4
      refine ite_of ?_ ?_
      · extract_lets +onlyGivenNames y5
        have h6 : State.Canon y5 := by
          unfold y5
          refine slipCut_canon ?_
          exact h1
        clear_value y5
        refine qpSettle_canon ?_
        refine setQp_canon ?_
        exact h6
      · exact h1
    · rename_i v7 v8
      exact h1
  · exact hc1

theorem execCapMark_canon {req : Requester} {q : Fin 1024} {s : Machine.State} (hc1 : s.Canon) :
    Goes State.Canon (execCapMark req q s) := by
  unfold execCapMark
  refine done_canon ?_
  refine regCmd_canon ?_ ?_
  · intro s0 h1
    dsimp -zeta only
    refine ite_of ?_ ?_
    · refine qpSettle_canon ?_
      refine setQp_canon ?_
      exact h1
    · exact h1
  · exact hc1

theorem execQpFlush_canon {req : Requester} {q : Fin 1024} {sends : List Nat} {s : Machine.State} (hc1 : s.Canon) :
    Goes State.Canon (execQpFlush req q sends s) := by
  unfold execQpFlush
  refine done_canon ?_
  refine regCmd_canon ?_ ?_
  · intro s0 h1
    dsimp -zeta only
    refine ite_of ?_ ?_
    · refine qpSettle_canon ?_
      refine wbFlush_canon ?_
      refine sendsFlushed_canon ?_
      refine slipCut_canon ?_
      exact h1
    · exact h1
  · exact hc1

end Sys2Proof.Machine
end

