-- ==== Sys2Proof/Laws/Canon3.lean ====
section
/-! SUPPORT. Sys2Proof/Laws/Canon3.lean: every operation keeps the canonical form of the stores (State.Canon), one lemma per operation, part 3. -/

set_option linter.unusedVariables false

namespace Sys2Proof.Machine
open Sys2Proof

theorem qpCtrlWrite_canon {q : Requester} {n : Fin 1024} {w : Word} {e : WrEnv} {s : Machine.State} (hc1 : s.Canon) :
    (qpCtrlWrite q n w e s).Canon := by
  unfold qpCtrlWrite
  extract_lets +onlyGivenNames y0
  clear_value y0
  refine ite_of ?_ ?_
  · refine accErr_canon ?_
    exact hc1
  · extract_lets +onlyGivenNames y1
    clear_value y1
    extract_lets +onlyGivenNames y2
    have h3 : State.Canon y2 := by
      unfold y2
      refine ite_of ?_ ?_
      · exact hc1
      · refine wr_canon ?_
        exact hc1
    clear_value y2
    extract_lets +onlyGivenNames y4
    have h5 : State.Canon y4 := by
      unfold y4
      refine ite_of ?_ ?_
      · exact h3
      · refine ite_of ?_ ?_
        · refine ite_of ?_ ?_
          · exact h3
          · refine after_canon ?_ ?_
            · intro x6
              intro h7
              refine execQpEnable_canon ?_
              exact h7
            · exact h3
        · refine after_canon ?_ ?_
          · intro x8
            intro h9
            refine execQpDisable_canon ?_
            exact h9
          · exact h3
    clear_value y4
    refine onBit_canon ?_ ?_
    · intro s10 h11
      refine after_canon ?_ ?_
      · intro x12
        intro h13
        refine execCapRewind_canon ?_
        exact h13
      · exact h11
    · refine onBit_canon ?_ ?_
      · intro s14 h15
        refine after_canon ?_ ?_
        · intro x16
          intro h17
          refine execCapMark_canon ?_
          exact h17
        · exact h15
      · refine onBit_canon ?_ ?_
        · intro s18 h19
          refine after_canon ?_ ?_
          · intro x20
            intro h21
            refine execQpFlush_canon ?_
            exact h21
          · exact h19
        · exact h5

theorem qpError_canon {q : Nat} {s : Machine.State} (hc1 : s.Canon) : (qpError q s).Canon := by
  unfold qpError
  refine raise_canon ?_
  refine bump_canon ?_
  refine wrB_canon ?_
  exact hc1

theorem execTxDoorbell_canon {req : Requester} {q : Fin 1024} {idx : BitVec 16} {s : Machine.State} (hc1 : s.Canon) :
    Goes State.Canon (execTxDoorbell req q idx s) := by
  unfold execTxDoorbell
  refine done_canon ?_
  refine regCmd_canon ?_ ?_
  · intro s0 h1
    dsimp -zeta only
    extract_lets +onlyGivenNames y2
    clear_value y2
    extract_lets +onlyGivenNames y3
    clear_value y3
    refine ite_of ?_ ?_
    · exact h1
    · refine ite_of ?_ ?_
      · refine qpError_canon ?_
        exact h1
      · refine setQp_canon ?_
        exact h1
  · exact hc1

theorem execRxbDoorbell_canon {req : Requester} {q : Fin 1024} {idx : BitVec 16} {s : Machine.State} (hc1 : s.Canon) :
    Goes State.Canon (execRxbDoorbell req q idx s) := by
  unfold execRxbDoorbell
  refine done_canon ?_
  refine regCmd_canon ?_ ?_
  · intro s0 h1
    dsimp -zeta only
    extract_lets +onlyGivenNames y2
    clear_value y2
    refine ite_of ?_ ?_
    · exact h1
    · refine ite_of ?_ ?_
      · refine qpError_canon ?_
        exact h1
      · refine setQp_canon ?_
        exact h1
  · exact hc1

theorem execCqDoorbell_canon {req : Requester} {q : Fin 1024} {idx : BitVec 16} {arm : Bool} {s : Machine.State} (hc1 : s.Canon) :
    Goes State.Canon (execCqDoorbell req q idx arm s) := by
  unfold execCqDoorbell
  refine done_canon ?_
  refine regCmd_canon ?_ ?_
  · intro s0 h1
    dsimp -zeta only
    extract_lets +onlyGivenNames y2
    clear_value y2
    extract_lets +onlyGivenNames y3
    clear_value y3
    refine ite_of ?_ ?_
    · exact h1
    · refine ite_of ?_ ?_
      · refine qpError_canon ?_
        exact h1
      · extract_lets +onlyGivenNames y4
        have h5 : State.Canon y4 := by
          unfold y4
          refine setQp_canon ?_
          exact h1
        clear_value y4
        refine qpSettle_canon ?_
        refine qpIrq_canon ?_
        exact h5
  · exact hc1

theorem execCapRelease_canon {req : Requester} {q : Fin 1024} {n : Word} {s : Machine.State} (hc1 : s.Canon) :
    Goes State.Canon (execCapRelease req q n s) := by
  unfold execCapRelease
  refine done_canon ?_
  refine regCmd_canon ?_ ?_
  · intro s0 h1
    dsimp -zeta only
    refine ite_of ?_ ?_
    · extract_lets +onlyGivenNames y2
      clear_value y2
      extract_lets +onlyGivenNames y3
      clear_value y3
      extract_lets +onlyGivenNames y4
      clear_value y4
      refine qpSettle_canon ?_
      refine setQp_canon ?_
      exact h1
    · exact h1
  · exact hc1

theorem qpWrite_canon {q : Requester} {off : Nat} {w : Word} {e : WrEnv} : InO KeepsC (qpWrite q off w e) := by
  unfold qpWrite
  extract_lets +onlyGivenNames y0
  clear_value y0
  split
  · rename_i v1 v2
    refine inO_some ?_
    intro s3 h4
    refine qpCtrlWrite_canon ?_
    exact h4
  · rename_i v5 v6
    refine inO_some ?_
    intro s7 h8
    refine after_canon ?_ ?_
    · intro x9
      intro h10
      refine execTxDoorbell_canon ?_
      exact h10
    · exact h8
  · rename_i v11 v12
    refine inO_some ?_
    intro s13 h14
    refine after_canon ?_ ?_
    · intro x15
      intro h16
      refine execRxbDoorbell_canon ?_
      exact h16
    · exact h14
  · rename_i v17 v18
    refine inO_some ?_
    intro s19 h20
    refine after_canon ?_ ?_
    · intro x21
      intro h22
      refine execCqDoorbell_canon ?_
      exact h22
    · exact h20
  · rename_i v23 v24
    refine inO_some ?_
    intro s25 h26
    refine after_canon ?_ ?_
    · intro x27
      intro h28
      refine execCapRelease_canon ?_
      exact h28
    · exact h26
  · rename_i v29 v30 v31 v32 v33 v34
    exact inO_none

theorem execMarClear_canon {req : Requester} {i : Fin 16384} {s : Machine.State} (hc1 : s.Canon) :
    Goes State.Canon (execMarClear req i s) := by
  unfold execMarClear
  refine done_canon ?_
  refine regCmd_canon ?_ ?_
  · intro s0 h1
    refine wrB_canon ?_
    exact h1
  · exact hc1

theorem blockedLive_canon {s : Machine.State} (hc1 : s.Canon) : (blockedLive s).Canon := by
  unfold blockedLive
  refine setLive_canon ?_
  exact hc1

theorem execClassUnblock_canon {req : Requester} {c : Fin 4096} {s : Machine.State} (hc1 : s.Canon) :
    Goes State.Canon (execClassUnblock req c s) := by
  unfold execClassUnblock
  refine done_canon ?_
  refine regCmd_canon ?_ ?_
  · intro s0 h1
    dsimp -zeta only
    refine blockedLive_canon ?_
    refine wrB_canon ?_
    exact h1
  · exact hc1

theorem execMcGroupCommit_canon {req : Requester} {g : Fin 4096} {w : Word} {s : Machine.State} (hc1 : s.Canon) :
    Goes State.Canon (execMcGroupCommit req g w s) := by
  unfold execMcGroupCommit
  refine done_canon ?_
  refine regCmd_canon ?_ ?_
  · intro s0 h1
    dsimp -zeta only
    refine ite_of ?_ ?_
    · exact h1
    · extract_lets +onlyGivenNames y2
      clear_value y2
      extract_lets +onlyGivenNames y3
      have h4 : State.Canon y3 := by
        unfold y3
        refine foldl_of ?_ ?_
        · refine wr_canon ?_
          exact h1
        · intro x5
          intro x6
          intro h7
          refine wr_canon ?_
          exact h7
      clear_value y3
      refine canon_mk ?_
      exact h4
  · exact hc1

theorem execFrerForceReset_canon {req : Requester} {st : Fin 4096} {s : Machine.State} (hc1 : s.Canon) :
    Goes State.Canon (execFrerForceReset req st s) := by
  unfold execFrerForceReset
  refine done_canon ?_
  refine regCmd_canon ?_ ?_
  · intro s0 h1
    refine wrB_canon ?_
    exact h1
  · exact hc1

theorem regCommand_canon {q : Requester} {off : Nat} {w : Word} {e : WrEnv} {s : Machine.State} (hc1 : s.Canon) :
    InO KeepsC (regCommand q off w e s) := by
  unfold regCommand
  refine ite_of ?_ ?_
  · refine inO_some ?_
    intro s0 h1
    refine after_canon ?_ ?_
    · intro x2
      intro h3
      refine execLeafInject_canon ?_
      exact h3
    · exact h1
  · refine ite_of ?_ ?_
    · exact inO_none
    · refine ite_of ?_ ?_
      · exact crzWrite_canon
      · refine ite_of ?_ ?_
        · exact timWrite_canon
        · refine ite_of ?_ ?_
          · extract_lets +onlyGivenNames y4
            clear_value y4
            refine inO_some ?_
            intro s5 h6
            dsimp -zeta only
            refine onBit_canon ?_ ?_
            · intro s7 h8
              refine after_canon ?_ ?_
              · intro x9
                intro h10
                refine execNcWake_canon ?_
                exact h10
              · exact h8
            · refine after_canon ?_ ?_
              · intro x11
                intro h12
                refine execNcConsentWrite_canon ?_
                exact h12
              · exact h6
          · refine ite_of ?_ ?_
            · refine inO_some ?_
              intro s13 h14
              refine onBit_canon ?_ ?_
              · intro s15 h16
                refine regCmd_canon ?_ ?_
                · intro s17 h18
                  refine errlogPop_canon ?_
                  exact h18
                · exact h16
              · exact h14
            · refine ite_of ?_ ?_
              · refine inO_some ?_
                intro s19 h20
                refine onBit_canon ?_ ?_
                · intro s21 h22
                  refine after_canon ?_ ?_
                  · intro x23
                    intro h24
                    refine execColRevtPop_canon ?_
                    exact h24
                  · exact h22
                · exact h20
              · refine ite_of ?_ ?_
                · refine inO_some ?_
                  intro s25 h26
                  refine onBit_canon ?_ ?_
                  · intro s27 h28
                    refine after_canon ?_ ?_
                    · intro x29
                      intro h30
                      refine execCfgLockSet_canon ?_
                      exact h30
                    · exact h28
                  · exact h26
                · refine ite_of ?_ ?_
                  · exact footWrite_canon
                  · refine ite_of ?_ ?_
                    · refine persWrite_canon ?_
                      exact hc1
                    · refine ite_of ?_ ?_
                      · extract_lets +onlyGivenNames y31
                        clear_value y31
                        refine inO_some ?_
                        intro s32 h33
                        dsimp -zeta only
                        refine onBit_canon ?_ ?_
                        · intro s34 h35
                          refine after_canon ?_ ?_
                          · intro x36
                            intro h37
                            refine execTc10WakeCmd_canon ?_
                            exact h37
                          · exact h35
                        · refine onBit_canon ?_ ?_
                          · intro s38 h39
                            refine after_canon ?_ ?_
                            · intro x40
                              intro h41
                              refine execTc10Sleep_canon ?_
                              exact h41
                            · exact h39
                          · exact h33
                      · refine ite_of ?_ ?_
                        · refine inO_some ?_
                          intro s42 h43
                          refine onBit_canon ?_ ?_
                          · intro s44 h45
                            refine after_canon ?_ ?_
                            · intro x46
                              intro h47
                              refine execSrtImgSend_canon ?_
                              exact h47
                            · exact h45
                          · exact h43
                        · refine ite_of ?_ ?_
                          · refine inO_some ?_
                            intro s48 h49
                            refine after_canon ?_ ?_
                            · intro x50
                              intro h51
                              refine execPioOutWrite_canon ?_
                              exact h51
                            · exact h49
                          · refine ite_of ?_ ?_
                            · exact qpWrite_canon
                            · refine ite_of ?_ ?_
                              · refine inO_some ?_
                                intro s52 h53
                                refine onBit_canon ?_ ?_
                                · intro s54 h55
                                  refine after_canon ?_ ?_
                                  · intro x56
                                    intro h57
                                    refine execMarClear_canon ?_
                                    exact h57
                                  · exact h55
                                · exact h53
                              · refine ite_of ?_ ?_
                                · refine inO_some ?_
                                  intro s58 h59
                                  dsimp -zeta only
                                  refine forN_of ?_ ?_
                                  · exact h59
                                  · intro x60
                                    intro x61
                                    intro h62
                                    refine onBit_canon ?_ ?_
                                    · intro s63 h64
                                      refine after_canon ?_ ?_
                                      · intro x65
                                        intro h66
                                        refine execClassUnblock_canon ?_
                                        exact h66
                                      · exact h64
                                    · exact h62
                                · refine ite_of ?_ ?_
                                  · refine inO_some ?_
                                    refine ite_of ?_ ?_
                                    · intro s67 h68
                                      refine after_canon ?_ ?_
                                      · intro x69
                                        intro h70
                                        refine execMcGroupCommit_canon ?_
                                        exact h70
                                      · exact h68
                                    · intro s71 h72
                                      dsimp -zeta only
                                      refine regCmd_canon ?_ ?_
                                      · intro s73 h74
                                        dsimp -zeta only
                                        refine ite_of ?_ ?_
                                        · exact h74
                                        · refine canon_mk ?_
                                          exact h74
                                      · exact h72
                                  · refine ite_of ?_ ?_
                                    · refine inO_some ?_
                                      intro s75 h76
                                      refine onBit_canon ?_ ?_
                                      · intro s77 h78
                                        refine after_canon ?_ ?_
                                        · intro x79
                                          intro h80
                                          refine execFrerForceReset_canon ?_
                                          exact h80
                                        · exact h78
                                      · exact h76
                                    · exact inO_none

theorem standbyStart_canon {s : Machine.State} (hc1 : s.Canon) : (standbyStart s).Canon := by
  unfold standbyStart
  extract_lets +onlyGivenNames y0
  clear_value y0
  extract_lets +onlyGivenNames y1
  have h2 : State.Canon y1 := by
    unfold y1
    refine wrF_canon ?_
    exact hc1
  clear_value y1
  refine ite_of ?_ ?_
  · exact h2
  · extract_lets +onlyGivenNames y3
    clear_value y3
    refine canon_mk ?_
    exact h2

theorem execStandbyEnter_canon {req : Requester} {s : Machine.State} (hc1 : s.Canon) :
    Goes State.Canon (execStandbyEnter req s) := by
  unfold execStandbyEnter
  refine done_canon ?_
  refine regCmd_canon ?_ ?_
  · intro s0 h1
    refine standbyStart_canon ?_
    exact h1
  · exact hc1

theorem wordWrite_canon {q : Requester} {off : Nat} {w : Word} {e : WrEnv} {s : Machine.State} (hc1 : s.Canon) :
    (wordWrite q off w e s).Canon := by
  unfold wordWrite
  split
  · rename_i v0 v1 v2 v3 v4
    refine slotRegWrite_canon ?_
    exact hc1
  · rename_i v5 v6
    refine ite_of ?_ ?_
    · refine leafWrite_canon ?_
      exact hc1
    · refine ite_of ?_ ?_
      · refine fxpCfgWrite_canon ?_
        exact hc1
      · split
        · rename_i v7 v8 v9
          have h10 : KeepsC v8 := by
            refine (of_eq (P := (InO KeepsC)) v9 ?_) _ rfl
            refine regCommand_canon ?_
            exact hc1
          refine h10 _ ?_
          exact hc1
        · rename_i v11 v12
          extract_lets +onlyGivenNames y13
          have h14 : State.Canon y13 := by
            unfold y13
            refine fieldWrite_canon ?_
            exact hc1
          clear_value y13
          refine ite_of ?_ ?_
          · refine onBit_canon ?_ ?_
            · intro s15 h16
              refine after_canon ?_ ?_
              · intro x17
                intro h18
                refine execStandbyEnter_canon ?_
                exact h18
              · exact h16
            · exact h14
          · exact h14

theorem vfPendWrite_canon {f : Nat} {off : Nat} {w : Word} {s : Machine.State} (hc1 : s.Canon) :
    (vfPendWrite f off w s).Canon := by
  unfold vfPendWrite
  refine qpWmLive_canon ?_
  refine forN_of ?_ ?_
  · exact hc1
  · intro x0
    intro x1
    intro h2
    split
    · rename_i v3 v4 v5
      refine onBit_canon ?_ ?_
      · intro s6 h7
        refine wrB_canon ?_
        exact h7
      · exact h2
    · rename_i v8 v9
      exact h2

theorem writeFor_canon {q : Requester} {off : Nat} {be : Bool} {w : Word} {e : WrEnv} {s : Machine.State} (hc1 : s.Canon) :
    (writeFor q off be w e s).Canon := by
  unfold writeFor
  extract_lets +onlyGivenNames y0
  have h1 : ∀ (k : Nat), (y0 k).Canon := by
    intro x2
    unfold y0
    refine ite_of ?_ ?_
    · refine raise_canon ?_
      refine injDone_canon ?_
      exact hc1
    · refine ite_of ?_ ?_
      · refine ite_of ?_ ?_
        · refine accErr_canon ?_
          exact hc1
        · exact hc1
      · refine wordWrite_canon ?_
        exact hc1
  clear_value y0
  split
  · rename_i v3 v4
    refine ite_of ?_ ?_
    · refine ite_of ?_ ?_
      · refine vfPendWrite_canon ?_
        exact hc1
      · refine accErr_canon ?_
        exact hc1
    · split
      · rename_i v5 v6 v7
        refine h1 _
      · rename_i v8 v9
        exact hc1
  · rename_i v10 v11
    split
    · rename_i v12 v13 v14
      refine h1 _
    · rename_i v15 v16
      exact hc1

theorem writeMany_canon {q : Requester} {e : WrEnv} {a : List Word} {a3 : Nat} {a4 : Machine.State} (hc1 : a4.Canon) :
    (writeMany q e a a3 a4).Canon := by
  fun_induction writeMany q e a a3 a4
  · rename_i v0 v1
    exact hc1
  · rename_i v2 v3 v4 v5 v6
    refine v6 ?_
    refine writeFor_canon ?_
    exact hc1

theorem writePerform_canon {t : BrgTx} {e : WrEnv} {s : Machine.State} (hc1 : s.Canon) :
    (writePerform t e s).Canon := by
  unfold writePerform
  refine ite_of ?_ ?_
  · refine sensorArrive_canon ?_
    exact hc1
  · refine ite_of ?_ ?_
    · refine brgPostedFail_canon ?_
      exact hc1
    · refine ite_of ?_ ?_
      · refine brgPostedFail_canon ?_
        exact hc1
      · refine ite_of ?_ ?_
        · refine winWrite_canon ?_
          exact hc1
        · refine writeMany_canon ?_
          exact hc1

theorem waitGo_canon {w : BrgWait} {s : Machine.State} (hc1 : s.Canon) : (waitGo w s).Canon := by
  unfold waitGo
  split
  · rename_i v0 v1
    refine lockArrive_canon ?_
    exact hc1
  · rename_i v2 v3
    refine unlockArrive_canon ?_
    exact hc1
  · rename_i v4 v5
    refine readPerform_canon ?_
    exact hc1
  · rename_i v6 v7 v8 v9
    refine writePerform_canon ?_
    exact hc1

theorem brgDrain_canon {a : Nat} {a1 : Machine.State} (hc1 : a1.Canon) : (brgDrain a a1).Canon := by
  fun_induction brgDrain a a1
  · rename_i v0
    exact hc1
  · rename_i v1 v2 v3 v4 v5 v6
    refine v6 ?_
    refine waitGo_canon ?_
    refine modBrg_canon ?_
    exact hc1
  · rename_i v7 v8 v9
    exact hc1

theorem brgSettle_canon {s : Machine.State} (hc1 : s.Canon) : (brgSettle s).Canon := by
  unfold brgSettle
  refine brgStart_canon ?_
  refine brgDrain_canon ?_
  refine brgStart_canon ?_
  refine brgDrain_canon ?_
  exact hc1

theorem brgDone_canon {s : Machine.State} (hc1 : s.Canon) : (brgDone s).Canon := by
  unfold brgDone
  refine nmwSettle_canon ?_
  refine shfSettle_canon ?_
  refine brgSettle_canon ?_
  exact hc1

theorem execRegisterWrite_canon {req : Requester} {off : Nat} {full : Bool} {w : Word} {env : WrEnv} {s : Machine.State} (hc1 : s.Canon) :
    Goes State.Canon (execRegisterWrite req off full w env s) := by
  unfold execRegisterWrite
  refine done_canon ?_
  refine brgDone_canon ?_
  refine writeFor_canon ?_
  exact hc1

theorem execCounterRead_canon {req : Requester} {off : Nat} {s : Machine.State} (hc1 : s.Canon) :
    Goes State.Canon (execCounterRead req off s) := by
  unfold execCounterRead
  refine done_canon ?_
  split
  rename_i v0 v1 v2 v3
  have h4 : State.Canon v2 := by
    refine (of_eq (P := (InR State.Canon)) v3 ?_)
    refine readFor_canon ?_
    exact hc1
  refine setRdata_canon ?_
  exact h4

theorem execEntrySnapshotRead_canon {req : Requester} {off : Nat} {s : Machine.State} (hc1 : s.Canon) :
    Goes State.Canon (execEntrySnapshotRead req off s) := by
  unfold execEntrySnapshotRead
  refine done_canon ?_
  split
  rename_i v0 v1 v2 v3
  have h4 : State.Canon v2 := by
    refine (of_eq (P := (InR State.Canon)) v3 ?_)
    refine readFor_canon ?_
    exact hc1
  refine setRdata_canon ?_
  exact h4

theorem execResRelease_canon {req : Requester} {engine : Fin 5} {slot : Fin 4} {ticket : BitVec 8} {s : Machine.State} (hc1 : s.Canon) :
    Goes State.Canon (execResRelease req engine slot ticket s) := by
  unfold execResRelease
  refine done_canon ?_
  refine regCmd_canon ?_ ?_
  · intro s0 h1
    refine resRelease_canon ?_
    exact h1
  · exact hc1

theorem trialBack_canon {w : Word} {s : Machine.State} (hc1 : s.Canon) : (trialBack w s).Canon := by
  unfold trialBack
  extract_lets +onlyGivenNames y0
  clear_value y0
  extract_lets +onlyGivenNames y1
  clear_value y1
  extract_lets +onlyGivenNames y2
  have h3 : State.Canon y2 := by
    unfold y2
    refine wrB_canon ?_
    refine canon_mk ?_
    exact hc1
  clear_value y2
  refine resetTo_canon ?_
  refine canon_mk ?_
  exact h3

theorem trialFail_canon {s : Machine.State} (hc1 : s.Canon) : (trialFail s).Canon := by
  unfold trialFail
  extract_lets +onlyGivenNames y0
  clear_value y0
  extract_lets +onlyGivenNames y1
  clear_value y1
  extract_lets +onlyGivenNames y2
  clear_value y2
  extract_lets +onlyGivenNames y3
  have h4 : State.Canon y3 := by
    unfold y3
    refine canon_mk ?_
    exact hc1
  clear_value y3
  refine ite_of ?_ ?_
  · refine trialBack_canon ?_
    exact h4
  · extract_lets +onlyGivenNames y5
    clear_value y5
    refine trialBack_canon ?_
    refine setBank_canon ?_
    refine canon_mk ?_
    exact h4

theorem trialSettle_canon {s : Machine.State} (hc1 : s.Canon) : (trialSettle s).Canon := by
  unfold trialSettle
  refine ite_of ?_ ?_
  · refine trialFail_canon ?_
    exact hc1
  · exact hc1

theorem loaderWord_canon {r : Nat} {b : Nat} {e : Nat × Word} {s : Machine.State} (hc1 : s.Canon) :
    (loaderWord r b e s).Canon := by
  unfold loaderWord
  extract_lets +onlyGivenNames y0
  clear_value y0
  extract_lets +onlyGivenNames y1
  clear_value y1
  extract_lets +onlyGivenNames y2
  clear_value y2
  refine ite_of ?_ ?_
  · exact hc1
  · refine wr_canon ?_
    exact hc1

theorem loaderWords_canon {r : Nat} {b : Nat} {ws : List (Nat × Word)} {s : Machine.State} (hc1 : s.Canon) :
    (loaderWords r b ws s).Canon := by
  unfold loaderWords
  refine foldl_of ?_ ?_
  · exact hc1
  · intro x0
    intro x1
    intro h2
    refine loaderWord_canon ?_
    exact h2

theorem zeroBank_canon {r : Nat} {b : Nat} {s : Machine.State} (hc1 : s.Canon) : (zeroBank r b s).Canon := by
  unfold zeroBank
  extract_lets +onlyGivenNames y0
  have h1 : State.Canon y0 := by
    unfold y0
    refine dropWords_canon ?_
    exact hc1
  clear_value y0
  refine ite_of ?_ ?_
  · refine forN_of ?_ ?_
    · exact h1
    · intro x2
      intro x3
      intro h4
      refine wr_canon ?_
      exact h4
  · exact h1

theorem applyStart_canon {r : Nat} {s : Machine.State} (hc1 : s.Canon) : (applyStart r s).Canon := by
  unfold applyStart
  refine ite_of ?_ ?_
  · extract_lets +onlyGivenNames y0
    clear_value y0
    extract_lets +onlyGivenNames y1
    have h2 : State.Canon y1 := by
      unfold y1
      refine foldl_of ?_ ?_
      · exact hc1
      · intro x3
        intro x4
        intro h5
        refine wrB_canon ?_
        exact h5
    clear_value y1
    extract_lets +onlyGivenNames y6
    have h7 : State.Canon y6 := by
      unfold y6
      refine foldl_of ?_ ?_
      · exact h2
      · intro x8
        intro x9
        intro h10
        refine setPort_canon ?_
        exact h10
    clear_value y6
    refine setAct_canon ?_
    exact h7
  · refine ite_of ?_ ?_
    · exact hc1
    · extract_lets +onlyGivenNames y11
      have h12 : State.Canon y11 := by
        unfold y11
        refine setAct_canon ?_
        exact hc1
      clear_value y11
      refine ite_of ?_ ?_
      · refine setLive_canon ?_
        refine raise_canon ?_
        refine canon_mk ?_
        exact h12
      · exact h12

theorem regionCheckDone_canon {s : Machine.State} (hc1 : s.Canon) : (regionCheckDone s).Canon := by
  unfold regionCheckDone
  split
  · rename_i v0 v1
    exact hc1
  · rename_i v2 v3 v4 v5
    refine ite_of ?_ ?_
    · exact hc1
    · extract_lets +onlyGivenNames y6
      clear_value y6
      extract_lets +onlyGivenNames y7
      clear_value y7
      refine ite_of ?_ ?_
      · refine applyStart_canon ?_
        refine canon_mk ?_
        exact hc1
      · refine cfgFinish_canon ?_
        refine wr_canon ?_
        exact hc1

theorem execRegionCheckDone_canon {s : Machine.State} (hc1 : s.Canon) : Goes State.Canon (execRegionCheckDone s) := by
  unfold execRegionCheckDone
  refine done_canon ?_
  refine trialSettle_canon ?_
  refine regionCheckDone_canon ?_
  exact hc1

theorem mirrorReload_canon {r : Nat} {s : Machine.State} (hc1 : s.Canon) : (mirrorReload r s).Canon := by
  unfold mirrorReload
  extract_lets +onlyGivenNames y0
  have h1 : State.Canon y0 := by
    unfold y0
    refine mirrorAgree_canon ?_
    exact hc1
  clear_value y0
  refine setLive_canon ?_
  exact h1

theorem maxWins_canon {b : Nat} {s : Machine.State} (hc1 : s.Canon) : (maxWins b s).Canon := by
  unfold maxWins
  refine forN_of ?_ ?_
  · exact hc1
  · intro x0
    intro x1
    intro h2
    refine forN_of ?_ ?_
    · exact h2
    · intro x3
      intro x4
      intro h5
      refine wr_canon ?_
      exact h5

theorem planLoad_canon {b : Nat} {ws : List (Nat × Word)} {s : Machine.State} (hc1 : s.Canon) :
    (planLoad b ws s).Canon := by
  unfold planLoad
  extract_lets +onlyGivenNames y0
  clear_value y0
  extract_lets +onlyGivenNames y1
  clear_value y1
  extract_lets +onlyGivenNames y2
  have h3 : State.Canon y2 := by
    unfold y2
    refine canon_mk ?_
    exact hc1
  clear_value y2
  refine maxWins_canon ?_
  refine loaderWords_canon ?_
  exact h3

theorem setGates_canon {n : Nat} {entry : Nat} {gates : Nat} {s : Machine.State} (hc1 : s.Canon) :
    (setGates n entry gates s).Canon := by
  unfold setGates
  extract_lets +onlyGivenNames y0
  have h1 : State.Canon y0 := by
    unfold y0
    refine cbsUpdate_canon ?_
    exact hc1
  clear_value y0
  refine wrF_canon ?_
  refine wrF_canon ?_
  exact h1

theorem defaultGates_canon {b : Nat} {n : Nat} {s : Machine.State} (hc1 : s.Canon) : (defaultGates b n s).Canon := by
  unfold defaultGates
  refine wrB_canon ?_
  refine setGates_canon ?_
  refine setMac_canon ?_
  exact hc1

theorem planWrite_canon {p : Tbl Word} {s : Machine.State} (hc1 : s.Canon) : (planWrite p s).Canon := by
  unfold planWrite
  refine foldl_of ?_ ?_
  · exact hc1
  · intro x0
    intro x1
    intro h2
    refine wr_canon ?_
    exact h2

theorem firstActive_canon {r : Nat} {s : Machine.State} (hc1 : s.Canon) : (firstActive r s).Canon := by
  unfold firstActive
  split
  · rename_i v0
    refine wrF_canon ?_
    exact hc1
  · rename_i v1
    refine imagesActivate_canon ?_
    refine timersActivate_canon ?_
    exact hc1
  · rename_i v2 v3 v4
    refine forN_of ?_ ?_
    · refine planWrite_canon ?_
      refine canon_mk ?_
      exact hc1
    · intro x5
      intro x6
      intro h7
      refine defaultGates_canon ?_
      exact h7

theorem bankedApply_canon {r : Nat} {gen : Nat} {ws : List (Nat × Word)} {s : Machine.State} (hc1 : s.Canon) :
    (bankedApply r gen ws s).Canon := by
  unfold bankedApply
  extract_lets +onlyGivenNames y0
  clear_value y0
  extract_lets +onlyGivenNames y1
  clear_value y1
  extract_lets +onlyGivenNames y2
  have h3 : State.Canon y2 := by
    unfold y2
    refine zeroBank_canon ?_
    exact hc1
  clear_value y2
  extract_lets +onlyGivenNames y4
  have h5 : State.Canon y4 := by
    unfold y4
    refine ite_of ?_ ?_
    · refine planLoad_canon ?_
      exact h3
    · refine loaderWords_canon ?_
      exact h3
  clear_value y4
  extract_lets +onlyGivenNames y6
  have h7 : State.Canon y6 := by
    unfold y6
    refine ite_of ?_ ?_
    · refine canon_mk ?_
      exact h5
    · exact h5
  clear_value y6
  refine ite_of ?_ ?_
  · refine firstActive_canon ?_
    refine setAct_canon ?_
    refine wr_canon ?_
    exact h7
  · refine wr_canon ?_
    refine wr_canon ?_
    exact h7

theorem tblImage_canon {cmd : Nat} {args : List Nat} {s : Machine.State} (hc1 : s.Canon) :
    InR State.Canon (tblImage cmd args s) := by
  unfold tblImage
  extract_lets +onlyGivenNames y0
  clear_value y0
  extract_lets +onlyGivenNames y1
  have h2 : State.Canon y1 := by
    unfold y1
    refine wrWords_canon ?_
    exact hc1
  clear_value y1
  extract_lets +onlyGivenNames y3
  have h4 : ∀ (a : Machine.State), a.Canon → InL State.Canon (y3 a) := by
    intro x5
    intro h6
    unfold y3
    split
    · rename_i v7 v8
      refine runL2Insert_canon ?_
      exact h6
    · rename_i v9 v10
      refine runL2Delete_canon ?_
      exact h6
    · rename_i v11 v12
      refine runL2Lookup_canon ?_
      exact h6
    · rename_i v13 v14
      refine runL2Flush_canon ?_
      exact h6
    · rename_i v15 v16
      refine runL2Relocate_canon ?_
      exact h6
    · rename_i v17 v18
      refine runLpmInsert_canon ?_
      exact h6
    · rename_i v19 v20
      refine runLpmDelete_canon ?_
      exact h6
    · rename_i v21 v22
      refine runLpmLookup_canon ?_
      exact h6
    · rename_i v23 v24
      refine runNhWrite_canon ?_
      exact h6
    · rename_i v25 v26 v27 v28 v29 v30 v31 v32 v33 v34
      refine inL_mk ?_
      exact h6
  clear_value y3
  extract_lets +onlyGivenNames y35
  have h36 : State.Canon y35 := by
    unfold y35
    refine slotRun_canon ?_ ?_
    · exact h4
    · exact h2
  clear_value y35
  refine inR_mk ?_
  exact h36

theorem forwardWord_canon {gen : Nat} {e : Nat × Word} {x2 : Nat × List Word × Machine.State} (hc1 : InR (InR State.Canon) x2) :
    InR (InR State.Canon) (forwardWord gen e x2) := by
  unfold forwardWord
  split
  rename_i v0 v1 v2 v3
  refine ite_of ?_ ?_
  · refine inR_mk ?_
    refine inR_mk ?_
    refine loaderWord_canon ?_
    exact hc1
  · refine ite_of ?_ ?_
    · exact hc1
    · extract_lets +onlyGivenNames y4
      clear_value y4
      refine ite_of ?_ ?_
      · extract_lets +onlyGivenNames y5
        clear_value y5
        extract_lets +onlyGivenNames y6
        clear_value y6
        extract_lets +onlyGivenNames y7
        clear_value y7
        split
        rename_i v8 v9 v10 v11
        have h12 : State.Canon v10 := by
          refine (of_eq (P := (InR State.Canon)) v11 ?_)
          refine tblImage_canon ?_
          exact hc1
        refine inR_mk ?_
        refine inR_mk ?_
        exact h12
      · refine inR_mk ?_
        refine inR_mk ?_
        exact hc1

theorem tblSweepGen_canon {gen : Nat} {s : Machine.State} (hc1 : s.Canon) : (tblSweepGen gen s).Canon := by
  unfold tblSweepGen
  extract_lets +onlyGivenNames y0
  clear_value y0
  extract_lets +onlyGivenNames y1
  have h2 : State.Canon y1 := by
    unfold y1
    refine foldl_of ?_ ?_
    · exact hc1
    · intro x3
      intro x4
      intro h5
      refine ite_of ?_ ?_
      · refine l2Clear_canon ?_
        exact h5
      · exact h5
  clear_value y1
  refine tblSettle_canon ?_
  refine foldl_of ?_ ?_
  · exact h2
  · intro x6
    intro x7
    intro h8
    refine inL_fst ?_
    refine lpmDelete_canon ?_
    exact h8

theorem forwardApply_canon {gen : Nat} {ws : List (Nat × Word)} {s : Machine.State} (hc1 : s.Canon) :
    InR State.Canon (forwardApply gen ws s) := by
  unfold forwardApply
  split
  rename_i v0 v1 v2 v3 v4
  have h5 : State.Canon v3 := by
    refine (of_eq (P := (InR (InR State.Canon))) v4 ?_)
    refine foldl_of ?_ ?_
    · refine inR_mk ?_
      refine inR_mk ?_
      exact hc1
    · intro x6
      intro x7
      intro h8
      refine forwardWord_canon ?_
      exact h8
  refine inR_mk ?_
  refine tblSettle_canon ?_
  refine ite_of ?_ ?_
  · refine tblSweepGen_canon ?_
    exact h5
  · exact h5

theorem pwmPeriod_canon {p : Nat} {per : Nat} {high : Nat} {s : Machine.State} (hc1 : s.Canon) :
    (pwmPeriod p per high s).Canon := by
  unfold pwmPeriod
  extract_lets +onlyGivenNames y0
  clear_value y0
  extract_lets +onlyGivenNames y1
  have h2 : State.Canon y1 := by
    unfold y1
    refine setPin_canon ?_
    exact hc1
  clear_value y1
  extract_lets +onlyGivenNames y3
  have h4 : State.Canon y3 := by
    unfold y3
    refine wr_canon ?_
    refine wrB_canon ?_
    exact h2
  clear_value y3
  refine emit_canon ?_
  refine pinRequest_canon ?_
  exact h4

theorem ruleAct_canon {r : Nat} {res : Bool} {s : Machine.State} (hc1 : s.Canon) : (ruleAct r res s).Canon := by
  unfold ruleAct
  extract_lets +onlyGivenNames y0
  clear_value y0
  extract_lets +onlyGivenNames y1
  clear_value y1
  extract_lets +onlyGivenNames y2
  clear_value y2
  extract_lets +onlyGivenNames y3
  clear_value y3
  extract_lets +onlyGivenNames y4
  have h5 : ∀ (l : Bool) (s : Machine.State), s.Canon → (y4 l s).Canon := by
    intro x6
    intro x7
    intro h8
    unfold y4
    refine pinRequest_canon ?_
    refine setPin_canon ?_
    refine wrB_canon ?_
    refine pwmHalt_canon ?_
    exact h8
  clear_value y4
  split
  · rename_i v9 v10
    refine h5 _ _ ?_
    exact hc1
  · rename_i v11 v12
    refine h5 _ _ ?_
    exact hc1
  · rename_i v13 v14
    refine h5 _ _ ?_
    exact hc1
  · rename_i v15 v16
    refine setPin_canon ?_
    refine wrB_canon ?_
    refine h5 _ _ ?_
    exact hc1
  · rename_i v17 v18
    refine setPin_canon ?_
    refine wrB_canon ?_
    refine h5 _ _ ?_
    exact hc1
  · rename_i v19 v20
    refine h5 _ _ ?_
    exact hc1
  · rename_i v21 v22
    extract_lets +onlyGivenNames y23
    clear_value y23
    extract_lets +onlyGivenNames y24
    clear_value y24
    extract_lets +onlyGivenNames y25
    have h26 : State.Canon y25 := by
      unfold y25
      refine setPin_canon ?_
      refine wrB_canon ?_
      exact hc1
    clear_value y25
    refine ite_of ?_ ?_
    · refine setPin_canon ?_
      exact h26
    · refine pwmPeriod_canon ?_
      exact h26
  · rename_i v27 v28
    refine h5 _ _ ?_
    exact hc1
  · rename_i v29 v30 v31 v32 v33 v34 v35 v36 v37
    exact hc1

theorem reflexCycle_canon {cy : Cycle} {s : Machine.State} (hc1 : s.Canon) : (reflexCycle cy s).Canon := by
  unfold reflexCycle
  refine ite_of ?_ ?_
  · exact hc1
  · extract_lets +onlyGivenNames y0
    clear_value y0
    extract_lets +onlyGivenNames y1
    clear_value y1
    extract_lets +onlyGivenNames y2
    clear_value y2
    extract_lets +onlyGivenNames y3
    clear_value y3
    extract_lets +onlyGivenNames y4
    clear_value y4
    extract_lets +onlyGivenNames y5
    clear_value y5
    extract_lets +onlyGivenNames y6
    clear_value y6
    extract_lets +onlyGivenNames y7
    clear_value y7
    extract_lets +onlyGivenNames y8
    have h9 : State.Canon y8 := by
      unfold y8
      refine canon_mk ?_
      exact hc1
    clear_value y8
    extract_lets +onlyGivenNames y10
    have h11 : State.Canon y10 := by
      unfold y10
      refine foldl_of ?_ ?_
      · exact h9
      · intro x12
        intro x13
        intro h14
        refine bump_canon ?_
        exact h14
    clear_value y10
    extract_lets +onlyGivenNames y15
    have h16 : State.Canon y15 := by
      unfold y15
      refine foldl_of ?_ ?_
      · exact h11
      · intro x17
        intro x18
        intro h19
        refine ruleAct_canon ?_
        exact h19
    clear_value y15
    refine foldl_of ?_ ?_
    · exact h16
    · intro x20
      intro x21
      intro h22
      refine imageRequest_canon ?_
      exact h22

theorem nodesApply_canon {gen : Nat} {ds : List NodeDef} {s : Machine.State} (hc1 : s.Canon) :
    (nodesApply gen ds s).Canon := by
  unfold nodesApply
  extract_lets +onlyGivenNames y0
  clear_value y0
  extract_lets +onlyGivenNames y1
  clear_value y1
  extract_lets +onlyGivenNames y2
  clear_value y2
  extract_lets +onlyGivenNames y3
  clear_value y3
  refine ite_of ?_ ?_
  · exact hc1
  · extract_lets +onlyGivenNames y4
    clear_value y4
    split
    · rename_i v5 v6
      exact hc1
    · rename_i v7 v8 v9
      have h10 : State.Canon v8 := by
        refine (of_eq (P := (InO State.Canon)) v9 ?_) _ rfl
        refine commitStore_canon ?_
        exact hc1
      extract_lets +onlyGivenNames y11
      have h12 : State.Canon y11 := by
        unfold y11
        refine modSag_canon ?_
        exact h10
      clear_value y11
      extract_lets +onlyGivenNames y13
      clear_value y13
      refine ite_of ?_ ?_
      · exact h12
      · extract_lets +onlyGivenNames y14
        have h15 : State.Canon y14 := by
          unfold y14
          refine orphanFlows_canon ?_
          refine raise_canon ?_
          exact h12
        clear_value y14
        refine foldl_of ?_ ?_
        · exact h15
        · intro x16
          intro x17
          intro h18
          refine wrF_canon ?_
          exact h18

theorem securityApplied_canon {gen : Nat} {ws : List (Nat × Word)} {s : Machine.State} (hc1 : s.Canon) :
    (securityApplied gen ws s).Canon := by
  unfold securityApplied
  extract_lets +onlyGivenNames y0
  have h1 : State.Canon y0 := by
    unfold y0
    refine nodesApply_canon ?_
    exact hc1
  clear_value y0
  refine burnAuthLock_canon ?_
  refine foldl_of ?_ ?_
  · exact h1
  · intro x2
    intro x3
    intro h4
    refine deriveKey_canon ?_
    exact h4

theorem ncPresent_canon {c : Nat} {s : Machine.State} (hc1 : s.Canon) : (ncPresent c s).Canon := by
  unfold ncPresent
  extract_lets +onlyGivenNames y0
  have h1 : State.Canon y0 := by
    unfold y0
    refine wr_canon ?_
    exact hc1
  clear_value y0
  refine setLive_canon ?_
  exact h1

theorem portSleep_canon {n : Nat} {s : Machine.State} (hc1 : s.Canon) : (portSleep n s).Canon := by
  unfold portSleep
  refine ite_of ?_ ?_
  · split
    · rename_i v0 v1
      refine canxFreeze_canon ?_
      exact hc1
    · rename_i v2 v3
      refine ite_of ?_ ?_
      · refine setPort_canon ?_
        exact hc1
      · exact hc1
    · rename_i v4 v5
      extract_lets +onlyGivenNames y6
      have h7 : State.Canon y6 := by
        unfold y6
        refine wrB_canon ?_
        refine requeuePending_canon ?_
        exact hc1
      clear_value y6
      refine emit_canon ?_
      refine canon_mk ?_
      exact h7
    · rename_i v8 v9 v10 v11
      exact hc1
  · refine tc10Sleep_canon ?_
    exact hc1

theorem clusterStart_canon {c : Nat} {s : Machine.State} (hc1 : s.Canon) : (clusterStart c s).Canon := by
  unfold clusterStart
  extract_lets +onlyGivenNames y0
  have h1 : State.Canon y0 := by
    unfold y0
    refine ncPresent_canon ?_
    refine wrB_canon ?_
    refine setNc_canon ?_
    exact hc1
  clear_value y0
  refine ite_of ?_ ?_
  · refine setNcState_canon ?_
    exact h1
  · split
    · rename_i v2 v3
      refine ringOwn_canon ?_
      refine setNcState_canon ?_
      refine setNc_canon ?_
      exact h1
    · rename_i v4 v5 v6
      extract_lets +onlyGivenNames y7
      clear_value y7
      extract_lets +onlyGivenNames y8
      have h9 : State.Canon y8 := by
        unfold y8
        refine foldl_of ?_ ?_
        · exact h1
        · intro x10
          intro x11
          intro h12
          refine ite_of ?_ ?_
          · exact h12
          · refine portSleep_canon ?_
            exact h12
      clear_value y8
      refine ite_of ?_ ?_
      · refine setNcState_canon ?_
        refine setNc_canon ?_
        exact h9
      · refine setNcState_canon ?_
        exact h9

theorem clustersApplied_canon {s : Machine.State} {t : Machine.State} (hc1 : s.Canon) (hc2 : t.Canon) :
    (clustersApplied s t).Canon := by
  unfold clustersApplied
  extract_lets +onlyGivenNames y0
  have h1 : State.Canon y0 := by
    unfold y0
    refine forN_of ?_ ?_
    · exact hc2
    · intro x2
      intro x3
      intro h4
      refine ite_of ?_ ?_
      · refine clusterStart_canon ?_
        exact h4
      · exact h4
  clear_value y0
  refine canon_mk ?_
  exact h1

theorem linksApplied_canon {s : Machine.State} {t : Machine.State} (hc1 : s.Canon) (hc2 : t.Canon) :
    (linksApplied s t).Canon := by
  unfold linksApplied
  extract_lets +onlyGivenNames y0
  clear_value y0
  extract_lets +onlyGivenNames y1
  have h2 : State.Canon y1 := by
    unfold y1
    refine canon_mk ?_
    exact hc2
  clear_value y1
  refine coilLive_canon ?_
  refine forN_of ?_ ?_
  · exact h2
  · intro x3
    intro x4
    intro h5
    refine linkFit_canon ?_
    refine ite_of ?_ ?_
    · refine wrF_canon ?_
      refine canon_mk ?_
      exact h5
    · exact h5

theorem clusterApplied_canon {r : Nat} {s : Machine.State} {t : Machine.State} (hc1 : s.Canon) (hc2 : t.Canon) :
    (clusterApplied r s t).Canon := by
  unfold clusterApplied
  refine foldl_of ?_ ?_
  · exact hc2
  · intro x0
    intro x1
    intro h2
    extract_lets +onlyGivenNames y3
    clear_value y3
    extract_lets +onlyGivenNames y4
    have h5 : (InR State.Canon) y4 := by
      unfold y4
      refine fxqFlush_canon ?_
      exact h2
    clear_value y4
    extract_lets +onlyGivenNames y6
    have h7 : State.Canon y6 := by
      unfold y6
      refine ite_of ?_ ?_
      · refine bumpN_canon ?_
        refine inR_snd ?_
        exact h5
      · exact h2
    clear_value y6
    extract_lets +onlyGivenNames y8
    have h9 : State.Canon y8 := by
      unfold y8
      refine ite_of ?_ ?_
      · refine wrB_canon ?_
        exact h7
      · exact h7
    clear_value y8
    extract_lets +onlyGivenNames y10
    have h11 : State.Canon y10 := by
      unfold y10
      refine wrB_canon ?_
      exact h9
    clear_value y10
    extract_lets +onlyGivenNames y12
    have h13 : State.Canon y12 := by
      unfold y12
      refine setLive_canon ?_
      exact h11
    clear_value y12
    extract_lets +onlyGivenNames y14
    have h15 : State.Canon y14 := by
      unfold y14
      refine ite_of ?_ ?_
      · exact h13
      · refine wrB_canon ?_
        exact h13
    clear_value y14
    extract_lets +onlyGivenNames y16
    clear_value y16
    extract_lets +onlyGivenNames y17
    have h18 : State.Canon y17 := by
      unfold y17
      refine canon_mk ?_
      exact h15
    clear_value y17
    refine ite_of ?_ ?_
    · refine engineStart_canon ?_
      exact h18
    · exact h18

theorem regionEffects_canon {r : Nat} {gen : Nat} {ws : List (Nat × Word)} {s : Machine.State} {t : Machine.State} (hc1 : s.Canon) (hc2 : t.Canon) :
    (regionEffects r gen ws s t).Canon := by
  unfold regionEffects
  split
  · rename_i v0
    refine forN_of ?_ ?_
    · exact hc2
    · intro x1
      intro x2
      intro h3
      refine ite_of ?_ ?_
      · exact h3
      · refine setLive_canon ?_
        exact h3
  · rename_i v4
    refine canon_mk ?_
    exact hc2
  · rename_i v5
    extract_lets +onlyGivenNames y6
    clear_value y6
    extract_lets +onlyGivenNames y7
    have h8 : State.Canon y7 := by
      unfold y7
      refine pinsApplied_canon ?_ ?_
      · exact hc1
      · refine canon_mk ?_
        exact hc2
    clear_value y7
    refine reflexCycle_canon ?_
    refine setLive_canon ?_
    exact h8
  · rename_i v9
    refine securityApplied_canon ?_
    exact hc2
  · rename_i v10
    refine nmwSettle_canon ?_
    refine clustersApplied_canon ?_ ?_
    · exact hc1
    · exact hc2
  · rename_i v11
    exact hc2
  · rename_i v12
    refine linksApplied_canon ?_ ?_
    · exact hc1
    · exact hc2
  · rename_i v13
    refine nmwSettle_canon ?_
    refine coilLive_canon ?_
    refine forN_of ?_ ?_
    · refine wr_canon ?_
      exact hc2
    · intro x14
      intro x15
      intro h16
      refine linkFit_canon ?_
      exact h16
  · rename_i v17 v18 v19 v20 v21 v22 v23 v24 v25
    refine clusterApplied_canon ?_ ?_
    · exact hc1
    · exact hc2

theorem regionApplyDone_canon {s : Machine.State} (hc1 : s.Canon) : (regionApplyDone s).Canon := by
  unfold regionApplyDone
  split
  · rename_i v0 v1
    exact hc1
  · rename_i v2 v3 v4 v5
    extract_lets +onlyGivenNames y6
    clear_value y6
    refine ite_of ?_ ?_
    · exact hc1
    · extract_lets +onlyGivenNames y7
      clear_value y7
      extract_lets +onlyGivenNames y8
      clear_value y8
      extract_lets +onlyGivenNames y9
      clear_value y9
      extract_lets +onlyGivenNames y10
      clear_value y10
      refine ite_of ?_ ?_
      · refine cfgFinish_canon ?_
        refine mirrorReload_canon ?_
        refine bankedApply_canon ?_
        exact hc1
      · refine ite_of ?_ ?_
        · split
          rename_i v11 v12 v13 v14
          have h15 : State.Canon v13 := by
            refine (of_eq (P := (InR State.Canon)) v14 ?_)
            refine forwardApply_canon ?_
            exact hc1
          extract_lets +onlyGivenNames y16
          have h17 : State.Canon y16 := by
            unfold y16
            refine ite_of ?_ ?_
            · refine setAct_canon ?_
              refine wr_canon ?_
              exact h15
            · refine wr_canon ?_
              exact h15
          clear_value y16
          refine cfgFinish_canon ?_
          refine mirrorReload_canon ?_
          exact h17
        · extract_lets +onlyGivenNames y18
          have h19 : State.Canon y18 := by
            unfold y18
            refine setAct_canon ?_
            refine wr_canon ?_
            refine loaderWords_canon ?_
            exact hc1
          clear_value y18
          refine cfgFinish_canon ?_
          refine mirrorReload_canon ?_
          refine regionEffects_canon ?_ ?_
          · exact hc1
          · exact h19

theorem execRegionApplyDone_canon {s : Machine.State} (hc1 : s.Canon) : Goes State.Canon (execRegionApplyDone s) := by
  unfold execRegionApplyDone
  refine done_canon ?_
  refine trialSettle_canon ?_
  refine regionApplyDone_canon ?_
  exact hc1

theorem clusterQuiet_canon {n : Nat} {s : Machine.State} (hc1 : s.Canon) : (clusterQuiet n s).Canon := by
  unfold clusterQuiet
  refine ite_of ?_ ?_
  · refine wrF_canon ?_
    exact hc1
  · exact hc1

theorem execClusterQuiesceTimeout_canon {port : Fin 128} {s : Machine.State} (hc1 : s.Canon) :
    Goes State.Canon (execClusterQuiesceTimeout port s) := by
  unfold execClusterQuiesceTimeout
  refine done_canon ?_
  refine ite_of ?_ ?_
  · refine clusterQuiet_canon ?_
    refine engineStop_canon ?_
    exact hc1
  · exact hc1

theorem execClusterPortIdle_canon {port : Fin 128} {s : Machine.State} (hc1 : s.Canon) :
    Goes State.Canon (execClusterPortIdle port s) := by
  unfold execClusterPortIdle
  refine done_canon ?_
  refine ite_of ?_ ?_
  · refine clusterQuiet_canon ?_
    refine engineStop_canon ?_
    exact hc1
  · exact hc1

theorem execSwapBoundary_canon {s : Machine.State} (hc1 : s.Canon) : Goes State.Canon (execSwapBoundary s) := by
  unfold execSwapBoundary
  refine done_canon ?_
  split
  · rename_i v0 v1 v2 v3
    refine ite_of ?_ ?_
    · refine swapRun_canon ?_
      exact hc1
    · exact hc1
  · rename_i v4 v5
    exact hc1

theorem execBankDrainDone_canon {region : Fin 28} {s : Machine.State} (hc1 : s.Canon) :
    Goes State.Canon (execBankDrainDone region s) := by
  unfold execBankDrainDone
  refine done_canon ?_
  extract_lets +onlyGivenNames y0
  clear_value y0
  refine ite_of ?_ ?_
  · extract_lets +onlyGivenNames y1
    have h2 : State.Canon y1 := by
      unfold y1
      refine setBankState_canon ?_
      exact hc1
    clear_value y1
    refine ite_of ?_ ?_
    · refine raise_canon ?_
      refine wrB_canon ?_
      refine wrB_canon ?_
      exact h2
    · exact h2
  · exact hc1

theorem execMirrorScan_canon {off : Fin 268435456} {s : Machine.State} (hc1 : s.Canon) :
    Goes State.Canon (execMirrorScan off s) := by
  unfold execMirrorScan
  refine done_canon ?_
  refine mirrorCompare_canon ?_
  exact hc1

theorem execSlewUpdate_canon {s : Machine.State} (hc1 : s.Canon) : Goes State.Canon (execSlewUpdate s) := by
  unfold execSlewUpdate
  extract_lets +onlyGivenNames y0
  clear_value y0
  extract_lets +onlyGivenNames y1
  clear_value y1
  extract_lets +onlyGivenNames y2
  clear_value y2
  extract_lets +onlyGivenNames y3
  clear_value y3
  refine done_canon ?_
  refine ite_of ?_ ?_
  · exact hc1
  · extract_lets +onlyGivenNames y4
    have h5 : State.Canon y4 := by
      unfold y4
      refine wr_canon ?_
      exact hc1
    clear_value y4
    refine ite_of ?_ ?_
    · refine wr_canon ?_
      exact h5
    · exact h5

theorem execDomainStateChange_canon {domB : Bool} {st : Fin 4} {s : Machine.State} (hc1 : s.Canon) :
    Goes State.Canon (execDomainStateChange domB st s) := by
  unfold execDomainStateChange
  refine done_canon ?_
  refine domainState_canon ?_
  exact hc1

theorem execInitWaitExpiry_canon {s : Machine.State} (hc1 : s.Canon) : Goes State.Canon (execInitWaitExpiry s) := by
  unfold execInitWaitExpiry
  refine done_canon ?_
  refine ite_of ?_ ?_
  · refine wtInit_canon ?_
    exact hc1
  · exact hc1

theorem execRevertHoldExpiry_canon {s : Machine.State} (hc1 : s.Canon) : Goes State.Canon (execRevertHoldExpiry s) := by
  unfold execRevertHoldExpiry
  refine done_canon ?_
  refine ite_of ?_ ?_
  · refine wtFollow_canon ?_
    exact hc1
  · exact hc1

theorem execAutoSelEnable_canon {req : Requester} {s : Machine.State} (hc1 : s.Canon) :
    Goes State.Canon (execAutoSelEnable req s) := by
  unfold execAutoSelEnable
  refine done_canon ?_
  refine regCmd_canon ?_ ?_
  · intro s0 h1
    dsimp -zeta only
    refine ite_of ?_ ?_
    · exact h1
    · refine reselect_canon ?_
      refine wrB_canon ?_
      exact h1
  · exact hc1

theorem execWtNsRead_canon {which : Fin 3} {s : Machine.State} (hc1 : s.Canon) :
    Goes State.Canon (execWtNsRead which s) := by
  unfold execWtNsRead
  extract_lets +onlyGivenNames y0
  clear_value y0
  extract_lets +onlyGivenNames y1
  clear_value y1
  extract_lets +onlyGivenNames y2
  clear_value y2
  refine done_canon ?_
  refine setRdata_canon ?_
  refine setShadows_canon ?_
  exact hc1

theorem conePdus_canon {c : Nat} {k : Nat} {s : Machine.State} (hc1 : s.Canon) : (conePdus c k s).Canon := by
  unfold conePdus
  split
  · rename_i v0 v1
    exact hc1
  · rename_i v2 v3 v4
    refine foldl_of ?_ ?_
    · exact hc1
    · intro x5
      intro x6
      intro h7
      extract_lets +onlyGivenNames y8
      clear_value y8
      refine ite_of ?_ ?_
      · refine imageSend_canon ?_
        exact h7
      · exact h7

theorem gclStart_canon {n : Nat} {at_ : Nat} {s : Machine.State} (hc1 : s.Canon) : (gclStart n at_ s).Canon := by
  unfold gclStart
  split
  · rename_i v0 v1
    exact hc1
  · rename_i v2 v3 v4
    refine ite_of ?_ ?_
    · extract_lets +onlyGivenNames y5
      clear_value y5
      extract_lets +onlyGivenNames y6
      have h7 : State.Canon y6 := by
        unfold y6
        refine ite_of ?_ ?_
        · refine raise_canon ?_
          refine bump_canon ?_
          exact hc1
        · exact hc1
      clear_value y6
      extract_lets +onlyGivenNames y8
      have h9 : State.Canon y8 := by
        unfold y8
        refine setGates_canon ?_
        exact h7
      clear_value y8
      extract_lets +onlyGivenNames y10
      have h11 : State.Canon y10 := by
        unfold y10
        refine wrB_canon ?_
        refine wrF_canon ?_
        exact h9
      clear_value y10
      refine setMac_canon ?_
      exact h11
    · exact hc1

theorem coneAct_canon {n : Nat} {c : Cone} {ready : List Nat} {s : Machine.State} (hc1 : s.Canon) :
    (coneAct n c ready s).Canon := by
  unfold coneAct
  extract_lets +onlyGivenNames y0
  have h1 : State.Canon y0 := by
    unfold y0
    split
    · rename_i v2 v3
      refine conePdus_canon ?_
      exact hc1
    · rename_i v4 v5
      refine foldl_of ?_ ?_
      · exact hc1
      · intro x6
        intro x7
        intro h8
        refine gclStart_canon ?_
        exact h8
    · rename_i v9 v10
      refine lgRelease_canon ?_
      exact hc1
    · rename_i v11 v12 v13 v14
      exact hc1
  clear_value y0
  refine ite_of ?_ ?_
  · exact h1
  · refine ite_of ?_ ?_
    · refine conePin_canon ?_
      exact h1
    · extract_lets +onlyGivenNames y15
      clear_value y15
      extract_lets +onlyGivenNames y16
      have h17 : State.Canon y16 := by
        unfold y16
        refine setCone_canon ?_
        exact h1
      clear_value y16
      refine conePin_canon ?_
      exact h17

theorem coneAdvance_canon {n : Nat} {s : Machine.State} (hc1 : s.Canon) : (coneAdvance n s).Canon := by
  unfold coneAdvance
  extract_lets +onlyGivenNames y0
  clear_value y0
  refine ite_of ?_ ?_
  · refine wrB_canon ?_
    exact hc1
  · extract_lets +onlyGivenNames y1
    clear_value y1
    extract_lets +onlyGivenNames y2
    clear_value y2
    extract_lets +onlyGivenNames y3
    clear_value y3
    extract_lets +onlyGivenNames y4
    clear_value y4
    extract_lets +onlyGivenNames y5
    clear_value y5
    extract_lets +onlyGivenNames y6
    clear_value y6
    extract_lets +onlyGivenNames y7
    have h8 : State.Canon y7 := by
      unfold y7
      refine coneNext_canon ?_
      refine setCone_canon ?_
      exact hc1
    clear_value y7
    refine ite_of ?_ ?_
    · exact h8
    · refine coneLate_canon ?_
      refine bumpN_canon ?_
      exact h8

theorem execConeFire_canon {cone : Fin 96} {ready : List (Fin 128)} {s : Machine.State} (hc1 : s.Canon) :
    Goes State.Canon (execConeFire cone ready s) := by
  unfold execConeFire
  refine done_canon ?_
  extract_lets +onlyGivenNames y0
  clear_value y0
  extract_lets +onlyGivenNames y1
  clear_value y1
  refine ite_of ?_ ?_
  · extract_lets +onlyGivenNames y2
    have h3 : State.Canon y2 := by
      unfold y2
      refine coneAct_canon ?_
      exact hc1
    clear_value y2
    extract_lets +onlyGivenNames y4
    clear_value y4
    extract_lets +onlyGivenNames y5
    clear_value y5
    extract_lets +onlyGivenNames y6
    have h7 : State.Canon y6 := by
      unfold y6
      refine wr_canon ?_
      refine setCone_canon ?_
      exact h3
    clear_value y6
    refine nmwSettle_canon ?_
    refine coneAdvance_canon ?_
    exact h7
  · exact hc1

theorem execConePulseEnd_canon {cone : Fin 96} {s : Machine.State} (hc1 : s.Canon) :
    Goes State.Canon (execConePulseEnd cone s) := by
  unfold execConePulseEnd
  refine done_canon ?_
  extract_lets +onlyGivenNames y0
  clear_value y0
  extract_lets +onlyGivenNames y1
  clear_value y1
  split
  · rename_i v2 v3 v4 v5
    refine pinRequest_canon ?_
    refine setCone_canon ?_
    exact hc1
  · rename_i v6 v7
    refine ite_of ?_ ?_
    · refine conePin_canon ?_
      refine setCone_canon ?_
      exact hc1
    · exact hc1

theorem coneFollow_canon {n : Nat} {s : Machine.State} (hc1 : s.Canon) : (coneFollow n s).Canon := by
  unfold coneFollow
  extract_lets +onlyGivenNames y0
  clear_value y0
  refine ite_of ?_ ?_
  · extract_lets +onlyGivenNames y1
    clear_value y1
    extract_lets +onlyGivenNames y2
    clear_value y2
    refine ite_of ?_ ?_
    · extract_lets +onlyGivenNames y3
      have h4 : State.Canon y3 := by
        unfold y3
        refine coneArm_canon ?_
        refine setCone_canon ?_
        exact hc1
      clear_value y3
      refine setCone_canon ?_
      exact h4
    · refine coneArm_canon ?_
      exact hc1
  · refine coneDisarm_canon ?_
    exact hc1

theorem listFollow_canon {b : Nat} {at_ : Nat} {n : Nat} {s : Machine.State} (hc1 : s.Canon) :
    (listFollow b at_ n s).Canon := by
  unfold listFollow
  refine ite_of ?_ ?_
  · refine wrF_canon ?_
    exact hc1
  · extract_lets +onlyGivenNames y0
    clear_value y0
    extract_lets +onlyGivenNames y1
    have h2 : State.Canon y1 := by
      unfold y1
      refine defaultGates_canon ?_
      exact hc1
    clear_value y1
    refine ite_of ?_ ?_
    · refine gclStart_canon ?_
      exact h2
    · exact h2

theorem planSwapAt_canon {at_ : Nat} {s : Machine.State} (hc1 : s.Canon) : (planSwapAt at_ s).Canon := by
  unfold planSwapAt
  extract_lets +onlyGivenNames y0
  clear_value y0
  extract_lets +onlyGivenNames y1
  clear_value y1
  extract_lets +onlyGivenNames y2
  clear_value y2
  extract_lets +onlyGivenNames y3
  clear_value y3
  extract_lets +onlyGivenNames y4
  clear_value y4
  extract_lets +onlyGivenNames y5
  have h6 : State.Canon y5 := by
    unfold y5
    refine foldl_of ?_ ?_
    · exact hc1
    · intro x7
      intro x8
      intro h9
      refine setLg_canon ?_
      exact h9
  clear_value y5
  extract_lets +onlyGivenNames y10
  have h11 : State.Canon y10 := by
    unfold y10
    refine planWrite_canon ?_
    refine bankFlip_canon ?_
    exact h6
  clear_value y10
  extract_lets +onlyGivenNames y12
  have h13 : State.Canon y12 := by
    unfold y12
    refine forN_of ?_ ?_
    · exact h11
    · intro x14
      intro x15
      intro h16
      refine ite_of ?_ ?_
      · exact h16
      · refine coneFollow_canon ?_
        exact h16
  clear_value y12
  refine cfgFinish_canon ?_
  refine forN_of ?_ ?_
  · exact h13
  · intro x17
    intro x18
    intro h19
    refine listFollow_canon ?_
    exact h19

theorem planAnchor_canon {ns : Nat} {s : Machine.State} (hc1 : s.Canon) : (planAnchor ns s).Canon := by
  unfold planAnchor
  refine foldl_of ?_ ?_
  · exact hc1
  · intro x0
    intro x1
    intro h2
    refine ite_of ?_ ?_
    · extract_lets +onlyGivenNames y3
      clear_value y3
      refine coneNext_canon ?_
      refine setCone_canon ?_
      exact h2
    · exact h2

theorem execPlanCycleStart_canon {s : Machine.State} (hc1 : s.Canon) : Goes State.Canon (execPlanCycleStart s) := by
  unfold execPlanCycleStart
  refine done_canon ?_
  refine ite_of ?_ ?_
  · exact hc1
  · extract_lets +onlyGivenNames y0
    clear_value y0
    extract_lets +onlyGivenNames y1
    clear_value y1
    extract_lets +onlyGivenNames y2
    have h3 : State.Canon y2 := by
      unfold y2
      refine ite_of ?_ ?_
      · refine forN_of ?_ ?_
        · refine canon_mk ?_
          exact hc1
        · intro x4
          intro x5
          intro h6
          refine ite_of ?_ ?_
          · refine coneArm_canon ?_
            exact h6
          · exact h6
      · exact hc1
    clear_value y2
    extract_lets +onlyGivenNames y7
    have h8 : State.Canon y7 := by
      unfold y7
      split
      · rename_i v9 v10 v11
        refine ite_of ?_ ?_
        · refine planSwapAt_canon ?_
          exact h3
        · exact h3
      · rename_i v12 v13
        exact h3
    clear_value y7
    refine ite_of ?_ ?_
    · refine planAnchor_canon ?_
      exact h8
    · exact h8

theorem canCount_canon {n : Nat} {e : CanErr} {s : Machine.State} (hc1 : s.Canon) : (canCount n e s).Canon := by
  unfold canCount
  refine wrF_canon ?_
  refine bump_canon ?_
  exact hc1

theorem txAbandon_canon {n : Nat} {s : Machine.State} (hc1 : s.Canon) : (txAbandon n s).Canon := by
  unfold txAbandon
  extract_lets +onlyGivenNames y0
  clear_value y0
  extract_lets +onlyGivenNames y1
  have h2 : State.Canon y1 := by
    unfold y1
    refine setPort_canon ?_
    exact hc1
  clear_value y1
  refine raise_canon ?_
  refine bump_canon ?_
  exact h2

theorem txError_canon {n : Nat} {s : Machine.State} (hc1 : s.Canon) : (txError n s).Canon := by
  unfold txError
  extract_lets +onlyGivenNames y0
  clear_value y0
  extract_lets +onlyGivenNames y1
  clear_value y1
  refine ite_of ?_ ?_
  · refine txAbandon_canon ?_
    exact hc1
  · refine setPort_canon ?_
    exact hc1

theorem lgStop_canon {n : Nat} {s : Machine.State} (hc1 : s.Canon) : (lgStop n s).Canon := by
  unfold lgStop
  extract_lets +onlyGivenNames y0
  have h1 : State.Canon y0 := by
    unfold y0
    refine ite_of ?_ ?_
    · refine emit_canon ?_
      exact hc1
    · exact hc1
  clear_value y0
  refine setPort_canon ?_
  exact h1

theorem lgFail_canon {n : Nat} {kept : Bool} {s : Machine.State} (hc1 : s.Canon) : (lgFail n kept s).Canon := by
  unfold lgFail
  split
  · rename_i v0 v1
    exact hc1
  · rename_i v2 v3 v4
    refine ite_of ?_ ?_
    · extract_lets +onlyGivenNames y5
      clear_value y5
      extract_lets +onlyGivenNames y6
      clear_value y6
      extract_lets +onlyGivenNames y7
      have h8 : State.Canon y7 := by
        unfold y7
        refine foldl_of ?_ ?_
        · exact hc1
        · intro x9
          intro x10
          intro h11
          refine lgStop_canon ?_
          exact h11
      clear_value y7
      extract_lets +onlyGivenNames y12
      clear_value y12
      refine bump_canon ?_
      refine setLg_canon ?_
      exact h8
    · refine lgLeave_canon ?_
      exact hc1

theorem fastMode_canon {n : Nat} {s : Machine.State} (hc1 : s.Canon) : (fastMode n s).Canon := by
  unfold fastMode
  extract_lets +onlyGivenNames y0
  clear_value y0
  refine ite_of ?_ ?_
  · refine emit_canon ?_
    refine emit_canon ?_
    exact hc1
  · exact hc1

theorem setErrCtrs_canon {n : Nat} {tec : Nat} {rec : Nat} {s : Machine.State} (hc1 : s.Canon) :
    (setErrCtrs n tec rec s).Canon := by
  unfold setErrCtrs
  extract_lets +onlyGivenNames y0
  clear_value y0
  extract_lets +onlyGivenNames y1
  clear_value y1
  extract_lets +onlyGivenNames y2
  clear_value y2
  extract_lets +onlyGivenNames y3
  clear_value y3
  extract_lets +onlyGivenNames y4
  clear_value y4
  extract_lets +onlyGivenNames y5
  clear_value y5
  extract_lets +onlyGivenNames y6
  clear_value y6
  extract_lets +onlyGivenNames y7
  clear_value y7
  extract_lets +onlyGivenNames y8
  have h9 : State.Canon y8 := by
    unfold y8
    refine wrF_canon ?_
    refine wrF_canon ?_
    refine wrF_canon ?_
    exact hc1
  clear_value y8
  extract_lets +onlyGivenNames y10
  clear_value y10
  extract_lets +onlyGivenNames y11
  have h12 : State.Canon y11 := by
    unfold y11
    refine setLive_canon ?_
    refine setLive_canon ?_
    exact h9
  clear_value y11
  extract_lets +onlyGivenNames y13
  have h14 : State.Canon y13 := by
    unfold y13
    refine ite_of ?_ ?_
    · refine raise_canon ?_
      exact h12
    · exact h12
  clear_value y13
  extract_lets +onlyGivenNames y15
  have h16 : State.Canon y15 := by
    unfold y15
    refine ite_of ?_ ?_
    · refine raise_canon ?_
      exact h14
    · exact h14
  clear_value y15
  refine ite_of ?_ ?_
  · extract_lets +onlyGivenNames y17
    have h18 : State.Canon y17 := by
      unfold y17
      refine raiseLive_canon ?_
      refine setOp_canon ?_
      refine requeuePending_canon ?_
      exact h16
    clear_value y17
    extract_lets +onlyGivenNames y19
    have h20 : State.Canon y19 := by
      unfold y19
      refine bump_canon ?_
      exact h18
    clear_value y19
    refine setPort_canon ?_
    exact h20
  · exact h16

theorem canAdvance_canon {n : Nat} {tx : Bool} {exempt : Bool} {heavy : Bool} {s : Machine.State} (hc1 : s.Canon) :
    (canAdvance n tx exempt heavy s).Canon := by
  unfold canAdvance
  refine ite_of ?_ ?_
  · refine ite_of ?_ ?_
    · exact hc1
    · refine setErrCtrs_canon ?_
      exact hc1
  · refine setErrCtrs_canon ?_
    exact hc1

theorem canxFrameEnd_canon {n : Nat} {s : Machine.State} (hc1 : s.Canon) : (canxFrameEnd n s).Canon := by
  unfold canxFrameEnd
  refine ite_of ?_ ?_
  · refine canxFrozen_canon ?_
    exact hc1
  · exact hc1

theorem canError_canon {n : Nat} {e : CanErr} {tx : Bool} {xlData : Bool} {exempt : Bool} {heavy : Bool} {s : Machine.State} (hc1 : s.Canon) :
    (canError n e tx xlData exempt heavy s).Canon := by
  unfold canError
  extract_lets +onlyGivenNames y0
  clear_value y0
  refine ite_of ?_ ?_
  · exact hc1
  · extract_lets +onlyGivenNames y1
    clear_value y1
    extract_lets +onlyGivenNames y2
    clear_value y2
    extract_lets +onlyGivenNames y3
    have h4 : State.Canon y3 := by
      unfold y3
      refine canCount_canon ?_
      exact hc1
    clear_value y3
    extract_lets +onlyGivenNames y5
    clear_value y5
    extract_lets +onlyGivenNames y6
    have h7 : State.Canon y6 := by
      unfold y6
      refine txError_canon ?_
      refine lgFail_canon ?_
      exact h4
    clear_value y6
    extract_lets +onlyGivenNames y8
    have h9 : State.Canon y8 := by
      unfold y8
      refine ite_of ?_ ?_
      · exact h7
      · exact h4
    clear_value y8
    refine ite_of ?_ ?_
    · refine canxIntegrate_canon ?_
      refine fastMode_canon ?_
      exact h9
    · extract_lets +onlyGivenNames y10
      have h11 : State.Canon y10 := by
        unfold y10
        refine ite_of ?_ ?_
        · refine canAdvance_canon ?_
          exact h9
        · exact h9
      clear_value y10
      refine canxFrameEnd_canon ?_
      exact h11

theorem canForeign_canon {n : Nat} {s : Machine.State} (hc1 : s.Canon) : (canForeign n s).Canon := by
  unfold canForeign
  extract_lets +onlyGivenNames y0
  clear_value y0
  refine ite_of ?_ ?_
  · extract_lets +onlyGivenNames y1
    have h2 : State.Canon y1 := by
      unfold y1
      refine raise_canon ?_
      refine bump_canon ?_
      exact hc1
    clear_value y1
    refine ite_of ?_ ?_
    · exact h2
    · refine canxIntegrate_canon ?_
      refine setOp_canon ?_
      exact h2
  · refine ite_of ?_ ?_
    · refine bump_canon ?_
      exact hc1
    · refine canError_canon ?_
      exact hc1

theorem tapWrite_canon {b : Nat} {t : Nat} {verified : Bool} {it : RItem} {s : Machine.State} (hc1 : s.Canon) :
    InL State.Canon (tapWrite b t verified it s) := by
  unfold tapWrite
  extract_lets +onlyGivenNames y0
  clear_value y0
  extract_lets +onlyGivenNames y1
  clear_value y1
  extract_lets +onlyGivenNames y2
  clear_value y2
  extract_lets +onlyGivenNames y3
  clear_value y3
  extract_lets +onlyGivenNames y4
  clear_value y4
  refine ite_of ?_ ?_
  · extract_lets +onlyGivenNames y5
    clear_value y5
    extract_lets +onlyGivenNames y6
    clear_value y6
    refine inL_mk ?_
    refine wrWords_canon ?_
    exact hc1
  · refine inL_mk ?_
    exact hc1

theorem reflexEvent_canon {cy : Cycle} {s : Machine.State} (hc1 : s.Canon) : (reflexEvent cy s).Canon := by
  unfold reflexEvent
  refine reflexCycle_canon ?_
  refine reflexCycle_canon ?_
  exact hc1

theorem tapsAct_canon {verified : Bool} {it : RItem} {s : Machine.State} (hc1 : s.Canon) :
    (tapsAct verified it s).Canon := by
  unfold tapsAct
  split
  · rename_i v0 v1
    exact hc1
  · rename_i v2 v3 v4
    extract_lets +onlyGivenNames y5
    clear_value y5
    extract_lets +onlyGivenNames y6
    clear_value y6
    extract_lets +onlyGivenNames y7
    have h8 : (InL State.Canon) y7 := by
      unfold y7
      refine foldl_of ?_ ?_
      · refine inL_mk ?_
        exact hc1
      · intro x9
        intro x10
        intro h11
        extract_lets +onlyGivenNames y12
        have h13 : (InL State.Canon) y12 := by
          unfold y12
          refine tapWrite_canon ?_
          refine inL_fst ?_
          exact h11
        clear_value y12
        refine inL_mk ?_
        refine inL_fst ?_
        exact h13
    clear_value y7
    refine ite_of ?_ ?_
    · refine inL_fst ?_
      exact h8
    · refine reflexEvent_canon ?_
      refine inL_fst ?_
      exact h8

theorem lqLive_canon {s : Machine.State} (hc1 : s.Canon) : (lqLive s).Canon := by
  unfold lqLive
  refine ite_of ?_ ?_
  · refine ite_of ?_ ?_
    · exact hc1
    · refine raiseLive_canon ?_
      exact hc1
  · refine setLive_canon ?_
    exact hc1

theorem pumpPort_canon {n : Nat} {a : Nat} {a2 : Machine.State} (hc1 : a2.Canon) : (pumpPort n a a2).Canon := by
  fun_induction pumpPort n a a2
  · rename_i v0
    exact hc1
  · rename_i v1 v2 v3
    exact hc1
  · rename_i v4 v5 v6 v7 v8 v9
    exact hc1
  · rename_i v10 v11 v12 v13 v14 v15 v16 v17 v18
    refine v18 ?_
    unfold v17
    refine setPort_canon ?_
    refine canon_mk ?_
    exact hc1

theorem ringCopy_canon {n : Nat} {f : FieldFrame} {wake : Bool} {s : Machine.State} (hc1 : s.Canon) :
    (ringCopy n f wake s).Canon := by
  unfold ringCopy
  extract_lets +onlyGivenNames y0
  clear_value y0
  extract_lets +onlyGivenNames y1
  clear_value y1
  refine ite_of ?_ ?_
  · refine canon_mk ?_
    exact hc1
  · exact hc1

theorem handOff_canon {n : Nat} {rx : RxFrame} {s : Machine.State} (hc1 : s.Canon) : (handOff n rx s).Canon := by
  unfold handOff
  refine ite_of ?_ ?_
  · refine tapsAct_canon ?_
    refine raise_canon ?_
    refine bump_canon ?_
    exact hc1
  · extract_lets +onlyGivenNames y0
    clear_value y0
    extract_lets +onlyGivenNames y1
    have h2 : State.Canon y1 := by
      unfold y1
      refine bump_canon ?_
      refine setPort_canon ?_
      exact hc1
    clear_value y1
    extract_lets +onlyGivenNames y3
    have h4 : State.Canon y3 := by
      unfold y3
      refine tapsAct_canon ?_
      exact h2
    clear_value y3
    refine lqLive_canon ?_
    refine pumpPort_canon ?_
    refine ringCopy_canon ?_
    exact h4

theorem canHandOff_canon {n : Nat} {rx : RxFrame} {s : Machine.State} (hc1 : s.Canon) : (canHandOff n rx s).Canon := by
  unfold canHandOff
  refine ite_of ?_ ?_
  · refine raise_canon ?_
    refine bump_canon ?_
    exact hc1
  · refine handOff_canon ?_
    exact hc1

theorem busWake_canon {n : Nat} {confirm : Bool} {s : Machine.State} (hc1 : s.Canon) : (busWake n confirm s).Canon := by
  unfold busWake
  split
  · rename_i v0 v1
    exact hc1
  · rename_i v2 v3 v4
    refine ite_of ?_ ?_
    · refine ite_of ?_ ?_
      · refine satInc_canon ?_
        exact hc1
      · refine ncSettle_canon ?_
        refine ncLatch_canon ?_
        exact hc1
    · exact hc1

theorem canWake_canon {n : Nat} {rx : RxFrame} {s : Machine.State} (hc1 : s.Canon) : (canWake n rx s).Canon := by
  unfold canWake
  extract_lets +onlyGivenNames y0
  clear_value y0
  extract_lets +onlyGivenNames y1
  have h2 : State.Canon y1 := by
    unfold y1
    refine setOp_canon ?_
    refine wrB_canon ?_
    exact hc1
  clear_value y1
  extract_lets +onlyGivenNames y3
  have h4 : State.Canon y3 := by
    unfold y3
    refine raise_canon ?_
    refine canHandOff_canon ?_
    exact h2
  clear_value y3
  refine busWake_canon ?_
  exact h4

theorem recSuccess_canon {n : Nat} {s : Machine.State} (hc1 : s.Canon) : (recSuccess n s).Canon := by
  unfold recSuccess
  extract_lets +onlyGivenNames y0
  clear_value y0
  refine ite_of ?_ ?_
  · extract_lets +onlyGivenNames y1
    have h2 : State.Canon y1 := by
      unfold y1
      refine drawn_canon ?_
      exact hc1
    clear_value y1
    refine setErrCtrs_canon ?_
    exact h2
  · refine setErrCtrs_canon ?_
    exact hc1

theorem execCanxRxFrame_canon {port : Fin 128} {frame : FieldFrame} {age : Nat} {s : Machine.State} (hc1 : s.Canon) :
    Goes State.Canon (execCanxRxFrame port frame age s) := by
  unfold execCanxRxFrame
  extract_lets +onlyGivenNames y0
  clear_value y0
  extract_lets +onlyGivenNames y1
  clear_value y1
  extract_lets +onlyGivenNames y2
  clear_value y2
  refine done_canon ?_
  refine nmwSettle_canon ?_
  refine ite_of ?_ ?_
  · exact hc1
  · refine ite_of ?_ ?_
    · extract_lets +onlyGivenNames y3
      have h4 : State.Canon y3 := by
        unfold y3
        refine injDone_canon ?_
        exact hc1
      clear_value y3
      refine ite_of ?_ ?_
      · refine bump_canon ?_
        exact h4
      · refine canError_canon ?_
        exact h4
    · refine ite_of ?_ ?_
      · refine canForeign_canon ?_
        exact hc1
      · refine ite_of ?_ ?_
        · exact hc1
        · extract_lets +onlyGivenNames y5
          have h6 : State.Canon y5 := by
            unfold y5
            refine ite_of ?_ ?_
            · refine fastMode_canon ?_
              exact hc1
            · exact hc1
          clear_value y5
          refine ite_of ?_ ?_
          · refine ite_of ?_ ?_
            · refine canWake_canon ?_
              exact h6
            · refine bump_canon ?_
              exact h6
          · extract_lets +onlyGivenNames y7
            have h8 : State.Canon y7 := by
              unfold y7
              refine canHandOff_canon ?_
              exact h6
            clear_value y7
            refine ite_of ?_ ?_
            · refine canxFrameEnd_canon ?_
              refine recSuccess_canon ?_
              exact h8
            · exact h8

theorem lgLateTake_canon {g : Nat} {n : Nat} {s : Machine.State} (hc1 : s.Canon) : (lgLateTake g n s).Canon := by
  unfold lgLateTake
  extract_lets +onlyGivenNames y0
  clear_value y0
  extract_lets +onlyGivenNames y1
  have h2 : State.Canon y1 := by
    unfold y1
    refine setLg_canon ?_
    exact hc1
  clear_value y1
  split
  · rename_i v3 v4 v5 v6
    refine takePending_canon ?_
    exact h2
  · rename_i v7 v8
    exact h2

theorem selectPending_canon {n : Nat} {s : Machine.State} (hc1 : s.Canon) : (selectPending n s).Canon := by
  unfold selectPending
  split
  · rename_i v0 v1 v2 v3 v4 v5
    refine takePending_canon ?_
    exact hc1
  · rename_i v6 v7 v8 v9 v10 v11 v12 v13
    refine ite_of ?_ ?_
    · refine takePending_canon ?_
      exact hc1
    · exact hc1
  · rename_i v14 v15 v16
    exact hc1

theorem selectionPoint_canon {n : Nat} {s : Machine.State} (hc1 : s.Canon) : (selectionPoint n s).Canon := by
  unfold selectionPoint
  refine ite_of ?_ ?_
  · exact hc1
  · split
    · rename_i v0 v1 v2
      extract_lets +onlyGivenNames y3
      clear_value y3
      refine setLg_canon ?_
      exact hc1
    · rename_i v4 v5
      split
      · rename_i v6 v7 v8
        refine txStart_canon ?_
        refine lgLateTake_canon ?_
        exact hc1
      · rename_i v9 v10
        refine txStart_canon ?_
        refine selectPending_canon ?_
        exact hc1

theorem execFxpSelect_canon {port : Fin 128} {s : Machine.State} (hc1 : s.Canon) :
    Goes State.Canon (execFxpSelect port s) := by
  unfold execFxpSelect
  refine done_canon ?_
  refine ite_of ?_ ?_
  · exact hc1
  · refine selectionPoint_canon ?_
    exact hc1

theorem txStamp_canon {n : Nat} {q : Nat} {ts : Nat} {s : Machine.State} (hc1 : s.Canon) :
    (txStamp n q ts s).Canon := by
  unfold txStamp
  refine wrWords_canon ?_
  exact hc1

theorem txSuccess_canon {n : Nat} {q : Nat} {ts : Nat} {s : Machine.State} (hc1 : s.Canon) :
    (txSuccess n q ts s).Canon := by
  unfold txSuccess
  extract_lets +onlyGivenNames y0
  clear_value y0
  extract_lets +onlyGivenNames y1
  have h2 : State.Canon y1 := by
    unfold y1
    refine setPort_canon ?_
    exact hc1
  clear_value y1
  refine lgLeave_canon ?_
  refine txStamp_canon ?_
  refine bump_canon ?_
  exact h2

theorem execFxpTxSuccess_canon {port : Fin 128} {age : Nat} {tdcv : Option Nat} {s : Machine.State} (hc1 : s.Canon) :
    Goes State.Canon (execFxpTxSuccess port age tdcv s) := by
  unfold execFxpTxSuccess
  refine done_canon ?_
  split
  · rename_i v0 v1 v2 v3 v4 v5
    extract_lets +onlyGivenNames y6
    clear_value y6
    refine ite_of ?_ ?_
    · exact hc1
    · extract_lets +onlyGivenNames y7
      have h8 : State.Canon y7 := by
        unfold y7
        refine txSuccess_canon ?_
        exact hc1
      clear_value y7
      refine ite_of ?_ ?_
      · extract_lets +onlyGivenNames y9
        clear_value y9
        extract_lets +onlyGivenNames y10
        clear_value y10
        extract_lets +onlyGivenNames y11
        have h12 : State.Canon y11 := by
          unfold y11
          split
          · rename_i v13 v14
            refine ite_of ?_ ?_
            · refine wrF_canon ?_
              exact h8
            · exact h8
          · rename_i v15
            exact h8
        clear_value y11
        extract_lets +onlyGivenNames y16
        have h17 : State.Canon y16 := by
          unfold y16
          refine ite_of ?_ ?_
          · refine fastMode_canon ?_
            exact h12
          · exact h12
        clear_value y16
        extract_lets +onlyGivenNames y18
        have h19 : State.Canon y18 := by
          unfold y18
          refine ite_of ?_ ?_
          · refine setErrCtrs_canon ?_
            exact h17
          · exact h17
        clear_value y18
        refine canxFrameEnd_canon ?_
        exact h19
      · exact h8
  · rename_i v20 v21 v22
    exact hc1

theorem execCanxArbLost_canon {port : Fin 128} {s : Machine.State} (hc1 : s.Canon) :
    Goes State.Canon (execCanxArbLost port s) := by
  unfold execCanxArbLost
  refine done_canon ?_
  refine ite_of ?_ ?_
  · extract_lets +onlyGivenNames y0
    have h1 : State.Canon y0 := by
      unfold y0
      refine bump_canon ?_
      refine lgFail_canon ?_
      exact hc1
    clear_value y0
    refine setPort_canon ?_
    exact h1
  · exact hc1

theorem execCanxError_canon {port : Fin 128} {err : CanErr} {tx : Bool} {xlData : Bool} {exempt : Bool} {heavy : Bool} {tdcv : Option Nat} {s : Machine.State} (hc1 : s.Canon) :
    Goes State.Canon (execCanxError port err tx xlData exempt heavy tdcv s) := by
  unfold execCanxError
  extract_lets +onlyGivenNames y0
  have h1 : KeepsC y0 := by
    unfold y0
    intro s2 h3
    dsimp -zeta only
    split
    · rename_i v4 v5
      extract_lets +onlyGivenNames y6
      clear_value y6
      refine ite_of ?_ ?_
      · refine wrF_canon ?_
        exact h3
      · exact h3
    · rename_i v7
      exact h3
  clear_value y0
  refine done_canon ?_
  refine ite_of ?_ ?_
  · exact hc1
  · refine ite_of ?_ ?_
    · refine bump_canon ?_
      exact hc1
    · refine canError_canon ?_
      refine h1 _ ?_
      exact hc1

theorem execBoffDelayExpiry_canon {port : Fin 128} {s : Machine.State} (hc1 : s.Canon) :
    Goes State.Canon (execBoffDelayExpiry port s) := by
  unfold execBoffDelayExpiry
  refine done_canon ?_
  refine ite_of ?_ ?_
  · refine setPort_canon ?_
    exact hc1
  · exact hc1

theorem execBusOn_canon {port : Fin 128} {s : Machine.State} (hc1 : s.Canon) : Goes State.Canon (execBusOn port s) := by
  unfold execBusOn
  refine done_canon ?_
  refine ite_of ?_ ?_
  · extract_lets +onlyGivenNames y0
    clear_value y0
    extract_lets +onlyGivenNames y1
    have h2 : State.Canon y1 := by
      unfold y1
      refine setPort_canon ?_
      exact hc1
    clear_value y1
    extract_lets +onlyGivenNames y3
    have h4 : State.Canon y3 := by
      unfold y3
      refine canxIntegrate_canon ?_
      refine setErrCtrs_canon ?_
      exact h2
    clear_value y3
    refine raise_canon ?_
    refine setLive_canon ?_
    exact h4
  · exact hc1

theorem execCanxIntegrated_canon {port : Fin 128} {s : Machine.State} (hc1 : s.Canon) :
    Goes State.Canon (execCanxIntegrated port s) := by
  unfold execCanxIntegrated
  extract_lets +onlyGivenNames y0
  clear_value y0
  refine done_canon ?_
  refine ite_of ?_ ?_
  · refine setOp_canon ?_
    exact hc1
  · exact hc1

theorem execTrxFlag_canon {port : Fin 128} {level : Bool} {s : Machine.State} (hc1 : s.Canon) :
    Goes State.Canon (execTrxFlag port level s) := by
  unfold execTrxFlag
  extract_lets +onlyGivenNames y0
  clear_value y0
  extract_lets +onlyGivenNames y1
  clear_value y1
  extract_lets +onlyGivenNames y2
  have h3 : State.Canon y2 := by
    unfold y2
    refine setPort_canon ?_
    exact hc1
  clear_value y2
  extract_lets +onlyGivenNames y4
  clear_value y4
  extract_lets +onlyGivenNames y5
  clear_value y5
  extract_lets +onlyGivenNames y6
  clear_value y6
  refine done_canon ?_
  refine ite_of ?_ ?_
  · extract_lets +onlyGivenNames y7
    have h8 : State.Canon y7 := by
      unfold y7
      refine setLive_canon ?_
      exact h3
    clear_value y7
    refine ite_of ?_ ?_
    · refine raise_canon ?_
      exact h8
    · exact h8
  · exact h3

theorem execTxtsRead_canon {port : Fin 128} {s : Machine.State} (hc1 : s.Canon) :
    Goes State.Canon (execTxtsRead port s) := by
  unfold execTxtsRead
  extract_lets +onlyGivenNames y0
  clear_value y0
  refine done_canon ?_
  refine setRdata_canon ?_
  refine wrB_canon ?_
  refine setShadows_canon ?_
  exact hc1

theorem linSleepNow_canon {n : Nat} {s : Machine.State} (hc1 : s.Canon) : (linSleepNow n s).Canon := by
  unfold linSleepNow
  extract_lets +onlyGivenNames y0
  clear_value y0
  extract_lets +onlyGivenNames y1
  have h2 : State.Canon y1 := by
    unfold y1
    refine setPort_canon ?_
    exact hc1
  clear_value y1
  refine emit_canon ?_
  refine raiseLive_canon ?_
  exact h2

theorem linPublishNow_canon {n : Nat} {id : Nat} {hold : Bool} {hdr : Machine.State → Machine.State} {s : Machine.State} (hc1 : KeepsC hdr) (hc2 : s.Canon) :
    InO State.Canon (linPublishNow n id hold hdr s) := by
  unfold linPublishNow
  extract_lets +onlyGivenNames y0
  clear_value y0
  refine ite_of ?_ ?_
  · refine inO_some ?_
    refine linRespond_canon ?_
    refine hc1 _ ?_
    exact hc2
  · split
    · rename_i v1 v2 v3 v4
      refine inO_some ?_
      refine linRespond_canon ?_
      refine hc1 _ ?_
      refine linTake_canon ?_
      exact hc2
    · rename_i v5 v6
      split
      · rename_i v7 v8 v9 v10
        refine inO_some ?_
        refine emit_canon ?_
        refine hc1 _ ?_
        exact hc2
      · rename_i v11 v12 v13 v14
        exact inO_none

theorem linNext_canon {n : Nat} {i : Nat} {s : Machine.State} (hc1 : s.Canon) : (linNext n i s).Canon := by
  unfold linNext
  extract_lets +onlyGivenNames y0
  clear_value y0
  refine ite_of ?_ ?_
  · split
    · rename_i v1 v2 v3 v4
      refine setPort_canon ?_
      exact hc1
    · rename_i v5 v6
      refine setPort_canon ?_
      exact hc1
  · refine setPort_canon ?_
    exact hc1

theorem linSlotStart_canon {n : Nat} {s : Machine.State} (hc1 : s.Canon) : (linSlotStart n s).Canon := by
  unfold linSlotStart
  extract_lets +onlyGivenNames y0
  have h1 : State.Canon y0 := by
    unfold y0
    refine ite_of ?_ ?_
    · refine txAbandon_canon ?_
      exact hc1
    · exact hc1
  clear_value y0
  refine ite_of ?_ ?_
  · extract_lets +onlyGivenNames y2
    clear_value y2
    refine linSleepNow_canon ?_
    refine emit_canon ?_
    refine emit_canon ?_
    exact h1
  · extract_lets +onlyGivenNames y3
    have h4 : State.Canon y3 := by
      unfold y3
      refine linSwitch_canon ?_
      exact h1
    clear_value y3
    extract_lets +onlyGivenNames y5
    clear_value y5
    extract_lets +onlyGivenNames y6
    clear_value y6
    extract_lets +onlyGivenNames y7
    clear_value y7
    extract_lets +onlyGivenNames y8
    have h9 : KeepsC y8 := by
      unfold y8
      intro s10 h11
      dsimp -zeta only
      refine emit_canon ?_
      exact h11
    clear_value y8
    extract_lets +onlyGivenNames y12
    clear_value y12
    extract_lets +onlyGivenNames y13
    have h14 : State.Canon y13 := by
      unfold y13
      refine setPort_canon ?_
      exact h4
    clear_value y13
    extract_lets +onlyGivenNames y15
    clear_value y15
    extract_lets +onlyGivenNames y16
    have h17 : State.Canon y16 := by
      unfold y16
      split
      · rename_i v18 v19
        split
        · rename_i v20 v21 v22
          have h23 : State.Canon v21 := by
            refine (of_eq (P := (InO State.Canon)) v22 ?_) _ rfl
            refine linPublishNow_canon ?_ ?_
            · exact h9
            · exact h14
          exact h23
        · rename_i v24 v25
          refine bump_canon ?_
          exact h14
      · rename_i v26 v27
        refine setPort_canon ?_
        refine h9 _ ?_
        exact h14
      · rename_i v28 v29
        refine setPort_canon ?_
        refine h9 _ ?_
        exact h14
      · rename_i v30 v31 v32 v33
        exact h14
    clear_value y16
    refine linNext_canon ?_
    exact h17

theorem execLinSlotStart_canon {port : Fin 128} {s : Machine.State} (hc1 : s.Canon) :
    Goes State.Canon (execLinSlotStart port s) := by
  unfold execLinSlotStart
  extract_lets +onlyGivenNames y0
  clear_value y0
  refine done_canon ?_
  refine ite_of ?_ ?_
  · refine linSlotStart_canon ?_
    exact hc1
  · exact hc1

theorem linErr_canon {n : Nat} {j : Nat} {s : Machine.State} (hc1 : s.Canon) : (linErr n j s).Canon := by
  unfold linErr
  refine raise_canon ?_
  refine bump_canon ?_
  exact hc1

theorem execLinHeaderRx_canon {port : Fin 128} {pid : Fin 256} {bitCyc : Nat} {s : Machine.State} (hc1 : s.Canon) :
    Goes State.Canon (execLinHeaderRx port pid bitCyc s) := by
  unfold execLinHeaderRx
  extract_lets +onlyGivenNames y0
  clear_value y0
  extract_lets +onlyGivenNames y1
  clear_value y1
  extract_lets +onlyGivenNames y2
  clear_value y2
  refine done_canon ?_
  refine ite_of ?_ ?_
  · exact hc1
  · extract_lets +onlyGivenNames y3
    clear_value y3
    extract_lets +onlyGivenNames y4
    have h5 : State.Canon y4 := by
      unfold y4
      refine setPort_canon ?_
      exact hc1
    clear_value y4
    refine ite_of ?_ ?_
    · refine linErr_canon ?_
      exact h5
    · refine ite_of ?_ ?_
      · refine linErr_canon ?_
        exact h5
      · extract_lets +onlyGivenNames y6
        clear_value y6
        extract_lets +onlyGivenNames y7
        have h8 : State.Canon y7 := by
          unfold y7
          refine setPort_canon ?_
          exact h5
        clear_value y7
        split
        · rename_i v9 v10 v11
          split
          · rename_i v12 v13
            refine ite_of ?_ ?_
            · exact h8
            · refine getD_of ?_ ?_
              · refine linPublishNow_canon ?_ ?_
                · intro s14 h15
                  dsimp -zeta only
                  exact h15
                · exact h8
              · exact h8
          · rename_i v16 v17
            refine setPort_canon ?_
            exact h8
        · rename_i v18 v19
          refine ite_of ?_ ?_
          · refine setPort_canon ?_
            exact h8
          · exact h8

theorem linChecksumBad_canon {n : Nat} {i : Nat} {s : Machine.State} (hc1 : s.Canon) :
    (linChecksumBad n i s).Canon := by
  unfold linChecksumBad
  refine ite_of ?_ ?_
  · extract_lets +onlyGivenNames y0
    have h1 : State.Canon y0 := by
      unfold y0
      refine raise_canon ?_
      refine bump_canon ?_
      exact hc1
    clear_value y0
    extract_lets +onlyGivenNames y2
    clear_value y2
    refine setPort_canon ?_
    exact h1
  · refine linErr_canon ?_
    exact hc1

theorem execLinRxResponse_canon {port : Fin 128} {data : List Byte} {ck : Fin 256} {age : Nat} {s : Machine.State} (hc1 : s.Canon) :
    Goes State.Canon (execLinRxResponse port data ck age s) := by
  unfold execLinRxResponse
  extract_lets +onlyGivenNames y0
  clear_value y0
  refine done_canon ?_
  split
  · rename_i v1 v2 v3 v4 v5 v6
    extract_lets +onlyGivenNames y7
    clear_value y7
    extract_lets +onlyGivenNames y8
    have h9 : State.Canon y8 := by
      unfold y8
      refine setPort_canon ?_
      exact hc1
    clear_value y8
    extract_lets +onlyGivenNames y10
    clear_value y10
    extract_lets +onlyGivenNames y11
    clear_value y11
    extract_lets +onlyGivenNames y12
    have h13 : State.Canon y12 := by
      unfold y12
      refine ite_of ?_ ?_
      · refine injDone_canon ?_
        exact h9
      · exact h9
    clear_value y12
    refine ite_of ?_ ?_
    · refine linChecksumBad_canon ?_
      exact h13
    · extract_lets +onlyGivenNames y14
      have h15 : State.Canon y14 := by
        unfold y14
        refine ite_of ?_ ?_
        · refine nmwSettle_canon ?_
          refine handOff_canon ?_
          exact h13
        · exact h13
      clear_value y14
      refine ite_of ?_ ?_
      · refine linSleepNow_canon ?_
        exact h15
      · exact h15
  · rename_i v16 v17 v18
    exact hc1

theorem execLinResponseTimeout_canon {port : Fin 128} {anyByte : Bool} {s : Machine.State} (hc1 : s.Canon) :
    Goes State.Canon (execLinResponseTimeout port anyByte s) := by
  unfold execLinResponseTimeout
  extract_lets +onlyGivenNames y0
  clear_value y0
  refine done_canon ?_
  split
  · rename_i v1 v2 v3 v4 v5
    extract_lets +onlyGivenNames y6
    clear_value y6
    extract_lets +onlyGivenNames y7
    have h8 : State.Canon y7 := by
      unfold y7
      refine setPort_canon ?_
      exact hc1
    clear_value y7
    refine ite_of ?_ ?_
    · refine linErr_canon ?_
      exact h8
    · refine raise_canon ?_
      refine bump_canon ?_
      exact h8
  · rename_i v9 v10 v11
    exact hc1

theorem execLinIdleTimeout_canon {port : Fin 128} {s : Machine.State} (hc1 : s.Canon) :
    Goes State.Canon (execLinIdleTimeout port s) := by
  unfold execLinIdleTimeout
  refine done_canon ?_
  refine ite_of ?_ ?_
  · refine linSleepNow_canon ?_
    exact hc1
  · exact hc1

theorem execWakeRx_canon {port : Fin 128} {viaD : Bool} {s : Machine.State} (hc1 : s.Canon) :
    Goes State.Canon (execWakeRx port viaD s) := by
  unfold execWakeRx
  extract_lets +onlyGivenNames y0
  clear_value y0
  refine done_canon ?_
  refine ite_of ?_ ?_
  · refine nmwSettle_canon ?_
    refine busWake_canon ?_
    refine raise_canon ?_
    refine linWakeNow_canon ?_
    exact hc1
  · exact hc1

theorem execLinScheduleRestart_canon {port : Fin 128} {s : Machine.State} (hc1 : s.Canon) :
    Goes State.Canon (execLinScheduleRestart port s) := by
  unfold execLinScheduleRestart
  extract_lets +onlyGivenNames y0
  clear_value y0
  extract_lets +onlyGivenNames y1
  clear_value y1
  refine done_canon ?_
  refine ite_of ?_ ?_
  · refine setPort_canon ?_
    exact hc1
  · exact hc1

theorem execT1sRxFrame_canon {port : Fin 128} {data : List Byte} {fcsOk : Bool} {age : Nat} {s : Machine.State} (hc1 : s.Canon) :
    Goes State.Canon (execT1sRxFrame port data fcsOk age s) := by
  unfold execT1sRxFrame
  extract_lets +onlyGivenNames y0
  clear_value y0
  extract_lets +onlyGivenNames y1
  clear_value y1
  refine done_canon ?_
  refine ite_of ?_ ?_
  · exact hc1
  · refine ite_of ?_ ?_
    · refine bump_canon ?_
      exact hc1
    · refine ite_of ?_ ?_
      · refine raise_canon ?_
        refine bump_canon ?_
        exact hc1
      · refine nmwSettle_canon ?_
        refine handOff_canon ?_
        exact hc1

theorem execT1sTxOpportunity_canon {port : Fin 128} {s : Machine.State} (hc1 : s.Canon) :
    Goes State.Canon (execT1sTxOpportunity port s) := by
  unfold execT1sTxOpportunity
  refine done_canon ?_
  refine ite_of ?_ ?_
  · refine selectionPoint_canon ?_
    exact hc1
  · exact hc1

theorem execT1sCollision_canon {port : Fin 128} {s : Machine.State} (hc1 : s.Canon) :
    Goes State.Canon (execT1sCollision port s) := by
  unfold execT1sCollision
  extract_lets +onlyGivenNames y0
  clear_value y0
  refine done_canon ?_
  refine ite_of ?_ ?_
  · extract_lets +onlyGivenNames y1
    have h2 : State.Canon y1 := by
      unfold y1
      refine raise_canon ?_
      refine bump_canon ?_
      exact hc1
    clear_value y1
    refine ite_of ?_ ?_
    · refine txError_canon ?_
      refine setPort_canon ?_
      exact h2
    · exact h2
  · exact hc1

theorem execT1sBeaconRx_canon {port : Fin 128} {s : Machine.State} (hc1 : s.Canon) :
    Goes State.Canon (execT1sBeaconRx port s) := by
  unfold execT1sBeaconRx
  refine done_canon ?_
  refine ite_of ?_ ?_
  · refine setLive_canon ?_
    refine wrB_canon ?_
    exact hc1
  · exact hc1

theorem execPlcaLost_canon {port : Fin 128} {s : Machine.State} (hc1 : s.Canon) :
    Goes State.Canon (execPlcaLost port s) := by
  unfold execPlcaLost
  extract_lets +onlyGivenNames y0
  clear_value y0
  refine done_canon ?_
  refine ite_of ?_ ?_
  · refine raiseLive_canon ?_
    refine bump_canon ?_
    refine wrB_canon ?_
    exact hc1
  · exact hc1

theorem slowDrop_canon {n : Nat} {s : Machine.State} (hc1 : s.Canon) : (slowDrop n s).Canon := by
  unfold slowDrop
  refine setPort_canon ?_
  exact hc1

theorem slowDone_canon {n : Nat} {ok : Bool} {id : Nat} {data : List Byte} {ts : Nat} {s : Machine.State} (hc1 : s.Canon) :
    (slowDone n ok id data ts s).Canon := by
  unfold slowDone
  refine ite_of ?_ ?_
  · refine handOff_canon ?_
    refine bump_canon ?_
    exact hc1
  · refine raise_canon ?_
    refine bump_canon ?_
    exact hc1

theorem slowShort_canon {n : Nat} {b2 : Bool} {b3 : Bool} {ts : Nat} {s : Machine.State} (hc1 : s.Canon) :
    (slowShort n b2 b3 ts s).Canon := by
  unfold slowShort
  extract_lets +onlyGivenNames y0
  clear_value y0
  extract_lets +onlyGivenNames y1
  clear_value y1
  refine ite_of ?_ ?_
  · extract_lets +onlyGivenNames y2
    clear_value y2
    extract_lets +onlyGivenNames y3
    clear_value y3
    refine slowDone_canon ?_
    refine setPort_canon ?_
    exact hc1
  · refine setPort_canon ?_
    exact hc1

theorem slowEnhanced_canon {n : Nat} {b2 : Bool} {b3 : Bool} {ts : Nat} {s : Machine.State} (hc1 : s.Canon) :
    (slowEnhanced n b2 b3 ts s).Canon := by
  unfold slowEnhanced
  extract_lets +onlyGivenNames y0
  clear_value y0
  extract_lets +onlyGivenNames y1
  clear_value y1
  extract_lets +onlyGivenNames y2
  clear_value y2
  extract_lets +onlyGivenNames y3
  clear_value y3
  extract_lets +onlyGivenNames y4
  clear_value y4
  refine ite_of ?_ ?_
  · extract_lets +onlyGivenNames y5
    clear_value y5
    extract_lets +onlyGivenNames y6
    clear_value y6
    extract_lets +onlyGivenNames y7
    clear_value y7
    extract_lets +onlyGivenNames y8
    clear_value y8
    extract_lets +onlyGivenNames y9
    clear_value y9
    extract_lets +onlyGivenNames y10
    clear_value y10
    extract_lets +onlyGivenNames y11
    have h12 : State.Canon y11 := by
      unfold y11
      refine setPort_canon ?_
      exact hc1
    clear_value y11
    refine ite_of ?_ ?_
    · refine slowDone_canon ?_
      exact h12
    · refine slowDone_canon ?_
      exact h12
  · refine setPort_canon ?_
    exact hc1

theorem sentValid_canon {n : Nat} {rx : RxFrame} {s : Machine.State} (hc1 : s.Canon) : (sentValid n rx s).Canon := by
  unfold sentValid
  extract_lets +onlyGivenNames y0
  clear_value y0
  extract_lets +onlyGivenNames y1
  have h2 : State.Canon y1 := by
    unfold y1
    refine handOff_canon ?_
    exact hc1
  clear_value y1
  split
  · rename_i v3 v4
    refine slowShort_canon ?_
    exact h2
  · rename_i v5 v6
    refine slowEnhanced_canon ?_
    exact h2
  · rename_i v7 v8 v9
    exact h2

theorem execSentCalPulse_canon {port : Fin 128} {cyc : Nat} {s : Machine.State} (hc1 : s.Canon) :
    Goes State.Canon (execSentCalPulse port cyc s) := by
  unfold execSentCalPulse
  extract_lets +onlyGivenNames y0
  clear_value y0
  extract_lets +onlyGivenNames y1
  clear_value y1
  refine done_canon ?_
  refine ite_of ?_ ?_
  · exact hc1
  · extract_lets +onlyGivenNames y2
    clear_value y2
    refine ite_of ?_ ?_
    · extract_lets +onlyGivenNames y3
      have h4 : State.Canon y3 := by
        unfold y3
        refine slowDrop_canon ?_
        refine setPort_canon ?_
        refine bump_canon ?_
        exact hc1
      clear_value y3
      refine raiseLive_canon ?_
      exact h4
    · extract_lets +onlyGivenNames y5
      have h6 : State.Canon y5 := by
        unfold y5
        refine setLive_canon ?_
        refine setPort_canon ?_
        exact hc1
      clear_value y5
      split
      · rename_i v7 v8 v9 v10
        refine ite_of ?_ ?_
        · refine nmwSettle_canon ?_
          refine sentValid_canon ?_
          exact h6
        · refine slowDrop_canon ?_
          exact h6
      · rename_i v11 v12
        exact h6

theorem sentErr_canon {n : Nat} {j : Nat} {s : Machine.State} (hc1 : s.Canon) : (sentErr n j s).Canon := by
  unfold sentErr
  refine raise_canon ?_
  refine slowDrop_canon ?_
  refine bump_canon ?_
  exact hc1

theorem execSentRxFrame_canon {port : Fin 128} {pulses : List Nat} {pause : Option Nat} {age : Nat} {s : Machine.State} (hc1 : s.Canon) :
    Goes State.Canon (execSentRxFrame port pulses pause age s) := by
  unfold execSentRxFrame
  extract_lets +onlyGivenNames y0
  clear_value y0
  extract_lets +onlyGivenNames y1
  clear_value y1
  extract_lets +onlyGivenNames y2
  clear_value y2
  extract_lets +onlyGivenNames y3
  clear_value y3
  extract_lets +onlyGivenNames y4
  clear_value y4
  extract_lets +onlyGivenNames y5
  clear_value y5
  extract_lets +onlyGivenNames y6
  clear_value y6
  refine done_canon ?_
  refine ite_of ?_ ?_
  · exact hc1
  · refine ite_of ?_ ?_
    · refine sentErr_canon ?_
      exact hc1
    · refine ite_of ?_ ?_
      · refine sentErr_canon ?_
        exact hc1
      · extract_lets +onlyGivenNames y7
        clear_value y7
        refine ite_of ?_ ?_
        · refine sentErr_canon ?_
          refine injDone_canon ?_
          exact hc1
        · refine ite_of ?_ ?_
          · refine sentErr_canon ?_
            exact hc1
          · extract_lets +onlyGivenNames y8
            clear_value y8
            refine ite_of ?_ ?_
            · refine setPort_canon ?_
              exact hc1
            · refine nmwSettle_canon ?_
              refine sentValid_canon ?_
              exact hc1

theorem sensorDone_canon {k : Nat} {miso : List Byte} {s : Machine.State} (hc1 : s.Canon) :
    (sensorDone k miso s).Canon := by
  unfold sensorDone
  split
  · rename_i v0 v1 v2 v3
    extract_lets +onlyGivenNames y4
    have h5 : State.Canon y4 := by
      unfold y4
      refine modBrg_canon ?_
      exact hc1
    clear_value y4
    refine ite_of ?_ ?_
    · refine brgAnswer_canon ?_
      exact h5
    · exact h5
  · rename_i v6 v7
    exact hc1

theorem execSpicTransactionDone_canon {port : Fin 128} {miso : List Byte} {age : Nat} {s : Machine.State} (hc1 : s.Canon) :
    Goes State.Canon (execSpicTransactionDone port miso age s) := by
  unfold execSpicTransactionDone
  extract_lets +onlyGivenNames y0
  clear_value y0
  refine done_canon ?_
  split
  · rename_i v1 v2 v3 v4 v5 v6
    extract_lets +onlyGivenNames y7
    clear_value y7
    extract_lets +onlyGivenNames y8
    have h9 : State.Canon y8 := by
      unfold y8
      refine txSuccess_canon ?_
      exact hc1
    clear_value y8
    split
    · rename_i v10 v11 v12
      refine nmwSettle_canon ?_
      refine sensorDone_canon ?_
      refine bump_canon ?_
      exact h9
    · rename_i v13 v14
      refine nmwSettle_canon ?_
      refine handOff_canon ?_
      exact h9
  · rename_i v15 v16 v17
    exact hc1

end Sys2Proof.Machine
end

