-- ==== Sys2Proof/Laws/Canon4.lean ====
section
/-! SUPPORT. Sys2Proof/Laws/Canon4.lean: every operation keeps the canonical form of the stores (State.Canon), one lemma per operation, part 4. -/

set_option linter.unusedVariables false

namespace Sys2Proof.Machine
open Sys2Proof

theorem execPwmxPeriodDone_canon {port : Fin 128} {ch : Fin 4} {period : BitVec 24} {high : BitVec 24} {level : Bool} {age : Nat} {s : Machine.State} (hc1 : s.Canon) :
    Goes State.Canon (execPwmxPeriodDone port ch period high level age s) := by
  unfold execPwmxPeriodDone
  extract_lets +onlyGivenNames y0
  clear_value y0
  extract_lets +onlyGivenNames y1
  clear_value y1
  refine done_canon ?_
  refine ite_of ?_ ?_
  · extract_lets +onlyGivenNames y2
    have h3 : State.Canon y2 := by
      unfold y2
      refine wr_canon ?_
      refine wr_canon ?_
      exact hc1
    clear_value y2
    extract_lets +onlyGivenNames y4
    have h5 : State.Canon y4 := by
      unfold y4
      refine reflexEvent_canon ?_
      refine setLive_canon ?_
      exact h3
    clear_value y4
    extract_lets +onlyGivenNames y6
    clear_value y6
    extract_lets +onlyGivenNames y7
    clear_value y7
    extract_lets +onlyGivenNames y8
    clear_value y8
    refine ite_of ?_ ?_
    · refine nmwSettle_canon ?_
      exact h5
    · refine ite_of ?_ ?_
      · refine nmwSettle_canon ?_
        refine setPort_canon ?_
        exact h5
      · extract_lets +onlyGivenNames y9
        clear_value y9
        refine nmwSettle_canon ?_
        refine handOff_canon ?_
        refine setPort_canon ?_
        exact h5
  · exact hc1

theorem execPwmxStuck_canon {port : Fin 128} {ch : Fin 4} {s : Machine.State} (hc1 : s.Canon) :
    Goes State.Canon (execPwmxStuck port ch s) := by
  unfold execPwmxStuck
  extract_lets +onlyGivenNames y0
  clear_value y0
  extract_lets +onlyGivenNames y1
  clear_value y1
  refine done_canon ?_
  refine ite_of ?_ ?_
  · extract_lets +onlyGivenNames y2
    have h3 : State.Canon y2 := by
      unfold y2
      refine wr_canon ?_
      refine wr_canon ?_
      exact hc1
    clear_value y2
    refine nmwSettle_canon ?_
    refine reflexEvent_canon ?_
    refine raiseLive_canon ?_
    exact h3
  · exact hc1

theorem execPwmxPeriodStart_canon {port : Fin 128} {ch : Fin 4} {s : Machine.State} (hc1 : s.Canon) :
    Goes State.Canon (execPwmxPeriodStart port ch s) := by
  unfold execPwmxPeriodStart
  refine done_canon ?_
  refine ite_of ?_ ?_
  · refine pwmStart_canon ?_
    exact hc1
  · exact hc1

theorem execLgRetry_canon {group : Fin 16} {s : Machine.State} (hc1 : s.Canon) :
    Goes State.Canon (execLgRetry group s) := by
  unfold execLgRetry
  extract_lets +onlyGivenNames y0
  clear_value y0
  extract_lets +onlyGivenNames y1
  clear_value y1
  extract_lets +onlyGivenNames y2
  clear_value y2
  refine done_canon ?_
  refine ite_of ?_ ?_
  · extract_lets +onlyGivenNames y3
    have h4 : State.Canon y3 := by
      unfold y3
      refine setLg_canon ?_
      refine wrF_canon ?_
      exact hc1
    clear_value y3
    refine foldl_of ?_ ?_
    · exact h4
    · intro x5
      intro x6
      intro h7
      refine lgStart_canon ?_
      refine setPort_canon ?_
      exact h7
  · exact hc1

theorem execLgGiveup_canon {group : Fin 16} {s : Machine.State} (hc1 : s.Canon) :
    Goes State.Canon (execLgGiveup group s) := by
  unfold execLgGiveup
  extract_lets +onlyGivenNames y0
  clear_value y0
  extract_lets +onlyGivenNames y1
  clear_value y1
  refine done_canon ?_
  refine ite_of ?_ ?_
  · extract_lets +onlyGivenNames y2
    have h3 : State.Canon y2 := by
      unfold y2
      refine setLg_canon ?_
      refine wrB_canon ?_
      exact hc1
    clear_value y2
    refine foldl_of ?_ ?_
    · exact h3
    · intro x4
      intro x5
      intro h6
      refine setPort_canon ?_
      exact h6
  · exact hc1

theorem setSaPn_canon {n : Nat} {k : Nat} {pn : Nat} {s : Machine.State} (hc1 : s.Canon) :
    (setSaPn n k pn s).Canon := by
  unfold setSaPn
  refine wrWords_canon ?_
  exact hc1

theorem macsecValidate_canon {n : Nat} {f : List Byte} {s : Machine.State} (hc1 : s.Canon) :
    InL State.Canon (macsecValidate n f s) := by
  unfold macsecValidate
  extract_lets +onlyGivenNames y0
  clear_value y0
  extract_lets +onlyGivenNames y1
  clear_value y1
  extract_lets +onlyGivenNames y2
  clear_value y2
  refine ite_of ?_ ?_
  · refine inL_mk ?_
    refine ite_of ?_ ?_
    · refine bump_canon ?_
      exact hc1
    · exact hc1
  · refine ite_of ?_ ?_
    · refine inL_mk ?_
      exact hc1
    · refine ite_of ?_ ?_
      · refine ite_of ?_ ?_
        · refine inL_mk ?_
          refine bump_canon ?_
          exact hc1
        · refine inL_mk ?_
          refine bump_canon ?_
          exact hc1
      · extract_lets +onlyGivenNames y3
        clear_value y3
        extract_lets +onlyGivenNames y4
        clear_value y4
        extract_lets +onlyGivenNames y5
        clear_value y5
        extract_lets +onlyGivenNames y6
        clear_value y6
        extract_lets +onlyGivenNames y7
        clear_value y7
        extract_lets +onlyGivenNames y8
        have h9 : ∀ (j : Nat) (body : List Byte), InL State.Canon (y8 j body) := by
          intro x10
          intro x11
          unfold y8
          refine inL_mk ?_
          refine bump_canon ?_
          exact hc1
        clear_value y8
        extract_lets +onlyGivenNames y12
        clear_value y12
        extract_lets +onlyGivenNames y13
        clear_value y13
        extract_lets +onlyGivenNames y14
        clear_value y14
        split
        · rename_i v15 v16
          refine h9 _ _
        · rename_i v17 v18 v19
          extract_lets +onlyGivenNames y20
          clear_value y20
          extract_lets +onlyGivenNames y21
          clear_value y21
          refine ite_of ?_ ?_
          · refine inL_mk ?_
            refine bump_canon ?_
            exact hc1
          · refine ite_of ?_ ?_
            · refine h9 _ _
            · extract_lets +onlyGivenNames y22
              clear_value y22
              extract_lets +onlyGivenNames y23
              clear_value y23
              extract_lets +onlyGivenNames y24
              clear_value y24
              extract_lets +onlyGivenNames y25
              clear_value y25
              refine ite_of ?_ ?_
              · refine inL_mk ?_
                refine bump_canon ?_
                exact hc1
              · split
                · rename_i v26 v27 v28
                  refine inL_mk ?_
                  refine bump_canon ?_
                  exact hc1
                · rename_i v29 v30 v31
                  extract_lets +onlyGivenNames y32
                  clear_value y32
                  extract_lets +onlyGivenNames y33
                  clear_value y33
                  extract_lets +onlyGivenNames y34
                  clear_value y34
                  split
                  · rename_i v35 v36 v37
                    extract_lets +onlyGivenNames y38
                    have h39 : State.Canon y38 := by
                      unfold y38
                      refine ite_of ?_ ?_
                      · refine setSaPn_canon ?_
                        exact hc1
                      · exact hc1
                    clear_value y38
                    refine inL_mk ?_
                    refine bump_canon ?_
                    exact h39
                  · rename_i v40 v41
                    refine h9 _ _

theorem pfcRx_canon {n : Nat} {f : List Byte} {s : Machine.State} (hc1 : s.Canon) : (pfcRx n f s).Canon := by
  unfold pfcRx
  extract_lets +onlyGivenNames y0
  clear_value y0
  extract_lets +onlyGivenNames y1
  clear_value y1
  extract_lets +onlyGivenNames y2
  have h3 : State.Canon y2 := by
    unfold y2
    refine bump_canon ?_
    exact hc1
  clear_value y2
  refine forN_of ?_ ?_
  · exact h3
  · intro x4
    intro x5
    intro h6
    refine ite_of ?_ ?_
    · extract_lets +onlyGivenNames y7
      clear_value y7
      refine ite_of ?_ ?_
      · refine ite_of ?_ ?_
        · exact h6
        · refine setMac_canon ?_
          exact h6
      · refine wrB_canon ?_
        exact h6
    · exact h6

theorem toKiln_canon {n : Nat} {c : Nat} {p : Pkt} {s : Machine.State} (hc1 : s.Canon) : (toKiln n c p s).Canon := by
  unfold toKiln
  split
  · rename_i v0 v1 v2
    have h3 : State.Canon v1 := by
      refine (of_eq (P := (InR State.Canon)) v2 ?_)
      refine shfArrive_canon ?_
      exact hc1
    exact h3
  · rename_i v4 v5 v6 v7
    have h8 : State.Canon v6 := by
      refine (of_eq (P := (InR State.Canon)) v7 ?_)
      refine shfArrive_canon ?_
      exact hc1
    split
    · rename_i v9 v10 v11
      have h12 : State.Canon v10 := by
        refine (of_eq (P := (InR State.Canon)) v11 ?_)
        refine shfTry_canon ?_
        exact h8
      exact h12
    · rename_i v13 v14 v15
      have h16 : State.Canon v14 := by
        refine (of_eq (P := (InR State.Canon)) v15 ?_)
        refine shfTry_canon ?_
        exact h8
      refine ite_of ?_ ?_
      · refine canon_mk ?_
        exact h16
      · exact h16

theorem toHostQp_canon {n : Nat} {c : Nat} {qp : Nat} {p : Pkt} {s : Machine.State} (hc1 : s.Canon) :
    (toHostQp n c qp p s).Canon := by
  unfold toHostQp
  refine ite_of ?_ ?_
  · split
    · rename_i v0 v1 v2 v3
      have h4 : State.Canon v2 := by
        refine (of_eq (P := (InR State.Canon)) v3 ?_)
        refine shfArrive_canon ?_
        exact hc1
      refine shfEnqueue_canon ?_
      exact h4
    · rename_i v5 v6 v7
      have h8 : State.Canon v6 := by
        refine (of_eq (P := (InR State.Canon)) v7 ?_)
        refine shfArrive_canon ?_
        exact hc1
      exact h8
  · refine bump_canon ?_
    exact hc1

theorem macSteer_canon {n : Nat} {p : Pkt} {s : Machine.State} (hc1 : s.Canon) : (macSteer n p s).Canon := by
  unfold macSteer
  extract_lets +onlyGivenNames y0
  clear_value y0
  extract_lets +onlyGivenNames y1
  clear_value y1
  extract_lets +onlyGivenNames y2
  have h3 : ∀ (c : Nat) (s : Machine.State), s.Canon → (y2 c s).Canon := by
    intro x4
    intro x5
    intro h6
    unfold y2
    refine ingArrive_canon ?_
    exact h6
  clear_value y2
  refine ite_of ?_ ?_
  · refine ite_of ?_ ?_
    · refine pfcRx_canon ?_
      exact hc1
    · refine bump_canon ?_
      exact hc1
  · refine ite_of ?_ ?_
    · split
      · rename_i v7 v8 v9 v10
        have h11 : State.Canon v9 := by
          refine (of_eq (P := (InR State.Canon)) v10 ?_)
          refine shfArrive_canon ?_
          exact hc1
        refine canon_mk ?_
        exact h11
      · rename_i v12 v13 v14
        have h15 : State.Canon v13 := by
          refine (of_eq (P := (InR State.Canon)) v14 ?_)
          refine shfArrive_canon ?_
          exact hc1
        exact h15
    · refine ite_of ?_ ?_
      · refine toKiln_canon ?_
        exact hc1
      · refine ite_of ?_ ?_
        · extract_lets +onlyGivenNames y16
          have h17 : State.Canon y16 := by
            unfold y16
            split
            · rename_i v18 v19 v20
              refine ite_of ?_ ?_
              · refine toHostQp_canon ?_
                exact hc1
              · exact hc1
            · rename_i v21 v22
              exact hc1
          clear_value y16
          refine toKiln_canon ?_
          exact h17
        · split
          · rename_i v23 v24
            refine h3 _ _ ?_
            exact hc1
          · rename_i v25 v26 v27
            extract_lets +onlyGivenNames y28
            clear_value y28
            split
            · rename_i v29 v30
              refine toHostQp_canon ?_
              exact hc1
            · rename_i v31 v32
              refine toKiln_canon ?_
              exact hc1
            · rename_i v33 v34
              refine bump_canon ?_
              exact hc1
            · rename_i v35 v36 v37 v38
              refine h3 _ _ ?_
              exact hc1

theorem macCountRx_canon {n : Nat} {f : List Byte} {s : Machine.State} (hc1 : s.Canon) : (macCountRx n f s).Canon := by
  unfold macCountRx
  extract_lets +onlyGivenNames y0
  have h1 : State.Canon y0 := by
    unfold y0
    refine bump_canon ?_
    exact hc1
  clear_value y0
  refine ite_of ?_ ?_
  · refine bump_canon ?_
    exact h1
  · refine ite_of ?_ ?_
    · refine bump_canon ?_
      exact h1
    · exact h1

theorem macBad_canon {n : Nat} {p : Pkt} {s : Machine.State} (hc1 : s.Canon) : (macBad n p s).Canon := by
  unfold macBad
  extract_lets +onlyGivenNames y0
  clear_value y0
  extract_lets +onlyGivenNames y1
  clear_value y1
  extract_lets +onlyGivenNames y2
  clear_value y2
  split
  · rename_i v3 v4 v5 v6 v7
    refine ingArrive_canon ?_
    exact hc1
  · rename_i v8 v9 v10 v11 v12 v13
    exact hc1

theorem execMacRxFrame_canon {port : Fin 24} {bytes : List Byte} {fcs : FcsKind} {line : RxLine} {s : Machine.State} (hc1 : s.Canon) :
    Goes State.Canon (execMacRxFrame port bytes fcs line s) := by
  unfold execMacRxFrame
  refine done_canon ?_
  extract_lets +onlyGivenNames y0
  clear_value y0
  refine ite_of ?_ ?_
  · exact hc1
  · extract_lets +onlyGivenNames y1
    have h2 : State.Canon y1 := by
      unfold y1
      refine bumpN_canon ?_
      refine bumpN_canon ?_
      refine bumpN_canon ?_
      exact hc1
    clear_value y1
    extract_lets +onlyGivenNames y3
    have h4 : State.Canon y3 := by
      unfold y3
      refine ite_of ?_ ?_
      · refine raise_canon ?_
        exact h2
      · exact h2
    clear_value y3
    extract_lets +onlyGivenNames y5
    have h6 : State.Canon y5 := by
      unfold y5
      refine bumpN_canon ?_
      exact h4
    clear_value y5
    split
    rename_i v7 v8 v9 v10
    have h11 : State.Canon v9 := by
      refine (of_eq (P := (InR State.Canon)) v10 ?_)
      refine ite_of ?_ ?_
      · refine inR_mk ?_
        refine injDone_canon ?_
        exact h6
      · refine inR_mk ?_
        exact h6
    refine ite_of ?_ ?_
    · refine raise_canon ?_
      refine bump_canon ?_
      exact h11
    · refine ite_of ?_ ?_
      · refine bump_canon ?_
        exact h11
      · extract_lets +onlyGivenNames y12
        clear_value y12
        extract_lets +onlyGivenNames y13
        clear_value y13
        extract_lets +onlyGivenNames y14
        clear_value y14
        refine ite_of ?_ ?_
        · extract_lets +onlyGivenNames y15
          have h16 : State.Canon y15 := by
            unfold y15
            refine bump_canon ?_
            exact h11
          clear_value y15
          refine ite_of ?_ ?_
          · split
            · rename_i v17 v18 v19 v20 v21
              have h22 : State.Canon v18 := by
                refine (of_eq (P := (InL State.Canon)) v21 ?_)
                refine macsecValidate_canon ?_
                exact h16
              refine nmwSettle_canon ?_
              refine macSteer_canon ?_
              refine macCountRx_canon ?_
              exact h22
            · rename_i v23 v24 v25
              have h26 : State.Canon v24 := by
                refine (of_eq (P := (InL State.Canon)) v25 ?_)
                refine macsecValidate_canon ?_
                exact h16
              exact h26
          · refine nmwSettle_canon ?_
            refine macBad_canon ?_
            exact h16
        · split
          · rename_i v27
            refine nmwSettle_canon ?_
            refine macBad_canon ?_
            refine bump_canon ?_
            exact h11
          · rename_i v28
            refine nmwSettle_canon ?_
            refine macBad_canon ?_
            refine bump_canon ?_
            exact h11
          · rename_i v29
            extract_lets +onlyGivenNames y30
            have h31 : State.Canon y30 := by
              unfold y30
              refine macCountRx_canon ?_
              exact h11
            clear_value y30
            split
            · rename_i v32 v33 v34 v35 v36
              have h37 : State.Canon v33 := by
                refine (of_eq (P := (InL State.Canon)) v36 ?_)
                refine macsecValidate_canon ?_
                exact h31
              refine nmwSettle_canon ?_
              refine macSteer_canon ?_
              exact h37
            · rename_i v38 v39 v40
              have h41 : State.Canon v39 := by
                refine (of_eq (P := (InL State.Canon)) v40 ?_)
                refine macsecValidate_canon ?_
                exact h31
              exact h41

theorem execPfcPauseExpiry_canon {port : Fin 24} {p : Fin 8} {s : Machine.State} (hc1 : s.Canon) :
    Goes State.Canon (execPfcPauseExpiry port p s) := by
  unfold execPfcPauseExpiry
  refine done_canon ?_
  refine wrB_canon ?_
  exact hc1

theorem execPfcStorm_canon {port : Fin 24} {p : Fin 8} {s : Machine.State} (hc1 : s.Canon) :
    Goes State.Canon (execPfcStorm port p s) := by
  unfold execPfcStorm
  refine done_canon ?_
  extract_lets +onlyGivenNames y0
  clear_value y0
  refine ite_of ?_ ?_
  · extract_lets +onlyGivenNames y1
    clear_value y1
    extract_lets +onlyGivenNames y2
    have h3 : State.Canon y2 := by
      unfold y2
      refine setMac_canon ?_
      exact hc1
    clear_value y2
    refine raiseLive_canon ?_
    refine bump_canon ?_
    refine wrB_canon ?_
    exact h3
  · exact hc1

theorem execPfcRefresh_canon {port : Fin 24} {s : Machine.State} (hc1 : s.Canon) :
    Goes State.Canon (execPfcRefresh port s) := by
  unfold execPfcRefresh
  refine done_canon ?_
  extract_lets +onlyGivenNames y0
  clear_value y0
  extract_lets +onlyGivenNames y1
  clear_value y1
  extract_lets +onlyGivenNames y2
  clear_value y2
  refine nmwSettle_canon ?_
  refine pfcSend_canon ?_
  exact hc1

theorem macUp_canon {n : Nat} {speed : Nat} {s : Machine.State} (hc1 : s.Canon) : (macUp n speed s).Canon := by
  unfold macUp
  extract_lets +onlyGivenNames y0
  have h1 : State.Canon y0 := by
    unfold y0
    refine wrF_canon ?_
    refine wrF_canon ?_
    refine wrB_canon ?_
    exact hc1
  clear_value y0
  extract_lets +onlyGivenNames y2
  clear_value y2
  extract_lets +onlyGivenNames y3
  have h4 : State.Canon y3 := by
    unfold y3
    refine setMac_canon ?_
    exact h1
  clear_value y3
  extract_lets +onlyGivenNames y5
  have h6 : State.Canon y5 := by
    unfold y5
    refine setLive_canon ?_
    refine setLive_canon ?_
    refine setLive_canon ?_
    exact h4
  clear_value y5
  extract_lets +onlyGivenNames y7
  have h8 : State.Canon y7 := by
    unfold y7
    refine raise_canon ?_
    exact h6
  clear_value y7
  refine ite_of ?_ ?_
  · exact h8
  · refine coilLive_canon ?_
    refine foldl_of ?_ ?_
    · exact h8
    · intro x9
      intro x10
      intro h11
      refine linkFit_canon ?_
      exact h11

theorem stageFail_canon {ty : Nat} {code : Nat} {did : Nat} {s : Machine.State} (hc1 : s.Canon) :
    (stageFail ty code did s).Canon := by
  unfold stageFail
  extract_lets +onlyGivenNames y0
  have h1 : State.Canon y0 := by
    unfold y0
    refine ite_of ?_ ?_
    · refine wr_canon ?_
      exact hc1
    · exact hc1
  clear_value y0
  refine raise_canon ?_
  refine wrF_canon ?_
  exact h1

theorem stageLost_canon {did : Nat} {s : Machine.State} (hc1 : s.Canon) : (stageLost did s).Canon := by
  unfold stageLost
  refine ite_of ?_ ?_
  · exact hc1
  · extract_lets +onlyGivenNames y0
    clear_value y0
    split
    · rename_i v1 v2 v3
      refine stageFail_canon ?_
      exact hc1
    · rename_i v4 v5
      exact hc1

theorem coilLinkDown_canon {l : Nat} {s : Machine.State} (hc1 : s.Canon) : (coilLinkDown l s).Canon := by
  unfold coilLinkDown
  extract_lets +onlyGivenNames y0
  clear_value y0
  extract_lets +onlyGivenNames y1
  have h2 : State.Canon y1 := by
    unfold y1
    refine wrF_canon ?_
    exact hc1
  clear_value y1
  refine ite_of ?_ ?_
  · refine coilLive_canon ?_
    exact h2
  · extract_lets +onlyGivenNames y3
    have h4 : State.Canon y3 := by
      unfold y3
      refine raise_canon ?_
      refine bump_canon ?_
      exact h2
    clear_value y3
    extract_lets +onlyGivenNames y5
    clear_value y5
    extract_lets +onlyGivenNames y6
    have h7 : State.Canon y6 := by
      unfold y6
      refine foldl_of ?_ ?_
      · exact h4
      · intro x8
        intro x9
        intro h10
        refine stageLost_canon ?_
        refine wrF_canon ?_
        exact h10
    clear_value y6
    extract_lets +onlyGivenNames y11
    have h12 : State.Canon y11 := by
      unfold y11
      refine modCol_canon ?_
      exact h7
    clear_value y11
    extract_lets +onlyGivenNames y13
    have h14 : State.Canon y13 := by
      unfold y13
      refine ite_of ?_ ?_
      · refine raise_canon ?_
        refine modCol_canon ?_
        exact h4
      · refine ite_of ?_ ?_
        · exact h12
        · refine raise_canon ?_
          exact h12
    clear_value y13
    refine coilLive_canon ?_
    exact h14

theorem brgLost_canon {t : BrgTx} {sub : Nat} {s : Machine.State} (hc1 : s.Canon) : (brgLost t sub s).Canon := by
  unfold brgLost
  refine ite_of ?_ ?_
  · refine brgAnswer_canon ?_
    exact hc1
  · refine ite_of ?_ ?_
    · exact hc1
    · refine brgPostedFail_canon ?_
      exact hc1

theorem coilPortDown_canon {n : Nat} {lost : List BrgTx} {s : Machine.State} (hc1 : s.Canon) :
    (coilPortDown n lost s).Canon := by
  unfold coilPortDown
  extract_lets +onlyGivenNames y0
  clear_value y0
  extract_lets +onlyGivenNames y1
  have h2 : State.Canon y1 := by
    unfold y1
    refine foldl_of ?_ ?_
    · exact hc1
    · intro x3
      intro x4
      intro h5
      refine coilLinkDown_canon ?_
      exact h5
  clear_value y1
  extract_lets +onlyGivenNames y6
  have h7 : State.Canon y6 := by
    unfold y6
    refine ite_of ?_ ?_
    · refine raise_canon ?_
      exact h2
    · exact h2
  clear_value y6
  refine ite_of ?_ ?_
  · exact h7
  · refine foldl_of ?_ ?_
    · exact h7
    · intro x8
      intro x9
      intro h10
      refine brgLost_canon ?_
      exact h10

theorem shfDropAll_canon {l : List Pkt} {s : Machine.State} (hc1 : s.Canon) : (shfDropAll l s).Canon := by
  unfold shfDropAll
  refine foldl_of ?_ ?_
  · exact hc1
  · intro x0
    intro x1
    intro h2
    refine shfUnref_canon ?_
    exact h2

theorem shfFlush_canon {g : Nat} {s : Machine.State} (hc1 : s.Canon) : (shfFlush g s).Canon := by
  unfold shfFlush
  refine forN_of ?_ ?_
  · exact hc1
  · intro x0
    intro x1
    intro h2
    extract_lets +onlyGivenNames y3
    clear_value y3
    extract_lets +onlyGivenNames y4
    clear_value y4
    extract_lets +onlyGivenNames y5
    clear_value y5
    extract_lets +onlyGivenNames y6
    clear_value y6
    extract_lets +onlyGivenNames y7
    have h8 : State.Canon y7 := by
      unfold y7
      refine bumpN_canon ?_
      refine shfDropAll_canon ?_
      exact h2
    clear_value y7
    extract_lets +onlyGivenNames y9
    have h10 : State.Canon y9 := by
      unfold y9
      refine bumpN_canon ?_
      refine shfDropAll_canon ?_
      exact h8
    clear_value y9
    extract_lets +onlyGivenNames y11
    have h12 : State.Canon y11 := by
      unfold y11
      refine setResidue_canon ?_
      exact h10
    clear_value y11
    extract_lets +onlyGivenNames y13
    clear_value y13
    extract_lets +onlyGivenNames y14
    have h15 : State.Canon y14 := by
      unfold y14
      refine canon_mk ?_
      exact h12
    clear_value y14
    refine wr_canon ?_
    refine setEq_canon ?_
    refine setRsq_canon ?_
    exact h15

theorem macDown_canon {n : Nat} {cut : Bool} {hiBer : Bool} {s : Machine.State} (hc1 : s.Canon) :
    (macDown n cut hiBer s).Canon := by
  unfold macDown
  extract_lets +onlyGivenNames y0
  clear_value y0
  extract_lets +onlyGivenNames y1
  have h2 : State.Canon y1 := by
    unfold y1
    refine wrF_canon ?_
    refine wrF_canon ?_
    exact hc1
  clear_value y1
  extract_lets +onlyGivenNames y3
  clear_value y3
  extract_lets +onlyGivenNames y4
  have h5 : State.Canon y4 := by
    unfold y4
    refine setMac_canon ?_
    exact h2
  clear_value y4
  extract_lets +onlyGivenNames y6
  have h7 : State.Canon y6 := by
    unfold y6
    refine ite_of ?_ ?_
    · refine bump_canon ?_
      exact h5
    · exact h5
  clear_value y6
  extract_lets +onlyGivenNames y8
  have h9 : State.Canon y8 := by
    unfold y8
    refine ite_of ?_ ?_
    · refine raiseLive_canon ?_
      exact h7
    · exact h7
  clear_value y8
  extract_lets +onlyGivenNames y10
  have h11 : State.Canon y10 := by
    unfold y10
    refine ite_of ?_ ?_
    · refine raiseLive_canon ?_
      refine setLive_canon ?_
      refine wrB_canon ?_
      exact h9
    · refine raiseLive_canon ?_
      exact h9
  clear_value y10
  refine ite_of ?_ ?_
  · exact h11
  · extract_lets +onlyGivenNames y12
    clear_value y12
    refine coilPortDown_canon ?_
    refine shfFlush_canon ?_
    exact h11

theorem execLinkUp_canon {port : Fin 25} {speed : Fin 16} {s : Machine.State} (hc1 : s.Canon) :
    Goes State.Canon (execLinkUp port speed s) := by
  unfold execLinkUp
  extract_lets +onlyGivenNames y0
  clear_value y0
  refine done_canon ?_
  split
  · rename_i v1 v2
    exact hc1
  · rename_i v3 v4 v5
    refine ite_of ?_ ?_
    · exact hc1
    · refine ite_of ?_ ?_
      · refine ite_of ?_ ?_
        · exact hc1
        · refine brgDone_canon ?_
          refine macUp_canon ?_
          refine macDown_canon ?_
          exact hc1
      · refine shfSettle_canon ?_
        refine macUp_canon ?_
        exact hc1

theorem execLinkDown_canon {port : Fin 25} {cut : Bool} {hiBer : Bool} {s : Machine.State} (hc1 : s.Canon) :
    Goes State.Canon (execLinkDown port cut hiBer s) := by
  unfold execLinkDown
  refine done_canon ?_
  refine ite_of ?_ ?_
  · refine brgDone_canon ?_
    refine macDown_canon ?_
    exact hc1
  · exact hc1

theorem execLpiEnter_canon {port : Fin 24} {s : Machine.State} (hc1 : s.Canon) :
    Goes State.Canon (execLpiEnter port s) := by
  unfold execLpiEnter
  refine done_canon ?_
  extract_lets +onlyGivenNames y0
  clear_value y0
  extract_lets +onlyGivenNames y1
  clear_value y1
  extract_lets +onlyGivenNames y2
  clear_value y2
  refine ite_of ?_ ?_
  · refine bump_canon ?_
    refine wrB_canon ?_
    exact hc1
  · exact hc1

theorem execLpiWakeDone_canon {port : Fin 24} {s : Machine.State} (hc1 : s.Canon) :
    Goes State.Canon (execLpiWakeDone port s) := by
  unfold execLpiWakeDone
  refine done_canon ?_
  refine setMac_canon ?_
  exact hc1

theorem busWakeEth_canon {n : Nat} {s : Machine.State} (hc1 : s.Canon) : (busWakeEth n s).Canon := by
  unfold busWakeEth
  split
  · rename_i v0 v1
    exact hc1
  · rename_i v2 v3 v4
    refine ite_of ?_ ?_
    · refine ncSettle_canon ?_
      refine ncLatch_canon ?_
      exact hc1
    · exact hc1

theorem execTc10Wake_canon {port : Fin 24} {level : Bool} {s : Machine.State} (hc1 : s.Canon) :
    Goes State.Canon (execTc10Wake port level s) := by
  unfold execTc10Wake
  refine done_canon ?_
  refine ite_of ?_ ?_
  · exact hc1
  · refine ite_of ?_ ?_
    · refine nmwSettle_canon ?_
      refine busWakeEth_canon ?_
      refine tc10Wake_canon ?_
      refine raiseLive_canon ?_
      exact hc1
    · refine setLive_canon ?_
      exact hc1

theorem execSvcRxFrame_canon {bytes : List Byte} {fcs : FcsKind} {full : Bool} {s : Machine.State} (hc1 : s.Canon) :
    Goes State.Canon (execSvcRxFrame bytes fcs full s) := by
  unfold execSvcRxFrame
  refine done_canon ?_
  extract_lets +onlyGivenNames y0
  have h1 : State.Canon y0 := by
    unfold y0
    refine bumpN_canon ?_
    exact hc1
  clear_value y0
  refine ite_of ?_ ?_
  · refine bump_canon ?_
    exact h1
  · refine ite_of ?_ ?_
    · refine bump_canon ?_
      exact h1
    · split
      · rename_i v2
        refine bump_canon ?_
        exact h1
      · rename_i v3
        refine bump_canon ?_
        exact h1
      · rename_i v4
        extract_lets +onlyGivenNames y5
        have h6 : State.Canon y5 := by
          unfold y5
          refine macCountRx_canon ?_
          exact h1
        clear_value y5
        extract_lets +onlyGivenNames y7
        clear_value y7
        refine ite_of ?_ ?_
        · refine ite_of ?_ ?_
          · refine bump_canon ?_
            exact h6
          · refine emit_canon ?_
            exact h6
        · refine bump_canon ?_
          exact h6

theorem mirDrop_canon {m : Nat} {ev : Bool} {s : Machine.State} (hc1 : s.Canon) : (mirDrop m ev s).Canon := by
  unfold mirDrop
  extract_lets +onlyGivenNames y0
  have h1 : State.Canon y0 := by
    unfold y0
    refine bump_canon ?_
    exact hc1
  clear_value y0
  refine ite_of ?_ ?_
  · refine raise_canon ?_
    exact h1
  · exact h1

theorem coilDataTx_canon {did : Nat} {mode : Nat} {arg : Nat} {cls : Nat} {p : Pkt} {s : Machine.State} (hc1 : s.Canon) :
    (coilDataTx did mode arg cls p s).Canon := by
  unfold coilDataTx
  split
  · rename_i v0 v1
    refine bump_canon ?_
    exact hc1
  · rename_i v2 v3 v4
    refine ite_of ?_ ?_
    · refine bump_canon ?_
      exact hc1
    · extract_lets +onlyGivenNames y5
      clear_value y5
      extract_lets +onlyGivenNames y6
      clear_value y6
      refine coilOnLink_canon ?_
      exact hc1

theorem mirCopy_canon {m : Nat} {p : Pkt} {f : List Byte} {ct : Option (List (Fin 24))} {s : Machine.State} (hc1 : s.Canon) :
    (mirCopy m p f ct s).Canon := by
  unfold mirCopy
  extract_lets +onlyGivenNames y0
  clear_value y0
  refine ite_of ?_ ?_
  · exact hc1
  · extract_lets +onlyGivenNames y1
    clear_value y1
    extract_lets +onlyGivenNames y2
    clear_value y2
    extract_lets +onlyGivenNames y3
    clear_value y3
    extract_lets +onlyGivenNames y4
    clear_value y4
    extract_lets +onlyGivenNames y5
    clear_value y5
    extract_lets +onlyGivenNames y6
    clear_value y6
    extract_lets +onlyGivenNames y7
    clear_value y7
    refine ite_of ?_ ?_
    · refine ite_of ?_ ?_
      · refine mirDrop_canon ?_
        exact hc1
      · refine bump_canon ?_
        refine coilDataTx_canon ?_
        exact hc1
    · refine ite_of ?_ ?_
      · refine ite_of ?_ ?_
        · refine mirDrop_canon ?_
          exact hc1
        · refine ite_of ?_ ?_
          · refine mirDrop_canon ?_
            exact hc1
          · split
            rename_i v8 v9 v10 v11
            have h12 : State.Canon v10 := by
              refine (of_eq (P := (InR State.Canon)) v11 ?_)
              refine shfOpen_canon ?_
              exact hc1
            split
            · rename_i v13 v14 v15
              have h16 : State.Canon v14 := by
                refine (of_eq (P := (InR State.Canon)) v15 ?_)
                refine shfOffer_canon ?_
                exact h12
              refine bump_canon ?_
              exact h16
            · rename_i v17 v18 v19
              have h20 : State.Canon v18 := by
                refine (of_eq (P := (InR State.Canon)) v19 ?_)
                refine shfOffer_canon ?_
                exact h12
              refine mirDrop_canon ?_
              refine shfUnref_canon ?_
              exact h20
      · refine ite_of ?_ ?_
        · extract_lets +onlyGivenNames y21
          clear_value y21
          refine ite_of ?_ ?_
          · refine ite_of ?_ ?_
            · refine bump_canon ?_
              refine emit_canon ?_
              refine bump_canon ?_
              exact hc1
            · refine mirDrop_canon ?_
              exact hc1
          · refine ite_of ?_ ?_
            · refine mirDrop_canon ?_
              exact hc1
            · split
              rename_i v22 v23 v24 v25
              have h26 : State.Canon v24 := by
                refine (of_eq (P := (InR State.Canon)) v25 ?_)
                refine shfOpen_canon ?_
                exact hc1
              split
              · rename_i v27 v28 v29
                have h30 : State.Canon v28 := by
                  refine (of_eq (P := (InR State.Canon)) v29 ?_)
                  refine shfOffer_canon ?_
                  exact h26
                refine bump_canon ?_
                refine ite_of ?_ ?_
                · refine bump_canon ?_
                  exact h30
                · exact h30
              · rename_i v31 v32 v33
                have h34 : State.Canon v32 := by
                  refine (of_eq (P := (InR State.Canon)) v33 ?_)
                  refine shfOffer_canon ?_
                  exact h26
                refine mirDrop_canon ?_
                refine shfUnref_canon ?_
                exact h34
        · refine mirDrop_canon ?_
          exact hc1

theorem mirCopies_canon {l : List Nat} {p : Pkt} {f : List Byte} {ct : Option (List (Fin 24))} {s : Machine.State} (hc1 : s.Canon) :
    (mirCopies l p f ct s).Canon := by
  unfold mirCopies
  refine foldl_of ?_ ?_
  · exact hc1
  · intro x0
    intro x1
    intro h2
    refine mirCopy_canon ?_
    exact h2

theorem sendDone_canon {q : Nat} {eop : Nat} {ts : Option Nat} {s : Machine.State} (hc1 : s.Canon) :
    (sendDone q eop ts s).Canon := by
  unfold sendDone
  extract_lets +onlyGivenNames y0
  clear_value y0
  refine ite_of ?_ ?_
  · refine wbFlush_canon ?_
    refine setQp_canon ?_
    exact hc1
  · exact hc1

theorem sendLost_canon {p : Pkt} {s : Machine.State} (hc1 : s.Canon) : (sendLost p s).Canon := by
  unfold sendLost
  split
  · rename_i v0 v1 v2 v3
    refine sendDone_canon ?_
    exact hc1
  · rename_i v4 v5
    exact hc1

theorem passDrop_canon {p : Pkt} {s : Machine.State} (hc1 : s.Canon) : (passDrop p s).Canon := by
  unfold passDrop
  refine sendLost_canon ?_
  refine shfUnref_canon ?_
  exact hc1

theorem ruleEcc_canon {b : Nat} {s : Machine.State} (hc1 : s.Canon) : (ruleEcc b s).Canon := by
  unfold ruleEcc
  split
  · rename_i v0 v1 v2 v3
    refine ite_of ?_ ?_
    · extract_lets +onlyGivenNames y4
      have h5 : State.Canon y4 := by
        unfold y4
        refine injDone_canon ?_
        exact hc1
      clear_value y4
      refine ite_of ?_ ?_
      · refine raise_canon ?_
        refine canon_mk ?_
        exact h5
      · exact h5
    · exact hc1
  · rename_i v6 v7
    exact hc1

theorem classBlock_canon {cls : Nat} {s : Machine.State} (hc1 : s.Canon) : (classBlock cls s).Canon := by
  unfold classBlock
  refine ite_of ?_ ?_
  · exact hc1
  · refine raiseLive_canon ?_
    refine wrB_canon ?_
    exact hc1

theorem meter_canon {b : Nat} {i : Nat} {len : Nat} {pre : Nat} {s : Machine.State} (hc1 : s.Canon) :
    InR State.Canon (meter b i len pre s) := by
  unfold meter
  extract_lets +onlyGivenNames y0
  clear_value y0
  extract_lets +onlyGivenNames y1
  clear_value y1
  extract_lets +onlyGivenNames y2
  clear_value y2
  extract_lets +onlyGivenNames y3
  clear_value y3
  extract_lets +onlyGivenNames y4
  clear_value y4
  extract_lets +onlyGivenNames y5
  clear_value y5
  extract_lets +onlyGivenNames y6
  clear_value y6
  extract_lets +onlyGivenNames y7
  clear_value y7
  extract_lets +onlyGivenNames y8
  clear_value y8
  extract_lets +onlyGivenNames y9
  clear_value y9
  extract_lets +onlyGivenNames y10
  clear_value y10
  extract_lets +onlyGivenNames y11
  clear_value y11
  split
  rename_i v12 v13 v14 v15 v16
  extract_lets +onlyGivenNames y17
  have h18 : State.Canon y17 := by
    unfold y17
    refine canon_mk ?_
    exact hc1
  clear_value y17
  extract_lets +onlyGivenNames y19
  have h20 : State.Canon y19 := by
    unfold y19
    refine bump_canon ?_
    exact h18
  clear_value y19
  refine inR_mk ?_
  refine ite_of ?_ ?_
  · refine wrB_canon ?_
    exact h20
  · exact h20

theorem segDrop_canon {eth : Option Nat} {s : Machine.State} (hc1 : s.Canon) : (segDrop eth s).Canon := by
  unfold segDrop
  split
  · rename_i v0 v1
    refine bump_canon ?_
    exact hc1
  · rename_i v2
    refine bump_canon ?_
    refine drawn_canon ?_
    exact hc1

theorem hostCopy_canon {cls : Nat} {qp : Nat} {c : Nat} {p : Pkt} {s : Machine.State} (hc1 : s.Canon) :
    (hostCopy cls qp c p s).Canon := by
  unfold hostCopy
  refine ite_of ?_ ?_
  · exact hc1
  · refine ite_of ?_ ?_
    · refine bump_canon ?_
      exact hc1
    · refine ite_of ?_ ?_
      · refine segDrop_canon ?_
        exact hc1
      · refine shfEnqueue_canon ?_
        exact hc1

theorem learnEvent_canon {e : LearnEv} {s : Machine.State} (hc1 : s.Canon) : InR State.Canon (learnEvent e s) := by
  unfold learnEvent
  extract_lets +onlyGivenNames y0
  clear_value y0
  extract_lets +onlyGivenNames y1
  clear_value y1
  refine ite_of ?_ ?_
  · refine inR_mk ?_
    refine bump_canon ?_
    exact hc1
  · refine ite_of ?_ ?_
    · refine inR_mk ?_
      refine raise_canon ?_
      refine bump_canon ?_
      exact hc1
    · refine inR_mk ?_
      refine canon_mk ?_
      exact hc1

theorem sourceLearn_canon {vid : Nat} {sa : Nat} {dest : Nat} {src : Nat} {s : Machine.State} (hc1 : s.Canon) :
    InR State.Canon (sourceLearn vid sa dest src s) := by
  unfold sourceLearn
  refine ite_of ?_ ?_
  · refine inR_mk ?_
    exact hc1
  · split
    rename_i v0 v1 v2 v3
    have h4 : State.Canon v2 := by
      refine (of_eq (P := (InR State.Canon)) v3 ?_)
      refine l2Find_canon ?_
      exact hc1
    extract_lets +onlyGivenNames y5
    have h6 : (InR State.Canon) y5 := by
      unfold y5
      split
      · rename_i v7 v8
        refine ite_of ?_ ?_
        · refine inR_mk ?_
          refine wrB_canon ?_
          exact h4
        · refine ite_of ?_ ?_
          · refine inR_mk ?_
            refine bump_canon ?_
            exact h4
          · refine inR_mk ?_
            refine raise_canon ?_
            refine bump_canon ?_
            refine tblChanged_canon ?_
            refine wrB_canon ?_
            refine wrF_canon ?_
            refine wrB_canon ?_
            exact h4
      · rename_i v9
        refine ite_of ?_ ?_
        · refine inR_mk ?_
          exact h4
        · refine learnEvent_canon ?_
          exact h4
    clear_value y5
    refine inR_mk ?_
    refine tblSettle_canon ?_
    refine inR_snd ?_
    exact h6

theorem sourceStep_canon {sa : Nat} {vid : Nat} {p : Pkt} {s : Machine.State} (hc1 : s.Canon) :
    InR State.Canon (sourceStep sa vid p s) := by
  unfold sourceStep
  extract_lets +onlyGivenNames y0
  clear_value y0
  refine ite_of ?_ ?_
  · refine sourceLearn_canon ?_
    exact hc1
  · refine inR_mk ?_
    exact hc1

theorem routeTo_canon {vlan : Nat} {c : Nat} {p : Pkt} {s : Machine.State} (hc1 : s.Canon) :
    InR (InR State.Canon) (routeTo vlan c p s) := by
  unfold routeTo
  extract_lets +onlyGivenNames y0
  clear_value y0
  extract_lets +onlyGivenNames y1
  clear_value y1
  extract_lets +onlyGivenNames y2
  clear_value y2
  extract_lets +onlyGivenNames y3
  clear_value y3
  extract_lets +onlyGivenNames y4
  have h5 : (InR (InR State.Canon)) y4 := by
    unfold y4
    refine inR_mk ?_
    refine inR_mk ?_
    refine bump_canon ?_
    exact hc1
  clear_value y4
  refine ite_of ?_ ?_
  · exact h5
  · split
    · rename_i v6 v7
      exact h5
    · rename_i v8 v9 v10 v11
      extract_lets +onlyGivenNames y12
      clear_value y12
      extract_lets +onlyGivenNames y13
      clear_value y13
      refine ite_of ?_ ?_
      · exact h5
      · refine ite_of ?_ ?_
        · refine inR_mk ?_
          refine inR_mk ?_
          refine bump_canon ?_
          exact hc1
        · refine inR_mk ?_
          refine inR_mk ?_
          exact hc1

theorem lookupDest_canon {da : Nat} {vid : Nat} {c : Nat} {p : Pkt} {s : Machine.State} (hc1 : s.Canon) :
    InR (InR State.Canon) (lookupDest da vid c p s) := by
  unfold lookupDest
  extract_lets +onlyGivenNames y0
  clear_value y0
  split
  rename_i v1 v2 v3 v4
  have h5 : State.Canon v3 := by
    refine (of_eq (P := (InR State.Canon)) v4 ?_)
    refine l2Find_canon ?_
    exact hc1
  split
  · rename_i v6 v7 v8
    extract_lets +onlyGivenNames y9
    clear_value y9
    refine ite_of ?_ ?_
    · refine inR_mk ?_
      refine inR_mk ?_
      exact h5
    · refine ite_of ?_ ?_
      · refine routeTo_canon ?_
        exact h5
      · refine inR_mk ?_
        refine inR_mk ?_
        exact h5
  · rename_i v10 v11 v12 v13
    refine inR_mk ?_
    refine inR_mk ?_
    exact h5
  · rename_i v14 v15 v16
    refine ite_of ?_ ?_
    · refine inR_mk ?_
      refine inR_mk ?_
      exact h5
    · extract_lets +onlyGivenNames y17
      have h18 : State.Canon y17 := by
        unfold y17
        refine bump_canon ?_
        exact h5
      clear_value y17
      split
      · rename_i v19 v20
        refine inR_mk ?_
        refine inR_mk ?_
        exact h18
      · rename_i v21 v22
        refine inR_mk ?_
        refine inR_mk ?_
        exact h18
      · rename_i v23 v24 v25
        refine inR_mk ?_
        refine inR_mk ?_
        exact h18

theorem resolve_canon {v : Verdict} {p : Pkt} {s : Machine.State} (hc1 : s.Canon) :
    InR (InR State.Canon) (resolve v p s) := by
  unfold resolve
  extract_lets +onlyGivenNames y0
  clear_value y0
  extract_lets +onlyGivenNames y1
  clear_value y1
  refine ite_of ?_ ?_
  · extract_lets +onlyGivenNames y2
    have h3 : (InR State.Canon) y2 := by
      unfold y2
      split
      · rename_i v4 v5 v6 v7
        refine sourceStep_canon ?_
        exact hc1
      · rename_i v8
        refine inR_mk ?_
        exact hc1
    clear_value y2
    refine ite_of ?_ ?_
    · refine inR_mk ?_
      refine inR_mk ?_
      refine inR_snd ?_
      exact h3
    · split
      · rename_i v9 v10 v11 v12 v13
        refine inR_mk ?_
        refine inR_mk ?_
        refine inR_snd ?_
        exact h3
      · rename_i v14 v15 v16 v17 v18
        refine inR_mk ?_
        refine inR_mk ?_
        refine inR_snd ?_
        exact h3
      · rename_i v19 v20 v21 v22
        refine inR_mk ?_
        refine inR_mk ?_
        refine inR_snd ?_
        exact h3
  · split
    · rename_i v23
      refine inR_mk ?_
      refine inR_mk ?_
      refine bump_canon ?_
      exact hc1
    · rename_i v24 v25 v26 v27
      refine ite_of ?_ ?_
      · refine inR_mk ?_
        refine inR_mk ?_
        refine bump_canon ?_
        exact hc1
      · split
        · rename_i v28 v29 v30
          have h31 : State.Canon v29 := by
            refine (of_eq (P := (InR State.Canon)) v30 ?_)
            refine sourceStep_canon ?_
            exact hc1
          refine inR_mk ?_
          refine inR_mk ?_
          exact h31
        · rename_i v32 v33 v34
          have h35 : State.Canon v33 := by
            refine (of_eq (P := (InR State.Canon)) v34 ?_)
            refine sourceStep_canon ?_
            exact hc1
          refine ite_of ?_ ?_
          · extract_lets +onlyGivenNames y36
            clear_value y36
            refine inR_mk ?_
            refine inR_mk ?_
            exact h35
          · refine lookupDest_canon ?_
            exact h35

theorem frerRecover_canon {st : Nat} {seq : Nat} {s : Machine.State} (hc1 : s.Canon) :
    InR State.Canon (frerRecover st seq s) := by
  unfold frerRecover
  extract_lets +onlyGivenNames y0
  clear_value y0
  extract_lets +onlyGivenNames y1
  clear_value y1
  extract_lets +onlyGivenNames y2
  clear_value y2
  extract_lets +onlyGivenNames y3
  clear_value y3
  extract_lets +onlyGivenNames y4
  have h5 : ∀ (h : Nat) (s : Machine.State), s.Canon → (y4 h s).Canon := by
    intro x6
    intro x7
    intro h8
    unfold y4
    refine wrWords_canon ?_
    exact h8
  clear_value y4
  extract_lets +onlyGivenNames y9
  have h10 : ∀ (s : Machine.State), s.Canon → InR State.Canon (y9 s) := by
    intro x11
    intro h12
    unfold y9
    refine inR_mk ?_
    refine bump_canon ?_
    exact h12
  clear_value y9
  extract_lets +onlyGivenNames y13
  have h14 : ∀ (s : Machine.State), s.Canon → InR State.Canon (y13 s) := by
    intro x15
    intro h16
    unfold y13
    refine inR_mk ?_
    refine bump_canon ?_
    exact h16
  clear_value y13
  refine ite_of ?_ ?_
  · refine h10 _ ?_
    refine h5 _ _ ?_
    refine wr_canon ?_
    exact hc1
  · refine ite_of ?_ ?_
    · refine h14 _ ?_
      refine raise_canon ?_
      refine bump_canon ?_
      exact hc1
    · refine ite_of ?_ ?_
      · refine ite_of ?_ ?_
        · refine h14 _ ?_
          exact hc1
        · refine h10 _ ?_
          refine bump_canon ?_
          refine h5 _ _ ?_
          exact hc1
      · extract_lets +onlyGivenNames y17
        clear_value y17
        extract_lets +onlyGivenNames y18
        clear_value y18
        extract_lets +onlyGivenNames y19
        have h20 : State.Canon y19 := by
          unfold y19
          refine ite_of ?_ ?_
          · exact hc1
          · refine bump_canon ?_
            exact hc1
        clear_value y19
        extract_lets +onlyGivenNames y21
        have h22 : State.Canon y21 := by
          unfold y21
          refine ite_of ?_ ?_
          · exact h20
          · refine raise_canon ?_
            refine bumpN_canon ?_
            exact h20
        clear_value y21
        refine h10 _ ?_
        refine h5 _ _ ?_
        refine wrF_canon ?_
        exact h22

theorem frerGenerate_canon {st : Nat} {s : Machine.State} (hc1 : s.Canon) : InR State.Canon (frerGenerate st s) := by
  unfold frerGenerate
  extract_lets +onlyGivenNames y0
  clear_value y0
  refine inR_mk ?_
  refine bump_canon ?_
  refine wrF_canon ?_
  exact hc1

theorem frerStep_canon {flow : Nat} {p : Pkt} {s : Machine.State} (hc1 : s.Canon) :
    InR State.Canon (frerStep flow p s) := by
  unfold frerStep
  split
  rename_i v0 v1 v2 v3
  extract_lets +onlyGivenNames y4
  clear_value y4
  refine ite_of ?_ ?_
  · refine inR_mk ?_
    exact hc1
  · split
    rename_i v5 v6 v7 v8
    have h9 : State.Canon v7 := by
      refine (of_eq (P := (InR State.Canon)) v8 ?_)
      refine ite_of ?_ ?_
      · refine ite_of ?_ ?_
        · refine frerRecover_canon ?_
          exact hc1
        · extract_lets +onlyGivenNames y10
          have h11 : State.Canon y10 := by
            unfold y10
            refine bump_canon ?_
            exact hc1
          clear_value y10
          refine ite_of ?_ ?_
          · refine inR_mk ?_
            exact h11
          · refine inR_mk ?_
            refine bump_canon ?_
            exact h11
      · refine inR_mk ?_
        exact hc1
    refine ite_of ?_ ?_
    · refine inR_mk ?_
      exact h9
    · refine ite_of ?_ ?_
      · refine inR_mk ?_
        exact h9
      · split
        rename_i v12 v13 v14 v15
        have h16 : State.Canon v14 := by
          refine (of_eq (P := (InR State.Canon)) v15 ?_)
          refine frerGenerate_canon ?_
          exact h9
        refine inR_mk ?_
        exact h16

theorem deliverFar_canon {did : Nat} {g : Nat} {c : Nat} {p : Pkt} {s : Machine.State} (hc1 : s.Canon) :
    (deliverFar did g c p s).Canon := by
  unfold deliverFar
  refine ite_of ?_ ?_
  · refine passDrop_canon ?_
    exact hc1
  · refine ite_of ?_ ?_
    · refine segDrop_canon ?_
      refine passDrop_canon ?_
      exact hc1
    · refine ite_of ?_ ?_
      · refine passDrop_canon ?_
        refine coilDataTx_canon ?_
        exact hc1
      · refine ite_of ?_ ?_
        · refine passDrop_canon ?_
          refine coilDataTx_canon ?_
          exact hc1
        · refine passDrop_canon ?_
          exact hc1

theorem macsecProtect_canon {n : Nat} {f : List Byte} {s : Machine.State} (hc1 : s.Canon) :
    InL State.Canon (macsecProtect n f s) := by
  unfold macsecProtect
  extract_lets +onlyGivenNames y0
  clear_value y0
  refine ite_of ?_ ?_
  · refine inL_mk ?_
    exact hc1
  · split
    · rename_i v1 v2
      refine inL_mk ?_
      refine raise_canon ?_
      refine bump_canon ?_
      exact hc1
    · rename_i v3 v4 v5
      extract_lets +onlyGivenNames y6
      clear_value y6
      extract_lets +onlyGivenNames y7
      clear_value y7
      extract_lets +onlyGivenNames y8
      clear_value y8
      refine ite_of ?_ ?_
      · refine inL_mk ?_
        refine bump_canon ?_
        exact hc1
      · refine ite_of ?_ ?_
        · refine inL_mk ?_
          refine bump_canon ?_
          refine raiseLive_canon ?_
          exact hc1
        · split
          · rename_i v9 v10 v11
            refine inL_mk ?_
            refine bump_canon ?_
            exact hc1
          · rename_i v12 v13 v14
            extract_lets +onlyGivenNames y15
            clear_value y15
            extract_lets +onlyGivenNames y16
            clear_value y16
            extract_lets +onlyGivenNames y17
            clear_value y17
            extract_lets +onlyGivenNames y18
            clear_value y18
            extract_lets +onlyGivenNames y19
            clear_value y19
            extract_lets +onlyGivenNames y20
            clear_value y20
            extract_lets +onlyGivenNames y21
            clear_value y21
            extract_lets +onlyGivenNames y22
            clear_value y22
            extract_lets +onlyGivenNames y23
            clear_value y23
            extract_lets +onlyGivenNames y24
            clear_value y24
            extract_lets +onlyGivenNames y25
            clear_value y25
            extract_lets +onlyGivenNames y26
            have h27 : State.Canon y26 := by
              unfold y26
              refine setSaPn_canon ?_
              exact hc1
            clear_value y26
            extract_lets +onlyGivenNames y28
            have h29 : State.Canon y28 := by
              unfold y28
              refine ite_of ?_ ?_
              · refine raise_canon ?_
                exact h27
              · exact h27
            clear_value y28
            refine inL_mk ?_
            refine bump_canon ?_
            exact h29

theorem macEmit_canon {n : Nat} {p : Pkt} {f : List Byte} {s : Machine.State} (hc1 : s.Canon) :
    (macEmit n p f s).Canon := by
  unfold macEmit
  extract_lets +onlyGivenNames y0
  clear_value y0
  refine ite_of ?_ ?_
  · refine bump_canon ?_
    exact hc1
  · extract_lets +onlyGivenNames y1
    have h2 : State.Canon y1 := by
      unfold y1
      refine ite_of ?_ ?_
      · exact hc1
      · refine mirCopies_canon ?_
        exact hc1
    clear_value y1
    split
    · rename_i v3 v4 v5
      have h6 : State.Canon v4 := by
        refine (of_eq (P := (InL State.Canon)) v5 ?_)
        refine macsecProtect_canon ?_
        exact h2
      exact h6
    · rename_i v7 v8 v9 v10
      have h11 : State.Canon v8 := by
        refine (of_eq (P := (InL State.Canon)) v10 ?_)
        refine macsecProtect_canon ?_
        exact h2
      extract_lets +onlyGivenNames y12
      have h13 : State.Canon y12 := by
        unfold y12
        refine emit_canon ?_
        exact h11
      clear_value y12
      extract_lets +onlyGivenNames y14
      have h15 : State.Canon y14 := by
        unfold y14
        refine bump_canon ?_
        refine bumpN_canon ?_
        exact h13
      clear_value y14
      extract_lets +onlyGivenNames y16
      have h17 : State.Canon y16 := by
        unfold y16
        refine ite_of ?_ ?_
        · refine bump_canon ?_
          exact h15
        · refine ite_of ?_ ?_
          · refine bump_canon ?_
            exact h15
          · exact h15
      clear_value y16
      extract_lets +onlyGivenNames y18
      have h19 : State.Canon y18 := by
        unfold y18
        refine ite_of ?_ ?_
        · exact h17
        · refine bump_canon ?_
          exact h17
      clear_value y18
      refine ite_of ?_ ?_
      · refine bump_canon ?_
        exact h19
      · exact h19

theorem timeDepart_canon {n : Nat} {p : Pkt} {s : Machine.State} (hc1 : s.Canon) : (timeDepart n p s).Canon := by
  unfold timeDepart
  split
  · rename_i v0 v1 v2 v3 v4
    refine canon_mk ?_
    exact hc1
  · rename_i v5 v6 v7
    exact hc1

theorem macSend_canon {n : Nat} {p : Pkt} {s : Machine.State} (hc1 : s.Canon) : (macSend n p s).Canon := by
  unfold macSend
  extract_lets +onlyGivenNames y0
  clear_value y0
  extract_lets +onlyGivenNames y1
  have h2 : State.Canon y1 := by
    unfold y1
    refine ite_of ?_ ?_
    · refine bump_canon ?_
      exact hc1
    · exact hc1
  clear_value y1
  extract_lets +onlyGivenNames y3
  have h4 : State.Canon y3 := by
    unfold y3
    split
    · rename_i v5 v6 v7 v8
      refine sendDone_canon ?_
      exact h2
    · rename_i v9 v10
      exact h2
  clear_value y3
  refine shfUnref_canon ?_
  refine foldl_of ?_ ?_
  · refine timeDepart_canon ?_
    exact h4
  · intro x11
    intro x12
    intro h13
    refine macEmit_canon ?_
    exact h13

theorem cbsSend_canon {n : Nat} {c : Nat} {len : Nat} {s : Machine.State} (hc1 : s.Canon) :
    (cbsSend n c len s).Canon := by
  unfold cbsSend
  extract_lets +onlyGivenNames y0
  clear_value y0
  refine ite_of ?_ ?_
  · exact hc1
  · extract_lets +onlyGivenNames y1
    clear_value y1
    extract_lets +onlyGivenNames y2
    clear_value y2
    extract_lets +onlyGivenNames y3
    clear_value y3
    extract_lets +onlyGivenNames y4
    clear_value y4
    refine setMac_canon ?_
    exact hc1

theorem portServe_canon {n : Nat} {c : Nat} {s : Machine.State} (hc1 : s.Canon) : (portServe n c s).Canon := by
  unfold portServe
  split
  · rename_i v0 v1
    exact hc1
  · rename_i v2 v3 v4
    refine macSend_canon ?_
    refine cbsSend_canon ?_
    refine shfPop_canon ?_
    exact hc1

theorem deliverPort_canon {idle : Option (List (Fin 24))} {g : Nat} {c : Nat} {p : Pkt} {s : Machine.State} (hc1 : s.Canon) :
    InR State.Canon (deliverPort idle g c p s) := by
  unfold deliverPort
  refine ite_of ?_ ?_
  · extract_lets +onlyGivenNames y0
    clear_value y0
    extract_lets +onlyGivenNames y1
    clear_value y1
    refine ite_of ?_ ?_
    · refine inR_mk ?_
      refine passDrop_canon ?_
      exact hc1
    · split
      · rename_i v2 v3 v4
        have h5 : State.Canon v3 := by
          refine (of_eq (P := (InR State.Canon)) v4 ?_)
          refine shfTry_canon ?_
          exact hc1
        refine inR_mk ?_
        refine sendLost_canon ?_
        exact h5
      · rename_i v6 v7 v8
        have h9 : State.Canon v7 := by
          refine (of_eq (P := (InR State.Canon)) v8 ?_)
          refine shfTry_canon ?_
          exact hc1
        refine ite_of ?_ ?_
        · extract_lets +onlyGivenNames y10
          have h11 : State.Canon y10 := by
            unfold y10
            refine portServe_canon ?_
            refine bump_canon ?_
            exact h9
          clear_value y10
          refine inR_mk ?_
          refine ite_of ?_ ?_
          · refine bump_canon ?_
            exact h11
          · exact h11
        · refine inR_mk ?_
          exact h9
  · refine ite_of ?_ ?_
    · refine inR_mk ?_
      refine passDrop_canon ?_
      exact hc1
    · refine ite_of ?_ ?_
      · refine ite_of ?_ ?_
        · refine inR_mk ?_
          refine segDrop_canon ?_
          refine passDrop_canon ?_
          exact hc1
        · refine inR_mk ?_
          refine sendLost_canon ?_
          refine shfEnqueue_canon ?_
          exact hc1
      · refine inR_mk ?_
        refine passDrop_canon ?_
        exact hc1

theorem deliverSpn_canon {idle : Option (List (Fin 24))} {spn : Nat} {c : Nat} {p : Pkt} {s : Machine.State} (hc1 : s.Canon) :
    InR State.Canon (deliverSpn idle spn c p s) := by
  unfold deliverSpn
  refine ite_of ?_ ?_
  · refine inR_mk ?_
    refine deliverFar_canon ?_
    exact hc1
  · refine deliverPort_canon ?_
    exact hc1

theorem shfRef_canon {pid : Nat} {s : Machine.State} (hc1 : s.Canon) : (shfRef pid s).Canon := by
  unfold shfRef
  refine ite_of ?_ ?_
  · exact hc1
  · refine setPkt_canon ?_
    exact hc1

theorem residueDrop_canon {g : Nat} {p : Pkt} {s : Machine.State} (hc1 : s.Canon) : (residueDrop g p s).Canon := by
  unfold residueDrop
  refine bump_canon ?_
  refine shfUnref_canon ?_
  exact hc1

theorem mcCopy_canon {g : Nat} {c : Nat} {p : Pkt} {s : Machine.State} (hc1 : s.Canon) : (mcCopy g c p s).Canon := by
  unfold mcCopy
  refine ite_of ?_ ?_
  · refine bump_canon ?_
    exact hc1
  · split
    · rename_i v0 v1 v2
      have h3 : State.Canon v1 := by
        refine (of_eq (P := (InR State.Canon)) v2 ?_)
        refine shfOffer_canon ?_
        refine shfRef_canon ?_
        exact hc1
      refine ite_of ?_ ?_
      · refine kilnTake_canon ?_
        exact h3
      · exact h3
    · rename_i v4 v5 v6
      have h7 : State.Canon v5 := by
        refine (of_eq (P := (InR State.Canon)) v6 ?_)
        refine shfOffer_canon ?_
        refine shfRef_canon ?_
        exact hc1
      extract_lets +onlyGivenNames y8
      clear_value y8
      extract_lets +onlyGivenNames y9
      clear_value y9
      refine ite_of ?_ ?_
      · refine raise_canon ?_
        refine residueDrop_canon ?_
        exact h7
      · refine ite_of ?_ ?_
        · refine raise_canon ?_
          refine residueDrop_canon ?_
          exact h7
        · refine setResidue_canon ?_
          exact h7

theorem replicate_canon {g : Nat} {c : Nat} {remote : Bool} {p : Pkt} {s : Machine.State} (hc1 : s.Canon) :
    (replicate g c remote p s).Canon := by
  unfold replicate
  extract_lets +onlyGivenNames y0
  clear_value y0
  extract_lets +onlyGivenNames y1
  clear_value y1
  refine ite_of ?_ ?_
  · refine passDrop_canon ?_
    exact hc1
  · extract_lets +onlyGivenNames y2
    clear_value y2
    extract_lets +onlyGivenNames y3
    clear_value y3
    extract_lets +onlyGivenNames y4
    clear_value y4
    extract_lets +onlyGivenNames y5
    have h6 : State.Canon y5 := by
      unfold y5
      refine foldl_of ?_ ?_
      · exact hc1
      · intro x7
        intro x8
        intro h9
        refine mcCopy_canon ?_
        exact h9
    clear_value y5
    extract_lets +onlyGivenNames y10
    have h11 : State.Canon y10 := by
      unfold y10
      refine foldl_of ?_ ?_
      · exact h6
      · intro x12
        intro x13
        intro h14
        refine ite_of ?_ ?_
        · refine segDrop_canon ?_
          exact h14
        · refine ite_of ?_ ?_
          · refine mcCopy_canon ?_
            exact h14
          · refine mcCopy_canon ?_
            exact h14
    clear_value y10
    extract_lets +onlyGivenNames y15
    have h16 : State.Canon y15 := by
      unfold y15
      refine foldl_of ?_ ?_
      · exact h11
      · intro x17
        intro x18
        intro h19
        refine ite_of ?_ ?_
        · refine segDrop_canon ?_
          exact h19
        · refine coilDataTx_canon ?_
          exact h19
    clear_value y15
    extract_lets +onlyGivenNames y20
    clear_value y20
    refine shfUnref_canon ?_
    refine ite_of ?_ ?_
    · exact h16
    · refine sendLost_canon ?_
      exact h16

theorem forward_canon {idle : Option (List (Fin 24))} {v : Verdict} {p : Pkt} {s : Machine.State} (hc1 : s.Canon) :
    InR State.Canon (forward idle v p s) := by
  unfold forward
  split
  · rename_i v0 v1 v2 v3
    have h4 : State.Canon v2 := by
      refine (of_eq (P := (InR (InR State.Canon))) v3 ?_)
      refine resolve_canon ?_
      exact hc1
    refine inR_mk ?_
    refine passDrop_canon ?_
    exact h4
  · rename_i v5 v6 v7 v8 v9
    have h10 : State.Canon v8 := by
      refine (of_eq (P := (InR (InR State.Canon))) v9 ?_)
      refine resolve_canon ?_
      exact hc1
    refine ite_of ?_ ?_
    · refine inR_mk ?_
      refine passDrop_canon ?_
      refine bump_canon ?_
      exact h10
    · split
      · rename_i v11 v12 v13
        have h14 : State.Canon v12 := by
          refine (of_eq (P := (InR State.Canon)) v13 ?_)
          refine frerStep_canon ?_
          exact h10
        refine inR_mk ?_
        refine passDrop_canon ?_
        exact h14
      · rename_i v15 v16 v17 v18
        have h19 : State.Canon v17 := by
          refine (of_eq (P := (InR State.Canon)) v18 ?_)
          refine frerStep_canon ?_
          exact h10
        split
        · rename_i v20 v21 v22
          refine deliverSpn_canon ?_
          exact h19
        · rename_i v23 v24 v25
          refine deliverPort_canon ?_
          exact h19
        · rename_i v26 v27 v28
          refine inR_mk ?_
          refine replicate_canon ?_
          exact h19

theorem shfRetain_canon {p : Pkt} {s : Machine.State} (hc1 : s.Canon) : (shfRetain p s).Canon := by
  unfold shfRetain
  extract_lets +onlyGivenNames y0
  clear_value y0
  refine ite_of ?_ ?_
  · exact hc1
  · refine setPkt_canon ?_
    exact hc1

theorem recircLive_canon {s : Machine.State} (hc1 : s.Canon) : (recircLive s).Canon := by
  unfold recircLive
  refine setLive_canon ?_
  exact hc1

theorem recirculate_canon {q : Nat} {w2 : Word} {p : Pkt} {s : Machine.State} (hc1 : s.Canon) :
    (recirculate q w2 p s).Canon := by
  unfold recirculate
  extract_lets +onlyGivenNames y0
  clear_value y0
  refine ite_of ?_ ?_
  · refine raise_canon ?_
    refine bump_canon ?_
    refine passDrop_canon ?_
    exact hc1
  · refine ite_of ?_ ?_
    · refine raise_canon ?_
      refine bump_canon ?_
      refine passDrop_canon ?_
      exact hc1
    · refine ite_of ?_ ?_
      · refine raise_canon ?_
        refine bump_canon ?_
        refine passDrop_canon ?_
        exact hc1
      · extract_lets +onlyGivenNames y1
        clear_value y1
        extract_lets +onlyGivenNames y2
        clear_value y2
        extract_lets +onlyGivenNames y3
        have h4 : State.Canon y3 := by
          unfold y3
          refine shfRetain_canon ?_
          exact hc1
        clear_value y3
        refine recircLive_canon ?_
        refine canon_mk ?_
        exact h4

theorem classAction_canon {q : Nat} {idle : Option (List (Fin 24))} {v : Verdict} {p : Pkt} {s : Machine.State} (hc1 : s.Canon) :
    InR State.Canon (classAction q idle v p s) := by
  unfold classAction
  extract_lets +onlyGivenNames y0
  clear_value y0
  extract_lets +onlyGivenNames y1
  clear_value y1
  split
  · rename_i v2 v3
    refine forward_canon ?_
    exact hc1
  · rename_i v4 v5
    refine deliverPort_canon ?_
    exact hc1
  · rename_i v6 v7
    refine inR_mk ?_
    refine recirculate_canon ?_
    exact hc1
  · rename_i v8 v9
    extract_lets +onlyGivenNames y10
    clear_value y10
    refine ite_of ?_ ?_
    · refine deliverPort_canon ?_
      exact hc1
    · refine inR_mk ?_
      refine passDrop_canon ?_
      refine bump_canon ?_
      exact hc1
  · rename_i v11 v12 v13 v14 v15
    refine inR_mk ?_
    refine passDrop_canon ?_
    refine bump_canon ?_
    exact hc1

theorem classApply_canon {q : Nat} {idle : Option (List (Fin 24))} {ct : Bool} {v : Verdict} {p : Pkt} {s : Machine.State} (hc1 : s.Canon) :
    InR State.Canon (classApply q idle ct v p s) := by
  unfold classApply
  extract_lets +onlyGivenNames y0
  clear_value y0
  extract_lets +onlyGivenNames y1
  clear_value y1
  extract_lets +onlyGivenNames y2
  clear_value y2
  extract_lets +onlyGivenNames y3
  clear_value y3
  extract_lets +onlyGivenNames y4
  clear_value y4
  extract_lets +onlyGivenNames y5
  have h6 : State.Canon y5 := by
    unfold y5
    refine bumpN_canon ?_
    refine bump_canon ?_
    exact hc1
  clear_value y5
  extract_lets +onlyGivenNames y7
  clear_value y7
  extract_lets +onlyGivenNames y8
  have h9 : KeepsC y8 := by
    unfold y8
    intro s10 h11
    dsimp -zeta only
    refine ite_of ?_ ?_
    · exact h11
    · refine mirCopies_canon ?_
      exact h11
  clear_value y8
  extract_lets +onlyGivenNames y12
  have h13 : ∀ (sduDrop : Bool) (s : Machine.State), s.Canon → InR State.Canon (y12 sduDrop s) := by
    intro x14
    intro x15
    intro h16
    unfold y12
    extract_lets +onlyGivenNames y17
    have h18 : State.Canon y17 := by
      unfold y17
      refine bump_canon ?_
      exact h16
    clear_value y17
    extract_lets +onlyGivenNames y19
    have h20 : State.Canon y19 := by
      unfold y19
      refine ite_of ?_ ?_
      · refine bump_canon ?_
        exact h18
      · exact h18
    clear_value y19
    refine inR_mk ?_
    refine passDrop_canon ?_
    refine ite_of ?_ ?_
    · refine h9 _ ?_
      exact h20
    · exact h20
  clear_value y12
  refine ite_of ?_ ?_
  · refine h13 _ _ ?_
    exact h6
  · refine ite_of ?_ ?_
    · refine h13 _ _ ?_
      refine ite_of ?_ ?_
      · refine classBlock_canon ?_
        exact h6
      · exact h6
    · split
      rename_i v21 v22 v23 v24
      have h25 : State.Canon v23 := by
        refine (of_eq (P := (InR State.Canon)) v24 ?_)
        refine ite_of ?_ ?_
        · refine meter_canon ?_
          exact h6
        · refine inR_mk ?_
          exact h6
      extract_lets +onlyGivenNames y26
      clear_value y26
      refine ite_of ?_ ?_
      · refine h13 _ _ ?_
        exact h25
      · extract_lets +onlyGivenNames y27
        have h28 : State.Canon y27 := by
          unfold y27
          refine ite_of ?_ ?_
          · refine h9 _ ?_
            exact h25
          · exact h25
        clear_value y27
        extract_lets +onlyGivenNames y29
        have h30 : State.Canon y29 := by
          unfold y29
          refine ite_of ?_ ?_
          · refine hostCopy_canon ?_
            exact h28
          · exact h28
        clear_value y29
        refine classAction_canon ?_
        exact h30

theorem onePass_canon {q : Nat} {node : Nat} {prof : Nat} {idle : Option (List (Fin 24))} {ct : Bool} {p : Pkt} {s : Machine.State} (hc1 : s.Canon) :
    InR State.Canon (onePass q node prof idle ct p s) := by
  unfold onePass
  extract_lets +onlyGivenNames y0
  clear_value y0
  extract_lets +onlyGivenNames y1
  have h2 : State.Canon y1 := by
    unfold y1
    refine bump_canon ?_
    exact hc1
  clear_value y1
  extract_lets +onlyGivenNames y3
  have h4 : State.Canon y3 := by
    unfold y3
    refine ite_of ?_ ?_
    · refine bump_canon ?_
      exact h2
    · exact h2
  clear_value y3
  extract_lets +onlyGivenNames y5
  have h6 : State.Canon y5 := by
    unfold y5
    refine ite_of ?_ ?_
    · refine bump_canon ?_
      exact h4
    · exact h4
  clear_value y5
  extract_lets +onlyGivenNames y7
  clear_value y7
  refine ite_of ?_ ?_
  · refine inR_mk ?_
    refine raise_canon ?_
    refine bump_canon ?_
    refine passDrop_canon ?_
    exact h6
  · refine ite_of ?_ ?_
    · refine inR_mk ?_
      refine raise_canon ?_
      refine bump_canon ?_
      refine passDrop_canon ?_
      exact h6
    · extract_lets +onlyGivenNames y8
      have h9 : State.Canon y8 := by
        unfold y8
        refine ruleEcc_canon ?_
        exact h6
      clear_value y8
      extract_lets +onlyGivenNames y10
      clear_value y10
      refine classApply_canon ?_
      exact h9

theorem admitPass_canon {i : Nat} {idle : List (Fin 24)} {ct : Bool} {p : Pkt} {s : Machine.State} (hc1 : s.Canon) :
    InR State.Canon (admitPass i idle ct p s) := by
  unfold admitPass
  extract_lets +onlyGivenNames y0
  clear_value y0
  extract_lets +onlyGivenNames y1
  clear_value y1
  extract_lets +onlyGivenNames y2
  have h3 : State.Canon y2 := by
    unfold y2
    refine ite_of ?_ ?_
    · refine mirCopies_canon ?_
      exact hc1
    · exact hc1
  clear_value y2
  refine onePass_canon ?_
  exact h3

theorem execPipelineAdmit_canon {src : Fin 28} {idle : List (Fin 24)} {s : Machine.State} (hc1 : s.Canon) :
    Goes State.Canon (execPipelineAdmit src idle s) := by
  unfold execPipelineAdmit
  refine done_canon ?_
  refine ite_of ?_ ?_
  · exact hc1
  · split
    · rename_i v0 v1
      exact hc1
    · rename_i v2 v3 v4 v5
      extract_lets +onlyGivenNames y6
      have h7 : State.Canon y6 := by
        unfold y6
        refine canon_mk ?_
        exact hc1
      clear_value y6
      extract_lets +onlyGivenNames y8
      clear_value y8
      refine ite_of ?_ ?_
      · refine nmwSettle_canon ?_
        refine passDrop_canon ?_
        exact h7
      · refine nmwSettle_canon ?_
        refine inR_snd ?_
        refine admitPass_canon ?_
        exact h7

theorem execRecircAdmit_canon {pipeline : Fin 2} {s : Machine.State} (hc1 : s.Canon) :
    Goes State.Canon (execRecircAdmit pipeline s) := by
  unfold execRecircAdmit
  refine done_canon ?_
  extract_lets +onlyGivenNames y0
  clear_value y0
  split
  · rename_i v1 v2
    exact hc1
  · rename_i v3 v4 v5 v6
    extract_lets +onlyGivenNames y7
    have h8 : State.Canon y7 := by
      unfold y7
      refine recircLive_canon ?_
      refine canon_mk ?_
      exact hc1
    clear_value y7
    refine nmwSettle_canon ?_
    refine inR_snd ?_
    refine onePass_canon ?_
    refine bump_canon ?_
    exact h8

theorem execLearnPlace_canon {s : Machine.State} (hc1 : s.Canon) : Goes State.Canon (execLearnPlace s) := by
  unfold execLearnPlace
  refine done_canon ?_
  split
  · rename_i v0 v1
    exact hc1
  · rename_i v2 v3 v4 v5
    split
    · rename_i v6 v7
      exact hc1
    · rename_i v8 v9 v10
      extract_lets +onlyGivenNames y11
      clear_value y11
      extract_lets +onlyGivenNames y12
      have h13 : State.Canon y12 := by
        unfold y12
        refine canon_mk ?_
        exact hc1
      clear_value y12
      refine tblSettle_canon ?_
      refine bump_canon ?_
      refine tblChanged_canon ?_
      refine l2Write_canon ?_
      exact h13

theorem sweepEntry_canon {o : Nat} {s : Machine.State} (hc1 : s.Canon) : (sweepEntry o s).Canon := by
  unfold sweepEntry
  extract_lets +onlyGivenNames y0
  have h1 : State.Canon y0 := by
    unfold y0
    refine l2Meet_canon ?_
    exact hc1
  clear_value y0
  extract_lets +onlyGivenNames y2
  clear_value y2
  refine ite_of ?_ ?_
  · exact h1
  · refine ite_of ?_ ?_
    · refine bump_canon ?_
      refine l2Clear_canon ?_
      exact h1
    · refine ite_of ?_ ?_
      · refine wr_canon ?_
        exact h1
      · refine ite_of ?_ ?_
        · refine wr_canon ?_
          exact h1
        · refine bump_canon ?_
          refine l2Clear_canon ?_
          exact h1

theorem execAgingSweep_canon {s : Machine.State} (hc1 : s.Canon) : Goes State.Canon (execAgingSweep s) := by
  unfold execAgingSweep
  refine done_canon ?_
  refine ite_of ?_ ?_
  · exact hc1
  · refine tblSettle_canon ?_
    refine foldl_of ?_ ?_
    · exact hc1
    · intro x0
      intro x1
      intro h2
      refine sweepEntry_canon ?_
      exact h2

theorem viSeqCheck_canon {b : Nat} {v : Nat} {seq : Nat} {modulus : Nat} {s : Machine.State} (hc1 : s.Canon) :
    (viSeqCheck b v seq modulus s).Canon := by
  unfold viSeqCheck
  extract_lets +onlyGivenNames y0
  have h1 : State.Canon y0 := by
    unfold y0
    split
    · rename_i v2 v3 v4
      refine ite_of ?_ ?_
      · refine bump_canon ?_
        exact hc1
      · exact hc1
    · rename_i v5 v6
      exact hc1
  clear_value y0
  refine bump_canon ?_
  refine canon_mk ?_
  exact h1

theorem lqItem_canon {it : RItem} {s : Machine.State} (hc1 : s.Canon) : (lqItem it s).Canon := by
  unfold lqItem
  refine ite_of ?_ ?_
  · refine canon_mk ?_
    exact hc1
  · refine canon_mk ?_
    exact hc1

theorem lqItems_canon {l : List RItem} {s : Machine.State} (hc1 : s.Canon) : (lqItems l s).Canon := by
  unfold lqItems
  refine lqLive_canon ?_
  refine foldl_of ?_ ?_
  · exact hc1
  · intro x0
    intro x1
    intro h2
    refine lqItem_canon ?_
    exact h2

theorem badMsg_canon {s : Machine.State} (hc1 : s.Canon) : (badMsg s).Canon := by
  unfold badMsg
  refine raise_canon ?_
  refine bump_canon ?_
  exact hc1

theorem routerTake_canon {p : Pkt} {s : Machine.State} (hc1 : s.Canon) : (routerTake p s).Canon := by
  unfold routerTake
  extract_lets +onlyGivenNames y0
  clear_value y0
  extract_lets +onlyGivenNames y1
  clear_value y1
  extract_lets +onlyGivenNames y2
  clear_value y2
  extract_lets +onlyGivenNames y3
  clear_value y3
  refine ite_of ?_ ?_
  · split
    · rename_i v4 v5
      refine raise_canon ?_
      refine bump_canon ?_
      exact hc1
    · rename_i v6 v7 v8
      extract_lets +onlyGivenNames y9
      clear_value y9
      extract_lets +onlyGivenNames y10
      clear_value y10
      extract_lets +onlyGivenNames y11
      clear_value y11
      extract_lets +onlyGivenNames y12
      have h13 : State.Canon y12 := by
        unfold y12
        refine bumpN_canon ?_
        refine bumpN_canon ?_
        refine viSeqCheck_canon ?_
        exact hc1
      clear_value y12
      refine lqItems_canon ?_
      refine ite_of ?_ ?_
      · refine badMsg_canon ?_
        exact h13
      · exact h13
  · split
    · rename_i v14 v15
      refine ite_of ?_ ?_
      · refine badMsg_canon ?_
        exact hc1
      · split
        · rename_i v16 v17
          refine raise_canon ?_
          refine bump_canon ?_
          exact hc1
        · rename_i v18 v19 v20
          extract_lets +onlyGivenNames y21
          clear_value y21
          extract_lets +onlyGivenNames y22
          have h23 : State.Canon y22 := by
            unfold y22
            refine bumpN_canon ?_
            refine viSeqCheck_canon ?_
            exact hc1
          clear_value y22
          refine lqItems_canon ?_
          refine ite_of ?_ ?_
          · refine badMsg_canon ?_
            exact h23
          · exact h23
    · rename_i v24
      refine lqItems_canon ?_
      exact hc1

theorem execRouterHandoff_canon {s : Machine.State} (hc1 : s.Canon) : Goes State.Canon (execRouterHandoff s) := by
  unfold execRouterHandoff
  refine done_canon ?_
  refine ite_of ?_ ?_
  · exact hc1
  · split
    · rename_i v0 v1
      exact hc1
    · rename_i v2 v3 v4
      split
      · rename_i v5 v6
        exact hc1
      · rename_i v7 v8 v9
        refine shfSettle_canon ?_
        refine routerTake_canon ?_
        refine shfUnref_canon ?_
        refine shfPop_canon ?_
        exact hc1

theorem hostItem_canon {qp : Nat} {c : Nat} {it : RItem} {s : Machine.State} (hc1 : s.Canon) :
    (hostItem qp c it s).Canon := by
  unfold hostItem
  refine shfEnqueue_canon ?_
  exact hc1

theorem unmatched_canon {b : Nat} {it : RItem} {s : Machine.State} (hc1 : s.Canon) : (unmatched b it s).Canon := by
  unfold unmatched
  extract_lets +onlyGivenNames y0
  have h1 : State.Canon y0 := by
    unfold y0
    refine bump_canon ?_
    exact hc1
  clear_value y0
  refine ite_of ?_ ?_
  · refine hostItem_canon ?_
    exact h1
  · exact h1

theorem srtEcc_canon {k : Nat} {len : Nat} {s : Machine.State} (hc1 : s.Canon) : InR State.Canon (srtEcc k len s) := by
  unfold srtEcc
  split
  · rename_i v0 v1 v2 v3
    refine ite_of ?_ ?_
    · refine ite_of ?_ ?_
      · refine inR_mk ?_
        refine bump_canon ?_
        refine raise_canon ?_
        refine injDone_canon ?_
        exact hc1
      · refine inR_mk ?_
        refine injDone_canon ?_
        exact hc1
    · refine inR_mk ?_
      exact hc1
  · rename_i v4 v5
    refine inR_mk ?_
    exact hc1

theorem ncValidated_canon {c : Nat} {s : Machine.State} (hc1 : s.Canon) : (ncValidated c s).Canon := by
  unfold ncValidated
  refine ite_of ?_ ?_
  · extract_lets +onlyGivenNames y0
    have h1 : State.Canon y0 := by
      unfold y0
      split
      · rename_i v2 v3 v4
        refine ite_of ?_ ?_
        · refine wrF_canon ?_
          exact hc1
        · exact hc1
      · rename_i v5 v6
        exact hc1
    clear_value y0
    refine clusterWake_canon ?_
    exact h1
  · exact hc1

theorem ncRouted_canon {n : Nat} {s : Machine.State} (hc1 : s.Canon) : (ncRouted n s).Canon := by
  unfold ncRouted
  split
  · rename_i v0 v1 v2
    refine ncValidated_canon ?_
    exact hc1
  · rename_i v3 v4
    exact hc1

theorem verifyXl_canon {p : Nat} {idv : Nat} {af : Nat} {key : List Byte} {pdu : List Byte} {s : Machine.State} (hc1 : s.Canon) :
    InL State.Canon (verifyXl p idv af key pdu s) := by
  unfold verifyXl
  extract_lets +onlyGivenNames y0
  clear_value y0
  extract_lets +onlyGivenNames y1
  clear_value y1
  refine ite_of ?_ ?_
  · refine inL_mk ?_
    refine bump_canon ?_
    exact hc1
  · refine ite_of ?_ ?_
    · refine inL_mk ?_
      refine bump_canon ?_
      refine fvUse_canon ?_
      exact hc1
    · refine inL_mk ?_
      refine bump_canon ?_
      exact hc1

theorem verifyPdu_canon {p : Nat} {idv : Nat} {key : List Byte} {pdu : List Byte} {s : Machine.State} (hc1 : s.Canon) :
    InL State.Canon (verifyPdu p idv key pdu s) := by
  unfold verifyPdu
  extract_lets +onlyGivenNames y0
  clear_value y0
  extract_lets +onlyGivenNames y1
  clear_value y1
  extract_lets +onlyGivenNames y2
  clear_value y2
  extract_lets +onlyGivenNames y3
  clear_value y3
  extract_lets +onlyGivenNames y4
  clear_value y4
  extract_lets +onlyGivenNames y5
  clear_value y5
  extract_lets +onlyGivenNames y6
  clear_value y6
  extract_lets +onlyGivenNames y7
  clear_value y7
  extract_lets +onlyGivenNames y8
  have h9 : ∀ (j code : Nat), InL State.Canon (y8 j code) := by
    intro x10
    intro x11
    unfold y8
    refine inL_mk ?_
    refine bump_canon ?_
    exact hc1
  clear_value y8
  refine ite_of ?_ ?_
  · refine h9 _ _
  · extract_lets +onlyGivenNames y12
    clear_value y12
    extract_lets +onlyGivenNames y13
    clear_value y13
    extract_lets +onlyGivenNames y14
    clear_value y14
    extract_lets +onlyGivenNames y15
    clear_value y15
    refine ite_of ?_ ?_
    · refine h9 _ _
    · extract_lets +onlyGivenNames y16
      clear_value y16
      extract_lets +onlyGivenNames y17
      clear_value y17
      refine ite_of ?_ ?_
      · refine inL_mk ?_
        refine bump_canon ?_
        refine fvUse_canon ?_
        exact hc1
      · refine h9 _ _

theorem glzVerify_canon {p : Nat} {idv : Nat} {isXl : Bool} {af : Nat} {pdu : List Byte} {s : Machine.State} (hc1 : s.Canon) :
    InL State.Canon (glzVerify p idv isXl af pdu s) := by
  unfold glzVerify
  split
  rename_i v0 v1 v2 v3
  have h4 : State.Canon v2 := by
    refine (of_eq (P := (InR State.Canon)) v3 ?_)
    refine glzEcc_canon ?_
    exact hc1
  split
  rename_i v5 v6 v7 v8
  have h9 : State.Canon v7 := by
    refine (of_eq (P := (InR State.Canon)) v8 ?_)
    refine glzEcc_canon ?_
    exact h4
  extract_lets +onlyGivenNames y10
  clear_value y10
  extract_lets +onlyGivenNames y11
  have h12 : ∀ (code : Nat), InL State.Canon (y11 code) := by
    intro x13
    unfold y11
    refine inL_mk ?_
    refine bump_canon ?_
    exact h9
  clear_value y11
  refine ite_of ?_ ?_
  · refine h12 _
  · refine ite_of ?_ ?_
    · refine h12 _
    · refine ite_of ?_ ?_
      · refine h12 _
      · split
        · rename_i v14 v15 v16
          refine h12 _
        · rename_i v17 v18 v19
          refine ite_of ?_ ?_
          · refine inL_mk ?_
            refine bump_canon ?_
            exact h9
          · refine ite_of ?_ ?_
            · refine verifyXl_canon ?_
              exact h9
            · refine verifyPdu_canon ?_
              exact h9

theorem timerRestart_canon {b : Nat} {r : Nat} {s : Machine.State} (hc1 : s.Canon) : (timerRestart b r s).Canon := by
  unfold timerRestart
  extract_lets +onlyGivenNames y0
  clear_value y0
  extract_lets +onlyGivenNames y1
  clear_value y1
  extract_lets +onlyGivenNames y2
  have h3 : State.Canon y2 := by
    unfold y2
    refine canon_mk ?_
    exact hc1
  clear_value y2
  refine ite_of ?_ ?_
  · exact h3
  · refine timerStart_canon ?_
    exact h3

theorem setTokens_canon {l : Nat} {n : Nat} {s : Machine.State} (hc1 : s.Canon) : (setTokens l n s).Canon := by
  unfold setTokens
  refine canon_mk ?_
  exact hc1

theorem sigDeposit_canon {base : Nat} {pos : Nat} {len : Nat} {be : Bool} {v : Nat} {s : Machine.State} (hc1 : s.Canon) :
    (sigDeposit base pos len be v s).Canon := by
  unfold sigDeposit
  extract_lets +onlyGivenNames y0
  clear_value y0
  refine foldl_of ?_ ?_
  · exact hc1
  · intro x1
    intro x2
    intro h3
    refine setImgBit_canon ?_
    exact h3

theorem moveWrite_canon {b : Nat} {d : Nat} {pos : Nat} {len : Nat} {be : Bool} {v : Nat} {s : Machine.State} (hc1 : s.Canon) :
    InL State.Canon (moveWrite b d pos len be v s) := by
  unfold moveWrite
  extract_lets +onlyGivenNames y0
  clear_value y0
  extract_lets +onlyGivenNames y1
  clear_value y1
  extract_lets +onlyGivenNames y2
  clear_value y2
  extract_lets +onlyGivenNames y3
  clear_value y3
  extract_lets +onlyGivenNames y4
  clear_value y4
  extract_lets +onlyGivenNames y5
  have h6 : State.Canon y5 := by
    unfold y5
    refine sigDeposit_canon ?_
    exact hc1
  clear_value y5
  extract_lets +onlyGivenNames y7
  have h8 : State.Canon y7 := by
    unfold y7
    refine ite_of ?_ ?_
    · refine setImgBit_canon ?_
      exact h6
    · exact h6
  clear_value y7
  refine inL_mk ?_
  exact h8

theorem signalMove_canon {b : Nat} {d : Nat} {pdu : List Byte} {s : Machine.State} (hc1 : s.Canon) :
    InL State.Canon (signalMove b d pdu s) := by
  unfold signalMove
  split
  rename_i v0 v1 v2 v3
  have h4 : State.Canon v2 := by
    refine (of_eq (P := (InR State.Canon)) v3 ?_)
    refine srtEcc_canon ?_
    exact hc1
  extract_lets +onlyGivenNames y5
  clear_value y5
  extract_lets +onlyGivenNames y6
  clear_value y6
  extract_lets +onlyGivenNames y7
  clear_value y7
  extract_lets +onlyGivenNames y8
  clear_value y8
  extract_lets +onlyGivenNames y9
  clear_value y9
  extract_lets +onlyGivenNames y10
  clear_value y10
  extract_lets +onlyGivenNames y11
  clear_value y11
  extract_lets +onlyGivenNames y12
  clear_value y12
  refine ite_of ?_ ?_
  · refine inL_mk ?_
    exact h4
  · refine ite_of ?_ ?_
    · refine inL_mk ?_
      refine bump_canon ?_
      exact h4
    · refine ite_of ?_ ?_
      · refine inL_mk ?_
        exact h4
      · refine ite_of ?_ ?_
        · refine ite_of ?_ ?_
          · refine inL_mk ?_
            refine bump_canon ?_
            exact h4
          · split
            rename_i v13 v14 v15 v16
            have h17 : State.Canon v14 := by
              refine (of_eq (P := (InL State.Canon)) v16 ?_)
              refine moveWrite_canon ?_
              exact h4
            refine inL_mk ?_
            refine bump_canon ?_
            exact h17
        · refine ite_of ?_ ?_
          · refine inL_mk ?_
            refine bump_canon ?_
            exact h4
          · extract_lets +onlyGivenNames y18
            clear_value y18
            extract_lets +onlyGivenNames y19
            clear_value y19
            extract_lets +onlyGivenNames y20
            have h21 : State.Canon y20 := by
              unfold y20
              refine ite_of ?_ ?_
              · refine bump_canon ?_
                exact h4
              · exact h4
            clear_value y20
            extract_lets +onlyGivenNames y22
            have h23 : State.Canon y22 := by
              unfold y22
              refine ite_of ?_ ?_
              · refine bump_canon ?_
                exact h21
              · exact h21
            clear_value y22
            extract_lets +onlyGivenNames y24
            have h25 : State.Canon y24 := by
              unfold y24
              refine ite_of ?_ ?_
              · refine bump_canon ?_
                exact h23
              · exact h23
            clear_value y24
            split
            · rename_i v26 v27
              refine inL_mk ?_
              exact h25
            · rename_i v28 v29 v30
              split
              rename_i v31 v32 v33 v34
              have h35 : State.Canon v32 := by
                refine (of_eq (P := (InL State.Canon)) v34 ?_)
                refine moveWrite_canon ?_
                exact h25
              refine inL_mk ?_
              refine bump_canon ?_
              exact h35

theorem signalMoves_canon {b : Nat} {pdu : List Byte} {a : Nat} {a3 : Nat} {a4 : Machine.State} (hc1 : a4.Canon) :
    InL State.Canon (signalMoves b pdu a a3 a4) := by
  fun_induction signalMoves b pdu a a3 a4
  · rename_i v0 v1
    refine inL_mk ?_
    exact hc1
  · rename_i v2 v3 v4 v5 v6 v7 v8 v9 v10 v11
    have h12 : State.Canon v5 := by
      refine (of_eq (P := (InL State.Canon)) v7 ?_)
      refine signalMove_canon ?_
      exact hc1
    have h13 : State.Canon v8 := by
      refine (of_eq (P := (InL State.Canon)) v10 ?_)
      refine v11 ?_
      exact h12
    refine inL_mk ?_
    exact h13

theorem routeCopy_canon {b : Nat} {dest : Nat} {txq : Nat} {fmt : Nat} {oid : Nat} {oext : Nat} {it : RItem} {s : Machine.State} (hc1 : s.Canon) :
    (routeCopy b dest txq fmt oid oext it s).Canon := by
  unfold routeCopy
  extract_lets +onlyGivenNames y0
  clear_value y0
  refine ite_of ?_ ?_
  · refine ite_of ?_ ?_
    · refine formatDrop_canon ?_
      exact hc1
    · refine hostItem_canon ?_
      exact hc1
  · refine deliver_canon ?_
    exact hc1

theorem routeForward_canon {b : Nat} {r : Nat} {it : RItem} {s : Machine.State} (hc1 : s.Canon) :
    (routeForward b r it s).Canon := by
  unfold routeForward
  extract_lets +onlyGivenNames y0
  clear_value y0
  extract_lets +onlyGivenNames y1
  clear_value y1
  extract_lets +onlyGivenNames y2
  clear_value y2
  extract_lets +onlyGivenNames y3
  clear_value y3
  extract_lets +onlyGivenNames y4
  clear_value y4
  extract_lets +onlyGivenNames y5
  clear_value y5
  split
  · rename_i v6 v7
    refine routeCopy_canon ?_
    exact hc1
  · rename_i v8 v9
    extract_lets +onlyGivenNames y10
    clear_value y10
    refine foldl_of ?_ ?_
    · exact hc1
    · intro x11
      intro x12
      intro h13
      extract_lets +onlyGivenNames y14
      clear_value y14
      refine ite_of ?_ ?_
      · refine routeCopy_canon ?_
        exact h13
      · exact h13
  · rename_i v15 v16
    extract_lets +onlyGivenNames y17
    clear_value y17
    refine ite_of ?_ ?_
    · refine containerPlace_canon ?_
      exact hc1
    · refine formatDrop_canon ?_
      exact hc1
  · rename_i v18 v19 v20 v21
    exact hc1

theorem imageChanged_canon {b : Nat} {i : Nat} {s : Machine.State} (hc1 : s.Canon) : (imageChanged b i s).Canon := by
  unfold imageChanged
  extract_lets +onlyGivenNames y0
  have h1 : State.Canon y0 := by
    unfold y0
    refine wrB_canon ?_
    exact hc1
  clear_value y0
  refine ite_of ?_ ?_
  · refine ite_of ?_ ?_
    · refine wrB_canon ?_
      exact h1
    · refine imageSend_canon ?_
      exact h1
  · exact h1

theorem triggeredSends_canon {b : Nat} {l : List Nat} {s : Machine.State} (hc1 : s.Canon) :
    (triggeredSends b l s).Canon := by
  unfold triggeredSends
  refine foldl_of ?_ ?_
  · exact hc1
  · intro x0
    intro x1
    intro h2
    refine imageChanged_canon ?_
    exact h2

theorem routeSteps_canon {transientFree : Bool} {b : Nat} {r : Nat} {it : RItem} {pdu : List Byte} {s : Machine.State} (hc1 : s.Canon) :
    (routeSteps transientFree b r it pdu s).Canon := by
  unfold routeSteps
  extract_lets +onlyGivenNames y0
  have h1 : State.Canon y0 := by
    unfold y0
    refine timerRestart_canon ?_
    exact hc1
  clear_value y0
  extract_lets +onlyGivenNames y2
  clear_value y2
  extract_lets +onlyGivenNames y3
  clear_value y3
  refine ite_of ?_ ?_
  · refine bump_canon ?_
    refine bump_canon ?_
    exact h1
  · extract_lets +onlyGivenNames y4
    have h5 : State.Canon y4 := by
      unfold y4
      refine ite_of ?_ ?_
      · exact h1
      · refine setTokens_canon ?_
        exact h1
    clear_value y4
    extract_lets +onlyGivenNames y6
    clear_value y6
    split
    rename_i v7 v8 v9 v10
    have h11 : State.Canon v8 := by
      refine (of_eq (P := (InL State.Canon)) v10 ?_)
      refine signalMoves_canon ?_
      exact h5
    extract_lets +onlyGivenNames y12
    clear_value y12
    extract_lets +onlyGivenNames y13
    have h14 : State.Canon y13 := by
      unfold y13
      refine ite_of ?_ ?_
      · refine routeForward_canon ?_
        exact h11
      · refine canon_mk ?_
        exact h11
    clear_value y13
    refine triggeredSends_canon ?_
    exact h14

theorem routeLookup_canon {transientFree : Bool} {it : RItem} {s : Machine.State} (hc1 : s.Canon) :
    (routeLookup transientFree it s).Canon := by
  unfold routeLookup
  extract_lets +onlyGivenNames y0
  clear_value y0
  extract_lets +onlyGivenNames y1
  have h2 : State.Canon y1 := by
    unfold y1
    refine bump_canon ?_
    exact hc1
  clear_value y1
  extract_lets +onlyGivenNames y3
  clear_value y3
  split
  · rename_i v4 v5
    refine unmatched_canon ?_
    exact h2
  · rename_i v6 v7 v8
    split
    rename_i v9 v10 v11 v12
    have h13 : State.Canon v11 := by
      refine (of_eq (P := (InR State.Canon)) v12 ?_)
      refine srtEcc_canon ?_
      exact h2
    extract_lets +onlyGivenNames y14
    clear_value y14
    refine ite_of ?_ ?_
    · refine unmatched_canon ?_
      exact h13
    · extract_lets +onlyGivenNames y15
      have h16 : State.Canon y15 := by
        unfold y15
        refine ite_of ?_ ?_
        · refine ncRouted_canon ?_
          exact h13
        · exact h13
      clear_value y15
      refine ite_of ?_ ?_
      · extract_lets +onlyGivenNames y17
        clear_value y17
        split
        rename_i v18 v19 v20 v21
        have h22 : State.Canon v19 := by
          refine (of_eq (P := (InL State.Canon)) v21 ?_)
          refine glzVerify_canon ?_
          exact h16
        refine ite_of ?_ ?_
        · refine routeSteps_canon ?_
          refine tapsAct_canon ?_
          exact h22
        · refine raise_canon ?_
          refine bump_canon ?_
          exact h22
      · refine routeSteps_canon ?_
        refine tapsAct_canon ?_
        exact h16

theorem lqFill_canon {s : Machine.State} (hc1 : s.Canon) : (lqFill s).Canon := by
  unfold lqFill
  extract_lets +onlyGivenNames y0
  have h1 : State.Canon y0 := by
    unfold y0
    refine forN_of ?_ ?_
    · exact hc1
    · intro x2
      intro x3
      intro h4
      refine pumpPort_canon ?_
      exact h4
  clear_value y0
  extract_lets +onlyGivenNames y5
  clear_value y5
  refine lqLive_canon ?_
  refine canon_mk ?_
  exact h1

theorem execRouteLookup_canon {transientFree : Bool} {s : Machine.State} (hc1 : s.Canon) :
    Goes State.Canon (execRouteLookup transientFree s) := by
  unfold execRouteLookup
  refine done_canon ?_
  split
  · rename_i v0 v1
    exact hc1
  · rename_i v2 v3 v4 v5
    refine nmwSettle_canon ?_
    refine routeLookup_canon ?_
    refine lqFill_canon ?_
    refine canon_mk ?_
    exact hc1

theorem execTransientImageFree_canon {s : Machine.State} (hc1 : s.Canon) :
    Goes State.Canon (execTransientImageFree s) := by
  unfold execTransientImageFree
  refine done_canon ?_
  split
  · rename_i v0 v1
    exact hc1
  · rename_i v2 v3 v4 v5
    refine nmwSettle_canon ?_
    refine routeForward_canon ?_
    refine canon_mk ?_
    exact hc1

theorem execLimiterToken_canon {l : Fin 4096} {s : Machine.State} (hc1 : s.Canon) :
    Goes State.Canon (execLimiterToken l s) := by
  unfold execLimiterToken
  refine done_canon ?_
  extract_lets +onlyGivenNames y0
  clear_value y0
  refine ite_of ?_ ?_
  · exact hc1
  · refine setTokens_canon ?_
    exact hc1

theorem defaultMove_canon {b : Nat} {d : Nat} {s : Machine.State} (hc1 : s.Canon) :
    InL State.Canon (defaultMove b d s) := by
  unfold defaultMove
  extract_lets +onlyGivenNames y0
  clear_value y0
  extract_lets +onlyGivenNames y1
  clear_value y1
  extract_lets +onlyGivenNames y2
  clear_value y2
  extract_lets +onlyGivenNames y3
  clear_value y3
  refine ite_of ?_ ?_
  · refine inL_mk ?_
    exact hc1
  · extract_lets +onlyGivenNames y4
    clear_value y4
    extract_lets +onlyGivenNames y5
    clear_value y5
    split
    rename_i v6 v7 v8 v9
    have h10 : State.Canon v7 := by
      refine (of_eq (P := (InL State.Canon)) v9 ?_)
      refine ite_of ?_ ?_
      · refine moveWrite_canon ?_
        exact hc1
      · refine moveWrite_canon ?_
        exact hc1
    refine inL_mk ?_
    exact h10

theorem defaultMoves_canon {b : Nat} {a : Nat} {a2 : Nat} {a3 : Machine.State} (hc1 : a3.Canon) :
    InL State.Canon (defaultMoves b a a2 a3) := by
  fun_induction defaultMoves b a a2 a3
  · rename_i v0 v1
    refine inL_mk ?_
    exact hc1
  · rename_i v2 v3 v4 v5 v6 v7 v8 v9 v10 v11
    have h12 : State.Canon v5 := by
      refine (of_eq (P := (InL State.Canon)) v7 ?_)
      refine defaultMove_canon ?_
      exact hc1
    have h13 : State.Canon v8 := by
      refine (of_eq (P := (InL State.Canon)) v10 ?_)
      refine v11 ?_
      exact h12
    refine inL_mk ?_
    exact h13

theorem execRouteTimeout_canon {route : Fin 262144} {s : Machine.State} (hc1 : s.Canon) :
    Goes State.Canon (execRouteTimeout route s) := by
  unfold execRouteTimeout
  refine done_canon ?_
  split
  · rename_i v0 v1 v2 v3 v4 v5
    extract_lets +onlyGivenNames y6
    clear_value y6
    extract_lets +onlyGivenNames y7
    clear_value y7
    refine ite_of ?_ ?_
    · exact hc1
    · extract_lets +onlyGivenNames y8
      clear_value y8
      extract_lets +onlyGivenNames y9
      have h10 : State.Canon y9 := by
        unfold y9
        refine canon_mk ?_
        exact hc1
      clear_value y9
      extract_lets +onlyGivenNames y11
      have h12 : State.Canon y11 := by
        unfold y11
        refine bump_canon ?_
        refine bump_canon ?_
        refine wr_canon ?_
        exact h10
      clear_value y11
      split
      rename_i v13 v14 v15 v16
      have h17 : State.Canon v14 := by
        refine (of_eq (P := (InL State.Canon)) v16 ?_)
        refine defaultMoves_canon ?_
        refine raise_canon ?_
        exact h12
      refine nmwSettle_canon ?_
      refine triggeredSends_canon ?_
      exact h17
  · rename_i v18 v19 v20
    exact hc1

theorem execMdtExpiry_canon {img : Fin 65536} {s : Machine.State} (hc1 : s.Canon) :
    Goes State.Canon (execMdtExpiry img s) := by
  unfold execMdtExpiry
  refine done_canon ?_
  extract_lets +onlyGivenNames y0
  clear_value y0
  extract_lets +onlyGivenNames y1
  clear_value y1
  refine ite_of ?_ ?_
  · exact hc1
  · extract_lets +onlyGivenNames y2
    have h3 : State.Canon y2 := by
      unfold y2
      refine wr_canon ?_
      exact hc1
    clear_value y2
    refine ite_of ?_ ?_
    · refine nmwSettle_canon ?_
      refine imageRequest_canon ?_
      exact h3
    · exact h3

theorem execContainerFlush_canon {img : Fin 65536} {s : Machine.State} (hc1 : s.Canon) :
    Goes State.Canon (execContainerFlush img s) := by
  unfold execContainerFlush
  refine done_canon ?_
  refine ite_of ?_ ?_
  · refine nmwSettle_canon ?_
    refine containerSend_canon ?_
    exact hc1
  · exact hc1

theorem capTimestamp_canon {p : Nat} {rising : Bool} {s : Machine.State} (hc1 : s.Canon) :
    (capTimestamp p rising s).Canon := by
  unfold capTimestamp
  extract_lets +onlyGivenNames y0
  clear_value y0
  extract_lets +onlyGivenNames y1
  clear_value y1
  refine ite_of ?_ ?_
  · extract_lets +onlyGivenNames y2
    clear_value y2
    refine ite_of ?_ ?_
    · refine raise_canon ?_
      refine bump_canon ?_
      exact hc1
    · refine setPin_canon ?_
      exact hc1
  · exact hc1

theorem execPioInputChange_canon {edges : List (Fin 64 × Bool)} {s : Machine.State} (hc1 : s.Canon) :
    Goes State.Canon (execPioInputChange edges s) := by
  unfold execPioInputChange
  extract_lets +onlyGivenNames y0
  clear_value y0
  extract_lets +onlyGivenNames y1
  have h2 : State.Canon y1 := by
    unfold y1
    refine foldl_of ?_ ?_
    · exact hc1
    · intro x3
      intro x4
      intro h5
      extract_lets +onlyGivenNames y6
      clear_value y6
      extract_lets +onlyGivenNames y7
      have h8 : State.Canon y7 := by
        unfold y7
        refine setPin_canon ?_
        refine wrB_canon ?_
        exact h5
      clear_value y7
      refine capTimestamp_canon ?_
      exact h8
  clear_value y1
  refine done_canon ?_
  refine nmwSettle_canon ?_
  refine reflexEvent_canon ?_
  exact h2

theorem execReflexPulseEnd_canon {pin : Fin 64} {s : Machine.State} (hc1 : s.Canon) :
    Goes State.Canon (execReflexPulseEnd pin s) := by
  unfold execReflexPulseEnd
  refine done_canon ?_
  split
  · rename_i v0 v1 v2
    refine pinRequest_canon ?_
    refine setPin_canon ?_
    refine wrB_canon ?_
    exact hc1
  · rename_i v3 v4
    exact hc1

theorem execReflexPwmPeriod_canon {pin : Fin 64} {s : Machine.State} (hc1 : s.Canon) :
    Goes State.Canon (execReflexPwmPeriod pin s) := by
  unfold execReflexPwmPeriod
  refine done_canon ?_
  split
  · rename_i v0 v1 v2 v3
    extract_lets +onlyGivenNames y4
    clear_value y4
    refine pwmPeriod_canon ?_
    exact hc1
  · rename_i v5 v6
    exact hc1

theorem execCapPeriodDone_canon {pin : Fin 64} {period : Word} {high : Word} {s : Machine.State} (hc1 : s.Canon) :
    Goes State.Canon (execCapPeriodDone pin period high s) := by
  unfold execCapPeriodDone
  extract_lets +onlyGivenNames y0
  clear_value y0
  extract_lets +onlyGivenNames y1
  have h2 : State.Canon y1 := by
    unfold y1
    refine wr_canon ?_
    refine wr_canon ?_
    refine wr_canon ?_
    refine wrB_canon ?_
    exact hc1
  clear_value y1
  extract_lets +onlyGivenNames y3
  clear_value y3
  refine done_canon ?_
  refine nmwSettle_canon ?_
  refine reflexEvent_canon ?_
  refine setLive_canon ?_
  exact h2

theorem execCapStuck_canon {pin : Fin 64} {s : Machine.State} (hc1 : s.Canon) :
    Goes State.Canon (execCapStuck pin s) := by
  unfold execCapStuck
  extract_lets +onlyGivenNames y0
  clear_value y0
  extract_lets +onlyGivenNames y1
  have h2 : State.Canon y1 := by
    unfold y1
    refine wr_canon ?_
    refine wr_canon ?_
    refine wr_canon ?_
    refine wrB_canon ?_
    exact hc1
  clear_value y1
  refine done_canon ?_
  refine nmwSettle_canon ?_
  refine reflexEvent_canon ?_
  refine raiseLive_canon ?_
  exact h2

theorem gateTooLong_canon {n : Nat} {c : Nat} {a : Nat} {a3 : Machine.State} (hc1 : a3.Canon) :
    (gateTooLong n c a a3).Canon := by
  fun_induction gateTooLong n c a a3
  · rename_i v0
    exact hc1
  · rename_i v1 v2 v3
    exact hc1
  · rename_i v4 v5 v6 v7 v8 v9
    refine v9 ?_
    refine sendLost_canon ?_
    refine shfUnref_canon ?_
    refine raise_canon ?_
    refine bump_canon ?_
    refine shfPop_canon ?_
    exact hc1
  · rename_i v10 v11 v12 v13 v14
    exact hc1

theorem dwrrPick_canon {n : Nat} {mask : Nat} {a : Nat} {a3 : Machine.State} (hc1 : a3.Canon) :
    InR State.Canon (dwrrPick n mask a a3) := by
  fun_induction dwrrPick n mask a a3
  · rename_i v0
    refine inR_mk ?_
    exact hc1
  · rename_i v1 v2 v3 v4 v5 v6 v7
    refine inR_mk ?_
    refine setMac_canon ?_
    exact hc1
  · rename_i v8 v9 v10 v11 v12 v13 v14 v15 v16
    refine v16 ?_
    refine setMac_canon ?_
    exact hc1

theorem portPick_canon {n : Nat} {s : Machine.State} (hc1 : s.Canon) : InR State.Canon (portPick n s) := by
  unfold portPick
  extract_lets +onlyGivenNames y0
  clear_value y0
  extract_lets +onlyGivenNames y1
  clear_value y1
  extract_lets +onlyGivenNames y2
  clear_value y2
  split
  · rename_i v3 v4
    refine inR_mk ?_
    exact hc1
  · rename_i v5 v6 v7
    refine ite_of ?_ ?_
    · refine dwrrPick_canon ?_
      exact hc1
    · refine inR_mk ?_
      exact hc1

theorem execPortSelect_canon {port : Fin 24} {s : Machine.State} (hc1 : s.Canon) :
    Goes State.Canon (execPortSelect port s) := by
  unfold execPortSelect
  refine done_canon ?_
  extract_lets +onlyGivenNames y0
  clear_value y0
  refine ite_of ?_ ?_
  · extract_lets +onlyGivenNames y1
    have h2 : State.Canon y1 := by
      unfold y1
      refine forN_of ?_ ?_
      · refine cbsUpdate_canon ?_
        exact hc1
      · intro x3
        intro x4
        intro h5
        refine gateTooLong_canon ?_
        exact h5
    clear_value y1
    split
    · rename_i v6 v7 v8 v9
      have h10 : State.Canon v8 := by
        refine (of_eq (P := (InR State.Canon)) v9 ?_)
        refine portPick_canon ?_
        exact h2
      refine nmwSettle_canon ?_
      refine portServe_canon ?_
      exact h10
    · rename_i v11 v12 v13
      have h14 : State.Canon v12 := by
        refine (of_eq (P := (InR State.Canon)) v13 ?_)
        refine portPick_canon ?_
        exact h2
      refine nmwSettle_canon ?_
      exact h14
  · exact hc1

theorem execGclEntry_canon {port : Fin 24} {s : Machine.State} (hc1 : s.Canon) :
    Goes State.Canon (execGclEntry port s) := by
  unfold execGclEntry
  refine done_canon ?_
  extract_lets +onlyGivenNames y0
  clear_value y0
  extract_lets +onlyGivenNames y1
  clear_value y1
  split
  · rename_i v2 v3
    exact hc1
  · rename_i v4 v5 v6
    refine ite_of ?_ ?_
    · exact hc1
    · extract_lets +onlyGivenNames y7
      clear_value y7
      extract_lets +onlyGivenNames y8
      have h9 : State.Canon y8 := by
        unfold y8
        refine setMac_canon ?_
        exact hc1
      clear_value y8
      refine ite_of ?_ ?_
      · refine setGates_canon ?_
        exact h9
      · exact h9

theorem execResidueAdmit_canon {port : Fin 28} {c : Fin 8} {s : Machine.State} (hc1 : s.Canon) :
    Goes State.Canon (execResidueAdmit port c s) := by
  unfold execResidueAdmit
  refine done_canon ?_
  refine shfSettle_canon ?_
  refine kilnTake_canon ?_
  refine residueAdmit_canon ?_
  exact hc1

theorem execResidueExpiry_canon {c : Fin 8} {s : Machine.State} (hc1 : s.Canon) :
    Goes State.Canon (execResidueExpiry c s) := by
  unfold execResidueExpiry
  refine done_canon ?_
  split
  · rename_i v0 v1
    exact hc1
  · rename_i v2 v3 v4 v5 v6
    refine shfSettle_canon ?_
    refine raise_canon ?_
    refine residueDrop_canon ?_
    refine setResidue_canon ?_
    exact hc1

end Sys2Proof.Machine
end

