-- ==== Sys2Proof/Laws/Canon5.lean ====
section
/-! SUPPORT. Sys2Proof/Laws/Canon5.lean: every operation keeps the canonical form of the stores (State.Canon), one lemma per operation, part 5. -/

set_option linter.unusedVariables false

namespace Sys2Proof.Machine
open Sys2Proof

theorem execFrerResetTimeout_canon {st : Fin 4096} {s : Machine.State} (hc1 : s.Canon) :
    Goes State.Canon (execFrerResetTimeout st s) := by
  unfold execFrerResetTimeout
  refine done_canon ?_
  refine ite_of ?_ ?_
  · exact hc1
  · refine raise_canon ?_
    refine bump_canon ?_
    refine wrB_canon ?_
    exact hc1

theorem mapSeq_canon {q : Nat} {k : Nat} {f : Pkt → Pkt} {s : Machine.State} (hc1 : s.Canon) :
    (mapSeq q k f s).Canon := by
  unfold mapSeq
  extract_lets +onlyGivenNames y0
  clear_value y0
  extract_lets +onlyGivenNames y1
  have h2 : State.Canon y1 := by
    unfold y1
    refine setRsq_canon ?_
    refine setEq_canon ?_
    exact hc1
  clear_value y1
  refine canon_mk ?_
  exact h2

theorem execSpillWriteDone_canon {q : Fin 1280} {seq : Word} {addr : Nat} {s : Machine.State} (hc1 : s.Canon) :
    Goes State.Canon (execSpillWriteDone q seq addr s) := by
  unfold execSpillWriteDone
  refine done_canon ?_
  split
  · rename_i v0 v1 v2
    extract_lets +onlyGivenNames y3
    clear_value y3
    refine ite_of ?_ ?_
    · exact hc1
    · extract_lets +onlyGivenNames y4
      have h5 : State.Canon y4 := by
        unfold y4
        refine setPkt_canon ?_
        exact hc1
      clear_value y4
      refine shfSettle_canon ?_
      split
      · rename_i v6 v7 v8 v9
        refine ite_of ?_ ?_
        · refine mapSeq_canon ?_
          refine injDone_canon ?_
          exact h5
        · exact h5
      · rename_i v10 v11
        exact h5
  · rename_i v12 v13
    exact hc1

theorem readIssue_canon {p : Pkt} {s : Machine.State} (hc1 : s.Canon) : (readIssue p s).Canon := by
  unfold readIssue
  extract_lets +onlyGivenNames y0
  clear_value y0
  refine ite_of ?_ ?_
  · refine setPkt_canon ?_
    exact hc1
  · exact hc1

theorem execReseqTake_canon {q : Fin 1280} {s : Machine.State} (hc1 : s.Canon) :
    Goes State.Canon (execReseqTake q s) := by
  unfold execReseqTake
  refine done_canon ?_
  split
  · rename_i v0 v1 v2 v3
    refine ite_of ?_ ?_
    · refine shfSettle_canon ?_
      refine readIssue_canon ?_
      refine setRsq_canon ?_
      refine setEq_canon ?_
      exact hc1
    · exact hc1
  · rename_i v4 v5
    exact hc1

theorem ovfCorr_canon {scrub : Bool} {s : Machine.State} (hc1 : s.Canon) : (ovfCorr scrub s).Canon := by
  unfold ovfCorr
  refine ite_of ?_ ?_
  · refine bump_canon ?_
    exact hc1
  · refine raise_canon ?_
    refine bump_canon ?_
    exact hc1

theorem ovfUncorr_canon {part : Nat} {scrub : Bool} {addr : Nat} {s : Machine.State} (hc1 : s.Canon) :
    (ovfUncorr part scrub addr s).Canon := by
  unfold ovfUncorr
  extract_lets +onlyGivenNames y0
  have h1 : State.Canon y0 := by
    unfold y0
    refine raise_canon ?_
    refine bump_canon ?_
    exact hc1
  clear_value y0
  extract_lets +onlyGivenNames y2
  have h3 : State.Canon y2 := by
    unfold y2
    refine ite_of ?_ ?_
    · refine raise_canon ?_
      exact h1
    · exact h1
  clear_value y2
  refine ite_of ?_ ?_
  · refine wrB_canon ?_
    exact h3
  · refine wrWords_canon ?_
    exact h3

theorem reseqLate_canon {q : Nat} {p : Pkt} {s : Machine.State} (hc1 : s.Canon) : (reseqLate q p s).Canon := by
  unfold reseqLate
  extract_lets +onlyGivenNames y0
  clear_value y0
  refine bump_canon ?_
  refine shfUnref_canon ?_
  refine canon_mk ?_
  exact hc1

theorem execReadbackDone_canon {q : Fin 1280} {seq : Word} {corr : Nat} {bad : Option Nat} {s : Machine.State} (hc1 : s.Canon) :
    Goes State.Canon (execReadbackDone q seq corr bad s) := by
  unfold execReadbackDone
  refine done_canon ?_
  split
  · rename_i v0 v1 v2
    extract_lets +onlyGivenNames y3
    have h4 : State.Canon y3 := by
      unfold y3
      refine readIssue_canon ?_
      exact hc1
    clear_value y3
    extract_lets +onlyGivenNames y5
    clear_value y5
    extract_lets +onlyGivenNames y6
    clear_value y6
    refine ite_of ?_ ?_
    · exact h4
    · extract_lets +onlyGivenNames y7
      clear_value y7
      extract_lets +onlyGivenNames y8
      clear_value y8
      extract_lets +onlyGivenNames y9
      have h10 : State.Canon y9 := by
        unfold y9
        refine forN_of ?_ ?_
        · exact h4
        · intro x11
          intro x12
          intro h13
          refine ovfCorr_canon ?_
          exact h13
      clear_value y9
      refine shfSettle_canon ?_
      split
      · rename_i v14 v15
        extract_lets +onlyGivenNames y16
        have h17 : State.Canon y16 := by
          unfold y16
          refine setRsq_canon ?_
          refine ovfUncorr_canon ?_
          exact h10
        clear_value y16
        extract_lets +onlyGivenNames y18
        clear_value y18
        refine shfUnref_canon ?_
        refine canon_mk ?_
        exact h17
      · rename_i v19
        extract_lets +onlyGivenNames y20
        have h21 : State.Canon y20 := by
          unfold y20
          refine setPkt_canon ?_
          exact h10
        clear_value y20
        refine ite_of ?_ ?_
        · refine reseqLate_canon ?_
          exact h21
        · refine setRsq_canon ?_
          exact h21
  · rename_i v22 v23
    exact hc1

theorem execReseqGap_canon {q : Fin 1280} {s : Machine.State} (hc1 : s.Canon) :
    Goes State.Canon (execReseqGap q s) := by
  unfold execReseqGap
  refine done_canon ?_
  extract_lets +onlyGivenNames y0
  clear_value y0
  refine ite_of ?_ ?_
  · exact hc1
  · extract_lets +onlyGivenNames y1
    clear_value y1
    extract_lets +onlyGivenNames y2
    have h3 : State.Canon y2 := by
      unfold y2
      refine setRsq_canon ?_
      exact hc1
    clear_value y2
    extract_lets +onlyGivenNames y4
    have h5 : State.Canon y4 := by
      unfold y4
      refine setEq_canon ?_
      exact h3
    clear_value y4
    extract_lets +onlyGivenNames y6
    clear_value y6
    extract_lets +onlyGivenNames y7
    clear_value y7
    extract_lets +onlyGivenNames y8
    have h9 : State.Canon y8 := by
      unfold y8
      refine canon_mk ?_
      exact h5
    clear_value y8
    refine shfSettle_canon ?_
    refine raise_canon ?_
    refine bump_canon ?_
    refine wr_canon ?_
    exact h9

theorem ovfTrained_canon {pass : Bool} {densityMib : Nat} {s : Machine.State} (hc1 : s.Canon) :
    (ovfTrained pass densityMib s).Canon := by
  unfold ovfTrained
  refine ite_of ?_ ?_
  · refine setLive_canon ?_
    refine wr_canon ?_
    exact hc1
  · refine liveTo_canon ?_
    refine wr_canon ?_
    exact hc1

theorem execOvfTraining_canon {pass : Bool} {densityMib : Fin 16385} {s : Machine.State} (hc1 : s.Canon) :
    Goes State.Canon (execOvfTraining pass densityMib s) := by
  unfold execOvfTraining
  refine done_canon ?_
  extract_lets +onlyGivenNames y0
  have h1 : State.Canon y0 := by
    unfold y0
    refine ovfTrained_canon ?_
    exact hc1
  clear_value y0
  refine ite_of ?_ ?_
  · extract_lets +onlyGivenNames y2
    clear_value y2
    extract_lets +onlyGivenNames y3
    clear_value y3
    extract_lets +onlyGivenNames y4
    have h5 : State.Canon y4 := by
      unfold y4
      refine wrF_canon ?_
      refine canon_mk ?_
      exact h1
    clear_value y4
    extract_lets +onlyGivenNames y6
    clear_value y6
    refine cfgNext_canon ?_
    refine canon_mk ?_
    exact h5
  · exact h1

theorem execOvfRetrain_canon {begins : Bool} {s : Machine.State} (hc1 : s.Canon) :
    Goes State.Canon (execOvfRetrain begins s) := by
  unfold execOvfRetrain
  refine done_canon ?_
  refine ite_of ?_ ?_
  · refine wrB_canon ?_
    exact hc1
  · exact hc1

theorem execPatrolScrub_canon {addr : Nat} {bits : Fin 3} {s : Machine.State} (hc1 : s.Canon) :
    Goes State.Canon (execPatrolScrub addr bits s) := by
  unfold execPatrolScrub
  refine done_canon ?_
  split
  rename_i v0 v1 v2 v3
  have h4 : State.Canon v2 := by
    refine (of_eq (P := (InR State.Canon)) v3 ?_)
    split
    · rename_i v5 v6 v7 v8
      refine ite_of ?_ ?_
      · refine inR_mk ?_
        refine injDone_canon ?_
        exact hc1
      · refine inR_mk ?_
        exact hc1
    · rename_i v9 v10
      refine inR_mk ?_
      exact hc1
  refine ite_of ?_ ?_
  · exact h4
  · refine ite_of ?_ ?_
    · refine ovfCorr_canon ?_
      exact h4
    · refine ovfUncorr_canon ?_
      exact h4

theorem execWmMaxRead_canon {hst : Bool} {m : Fin 1024} {s : Machine.State} (hc1 : s.Canon) :
    Goes State.Canon (execWmMaxRead hst m s) := by
  unfold execWmMaxRead
  refine done_canon ?_
  extract_lets +onlyGivenNames y0
  clear_value y0
  refine setRdata_canon ?_
  refine ite_of ?_ ?_
  · refine wr_canon ?_
    exact hc1
  · refine wr_canon ?_
    exact hc1

theorem execDebugChallengeExpiry_canon {s : Machine.State} (hc1 : s.Canon) :
    Goes State.Canon (execDebugChallengeExpiry s) := by
  unfold execDebugChallengeExpiry
  refine done_canon ?_
  refine modSag_canon ?_
  exact hc1

theorem remask_canon {a : List CacheEnt} {a1 : Machine.State} (hc1 : a1.Canon) : InR State.Canon (remask a a1) := by
  fun_induction remask a a1
  · rename_i v0
    refine inR_mk ?_
    exact hc1
  · rename_i v1 v2 v3 v4 v5 v6 v7 v8 v9 v10 v11
    have h12 : State.Canon v5 := by
      refine (of_eq (P := (InR State.Canon)) v6 ?_)
      refine draw_canon ?_
      exact hc1
    have h13 : State.Canon v9 := by
      refine (of_eq (P := (InR State.Canon)) v10 ?_)
      refine v11 ?_
      exact h12
    refine inR_mk ?_
    exact h13

theorem execKeyRemask_canon {s : Machine.State} (hc1 : s.Canon) : Goes State.Canon (execKeyRemask s) := by
  unfold execKeyRemask
  refine done_canon ?_
  split
  rename_i v0 v1 v2 v3
  have h4 : State.Canon v2 := by
    refine (of_eq (P := (InR State.Canon)) v3 ?_)
    refine remask_canon ?_
    exact hc1
  refine modSag_canon ?_
  exact h4

theorem execKeyDerivation_canon {h : Fin 4096} {s : Machine.State} (hc1 : s.Canon) :
    Goes State.Canon (execKeyDerivation h s) := by
  unfold execKeyDerivation
  refine done_canon ?_
  refine ite_of ?_ ?_
  · exact hc1
  · refine deriveKey_canon ?_
    exact hc1

theorem execZeroizePin_canon {s : Machine.State} (hc1 : s.Canon) : Goes State.Canon (execZeroizePin s) := by
  unfold execZeroizePin
  refine done_canon ?_
  refine zeroise_canon ?_
  exact hc1

theorem ringToken_canon {c : Nat} {s : Machine.State} (hc1 : s.Canon) : (ringToken c s).Canon := by
  unfold ringToken
  extract_lets +onlyGivenNames y0
  clear_value y0
  extract_lets +onlyGivenNames y1
  clear_value y1
  extract_lets +onlyGivenNames y2
  clear_value y2
  refine ite_of ?_ ?_
  · refine setNcState_canon ?_
    refine ringSend_canon ?_
    refine setNc_canon ?_
    exact hc1
  · refine ringPass_canon ?_
    exact hc1

theorem ringAccept_canon {c : Nat} {gpn : Nat} {msg : List Byte} {wake : Bool} {s : Machine.State} (hc1 : s.Canon) :
    (ringAccept c gpn msg wake s).Canon := by
  unfold ringAccept
  extract_lets +onlyGivenNames y0
  clear_value y0
  extract_lets +onlyGivenNames y1
  clear_value y1
  extract_lets +onlyGivenNames y2
  have h3 : State.Canon y2 := by
    unfold y2
    refine setNc_canon ?_
    exact hc1
  clear_value y2
  extract_lets +onlyGivenNames y4
  have h5 : State.Canon y4 := by
    unfold y4
    refine ncPresent_canon ?_
    refine wrF_canon ?_
    exact h3
  clear_value y4
  extract_lets +onlyGivenNames y6
  have h7 : State.Canon y6 := by
    unfold y6
    refine foldl_of ?_ ?_
    · exact h5
    · intro x8
      intro x9
      intro h10
      refine ringOn_canon ?_
      exact h10
  clear_value y6
  extract_lets +onlyGivenNames y11
  have h12 : State.Canon y11 := by
    unfold y11
    refine ite_of ?_ ?_
    · exact h7
    · refine ncValidated_canon ?_
      exact h7
  clear_value y11
  split
  · rename_i v13 v14 v15 v16
    refine ite_of ?_ ?_
    · refine ringToken_canon ?_
      exact h12
    · exact h12
  · rename_i v17 v18 v19 v20
    refine setNcState_canon ?_
    refine setNc_canon ?_
    exact h12
  · rename_i v21 v22 v23 v24
    refine sleepAbort_canon ?_
    exact h12
  · rename_i v25 v26 v27 v28
    refine clusterWake_canon ?_
    refine raise_canon ?_
    exact h12
  · rename_i v29 v30 v31 v32 v33 v34
    exact h12

theorem execRingMsgRx_canon {s : Machine.State} (hc1 : s.Canon) : Goes State.Canon (execRingMsgRx s) := by
  unfold execRingMsgRx
  refine done_canon ?_
  split
  · rename_i v0 v1
    exact hc1
  · rename_i v2 v3 v4 v5 v6 v7
    extract_lets +onlyGivenNames y8
    clear_value y8
    extract_lets +onlyGivenNames y9
    have h10 : State.Canon y9 := by
      unfold y9
      refine canon_mk ?_
      exact hc1
    clear_value y9
    extract_lets +onlyGivenNames y11
    clear_value y11
    refine ite_of ?_ ?_
    · refine nmwSettle_canon ?_
      refine ringAccept_canon ?_
      exact h10
    · refine bump_canon ?_
      exact h10

theorem execRingSuccessorTimeout_canon {c : Fin 16} {s : Machine.State} (hc1 : s.Canon) :
    Goes State.Canon (execRingSuccessorTimeout c s) := by
  unfold execRingSuccessorTimeout
  refine done_canon ?_
  split
  · rename_i v0 v1 v2
    refine ite_of ?_ ?_
    · extract_lets +onlyGivenNames y3
      clear_value y3
      extract_lets +onlyGivenNames y4
      have h5 : State.Canon y4 := by
        unfold y4
        refine setNc_canon ?_
        exact hc1
      clear_value y4
      refine ringPass_canon ?_
      refine raise_canon ?_
      refine ncPresent_canon ?_
      refine bump_canon ?_
      exact h5
    · exact hc1
  · rename_i v6 v7
    exact hc1

theorem execTokenLost_canon {c : Fin 16} {s : Machine.State} (hc1 : s.Canon) :
    Goes State.Canon (execTokenLost c s) := by
  unfold execTokenLost
  refine done_canon ?_
  refine ite_of ?_ ?_
  · refine raise_canon ?_
    refine bump_canon ?_
    refine ringPass_canon ?_
    refine ringOwn_canon ?_
    exact hc1
  · exact hc1

theorem execSleepCommit_canon {c : Fin 16} {s : Machine.State} (hc1 : s.Canon) :
    Goes State.Canon (execSleepCommit c s) := by
  unfold execSleepCommit
  refine done_canon ?_
  refine ite_of ?_ ?_
  · exact hc1
  · refine ite_of ?_ ?_
    · refine ncSettle_canon ?_
      exact hc1
    · extract_lets +onlyGivenNames y0
      have h1 : State.Canon y0 := by
        unfold y0
        refine raise_canon ?_
        refine bump_canon ?_
        exact hc1
      clear_value y0
      extract_lets +onlyGivenNames y2
      have h3 : State.Canon y2 := by
        unfold y2
        refine foldl_of ?_ ?_
        · exact h1
        · intro x4
          intro x5
          intro h6
          extract_lets +onlyGivenNames y7
          have h8 : (InR State.Canon) y7 := by
            unfold y7
            refine fxqFlush_canon ?_
            exact h6
          clear_value y7
          refine bumpN_canon ?_
          refine inR_snd ?_
          exact h8
      clear_value y2
      refine setNcState_canon ?_
      refine foldl_of ?_ ?_
      · exact h3
      · intro x9
        intro x10
        intro h11
        refine portSleep_canon ?_
        exact h11

theorem falseWake_canon {n : Nat} {s : Machine.State} (hc1 : s.Canon) : (falseWake n s).Canon := by
  unfold falseWake
  extract_lets +onlyGivenNames y0
  have h1 : State.Canon y0 := by
    unfold y0
    refine satInc_canon ?_
    refine satInc_canon ?_
    exact hc1
  clear_value y0
  extract_lets +onlyGivenNames y2
  clear_value y2
  refine ite_of ?_ ?_
  · extract_lets +onlyGivenNames y3
    have h4 : State.Canon y3 := by
      unfold y3
      refine raise_canon ?_
      exact h1
    clear_value y3
    refine ite_of ?_ ?_
    · refine raise_canon ?_
      refine mutedLive_canon ?_
      refine wrF_canon ?_
      refine wrB_canon ?_
      exact h4
    · exact h4
  · exact h1

theorem execWakeValidationTimeout_canon {c : Fin 16} {s : Machine.State} (hc1 : s.Canon) :
    Goes State.Canon (execWakeValidationTimeout c s) := by
  unfold execWakeValidationTimeout
  refine done_canon ?_
  refine ite_of ?_ ?_
  · exact hc1
  · extract_lets +onlyGivenNames y0
    have h1 : State.Canon y0 := by
      unfold y0
      refine bump_canon ?_
      exact hc1
    clear_value y0
    extract_lets +onlyGivenNames y2
    have h3 : State.Canon y2 := by
      unfold y2
      split
      · rename_i v4 v5 v6
        refine ite_of ?_ ?_
        · refine falseWake_canon ?_
          refine portSleep_canon ?_
          exact h1
        · refine portSleep_canon ?_
          exact h1
      · rename_i v7 v8
        exact h1
    clear_value y2
    refine setNcState_canon ?_
    refine setNc_canon ?_
    exact h3

theorem execWakeMuteEnd_canon {port : Fin 128} {s : Machine.State} (hc1 : s.Canon) :
    Goes State.Canon (execWakeMuteEnd port s) := by
  unfold execWakeMuteEnd
  refine done_canon ?_
  refine ite_of ?_ ?_
  · refine muteEnd_canon ?_
    exact hc1
  · exact hc1

theorem execStandbyAuto_canon {s : Machine.State} (hc1 : s.Canon) : Goes State.Canon (execStandbyAuto s) := by
  unfold execStandbyAuto
  refine done_canon ?_
  refine ite_of ?_ ?_
  · refine standbyStart_canon ?_
    exact hc1
  · exact hc1

theorem standbyPads_canon {n : Nat} {s : Machine.State} (hc1 : s.Canon) : (standbyPads n s).Canon := by
  unfold standbyPads
  extract_lets +onlyGivenNames y0
  clear_value y0
  split
  · rename_i v1 v2
    extract_lets +onlyGivenNames y3
    have h4 : State.Canon y3 := by
      unfold y3
      refine emit_canon ?_
      exact hc1
    clear_value y3
    refine ite_of ?_ ?_
    · refine emit_canon ?_
      exact h4
    · exact h4
  · rename_i v5 v6
    refine emit_canon ?_
    exact hc1
  · rename_i v7 v8
    refine emit_canon ?_
    exact hc1
  · rename_i v9 v10 v11 v12
    exact hc1

theorem execStandbyDone_canon {s : Machine.State} (hc1 : s.Canon) : Goes State.Canon (execStandbyDone s) := by
  unfold execStandbyDone
  refine done_canon ?_
  refine ite_of ?_ ?_
  · extract_lets +onlyGivenNames y0
    have h1 : State.Canon y0 := by
      unfold y0
      refine coreReset_canon ?_
      refine forN_of ?_ ?_
      · exact hc1
      · intro x2
        intro x3
        intro h4
        refine standbyPads_canon ?_
        exact h4
    clear_value y0
    extract_lets +onlyGivenNames y5
    have h6 : State.Canon y5 := by
      unfold y5
      refine wrB_canon ?_
      exact h1
    clear_value y5
    refine ite_of ?_ ?_
    · refine standbyExit_canon ?_
      exact h6
    · exact h6
  · exact hc1

theorem execStandbyWake_canon {source : Fin 6} {index : Fin 128} {mask : Fin 8} {id : Fin 536870912} {s : Machine.State} (hc1 : s.Canon) :
    Goes State.Canon (execStandbyWake source index mask id s) := by
  unfold execStandbyWake
  refine done_canon ?_
  refine ite_of ?_ ?_
  · exact hc1
  · refine ite_of ?_ ?_
    · refine satInc_canon ?_
      exact hc1
    · refine footWake_canon ?_
      exact hc1

theorem execStandbyTimerExpiry_canon {s : Machine.State} (hc1 : s.Canon) :
    Goes State.Canon (execStandbyTimerExpiry s) := by
  unfold execStandbyTimerExpiry
  refine done_canon ?_
  refine ite_of ?_ ?_
  · exact hc1
  · refine footWake_canon ?_
    exact hc1

theorem sendHand_canon {q : Nat} {eop : Nat} {d : SendDesc} {data : List Byte} {s : Machine.State} (hc1 : s.Canon) :
    (sendHand q eop d data s).Canon := by
  unfold sendHand
  split
  · rename_i v0 v1
    extract_lets +onlyGivenNames y2
    clear_value y2
    split
    · rename_i v3 v4 v5 v6
      have h7 : State.Canon v5 := by
        refine (of_eq (P := (InR State.Canon)) v6 ?_)
        refine shfArrive_canon ?_
        exact hc1
      refine ingAppend_canon ?_
      exact h7
    · rename_i v8 v9 v10
      have h11 : State.Canon v9 := by
        refine (of_eq (P := (InR State.Canon)) v10 ?_)
        refine shfArrive_canon ?_
        exact hc1
      refine sendLost_canon ?_
      exact h11
  · rename_i v12 v13
    refine lqLive_canon ?_
    refine lqItem_canon ?_
    exact hc1
  · rename_i v14 v15 v16
    refine emit_canon ?_
    exact hc1

theorem execSlipSend_canon {q : Fin 1024} {ds : List SendDesc} {data : List Byte} {dataOk : Bool} {s : Machine.State} (hc1 : s.Canon) :
    Goes State.Canon (execSlipSend q ds data dataOk s) := by
  unfold execSlipSend
  refine done_canon ?_
  extract_lets +onlyGivenNames y0
  clear_value y0
  extract_lets +onlyGivenNames y1
  clear_value y1
  refine ite_of ?_ ?_
  · exact hc1
  · extract_lets +onlyGivenNames y2
    clear_value y2
    extract_lets +onlyGivenNames y3
    clear_value y3
    extract_lets +onlyGivenNames y4
    clear_value y4
    extract_lets +onlyGivenNames y5
    clear_value y5
    extract_lets +onlyGivenNames y6
    clear_value y6
    extract_lets +onlyGivenNames y7
    have h8 : State.Canon y7 := by
      unfold y7
      refine setQp_canon ?_
      exact hc1
    clear_value y7
    extract_lets +onlyGivenNames y9
    have h10 : State.Canon y9 := by
      unfold y9
      refine ite_of ?_ ?_
      · refine sendHand_canon ?_
        refine bump_canon ?_
        exact h8
      · refine bump_canon ?_
        exact h8
    clear_value y9
    refine shfSettle_canon ?_
    refine wbFlush_canon ?_
    exact h10

theorem execSendTsTimeout_canon {q : Fin 1024} {s : Machine.State} (hc1 : s.Canon) :
    Goes State.Canon (execSendTsTimeout q s) := by
  unfold execSendTsTimeout
  refine done_canon ?_
  split
  · rename_i v0 v1 v2 v3
    refine sendDone_canon ?_
    exact hc1
  · rename_i v4 v5
    exact hc1

theorem slipParity_canon {q : Nat} {it : SlipItem} {s : Machine.State} (hc1 : s.Canon) :
    InR State.Canon (slipParity q it s) := by
  unfold slipParity
  refine ite_of ?_ ?_
  · refine inR_mk ?_
    refine raise_canon ?_
    refine bump_canon ?_
    refine injDone_canon ?_
    exact hc1
  · refine inR_mk ?_
    exact hc1

theorem capAccept_canon {q : Nat} {it : SlipItem} {s : Machine.State} (hc1 : s.Canon) :
    InR State.Canon (capAccept q it s) := by
  unfold capAccept
  extract_lets +onlyGivenNames y0
  clear_value y0
  refine ite_of ?_ ?_
  · refine inR_mk ?_
    exact hc1
  · refine inR_mk ?_
    refine setQp_canon ?_
    exact hc1

theorem slipWrite_canon {q : Nat} {a : List Nat} {a2 : Machine.State} (hc1 : a2.Canon) : (slipWrite q a a2).Canon := by
  fun_induction slipWrite q a a2
  · rename_i v0
    exact hc1
  · rename_i v1 v2 v3 v4
    exact hc1
  · rename_i v5 v6 v7 v8 v9 v10 v11 v12 v13 v14 v15 v16 v17 v18
    refine v18 ?_
    refine ite_of ?_ ?_
    · refine bump_canon ?_
      unfold v17
      refine cqWrite_canon ?_
      unfold v16
      refine setQp_canon ?_
      unfold v14
      refine emit_canon ?_
      exact hc1
    · unfold v17
      refine cqWrite_canon ?_
      unfold v16
      refine setQp_canon ?_
      unfold v14
      refine emit_canon ?_
      exact hc1

theorem slipStart_canon {q : Nat} {it : SlipItem} {addrs : List Nat} {s : Machine.State} (hc1 : s.Canon) :
    (slipStart q it addrs s).Canon := by
  unfold slipStart
  refine slipWrite_canon ?_
  refine setQp_canon ?_
  exact hc1

theorem slipItem_canon {q : Nat} {held : Bool} {it : SlipItem} {addrs : List Nat} {s : Machine.State} (hc1 : s.Canon) :
    InR State.Canon (slipItem q held it addrs s) := by
  unfold slipItem
  split
  rename_i v0 v1 v2 v3
  have h4 : State.Canon v2 := by
    refine (of_eq (P := (InR State.Canon)) v3 ?_)
    refine slipParity_canon ?_
    exact hc1
  refine ite_of ?_ ?_
  · refine ite_of ?_ ?_
    · refine inR_mk ?_
      refine ite_of ?_ ?_
      · exact h4
      · refine raise_canon ?_
        refine bump_canon ?_
        exact h4
    · split
      · rename_i v5 v6 v7
        have h8 : State.Canon v6 := by
          refine (of_eq (P := (InR State.Canon)) v7 ?_)
          refine capAccept_canon ?_
          exact h4
        refine inR_mk ?_
        exact h8
      · rename_i v9 v10 v11
        have h12 : State.Canon v10 := by
          refine (of_eq (P := (InR State.Canon)) v11 ?_)
          refine capAccept_canon ?_
          exact h4
        refine ite_of ?_ ?_
        · refine inR_mk ?_
          exact h12
        · refine ite_of ?_ ?_
          · refine inR_mk ?_
            refine raise_canon ?_
            refine bump_canon ?_
            exact h12
          · refine inR_mk ?_
            refine raise_canon ?_
            refine bump_canon ?_
            exact h12
  · refine ite_of ?_ ?_
    · refine inR_mk ?_
      refine slipStart_canon ?_
      exact h4
    · refine inR_mk ?_
      refine ite_of ?_ ?_
      · exact h4
      · refine raise_canon ?_
        refine bump_canon ?_
        exact h4

theorem execSlipDeliver_canon {work : SlipWork} {q : Fin 1024} {addrs : List Nat} {poison : Option Nat} {s : Machine.State} (hc1 : s.Canon) :
    Goes State.Canon (execSlipDeliver work q addrs poison s) := by
  unfold execSlipDeliver
  refine done_canon ?_
  extract_lets +onlyGivenNames y0
  clear_value y0
  extract_lets +onlyGivenNames y1
  have h2 : ∀ (k : Nat) (s : Machine.State), s.Canon → (y1 k s).Canon := by
    intro x3
    intro x4
    intro h5
    unfold y1
    refine ite_of ?_ ?_
    · refine raise_canon ?_
      refine bump_canon ?_
      exact h5
    · exact h5
  clear_value y1
  split
  · rename_i v6
    split
    · rename_i v7 v8
      exact hc1
    · rename_i v9 v10 v11
      split
      · rename_i v12 v13
        exact hc1
      · rename_i v14 v15 v16
        refine ite_of ?_ ?_
        · exact hc1
        · extract_lets +onlyGivenNames y17
          have h18 : (InR State.Canon) y17 := by
            unfold y17
            refine slipItem_canon ?_
            refine h2 _ _ ?_
            refine shfPop_canon ?_
            exact hc1
          clear_value y17
          refine shfSettle_canon ?_
          refine qpSettle_canon ?_
          refine shfUnref_canon ?_
          refine inR_snd ?_
          exact h18
  · rename_i v19 v20
    refine ite_of ?_ ?_
    · exact hc1
    · refine qpSettle_canon ?_
      refine inR_snd ?_
      refine slipItem_canon ?_
      refine h2 _ _ ?_
      exact hc1
  · rename_i v21
    split
    · rename_i v22 v23 v24 v25 v26
      refine ite_of ?_ ?_
      · refine qpSettle_canon ?_
        refine slipStart_canon ?_
        exact hc1
      · exact hc1
    · rename_i v27 v28 v29
      exact hc1
  · rename_i v30
    refine ite_of ?_ ?_
    · refine qpSettle_canon ?_
      refine slipWrite_canon ?_
      exact hc1
    · exact hc1

theorem execQpItrExpiry_canon {q : Fin 1024} {s : Machine.State} (hc1 : s.Canon) :
    Goes State.Canon (execQpItrExpiry q s) := by
  unfold execQpItrExpiry
  refine done_canon ?_
  refine qpIrq_canon ?_
  exact hc1

theorem execQpQuiesced_canon {q : Fin 1024} {s : Machine.State} (hc1 : s.Canon) :
    Goes State.Canon (execQpQuiesced q s) := by
  unfold execQpQuiesced
  refine done_canon ?_
  refine ite_of ?_ ?_
  · extract_lets +onlyGivenNames y0
    clear_value y0
    extract_lets +onlyGivenNames y1
    have h2 : State.Canon y1 := by
      unfold y1
      refine wbFlush_canon ?_
      refine setQp_canon ?_
      exact hc1
    clear_value y1
    refine wrB_canon ?_
    exact h2
  · exact hc1

theorem fnQpsOff_canon {f : Nat} {s : Machine.State} (hc1 : s.Canon) : (fnQpsOff f s).Canon := by
  unfold fnQpsOff
  refine foldl_of ?_ ?_
  · exact hc1
  · intro x0
    intro x1
    intro h2
    refine ite_of ?_ ?_
    · refine setQp_canon ?_
      refine wrB_canon ?_
      refine wrB_canon ?_
      exact h2
    · exact h2

theorem execFunctionFlr_canon {f : Fin 8} {busMaster : Bool} {s : Machine.State} (hc1 : s.Canon) :
    Goes State.Canon (execFunctionFlr f busMaster s) := by
  unfold execFunctionFlr
  refine done_canon ?_
  extract_lets +onlyGivenNames y0
  clear_value y0
  refine foldl_of ?_ ?_
  · exact hc1
  · intro x1
    intro x2
    intro h3
    extract_lets +onlyGivenNames y4
    have h5 : State.Canon y4 := by
      unfold y4
      refine fnQpsOff_canon ?_
      exact h3
    clear_value y4
    refine ite_of ?_ ?_
    · exact h5
    · refine dropWords_canon ?_
      exact h5

theorem execBrgWindowWrite_canon {a : BrgAddr} {full : Bool} {data : List Byte} {s : Machine.State} (hc1 : s.Canon) :
    Goes State.Canon (execBrgWindowWrite a full data s) := by
  unfold execBrgWindowWrite
  refine done_canon ?_
  refine brgDone_canon ?_
  split
  · rename_i v0 v1 v2 v3
    refine winWrite_canon ?_
    exact hc1
  · rename_i v4 v5 v6 v7
    refine regSend_canon ?_
    exact hc1

theorem execBrgWindowRead_canon {a : BrgAddr} {tag : Nat} {len : Nat} {s : Machine.State} (hc1 : s.Canon) :
    Goes State.Canon (execBrgWindowRead a tag len s) := by
  unfold execBrgWindowRead
  refine done_canon ?_
  extract_lets +onlyGivenNames y0
  clear_value y0
  refine ite_of ?_ ?_
  · exact hc1
  · refine brgDone_canon ?_
    split
    · rename_i v1 v2 v3 v4
      refine winRead_canon ?_
      exact hc1
    · rename_i v5 v6 v7 v8
      refine regFetch_canon ?_
      exact hc1

theorem semAcqArrive_canon {t : BrgTx} {s : Machine.State} (hc1 : s.Canon) : (semAcqArrive t s).Canon := by
  unfold semAcqArrive
  refine ite_of ?_ ?_
  · refine brgAnswer_canon ?_
    exact hc1
  · extract_lets +onlyGivenNames y0
    clear_value y0
    refine ite_of ?_ ?_
    · refine brgAnswer_canon ?_
      exact hc1
    · refine brgAnswer_canon ?_
      refine wr_canon ?_
      exact hc1

theorem localArrive_canon {t : BrgTx} {s : Machine.State} (hc1 : s.Canon) : (localArrive t s).Canon := by
  unfold localArrive
  split
  · rename_i v0 v1
    refine lockArrive_canon ?_
    exact hc1
  · rename_i v2 v3
    refine semAcqArrive_canon ?_
    exact hc1
  · rename_i v4 v5 v6
    refine ite_of ?_ ?_
    · refine brgPark_canon ?_
      exact hc1
    · refine ite_of ?_ ?_
      · refine sensorArrive_canon ?_
        exact hc1
      · refine brgAnswer_canon ?_
        exact hc1

theorem brgIssue_canon {tag : Nat} {np : BrgNp} {s : Machine.State} (hc1 : s.Canon) : (brgIssue tag np s).Canon := by
  unfold brgIssue
  extract_lets +onlyGivenNames y0
  clear_value y0
  extract_lets +onlyGivenNames y1
  clear_value y1
  extract_lets +onlyGivenNames y2
  have h3 : State.Canon y2 := by
    unfold y2
    refine modBrg_canon ?_
    exact hc1
  clear_value y2
  refine ite_of ?_ ?_
  · refine localArrive_canon ?_
    exact h3
  · split
    · rename_i v4 v5 v6
      refine brgAnswer_canon ?_
      exact h3
    · rename_i v7 v8
      refine brgOut_canon ?_
      refine bump_canon ?_
      exact h3

theorem execBrgNpIssue_canon {tag : Fin 1024} {s : Machine.State} (hc1 : s.Canon) :
    Goes State.Canon (execBrgNpIssue tag s) := by
  unfold execBrgNpIssue
  refine done_canon ?_
  refine ite_of ?_ ?_
  · exact hc1
  · split
    · rename_i v0 v1 v2
      refine brgDone_canon ?_
      refine brgIssue_canon ?_
      exact hc1
    · rename_i v3 v4
      exact hc1

theorem brgRx_canon {ty : Nat} {f : CoilFrame → BrgTx → Machine.State → Machine.State} {s : Machine.State} (hc1 : ∀ (a : CoilFrame) (a_1 : BrgTx) (a_2 : Machine.State), a_2.Canon → (f a a_1 a_2).Canon) (hc2 : s.Canon) :
    Goes State.Canon (brgRx ty f s) := by
  unfold brgRx
  refine done_canon ?_
  split
  · rename_i v0 v1 v2 v3 v4
    extract_lets +onlyGivenNames y5
    have h6 : State.Canon y5 := by
      unfold y5
      refine modCol_canon ?_
      exact hc2
    clear_value y5
    refine ite_of ?_ ?_
    · exact h6
    · refine brgDone_canon ?_
      refine hc1 _ _ _ ?_
      exact h6
  · rename_i v7 v8
    exact hc2

theorem execBrgWriteRx_canon {env : WrEnv} {s : Machine.State} (hc1 : s.Canon) :
    Goes State.Canon (execBrgWriteRx env s) := by
  unfold execBrgWriteRx
  refine brgRx_canon ?_ ?_
  · intro x0
    intro x1
    intro x2
    intro h3
    refine ite_of ?_ ?_
    · refine brgPostedFail_canon ?_
      exact h3
    · refine ite_of ?_ ?_
      · refine brgPark_canon ?_
        exact h3
      · refine writePerform_canon ?_
        exact h3
  · exact hc1

theorem execBrgReadRx_canon {memErr : Bool} {s : Machine.State} (hc1 : s.Canon) :
    Goes State.Canon (execBrgReadRx memErr s) := by
  unfold execBrgReadRx
  refine brgRx_canon ?_ ?_
  · intro x0
    intro x1
    intro x2
    intro h3
    refine ite_of ?_ ?_
    · refine brgAnswer_canon ?_
      exact h3
    · refine ite_of ?_ ?_
      · refine brgPark_canon ?_
        exact h3
      · refine readPerform_canon ?_
        exact h3
  · exact hc1

theorem execBrgCplRx_canon {s : Machine.State} (hc1 : s.Canon) : Goes State.Canon (execBrgCplRx s) := by
  unfold execBrgCplRx
  refine brgRx_canon ?_ ?_
  · intro x0
    intro x1
    intro x2
    intro h3
    split
    · rename_i v4 v5
      refine bump_canon ?_
      exact h3
    · rename_i v6 v7 v8
      refine npEnd_canon ?_
      refine modBrg_canon ?_
      exact h3
  · exact hc1

theorem execBrgMsgRx_canon {s : Machine.State} (hc1 : s.Canon) : Goes State.Canon (execBrgMsgRx s) := by
  unfold execBrgMsgRx
  refine brgRx_canon ?_ ?_
  · intro x0
    intro x1
    intro x2
    intro h3
    extract_lets +onlyGivenNames y4
    clear_value y4
    extract_lets +onlyGivenNames y5
    have h6 : State.Canon y5 := by
      unfold y5
      refine ite_of ?_ ?_
      · refine bump_canon ?_
        exact h3
      · refine raise_canon ?_
        refine revtSync_canon ?_
        refine modCol_canon ?_
        exact h3
    clear_value y5
    refine ite_of ?_ ?_
    · exact h6
    · refine brgOut_canon ?_
      refine bump_canon ?_
      exact h6
  · exact hc1

theorem execBrgLockRx_canon {s : Machine.State} (hc1 : s.Canon) : Goes State.Canon (execBrgLockRx s) := by
  unfold execBrgLockRx
  refine brgRx_canon ?_ ?_
  · intro x0
    intro x1
    intro x2
    intro h3
    refine lockArrive_canon ?_
    exact h3
  · exact hc1

theorem execBrgUnlockRx_canon {s : Machine.State} (hc1 : s.Canon) : Goes State.Canon (execBrgUnlockRx s) := by
  unfold execBrgUnlockRx
  refine brgRx_canon ?_ ?_
  · intro x0
    intro x1
    intro x2
    intro h3
    refine ite_of ?_ ?_
    · refine brgPark_canon ?_
      exact h3
    · refine unlockArrive_canon ?_
      exact h3
  · exact hc1

theorem execBrgSemAcqRx_canon {s : Machine.State} (hc1 : s.Canon) : Goes State.Canon (execBrgSemAcqRx s) := by
  unfold execBrgSemAcqRx
  refine brgRx_canon ?_ ?_
  · intro x0
    intro x1
    intro x2
    intro h3
    refine semAcqArrive_canon ?_
    exact h3
  · exact hc1

theorem execBrgSemRelRx_canon {s : Machine.State} (hc1 : s.Canon) : Goes State.Canon (execBrgSemRelRx s) := by
  unfold execBrgSemRelRx
  refine brgRx_canon ?_ ?_
  · intro x0
    intro x1
    intro x2
    intro h3
    refine semRelArrive_canon ?_
    exact h3
  · exact hc1

theorem execBrgErrRx_canon {s : Machine.State} (hc1 : s.Canon) : Goes State.Canon (execBrgErrRx s) := by
  unfold execBrgErrRx
  refine brgRx_canon ?_ ?_
  · intro x0
    intro x1
    intro x2
    intro h3
    refine brgErrIn_canon ?_
    exact h3
  · exact hc1

theorem execBrgReadTimeout_canon {tag : Fin 1024} {s : Machine.State} (hc1 : s.Canon) :
    Goes State.Canon (execBrgReadTimeout tag s) := by
  unfold execBrgReadTimeout
  refine done_canon ?_
  split
  · rename_i v0 v1
    exact hc1
  · rename_i v2 v3 v4
    extract_lets +onlyGivenNames y5
    have h6 : State.Canon y5 := by
      unfold y5
      refine modBrg_canon ?_
      exact hc1
    clear_value y5
    refine brgDone_canon ?_
    refine npEnd_canon ?_
    refine bump_canon ?_
    exact h6

theorem execBrgTagRelease_canon {tag : Fin 1024} {s : Machine.State} (hc1 : s.Canon) :
    Goes State.Canon (execBrgTagRelease tag s) := by
  unfold execBrgTagRelease
  refine done_canon ?_
  refine modBrg_canon ?_
  exact hc1

theorem execBrgLockExpiry_canon {bus : Fin 129} {s : Machine.State} (hc1 : s.Canon) :
    Goes State.Canon (execBrgLockExpiry bus s) := by
  unfold execBrgLockExpiry
  refine done_canon ?_
  split
  · rename_i v0 v1 v2
    refine ite_of ?_ ?_
    · extract_lets +onlyGivenNames y3
      clear_value y3
      refine brgDone_canon ?_
      refine brgPostedFail_canon ?_
      refine raise_canon ?_
      refine bump_canon ?_
      refine busFree_canon ?_
      exact hc1
    · exact hc1
  · rename_i v4 v5
    exact hc1

theorem execBrgLockBackoff_canon {ch : Fin 12} {s : Machine.State} (hc1 : s.Canon) :
    Goes State.Canon (execBrgLockBackoff ch s) := by
  unfold execBrgLockBackoff
  refine done_canon ?_
  split
  · rename_i v0 v1 v2
    refine ite_of ?_ ?_
    · refine brgDone_canon ?_
      refine modBrg_canon ?_
      exact hc1
    · exact hc1
  · rename_i v3 v4
    exact hc1

theorem execBrgSemExpiry_canon {sem : Fin 64} {s : Machine.State} (hc1 : s.Canon) :
    Goes State.Canon (execBrgSemExpiry sem s) := by
  unfold execBrgSemExpiry
  refine done_canon ?_
  refine ite_of ?_ ?_
  · refine raise_canon ?_
    refine bump_canon ?_
    refine wr_canon ?_
    exact hc1
  · exact hc1

theorem execBrgLock_canon {req : Requester} {slot : Fin 4} {ch : Fin 16} {s : Machine.State} (hc1 : s.Canon) :
    Goes State.Canon (execBrgLock req slot ch s) := by
  unfold execBrgLock
  refine done_canon ?_
  refine brgDone_canon ?_
  refine brgCommand_canon ?_
  exact hc1

theorem execBrgUnlock_canon {req : Requester} {slot : Fin 4} {ch : Fin 16} {s : Machine.State} (hc1 : s.Canon) :
    Goes State.Canon (execBrgUnlock req slot ch s) := by
  unfold execBrgUnlock
  refine done_canon ?_
  refine brgDone_canon ?_
  refine brgCommand_canon ?_
  exact hc1

theorem execBrgFence_canon {req : Requester} {slot : Fin 4} {ch : Fin 16} {s : Machine.State} (hc1 : s.Canon) :
    Goes State.Canon (execBrgFence req slot ch s) := by
  unfold execBrgFence
  refine done_canon ?_
  refine brgDone_canon ?_
  refine brgCommand_canon ?_
  exact hc1

theorem execSemAcquire_canon {req : Requester} {slot : Fin 4} {km : Fin 4} {s : Machine.State} (hc1 : s.Canon) :
    Goes State.Canon (execSemAcquire req slot km s) := by
  unfold execSemAcquire
  refine done_canon ?_
  refine brgDone_canon ?_
  refine brgCommand_canon ?_
  exact hc1

theorem execSemRelease_canon {req : Requester} {slot : Fin 4} {km : Fin 4} {s : Machine.State} (hc1 : s.Canon) :
    Goes State.Canon (execSemRelease req slot km s) := by
  unfold execSemRelease
  refine done_canon ?_
  refine brgDone_canon ?_
  refine brgCommand_canon ?_
  exact hc1

theorem execBrgErrlogPop_canon {req : Requester} {s : Machine.State} (hc1 : s.Canon) :
    Goes State.Canon (execBrgErrlogPop req s) := by
  unfold execBrgErrlogPop
  refine done_canon ?_
  refine regCmd_canon ?_ ?_
  · intro s0 h1
    refine errlogPop_canon ?_
    exact h1
  · exact hc1

theorem execCoilHelloTimer_canon {s : Machine.State} (hc1 : s.Canon) : Goes State.Canon (execCoilHelloTimer s) := by
  unfold execCoilHelloTimer
  refine done_canon ?_
  refine ite_of ?_ ?_
  · refine foldl_of ?_ ?_
    · exact hc1
    · intro x0
      intro x1
      intro h2
      refine coilOnPort_canon ?_
      exact h2
  · refine foldl_of ?_ ?_
    · exact hc1
    · intro x3
      intro x4
      intro h5
      refine coilOnLink_canon ?_
      exact h5

theorem coilKeep_canon {f : CoilFrame} {pid : Nat} {s : Machine.State} (hc1 : s.Canon) : (coilKeep f pid s).Canon := by
  unfold coilKeep
  extract_lets +onlyGivenNames y0
  clear_value y0
  extract_lets +onlyGivenNames y1
  have h2 : State.Canon y1 := by
    unfold y1
    refine ite_of ?_ ?_
    · exact hc1
    · refine shfUnref_canon ?_
      exact hc1
  clear_value y1
  refine ite_of ?_ ?_
  · refine bump_canon ?_
    exact h2
  · refine modCol_canon ?_
    exact h2

theorem coilTransit_canon {f : CoilFrame} {res : Nat} {s : Machine.State} (hc1 : s.Canon) :
    (coilTransit f res s).Canon := by
  unfold coilTransit
  refine ite_of ?_ ?_
  · refine bump_canon ?_
    exact hc1
  · extract_lets +onlyGivenNames y0
    clear_value y0
    split
    · rename_i v1 v2
      exact hc1
    · rename_i v3 v4
      extract_lets +onlyGivenNames y5
      clear_value y5
      extract_lets +onlyGivenNames y6
      have h7 : State.Canon y6 := by
        unfold y6
        refine coilToward_canon ?_
        exact hc1
      clear_value y6
      split
      · rename_i v8 v9
        refine bump_canon ?_
        exact h7
      · rename_i v10 v11 v12
        split
        · rename_i v13 v14 v15
          refine brgLost_canon ?_
          exact h7
        · rename_i v16 v17
          exact h7

theorem coilFrameRx_canon {res : Nat} {s : Machine.State} (hc1 : s.Canon) : (coilFrameRx res s).Canon := by
  unfold coilFrameRx
  split
  · rename_i v0 v1
    exact hc1
  · rename_i v2 v3 v4 v5
    extract_lets +onlyGivenNames y6
    have h7 : State.Canon y6 := by
      unfold y6
      refine modCol_canon ?_
      exact hc1
    clear_value y6
    extract_lets +onlyGivenNames y8
    have h9 : State.Canon y8 := by
      unfold y8
      refine shfUnref_canon ?_
      exact h7
    clear_value y8
    split
    · rename_i v10 v11
      refine bump_canon ?_
      exact h9
    · rename_i v12 v13 v14
      extract_lets +onlyGivenNames y15
      clear_value y15
      extract_lets +onlyGivenNames y16
      clear_value y16
      refine ite_of ?_ ?_
      · exact h9
      · extract_lets +onlyGivenNames y17
        have h18 : State.Canon y17 := by
          unfold y17
          refine bump_canon ?_
          exact h9
        clear_value y17
        extract_lets +onlyGivenNames y19
        have h20 : State.Canon y19 := by
          unfold y19
          refine bump_canon ?_
          exact h7
        clear_value y19
        extract_lets +onlyGivenNames y21
        clear_value y21
        refine ite_of ?_ ?_
        · refine bump_canon ?_
          exact h18
        · refine ite_of ?_ ?_
          · refine raise_canon ?_
            refine bump_canon ?_
            exact h18
          · refine ite_of ?_ ?_
            · refine coilKeep_canon ?_
              exact h20
            · refine coilTransit_canon ?_
              exact h18

theorem execCoilFrameRx_canon {res : Nat} {s : Machine.State} (hc1 : s.Canon) :
    Goes State.Canon (execCoilFrameRx res s) := by
  unfold execCoilFrameRx
  refine done_canon ?_
  refine shfSettle_canon ?_
  refine coilFrameRx_canon ?_
  exact hc1

theorem inboxTake_canon {p : CoilFrame → Bool} {s : Machine.State} (hc1 : s.Canon) :
    InO (InR State.Canon) (inboxTake p s) := by
  unfold inboxTake
  split
  · rename_i v0 v1
    exact inO_none
  · rename_i v2 v3 v4
    refine inO_some ?_
    refine inR_mk ?_
    refine modCol_canon ?_
    exact hc1

theorem execCoilDataRx_canon {s : Machine.State} (hc1 : s.Canon) : Goes State.Canon (execCoilDataRx s) := by
  unfold execCoilDataRx
  refine done_canon ?_
  split
  · rename_i v0 v1
    exact hc1
  · rename_i v2 v3 v4 v5
    have h6 : State.Canon v4 := by
      refine (of_eq (P := (InO (InR State.Canon))) v5 ?_) _ rfl
      refine inboxTake_canon ?_
      exact hc1
    extract_lets +onlyGivenNames y7
    clear_value y7
    extract_lets +onlyGivenNames y8
    clear_value y8
    extract_lets +onlyGivenNames y9
    clear_value y9
    extract_lets +onlyGivenNames y10
    clear_value y10
    refine shfSettle_canon ?_
    refine ingAppend_canon ?_
    refine shfRetain_canon ?_
    exact h6

theorem execCoilRouterRx_canon {s : Machine.State} (hc1 : s.Canon) : Goes State.Canon (execCoilRouterRx s) := by
  unfold execCoilRouterRx
  refine done_canon ?_
  split
  · rename_i v0 v1
    exact hc1
  · rename_i v2 v3 v4 v5
    have h6 : State.Canon v4 := by
      refine (of_eq (P := (InO (InR State.Canon))) v5 ?_) _ rfl
      refine inboxTake_canon ?_
      exact hc1
    extract_lets +onlyGivenNames y7
    have h8 : State.Canon y7 := by
      unfold y7
      refine shfUnref_canon ?_
      exact h6
    clear_value y7
    extract_lets +onlyGivenNames y9
    clear_value y9
    extract_lets +onlyGivenNames y10
    clear_value y10
    split
    · rename_i v11 v12
      refine bump_canon ?_
      exact h8
    · rename_i v13 v14 v15 v16
      extract_lets +onlyGivenNames y17
      clear_value y17
      extract_lets +onlyGivenNames y18
      clear_value y18
      refine ite_of ?_ ?_
      · refine nmwSettle_canon ?_
        refine shfSettle_canon ?_
        refine deliver_canon ?_
        exact h8
      · refine bump_canon ?_
        exact h8

theorem setMember_canon {d : Nat} {st : Nat} {l : Nat} {gen : Nat} {uid : Nat} {s : Machine.State} (hc1 : s.Canon) :
    (setMember d st l gen uid s).Canon := by
  unfold setMember
  refine wrWords_canon ?_
  exact hc1

theorem helloUnassigned_canon {l : Nat} {uid : Nat} {smac : List Byte} {s : Machine.State} (hc1 : s.Canon) :
    (helloUnassigned l uid smac s).Canon := by
  unfold helloUnassigned
  split
  · rename_i v0 v1
    refine raise_canon ?_
    refine bump_canon ?_
    exact hc1
  · rename_i v2 v3 v4 v5
    refine ite_of ?_ ?_
    · refine bump_canon ?_
      exact hc1
    · extract_lets +onlyGivenNames y6
      clear_value y6
      extract_lets +onlyGivenNames y7
      have h8 : State.Canon y7 := by
        unfold y7
        refine setMember_canon ?_
        refine modCol_canon ?_
        exact hc1
      clear_value y7
      refine coilOnLink_canon ?_
      exact h8

theorem coilLinkUp_canon {l : Nat} {peer : Nat} {s : Machine.State} (hc1 : s.Canon) : (coilLinkUp l peer s).Canon := by
  unfold coilLinkUp
  extract_lets +onlyGivenNames y0
  clear_value y0
  extract_lets +onlyGivenNames y1
  have h2 : State.Canon y1 := by
    unfold y1
    refine wrF_canon ?_
    exact hc1
  clear_value y1
  refine ite_of ?_ ?_
  · refine raise_canon ?_
    refine coilLive_canon ?_
    refine wrF_canon ?_
    exact h2
  · exact h2

theorem setXout_canon {x0 : XferOut} {s : Machine.State} (hc1 : s.Canon) : (setXout x0 s).Canon := by
  unfold setXout
  refine modCol_canon ?_
  exact hc1

theorem xferChunk_canon {x0 : XferOut} {off : Nat} {s : Machine.State} (hc1 : s.Canon) :
    (xferChunk x0 off s).Canon := by
  unfold xferChunk
  refine coilSend_canon ?_
  exact hc1

theorem xferPump_canon {a : Nat} {a1 : XferOut} {a2 : Machine.State} (hc1 : a2.Canon) : (xferPump a a1 a2).Canon := by
  fun_induction xferPump a a1 a2
  · rename_i v0 v1
    refine setXout_canon ?_
    exact hc1
  · rename_i v2 v3 v4 v5 v6
    refine v6 ?_
    refine xferChunk_canon ?_
    exact hc1
  · rename_i v7 v8 v9 v10
    refine setXout_canon ?_
    exact hc1

theorem xferStart_canon {did : Nat} {svc : Nat} {obj : Nat} {data : List Byte} {s : Machine.State} (hc1 : s.Canon) :
    (xferStart did svc obj data s).Canon := by
  unfold xferStart
  extract_lets +onlyGivenNames y0
  clear_value y0
  extract_lets +onlyGivenNames y1
  have h2 : State.Canon y1 := by
    unfold y1
    refine modCol_canon ?_
    exact hc1
  clear_value y1
  refine xferPump_canon ?_
  exact h2

theorem configNext_canon {did : Nat} {s : Machine.State} (hc1 : s.Canon) : (configNext did s).Canon := by
  unfold configNext
  split
  · rename_i v0 v1
    exact hc1
  · rename_i v2 v3 v4
    split
    · rename_i v5 v6
      refine modCol_canon ?_
      exact hc1
    · rename_i v7 v8 v9 v10
      extract_lets +onlyGivenNames y11
      clear_value y11
      refine xferStart_canon ?_
      refine modCol_canon ?_
      exact hc1

theorem configStart_canon {did : Nat} {s : Machine.State} (hc1 : s.Canon) : (configStart did s).Canon := by
  unfold configStart
  refine ite_of ?_ ?_
  · exact hc1
  · extract_lets +onlyGivenNames y0
    clear_value y0
    extract_lets +onlyGivenNames y1
    clear_value y1
    extract_lets +onlyGivenNames y2
    clear_value y2
    refine configNext_canon ?_
    refine modCol_canon ?_
    exact hc1

theorem modUpd_canon {f : Upd → Upd} {s : Machine.State} (hc1 : s.Canon) : (modUpd f s).Canon := by
  unfold modUpd
  refine canon_mk ?_
  exact hc1

theorem updRejoin_canon {did : Nat} {s : Machine.State} (hc1 : s.Canon) : (updRejoin did s).Canon := by
  unfold updRejoin
  extract_lets +onlyGivenNames y0
  have h1 : ∀ (k : Nat) (s : Machine.State), s.Canon → (y0 k s).Canon := by
    intro x2
    intro x3
    intro h4
    unfold y0
    refine coilSend_canon ?_
    exact h4
  clear_value y0
  refine ite_of ?_ ?_
  · refine h1 _ _ ?_
    exact hc1
  · refine ite_of ?_ ?_
    · refine h1 _ _ ?_
      refine modUpd_canon ?_
      exact hc1
    · exact hc1

theorem memberBack_canon {l : Nat} {uid : Nat} {d : Nat} {s : Machine.State} (hc1 : s.Canon) :
    (memberBack l uid d s).Canon := by
  unfold memberBack
  refine ite_of ?_ ?_
  · extract_lets +onlyGivenNames y0
    have h1 : State.Canon y0 := by
      unfold y0
      refine coilLive_canon ?_
      refine wrB_canon ?_
      refine setMember_canon ?_
      exact hc1
    clear_value y0
    refine configStart_canon ?_
    refine updRejoin_canon ?_
    exact h1
  · exact hc1

theorem execHelloRx_canon {s : Machine.State} (hc1 : s.Canon) : Goes State.Canon (execHelloRx s) := by
  unfold execHelloRx
  refine done_canon ?_
  split
  · rename_i v0 v1
    exact hc1
  · rename_i v2 v3 v4 v5
    have h6 : State.Canon v4 := by
      refine (of_eq (P := (InO (InR State.Canon))) v5 ?_) _ rfl
      refine inboxTake_canon ?_
      exact hc1
    extract_lets +onlyGivenNames y7
    clear_value y7
    extract_lets +onlyGivenNames y8
    clear_value y8
    split
    · rename_i v9 v10
      exact h6
    · rename_i v11 v12 v13
      refine ite_of ?_ ?_
      · refine raise_canon ?_
        refine bump_canon ?_
        exact h6
      · refine ite_of ?_ ?_
        · refine ite_of ?_ ?_
          · exact h6
          · refine shfSettle_canon ?_
            refine helloUnassigned_canon ?_
            exact h6
        · extract_lets +onlyGivenNames y14
          have h15 : State.Canon y14 := by
            unfold y14
            refine ite_of ?_ ?_
            · exact h6
            · refine modCol_canon ?_
              exact h6
          clear_value y14
          extract_lets +onlyGivenNames y16
          have h17 : State.Canon y16 := by
            unfold y16
            refine coilLinkUp_canon ?_
            exact h15
          clear_value y16
          refine shfSettle_canon ?_
          refine ite_of ?_ ?_
          · exact h17
          · refine memberBack_canon ?_
            exact h17

theorem setFloors_canon {s : Machine.State} (hc1 : s.Canon) : (setFloors s).Canon := by
  unfold setFloors
  split
  · rename_i v0 v1
    exact hc1
  · rename_i v2 v3 v4
    refine forN_of ?_ ?_
    · exact hc1
    · intro x5
      intro x6
      intro h7
      split
      · rename_i v8 v9 v10
        refine wr_canon ?_
        exact h7
      · rename_i v11 v12
        exact h7

theorem updReport_canon {obj : Nat} {x1 : Nat} {code : Nat} {w : Word} {s : Machine.State} (hc1 : s.Canon) :
    (updReport obj x1 code w s).Canon := by
  unfold updReport
  refine coilSend_canon ?_
  exact hc1

theorem failedReport_canon {s : Machine.State} (hc1 : s.Canon) : (failedReport s).Canon := by
  unfold failedReport
  refine ite_of ?_ ?_
  · refine updReport_canon ?_
    refine canon_mk ?_
    exact hc1
  · exact hc1

theorem execAssignRx_canon {s : Machine.State} (hc1 : s.Canon) : Goes State.Canon (execAssignRx s) := by
  unfold execAssignRx
  refine done_canon ?_
  split
  · rename_i v0 v1
    exact hc1
  · rename_i v2 v3 v4 v5
    have h6 : State.Canon v4 := by
      refine (of_eq (P := (InO (InR State.Canon))) v5 ?_) _ rfl
      refine inboxTake_canon ?_
      exact hc1
    refine ite_of ?_ ?_
    · exact h6
    · extract_lets +onlyGivenNames y7
      have h8 : State.Canon y7 := by
        unfold y7
        refine wrF_canon ?_
        exact h6
      clear_value y7
      extract_lets +onlyGivenNames y9
      have h10 : State.Canon y9 := by
        unfold y9
        refine wrF_canon ?_
        refine wrF_canon ?_
        exact h8
      clear_value y9
      extract_lets +onlyGivenNames y11
      have h12 : State.Canon y11 := by
        unfold y11
        refine setFloors_canon ?_
        refine modCol_canon ?_
        exact h10
      clear_value y11
      extract_lets +onlyGivenNames y13
      clear_value y13
      refine shfSettle_canon ?_
      refine failedReport_canon ?_
      refine coilOnPort_canon ?_
      exact h12

theorem execJoinRx_canon {s : Machine.State} (hc1 : s.Canon) : Goes State.Canon (execJoinRx s) := by
  unfold execJoinRx
  refine done_canon ?_
  split
  · rename_i v0 v1
    exact hc1
  · rename_i v2 v3 v4 v5
    have h6 : State.Canon v4 := by
      refine (of_eq (P := (InO (InR State.Canon))) v5 ?_) _ rfl
      refine inboxTake_canon ?_
      exact hc1
    extract_lets +onlyGivenNames y7
    clear_value y7
    extract_lets +onlyGivenNames y8
    clear_value y8
    split
    · rename_i v9 v10
      exact h6
    · rename_i v11 v12 v13
      refine ite_of ?_ ?_
      · extract_lets +onlyGivenNames y14
        have h15 : State.Canon y14 := by
          unfold y14
          refine coilLinkUp_canon ?_
          exact h6
        clear_value y14
        extract_lets +onlyGivenNames y16
        have h17 : State.Canon y16 := by
          unfold y16
          refine raise_canon ?_
          refine wrB_canon ?_
          refine setMember_canon ?_
          exact h15
        clear_value y16
        extract_lets +onlyGivenNames y18
        have h19 : State.Canon y18 := by
          unfold y18
          refine modCol_canon ?_
          exact h17
        clear_value y18
        refine shfSettle_canon ?_
        refine configStart_canon ?_
        refine updRejoin_canon ?_
        refine coilLive_canon ?_
        exact h19
      · exact h6

theorem brgUnqueue_canon {n : Nat} {s : Machine.State} (hc1 : s.Canon) : (brgUnqueue n s).Canon := by
  unfold brgUnqueue
  refine forN_of ?_ ?_
  · exact hc1
  · intro x0
    intro x1
    intro h2
    extract_lets +onlyGivenNames y3
    clear_value y3
    extract_lets +onlyGivenNames y4
    clear_value y4
    refine ite_of ?_ ?_
    · exact h2
    · extract_lets +onlyGivenNames y5
      clear_value y5
      extract_lets +onlyGivenNames y6
      clear_value y6
      extract_lets +onlyGivenNames y7
      clear_value y7
      extract_lets +onlyGivenNames y8
      clear_value y8
      extract_lets +onlyGivenNames y9
      have h10 : State.Canon y9 := by
        unfold y9
        refine shfDropAll_canon ?_
        refine wr_canon ?_
        exact h2
      clear_value y9
      refine setEq_canon ?_
      refine setRsq_canon ?_
      exact h10

theorem execCoilLinkLost_canon {link : Fin 8} {s : Machine.State} (hc1 : s.Canon) :
    Goes State.Canon (execCoilLinkLost link s) := by
  unfold execCoilLinkLost
  refine done_canon ?_
  refine ite_of ?_ ?_
  · extract_lets +onlyGivenNames y0
    clear_value y0
    extract_lets +onlyGivenNames y1
    clear_value y1
    refine brgDone_canon ?_
    refine foldl_of ?_ ?_
    · refine coilLinkDown_canon ?_
      refine brgUnqueue_canon ?_
      exact hc1
    · intro x2
      intro x3
      intro h4
      refine brgLost_canon ?_
      exact h4
  · exact hc1

theorem execSyncRx_canon {rate : Word} {step : Bool} {good : Bool} {age : Nat} {s : Machine.State} (hc1 : s.Canon) :
    Goes State.Canon (execSyncRx rate step good age s) := by
  unfold execSyncRx
  refine done_canon ?_
  split
  · rename_i v0 v1
    exact hc1
  · rename_i v2 v3 v4 v5
    have h6 : State.Canon v4 := by
      refine (of_eq (P := (InO (InR State.Canon))) v5 ?_) _ rfl
      refine inboxTake_canon ?_
      exact hc1
    extract_lets +onlyGivenNames y7
    clear_value y7
    split
    · rename_i v8 v9
      exact h6
    · rename_i v10 v11 v12
      refine ite_of ?_ ?_
      · exact h6
      · extract_lets +onlyGivenNames y13
        clear_value y13
        extract_lets +onlyGivenNames y14
        clear_value y14
        extract_lets +onlyGivenNames y15
        clear_value y15
        extract_lets +onlyGivenNames y16
        clear_value y16
        extract_lets +onlyGivenNames y17
        have h18 : State.Canon y17 := by
          unfold y17
          refine wr_canon ?_
          refine modCol_canon ?_
          exact h6
        clear_value y17
        extract_lets +onlyGivenNames y19
        have h20 : State.Canon y19 := by
          unfold y19
          refine ite_of ?_ ?_
          · refine raise_canon ?_
            exact h18
          · exact h18
        clear_value y19
        extract_lets +onlyGivenNames y21
        clear_value y21
        extract_lets +onlyGivenNames y22
        clear_value y22
        extract_lets +onlyGivenNames y23
        have h24 : State.Canon y23 := by
          unfold y23
          refine ite_of ?_ ?_
          · refine canon_mk ?_
            exact h20
          · exact h20
        clear_value y23
        refine domainState_canon ?_
        exact h24

theorem timeSend_canon {op : Nat} {l : Nat} {ty : Nat} {domB : Bool} {seq : Nat} {payload : List Byte} {s : Machine.State} (hc1 : s.Canon) :
    (timeSend op l ty domB seq payload s).Canon := by
  unfold timeSend
  refine coilOnLinkOp_canon ?_
  exact hc1

theorem execPdelayReqRx_canon {s : Machine.State} (hc1 : s.Canon) : Goes State.Canon (execPdelayReqRx s) := by
  unfold execPdelayReqRx
  refine done_canon ?_
  split
  · rename_i v0 v1
    exact hc1
  · rename_i v2 v3 v4 v5
    have h6 : State.Canon v4 := by
      refine (of_eq (P := (InO (InR State.Canon))) v5 ?_) _ rfl
      refine inboxTake_canon ?_
      exact hc1
    split
    · rename_i v7 v8
      exact h6
    · rename_i v9 v10 v11
      refine shfSettle_canon ?_
      refine timeSend_canon ?_
      exact h6

theorem execPdelayRespRx_canon {s : Machine.State} (hc1 : s.Canon) : Goes State.Canon (execPdelayRespRx s) := by
  unfold execPdelayRespRx
  refine done_canon ?_
  split
  · rename_i v0 v1
    exact hc1
  · rename_i v2 v3 v4 v5
    have h6 : State.Canon v4 := by
      refine (of_eq (P := (InO (InR State.Canon))) v5 ?_) _ rfl
      refine inboxTake_canon ?_
      exact hc1
    split
    · rename_i v7 v8
      exact h6
    · rename_i v9 v10 v11
      split
      · rename_i v12 v13
        exact h6
      · rename_i v14 v15 v16
        extract_lets +onlyGivenNames y17
        clear_value y17
        refine modCol_canon ?_
        exact h6

theorem timeSeq_canon {l : Nat} {s : Machine.State} (hc1 : s.Canon) : InR State.Canon (timeSeq l s) := by
  unfold timeSeq
  extract_lets +onlyGivenNames y0
  clear_value y0
  refine inR_mk ?_
  refine modCol_canon ?_
  exact hc1

theorem syncSend_canon {l : Nat} {d : Bool} {gm : Nat} {s : Machine.State} (hc1 : s.Canon) :
    (syncSend l d gm s).Canon := by
  unfold syncSend
  refine ite_of ?_ ?_
  · split
    rename_i v0 v1 v2 v3
    have h4 : State.Canon v2 := by
      refine (of_eq (P := (InR State.Canon)) v3 ?_)
      refine timeSeq_canon ?_
      exact hc1
    extract_lets +onlyGivenNames y5
    clear_value y5
    refine timeSend_canon ?_
    exact h4
  · exact hc1

theorem execTimeRelayTimer_canon {link : Fin 8} {what : Fin 3} {gm : BitVec 64} {s : Machine.State} (hc1 : s.Canon) :
    Goes State.Canon (execTimeRelayTimer link what gm s) := by
  unfold execTimeRelayTimer
  refine done_canon ?_
  extract_lets +onlyGivenNames y0
  clear_value y0
  refine ite_of ?_ ?_
  · exact hc1
  · extract_lets +onlyGivenNames y1
    clear_value y1
    refine shfSettle_canon ?_
    split
    · rename_i v2 v3 v4
      refine syncSend_canon ?_
      exact hc1
    · rename_i v5 v6 v7
      refine syncSend_canon ?_
      exact hc1
    · rename_i v8 v9 v10
      extract_lets +onlyGivenNames y11
      have h12 : (InR State.Canon) y11 := by
        unfold y11
        refine timeSeq_canon ?_
        exact hc1
      clear_value y11
      refine timeSend_canon ?_
      refine inR_snd ?_
      exact h12
    · rename_i v13 v14 v15 v16 v17 v18
      exact hc1

theorem execCoilSyncTimeout_canon {domB : Bool} {s : Machine.State} (hc1 : s.Canon) :
    Goes State.Canon (execCoilSyncTimeout domB s) := by
  unfold execCoilSyncTimeout
  refine done_canon ?_
  refine ite_of ?_ ?_
  · refine domainState_canon ?_
    exact hc1
  · exact hc1

theorem xferAck_canon {f : CoilFrame} {off : Nat} {busy : Bool} {s : Machine.State} (hc1 : s.Canon) :
    (xferAck f off busy s).Canon := by
  unfold xferAck
  refine coilSend_canon ?_
  exact hc1

theorem updManifest_canon {x0 : XferIn} {s : Machine.State} (hc1 : s.Canon) : (updManifest x0 s).Canon := by
  unfold updManifest
  extract_lets +onlyGivenNames y0
  clear_value y0
  extract_lets +onlyGivenNames y1
  clear_value y1
  refine ite_of ?_ ?_
  · exact hc1
  · extract_lets +onlyGivenNames y2
    clear_value y2
    extract_lets +onlyGivenNames y3
    clear_value y3
    extract_lets +onlyGivenNames y4
    have h5 : State.Canon y4 := by
      unfold y4
      refine modCol_canon ?_
      exact hc1
    clear_value y4
    extract_lets +onlyGivenNames y6
    clear_value y6
    extract_lets +onlyGivenNames y7
    have h8 : State.Canon y7 := by
      unfold y7
      refine ite_of ?_ ?_
      · refine setBank_canon ?_
        exact h5
      · exact h5
    clear_value y7
    refine updReport_canon ?_
    exact h8

theorem lockApply_canon {b : List Byte} {s : Machine.State} (hc1 : s.Canon) : InL State.Canon (lockApply b s) := by
  unfold lockApply
  extract_lets +onlyGivenNames y0
  clear_value y0
  extract_lets +onlyGivenNames y1
  clear_value y1
  refine ite_of ?_ ?_
  · refine inL_mk ?_
    exact hc1
  · refine ite_of ?_ ?_
    · refine inL_mk ?_
      exact hc1
    · refine ite_of ?_ ?_
      · refine inL_mk ?_
        exact hc1
      · refine ite_of ?_ ?_
        · refine inL_mk ?_
          exact hc1
        · refine ite_of ?_ ?_
          · refine inL_mk ?_
            exact hc1
          · split
            · rename_i v2 v3
              refine inL_mk ?_
              exact hc1
            · rename_i v4 v5 v6
              have h7 : State.Canon v5 := by
                refine (of_eq (P := (InO State.Canon)) v6 ?_) _ rfl
                refine ite_of ?_ ?_
                · refine commitStore_canon ?_
                  exact hc1
                · exact inO_none
              refine inL_mk ?_
              refine raise_canon ?_
              refine wr_canon ?_
              refine wrB_canon ?_
              exact h7

theorem updLockMsg_canon {x0 : XferIn} {s : Machine.State} (hc1 : s.Canon) : (updLockMsg x0 s).Canon := by
  unfold updLockMsg
  refine ite_of ?_ ?_
  · exact hc1
  · extract_lets +onlyGivenNames y0
    have h1 : (InL State.Canon) y0 := by
      unfold y0
      refine lockApply_canon ?_
      refine modCol_canon ?_
      exact hc1
    clear_value y0
    refine updReport_canon ?_
    refine inL_fst ?_
    exact h1

theorem xferTake_canon {x0 : XferIn} {s : Machine.State} (hc1 : s.Canon) : (xferTake x0 s).Canon := by
  unfold xferTake
  refine ite_of ?_ ?_
  · refine ite_of ?_ ?_
    · extract_lets +onlyGivenNames y0
      clear_value y0
      extract_lets +onlyGivenNames y1
      clear_value y1
      refine ite_of ?_ ?_
      · exact hc1
      · extract_lets +onlyGivenNames y2
        have h3 : State.Canon y2 := by
          unfold y2
          refine modCol_canon ?_
          exact hc1
        clear_value y2
        refine canon_mk ?_
        exact h3
    · refine canon_mk ?_
      exact hc1
  · refine ite_of ?_ ?_
    · refine updManifest_canon ?_
      exact hc1
    · refine ite_of ?_ ?_
      · refine updLockMsg_canon ?_
        exact hc1
      · exact hc1

theorem execXferDataRx_canon {s : Machine.State} (hc1 : s.Canon) : Goes State.Canon (execXferDataRx s) := by
  unfold execXferDataRx
  refine done_canon ?_
  split
  · rename_i v0 v1
    exact hc1
  · rename_i v2 v3 v4 v5
    have h6 : State.Canon v4 := by
      refine (of_eq (P := (InO (InR State.Canon))) v5 ?_) _ rfl
      refine inboxTake_canon ?_
      exact hc1
    refine ite_of ?_ ?_
    · exact h6
    · extract_lets +onlyGivenNames y7
      clear_value y7
      extract_lets +onlyGivenNames y8
      clear_value y8
      extract_lets +onlyGivenNames y9
      clear_value y9
      refine shfSettle_canon ?_
      refine ite_of ?_ ?_
      · refine xferAck_canon ?_
        exact h6
      · refine ite_of ?_ ?_
        · refine xferAck_canon ?_
          refine modCol_canon ?_
          exact h6
        · extract_lets +onlyGivenNames y10
          clear_value y10
          refine xferTake_canon ?_
          refine xferAck_canon ?_
          refine modCol_canon ?_
          exact h6

theorem configSent_canon {x0 : XferOut} {s : Machine.State} (hc1 : s.Canon) : (configSent x0 s).Canon := by
  unfold configSent
  refine ite_of ?_ ?_
  · refine configNext_canon ?_
    exact hc1
  · refine coilSend_canon ?_
    exact hc1

theorem xferEnd_canon {x0 : XferOut} {s : Machine.State} (hc1 : s.Canon) : (xferEnd x0 s).Canon := by
  unfold xferEnd
  refine modCol_canon ?_
  exact hc1

theorem execXferAckRx_canon {s : Machine.State} (hc1 : s.Canon) : Goes State.Canon (execXferAckRx s) := by
  unfold execXferAckRx
  refine done_canon ?_
  split
  · rename_i v0 v1
    exact hc1
  · rename_i v2 v3 v4 v5
    have h6 : State.Canon v4 := by
      refine (of_eq (P := (InO (InR State.Canon))) v5 ?_) _ rfl
      refine inboxTake_canon ?_
      exact hc1
    split
    · rename_i v7 v8
      exact h6
    · rename_i v9 v10 v11
      refine shfSettle_canon ?_
      refine ite_of ?_ ?_
      · refine setXout_canon ?_
        exact h6
      · refine ite_of ?_ ?_
        · extract_lets +onlyGivenNames y12
          refine ite_of ?_ ?_
          · refine ite_of ?_ ?_
            · refine configSent_canon ?_
              refine xferEnd_canon ?_
              exact h6
            · refine setXout_canon ?_
              exact h6
          · refine xferPump_canon ?_
            exact h6
        · exact h6

theorem trialStart_canon {bank : Nat} {s : Machine.State} (hc1 : s.Canon) : (trialStart bank s).Canon := by
  unfold trialStart
  extract_lets +onlyGivenNames y0
  have h1 : State.Canon y0 := by
    unfold y0
    refine modUpd_canon ?_
    exact hc1
  clear_value y0
  refine resetTo_canon ?_
  refine wrF_canon ?_
  exact h1

theorem execXferCommandRx_canon {s : Machine.State} (hc1 : s.Canon) : Goes State.Canon (execXferCommandRx s) := by
  unfold execXferCommandRx
  refine done_canon ?_
  split
  · rename_i v0 v1
    exact hc1
  · rename_i v2 v3 v4 v5
    have h6 : State.Canon v4 := by
      refine (of_eq (P := (InO (InR State.Canon))) v5 ?_) _ rfl
      refine inboxTake_canon ?_
      exact hc1
    refine ite_of ?_ ?_
    · exact h6
    · refine ite_of ?_ ?_
      · refine ite_of ?_ ?_
        · refine trialStart_canon ?_
          exact h6
        · exact h6
      · extract_lets +onlyGivenNames y7
        clear_value y7
        extract_lets +onlyGivenNames y8
        clear_value y8
        refine ite_of ?_ ?_
        · refine slotReject_canon ?_
          exact h6
        · extract_lets +onlyGivenNames y9
          have h10 : State.Canon y9 := by
            unfold y9
            refine wrWords_canon ?_
            exact h6
          clear_value y9
          extract_lets +onlyGivenNames y11
          have h12 : State.Canon y11 := by
            unfold y11
            refine modCol_canon ?_
            exact h10
          clear_value y11
          extract_lets +onlyGivenNames y13
          clear_value y13
          extract_lets +onlyGivenNames y14
          clear_value y14
          refine shfSettle_canon ?_
          refine coilResult_canon ?_
          split
          · rename_i v15 v16
            refine cfgAccept_canon ?_ ?_
            · intro s17 h18
              dsimp -zeta only
              refine cfgNext_canon ?_
              exact h18
            · exact h12
          · rename_i v19 v20
            refine cfgAccept_canon ?_ ?_
            · intro s21 h22
              refine swapRun_canon ?_
              exact h22
            · exact h12
          · rename_i v23 v24
            refine slotCommand_canon ?_ ?_
            · intro s25 h26
              dsimp -zeta only
              refine ite_of ?_ ?_
              · refine slotResult_canon ?_
                exact h26
              · refine resetTo_canon ?_
                refine canon_mk ?_
                exact h26
            · exact h12
          · rename_i v27 v28 v29 v30
            refine slotRun_canon ?_ ?_
            · intro x31
              intro h32
              refine inL_mk ?_
              exact h32
            · exact h12

theorem configResult_canon {did : Nat} {obj : Nat} {data : List Byte} {s : Machine.State} (hc1 : s.Canon) :
    (configResult did obj data s).Canon := by
  unfold configResult
  extract_lets +onlyGivenNames y0
  have h1 : State.Canon y0 := by
    unfold y0
    refine ite_of ?_ ?_
    · refine modCol_canon ?_
      exact hc1
    · exact hc1
  clear_value y0
  extract_lets +onlyGivenNames y2
  have h3 : State.Canon y2 := by
    unfold y2
    refine foldl_of ?_ ?_
    · exact h1
    · intro x4
      intro x5
      intro h6
      refine xferPump_canon ?_
      exact h6
  clear_value y2
  split
  · rename_i v7 v8 v9
    refine ite_of ?_ ?_
    · refine configNext_canon ?_
      exact h3
    · exact h3
  · rename_i v10 v11
    exact h3

theorem stageNext_canon {did : Nat} {s : Machine.State} (hc1 : s.Canon) : (stageNext did s).Canon := by
  unfold stageNext
  split
  · rename_i v0 v1
    exact hc1
  · rename_i v2 v3 v4
    refine ite_of ?_ ?_
    · exact hc1
    · refine ite_of ?_ ?_
      · refine xferStart_canon ?_
        exact hc1
      · extract_lets +onlyGivenNames y5
        clear_value y5
        split
        · rename_i v6 v7 v8
          refine xferStart_canon ?_
          exact hc1
        · rename_i v9 v10
          exact hc1

theorem updProgress_canon {s : Machine.State} (hc1 : s.Canon) : (updProgress s).Canon := by
  unfold updProgress
  split
  · rename_i v0 v1
    exact hc1
  · rename_i v2 v3 v4
    extract_lets +onlyGivenNames y5
    clear_value y5
    refine wr_canon ?_
    exact hc1

theorem setUpdState_canon {v : Nat} {s : Machine.State} (hc1 : s.Canon) : (setUpdState v s).Canon := by
  unfold setUpdState
  refine wrF_canon ?_
  exact hc1

theorem partStaged_canon {i : Nat} {did : Nat} {s : Machine.State} (hc1 : s.Canon) : (partStaged i did s).Canon := by
  unfold partStaged
  extract_lets +onlyGivenNames y0
  have h1 : State.Canon y0 := by
    unfold y0
    refine updProgress_canon ?_
    refine modUpd_canon ?_
    exact hc1
  clear_value y0
  split
  · rename_i v2 v3
    exact h1
  · rename_i v4 v5 v6
    refine ite_of ?_ ?_
    · extract_lets +onlyGivenNames y7
      clear_value y7
      extract_lets +onlyGivenNames y8
      clear_value y8
      refine raise_canon ?_
      refine setUpdState_canon ?_
      refine setBank_canon ?_
      exact h1
    · exact h1

theorem updResult_canon {did : Nat} {obj : Nat} {x2 : Nat} {code : Nat} {s : Machine.State} (hc1 : s.Canon) :
    (updResult did obj x2 code s).Canon := by
  unfold updResult
  extract_lets +onlyGivenNames y0
  have h1 : State.Canon y0 := by
    unfold y0
    refine modCol_canon ?_
    exact hc1
  clear_value y0
  refine ite_of ?_ ?_
  · extract_lets +onlyGivenNames y2
    have h3 : State.Canon y2 := by
      unfold y2
      refine modUpd_canon ?_
      exact h1
    clear_value y2
    refine setLive_canon ?_
    exact h3
  · refine ite_of ?_ ?_
    · exact h1
    · extract_lets +onlyGivenNames y4
      clear_value y4
      extract_lets +onlyGivenNames y5
      have h6 : State.Canon y5 := by
        unfold y5
        refine ite_of ?_ ?_
        · refine modUpd_canon ?_
          exact h1
        · refine ite_of ?_ ?_
          · refine modUpd_canon ?_
            exact h1
          · exact h1
      clear_value y5
      refine ite_of ?_ ?_
      · refine ite_of ?_ ?_
        · refine stageNext_canon ?_
          refine modUpd_canon ?_
          exact h6
        · refine stageFail_canon ?_
          exact h6
      · extract_lets +onlyGivenNames y7
        clear_value y7
        split
        · rename_i v8 v9
          exact h6
        · rename_i v10 v11 v12
          refine ite_of ?_ ?_
          · refine stageNext_canon ?_
            refine partStaged_canon ?_
            exact h6
          · refine stageFail_canon ?_
            refine modUpd_canon ?_
            exact h6

theorem execXferResultRx_canon {s : Machine.State} (hc1 : s.Canon) : Goes State.Canon (execXferResultRx s) := by
  unfold execXferResultRx
  refine done_canon ?_
  split
  · rename_i v0 v1
    exact hc1
  · rename_i v2 v3 v4 v5
    have h6 : State.Canon v4 := by
      refine (of_eq (P := (InO (InR State.Canon))) v5 ?_) _ rfl
      refine inboxTake_canon ?_
      exact hc1
    refine ite_of ?_ ?_
    · exact h6
    · refine shfSettle_canon ?_
      refine ite_of ?_ ?_
      · refine configResult_canon ?_
        exact h6
      · refine updResult_canon ?_
        exact h6

theorem bankDrop_canon {bank : Nat} {s : Machine.State} (hc1 : s.Canon) : (bankDrop bank s).Canon := by
  unfold bankDrop
  refine setBank_canon ?_
  exact hc1

theorem execXferAbortRx_canon {s : Machine.State} (hc1 : s.Canon) : Goes State.Canon (execXferAbortRx s) := by
  unfold execXferAbortRx
  refine done_canon ?_
  split
  · rename_i v0 v1
    exact hc1
  · rename_i v2 v3 v4 v5
    have h6 : State.Canon v4 := by
      refine (of_eq (P := (InO (InR State.Canon))) v5 ?_) _ rfl
      refine inboxTake_canon ?_
      exact hc1
    refine ite_of ?_ ?_
    · exact h6
    · extract_lets +onlyGivenNames y7
      have h8 : State.Canon y7 := by
        unfold y7
        split
        · rename_i v9 v10 v11
          refine ite_of ?_ ?_
          · refine modCol_canon ?_
            exact h6
          · exact h6
        · rename_i v12 v13
          exact h6
      clear_value y7
      refine ite_of ?_ ?_
      · refine bankDrop_canon ?_
        exact h8
      · exact h8

theorem execXferRetxTimeout_canon {x0 : Fin 65536} {s : Machine.State} (hc1 : s.Canon) :
    Goes State.Canon (execXferRetxTimeout x0 s) := by
  unfold execXferRetxTimeout
  refine done_canon ?_
  split
  · rename_i v0 v1
    exact hc1
  · rename_i v2 v3 v4
    refine ite_of ?_ ?_
    · exact hc1
    · refine ite_of ?_ ?_
      · extract_lets +onlyGivenNames y5
        have h6 : State.Canon y5 := by
          unfold y5
          refine coilSend_canon ?_
          refine raise_canon ?_
          refine xferEnd_canon ?_
          exact hc1
        clear_value y5
        refine shfSettle_canon ?_
        refine ite_of ?_ ?_
        · refine modCol_canon ?_
          exact h6
        · refine stageFail_canon ?_
          exact h6
      · extract_lets +onlyGivenNames y7
        clear_value y7
        extract_lets +onlyGivenNames y8
        have h9 : State.Canon y8 := by
          unfold y8
          refine forN_of ?_ ?_
          · refine bumpN_canon ?_
            exact hc1
          · intro x10
            intro x11
            intro h12
            refine xferChunk_canon ?_
            exact h12
        clear_value y8
        refine shfSettle_canon ?_
        refine setXout_canon ?_
        exact h9

theorem recordFail_canon {p : Nat} {cause : Nat} {s : Machine.State} (hc1 : s.Canon) :
    (recordFail p cause s).Canon := by
  unfold recordFail
  extract_lets +onlyGivenNames y0
  clear_value y0
  refine wr_canon ?_
  refine wr_canon ?_
  refine wr_canon ?_
  exact hc1

theorem setRole_canon {p : Nat} {r : Nat} {s : Machine.State} (hc1 : s.Canon) : (setRole p r s).Canon := by
  unfold setRole
  refine wrF_canon ?_
  exact hc1

theorem setKpair_canon {p : Nat} {v : KPair} {s : Machine.State} (hc1 : s.Canon) : (setKpair p v s).Canon := by
  unfold setKpair
  refine canon_mk ?_
  exact hc1

theorem failOutcome_canon {p : Nat} {outcome : Nat} {s : Machine.State} (hc1 : s.Canon) :
    (failOutcome p outcome s).Canon := by
  unfold failOutcome
  refine ite_of ?_ ?_
  · refine wrF_canon ?_
    exact hc1
  · exact hc1

theorem retirePair_canon {p : Nat} {s : Machine.State} (hc1 : s.Canon) : (retirePair p s).Canon := by
  unfold retirePair
  extract_lets +onlyGivenNames y0
  have h1 : State.Canon y0 := by
    unfold y0
    refine failOutcome_canon ?_
    refine setRole_canon ?_
    refine wrB_canon ?_
    exact hc1
  clear_value y0
  refine raise_canon ?_
  refine bump_canon ?_
  exact h1

theorem selfTest_canon {p : Nat} {s : Machine.State} (hc1 : s.Canon) : (selfTest p s).Canon := by
  unfold selfTest
  extract_lets +onlyGivenNames y0
  clear_value y0
  extract_lets +onlyGivenNames y1
  have h2 : State.Canon y1 := by
    unfold y1
    refine setKpair_canon ?_
    exact hc1
  clear_value y1
  refine ite_of ?_ ?_
  · refine retirePair_canon ?_
    exact h2
  · refine setRole_canon ?_
    exact h2

theorem klnSettle_canon {s : Machine.State} (hc1 : s.Canon) : (klnSettle s).Canon := by
  unfold klnSettle
  extract_lets +onlyGivenNames y0
  clear_value y0
  extract_lets +onlyGivenNames y1
  have h2 : State.Canon y1 := by
    unfold y1
    refine liveTo_canon ?_
    exact hc1
  clear_value y1
  extract_lets +onlyGivenNames y3
  have h4 : State.Canon y3 := by
    unfold y3
    refine liveTo_canon ?_
    exact h2
  clear_value y3
  extract_lets +onlyGivenNames y5
  have h6 : State.Canon y5 := by
    unfold y5
    refine ite_of ?_ ?_
    · refine footFault_canon ?_
      exact h4
    · exact h4
  clear_value y5
  refine wrB_canon ?_
  refine liveTo_canon ?_
  exact h6

theorem failoverBegin_canon {n : Nat} {s : State} (hc1 : s.Canon) : (failoverBegin n s).Canon := by
  induction n generalizing s with
  | zero => exact hc1
  | succ n ih =>
    unfold failoverBegin
    split
    · exact hc1
    · refine ite_of hc1 (ite_of (ih (selfTest_canon (canon_mk hc1))) ?_)
      extract_lets b t
      have ht : t.Canon := raise_canon (bump_canon hc1)
      split
      · exact canon_mk (setRole_canon ht)
      · exact canon_mk (wrB_canon ht)
      · exact ih (canon_mk ht)

theorem failoverBreaks_canon {q : Nat} {cause : Nat} {s : Machine.State} (hc1 : s.Canon) :
    (failoverBreaks q cause s).Canon := by
  unfold failoverBreaks
  split
  · rename_i v0 v1
    exact hc1
  · rename_i v2 v3 v4 v5
    extract_lets +onlyGivenNames y6
    clear_value y6
    extract_lets +onlyGivenNames y7
    have h8 : State.Canon y7 := by
      unfold y7
      refine recordFail_canon ?_
      refine setRole_canon ?_
      exact hc1
    clear_value y7
    extract_lets +onlyGivenNames y9
    have h10 : State.Canon y9 := by
      unfold y9
      refine ite_of ?_ ?_
      · refine selfTest_canon ?_
        exact h8
      · exact h8
    clear_value y9
    extract_lets +onlyGivenNames y11
    clear_value y11
    refine klnSettle_canon ?_
    refine failoverBegin_canon ?_
    refine canon_mk ?_
    exact h10

theorem withLogs_canon {p : Nat} {undo : Nat} {inLog : List Nat} {outLog : List Nat} {s : Machine.State} (hc1 : s.Canon) :
    (withLogs p undo inLog outLog s).Canon := by
  unfold withLogs
  refine setKpair_canon ?_
  exact hc1

theorem failPair_canon {p : Nat} {cause : Nat} {s : Machine.State} (hc1 : s.Canon) : (failPair p cause s).Canon := by
  unfold failPair
  extract_lets +onlyGivenNames y0
  clear_value y0
  extract_lets +onlyGivenNames y1
  have h2 : State.Canon y1 := by
    unfold y1
    refine recordFail_canon ?_
    refine setKpair_canon ?_
    refine setRole_canon ?_
    exact hc1
  clear_value y1
  refine klnSettle_canon ?_
  refine failoverBegin_canon ?_
  refine canon_mk ?_
  exact h2

theorem execLockstepMismatch_canon {p : Fin 5} {undo : Nat} {inLog : List Nat} {outLog : List Nat} {s : Machine.State} (hc1 : s.Canon) :
    Goes State.Canon (execLockstepMismatch p undo inLog outLog s) := by
  unfold execLockstepMismatch
  refine done_canon ?_
  extract_lets +onlyGivenNames y0
  have h1 : State.Canon y0 := by
    unfold y0
    refine ite_of ?_ ?_
    · refine injDone_canon ?_
      exact hc1
    · exact hc1
  clear_value y0
  refine ite_of ?_ ?_
  · refine failoverBreaks_canon ?_
    refine withLogs_canon ?_
    exact h1
  · refine ite_of ?_ ?_
    · refine failPair_canon ?_
      refine withLogs_canon ?_
      exact h1
    · refine ite_of ?_ ?_
      · refine klnSettle_canon ?_
        refine selfTest_canon ?_
        refine recordFail_canon ?_
        refine setRole_canon ?_
        exact h1
      · exact h1

theorem moveTasks_canon {p : Nat} {q : Nat} {s : Machine.State} (hc1 : s.Canon) : (moveTasks p q s).Canon := by
  unfold moveTasks
  refine foldl_of ?_ ?_
  · exact hc1
  · intro x0
    intro x1
    intro h2
    refine wrF_canon ?_
    exact h2

theorem execFailoverResume_canon {outs : List Nat} {asked : Nat} {s : Machine.State} (hc1 : s.Canon) :
    Goes State.Canon (execFailoverResume outs asked s) := by
  unfold execFailoverResume
  refine done_canon ?_
  split
  · rename_i v0 v1
    exact hc1
  · rename_i v2 v3 v4 v5
    split
    · rename_i v6 v7
      exact hc1
    · rename_i v8 v9 v10
      extract_lets +onlyGivenNames y11
      clear_value y11
      extract_lets +onlyGivenNames y12
      clear_value y12
      extract_lets +onlyGivenNames y13
      have h14 : State.Canon y13 := by
        unfold y13
        refine ite_of ?_ ?_
        · refine injDone_canon ?_
          exact hc1
        · exact hc1
      clear_value y13
      refine ite_of ?_ ?_
      · refine failoverBreaks_canon ?_
        refine raise_canon ?_
        refine bump_canon ?_
        exact h14
      · extract_lets +onlyGivenNames y15
        have h16 : State.Canon y15 := by
          unfold y15
          refine foldl_of ?_ ?_
          · exact h14
          · intro x17
            intro x18
            intro h19
            refine emit_canon ?_
            exact h19
        clear_value y15
        extract_lets +onlyGivenNames y20
        have h21 : State.Canon y20 := by
          unfold y20
          refine moveTasks_canon ?_
          refine ite_of ?_ ?_
          · refine setRole_canon ?_
            exact h16
          · exact h16
        clear_value y20
        extract_lets +onlyGivenNames y22
        clear_value y22
        extract_lets +onlyGivenNames y23
        have h24 : State.Canon y23 := by
          unfold y23
          refine selfTest_canon ?_
          refine canon_mk ?_
          exact h21
        clear_value y23
        refine klnSettle_canon ?_
        refine failoverBegin_canon ?_
        exact h24

theorem commitPair_canon {p : Nat} {early : Bool} {s : Machine.State} (hc1 : s.Canon) :
    (commitPair p early s).Canon := by
  unfold commitPair
  extract_lets +onlyGivenNames y0
  clear_value y0
  extract_lets +onlyGivenNames y1
  have h2 : State.Canon y1 := by
    unfold y1
    refine ite_of ?_ ?_
    · refine injDone_canon ?_
      exact hc1
    · exact hc1
  clear_value y1
  extract_lets +onlyGivenNames y3
  have h4 : State.Canon y3 := by
    unfold y3
    refine ite_of ?_ ?_
    · refine bump_canon ?_
      exact h2
    · exact h2
  clear_value y3
  refine setKpair_canon ?_
  exact h4

theorem execKilnCheckpoint_canon {p : Fin 5} {early : Bool} {differs : Bool} {s : Machine.State} (hc1 : s.Canon) :
    Goes State.Canon (execKilnCheckpoint p early differs s) := by
  unfold execKilnCheckpoint
  refine done_canon ?_
  refine ite_of ?_ ?_
  · exact hc1
  · extract_lets +onlyGivenNames y0
    clear_value y0
    extract_lets +onlyGivenNames y1
    have h2 : State.Canon y1 := by
      unfold y1
      refine ite_of ?_ ?_
      · refine injDone_canon ?_
        exact hc1
      · exact hc1
    clear_value y1
    refine ite_of ?_ ?_
    · extract_lets +onlyGivenNames y3
      have h4 : State.Canon y3 := by
        unfold y3
        refine raise_canon ?_
        refine bump_canon ?_
        refine recordFail_canon ?_
        exact h2
      clear_value y3
      refine setKpair_canon ?_
      exact h4
    · extract_lets +onlyGivenNames y5
      clear_value y5
      extract_lets +onlyGivenNames y6
      have h7 : State.Canon y6 := by
        unfold y6
        refine commitPair_canon ?_
        exact h2
      clear_value y6
      refine ite_of ?_ ?_
      · exact h7
      · extract_lets +onlyGivenNames y8
        clear_value y8
        extract_lets +onlyGivenNames y9
        have h10 : State.Canon y9 := by
          unfold y9
          refine setKpair_canon ?_
          exact h7
        clear_value y9
        split
        · rename_i v11 v12 v13
          refine ite_of ?_ ?_
          · refine klnSettle_canon ?_
            refine selfTest_canon ?_
            refine setRole_canon ?_
            refine moveTasks_canon ?_
            refine setRole_canon ?_
            exact h10
          · refine setKpair_canon ?_
            exact h10
        · rename_i v14 v15
          refine failOutcome_canon ?_
          exact h10

theorem execPairWdg_canon {p : Fin 5} {undo : Nat} {inLog : List Nat} {outLog : List Nat} {s : Machine.State} (hc1 : s.Canon) :
    Goes State.Canon (execPairWdg p undo inLog outLog s) := by
  unfold execPairWdg
  refine done_canon ?_
  refine ite_of ?_ ?_
  · extract_lets +onlyGivenNames y0
    have h1 : State.Canon y0 := by
      unfold y0
      refine withLogs_canon ?_
      refine raise_canon ?_
      refine bump_canon ?_
      exact hc1
    clear_value y0
    refine ite_of ?_ ?_
    · refine failoverBreaks_canon ?_
      exact h1
    · refine failPair_canon ?_
      exact h1
  · exact hc1

theorem execPairBistDone_canon {p : Fin 5} {pass : Bool} {s : Machine.State} (hc1 : s.Canon) :
    Goes State.Canon (execPairBistDone p pass s) := by
  unfold execPairBistDone
  refine done_canon ?_
  refine ite_of ?_ ?_
  · exact hc1
  · refine ite_of ?_ ?_
    · extract_lets +onlyGivenNames y0
      clear_value y0
      extract_lets +onlyGivenNames y1
      have h2 : State.Canon y1 := by
        unfold y1
        refine canon_mk ?_
        exact hc1
      clear_value y1
      refine klnSettle_canon ?_
      refine setRole_canon ?_
      refine failOutcome_canon ?_
      refine bump_canon ?_
      exact h2
    · refine klnSettle_canon ?_
      refine retirePair_canon ?_
      exact hc1

theorem execKilnMemScrub_canon {bits : Fin 3} {restored : Bool} {s : Machine.State} (hc1 : s.Canon) :
    Goes State.Canon (execKilnMemScrub bits restored s) := by
  unfold execKilnMemScrub
  refine done_canon ?_
  split
  rename_i v0 v1 v2 v3
  have h4 : State.Canon v2 := by
    refine (of_eq (P := (InR State.Canon)) v3 ?_)
    split
    · rename_i v5 v6 v7 v8
      refine inR_mk ?_
      refine injDone_canon ?_
      exact hc1
    · rename_i v9 v10
      refine inR_mk ?_
      exact hc1
  refine ite_of ?_ ?_
  · exact h4
  · extract_lets +onlyGivenNames y11
    have h12 : State.Canon y11 := by
      unfold y11
      refine raise_canon ?_
      exact h4
    clear_value y11
    refine ite_of ?_ ?_
    · exact h12
    · refine klnSettle_canon ?_
      refine forN_of ?_ ?_
      · refine canon_mk ?_
        exact h12
      · intro x13
        intro x14
        intro h15
        refine ite_of ?_ ?_
        · refine setRole_canon ?_
          exact h15
        · exact h15

theorem execSafePinAssert_canon {level : Bool} {s : Machine.State} (hc1 : s.Canon) :
    Goes State.Canon (execSafePinAssert level s) := by
  unfold execSafePinAssert
  refine done_canon ?_
  refine ite_of ?_ ?_
  · refine wrB_canon ?_
    exact hc1
  · refine ite_of ?_ ?_
    · refine enterSafe_canon ?_
      refine footFault_canon ?_
      refine wrB_canon ?_
      exact hc1
    · exact hc1

theorem execFootWdgExpiry_canon {s : Machine.State} (hc1 : s.Canon) : Goes State.Canon (execFootWdgExpiry s) := by
  unfold execFootWdgExpiry
  refine done_canon ?_
  refine ite_of ?_ ?_
  · exact hc1
  · refine wdgExpire_canon ?_
    exact hc1

theorem execFootWdgAction_canon {s : Machine.State} (hc1 : s.Canon) : Goes State.Canon (execFootWdgAction s) := by
  unfold execFootWdgAction
  refine done_canon ?_
  refine ite_of ?_ ?_
  · split
    · rename_i v0 v1
      refine resetTo_canon ?_
      exact hc1
    · rename_i v2 v3
      refine resetTo_canon ?_
      exact hc1
    · rename_i v4 v5 v6
      exact hc1
  · exact hc1

theorem execVbatReading_canon {samples : List Nat} {s : Machine.State} (hc1 : s.Canon) :
    Goes State.Canon (execVbatReading samples s) := by
  unfold execVbatReading
  refine done_canon ?_
  extract_lets +onlyGivenNames y0
  clear_value y0
  extract_lets +onlyGivenNames y1
  have h2 : State.Canon y1 := by
    unfold y1
    refine ite_of ?_ ?_
    · refine injDone_canon ?_
      exact hc1
    · exact hc1
  clear_value y1
  extract_lets +onlyGivenNames y3
  clear_value y3
  extract_lets +onlyGivenNames y4
  clear_value y4
  extract_lets +onlyGivenNames y5
  clear_value y5
  extract_lets +onlyGivenNames y6
  clear_value y6
  extract_lets +onlyGivenNames y7
  have h8 : State.Canon y7 := by
    unfold y7
    refine ite_of ?_ ?_
    · refine drawn_canon ?_
      exact h2
    · exact h2
  clear_value y7
  extract_lets +onlyGivenNames y9
  have h10 : State.Canon y9 := by
    unfold y9
    refine wr_canon ?_
    exact h8
  clear_value y9
  extract_lets +onlyGivenNames y11
  clear_value y11
  extract_lets +onlyGivenNames y12
  clear_value y12
  extract_lets +onlyGivenNames y13
  clear_value y13
  refine ite_of ?_ ?_
  · refine raiseLive_canon ?_
    exact h10
  · refine ite_of ?_ ?_
    · refine setLive_canon ?_
      exact h10
    · exact h10

theorem execInjUnlockExpiry_canon {s : Machine.State} (hc1 : s.Canon) : Goes State.Canon (execInjUnlockExpiry s) := by
  unfold execInjUnlockExpiry
  refine done_canon ?_
  refine wrB_canon ?_
  exact hc1

theorem execInjExpiry_canon {s : Machine.State} (hc1 : s.Canon) : Goes State.Canon (execInjExpiry s) := by
  unfold execInjExpiry
  refine done_canon ?_
  refine ite_of ?_ ?_
  · refine wrB_canon ?_
    refine wrB_canon ?_
    refine canon_mk ?_
    exact hc1
  · exact hc1

theorem clockFault_canon {which : Nat} {s : Machine.State} (hc1 : s.Canon) : (clockFault which s).Canon := by
  unfold clockFault
  extract_lets +onlyGivenNames y0
  clear_value y0
  extract_lets +onlyGivenNames y1
  have h2 : State.Canon y1 := by
    unfold y1
    refine canon_mk ?_
    exact hc1
  clear_value y1
  extract_lets +onlyGivenNames y3
  have h4 : State.Canon y3 := by
    unfold y3
    refine footFault_canon ?_
    exact h2
  clear_value y3
  extract_lets +onlyGivenNames y5
  have h6 : State.Canon y5 := by
    unfold y5
    refine resetTo_canon ?_
    exact h4
  clear_value y5
  refine raiseLive_canon ?_
  exact h6

theorem execClockFault_canon {which : Fin 3} {s : Machine.State} (hc1 : s.Canon) :
    Goes State.Canon (execClockFault which s) := by
  unfold execClockFault
  refine done_canon ?_
  refine clockFault_canon ?_
  exact hc1

theorem execClockFaultCleared_canon {which : Fin 3} {s : Machine.State} (hc1 : s.Canon) :
    Goes State.Canon (execClockFaultCleared which s) := by
  unfold execClockFaultCleared
  refine done_canon ?_
  refine setLive_canon ?_
  refine canon_mk ?_
  exact hc1

theorem execVmonFault_canon {r : Fin 6} {outside : Bool} {s : Machine.State} (hc1 : s.Canon) :
    Goes State.Canon (execVmonFault r outside s) := by
  unfold execVmonFault
  refine done_canon ?_
  extract_lets +onlyGivenNames y0
  clear_value y0
  extract_lets +onlyGivenNames y1
  clear_value y1
  extract_lets +onlyGivenNames y2
  have h3 : State.Canon y2 := by
    unfold y2
    refine ite_of ?_ ?_
    · refine injDone_canon ?_
      exact hc1
    · exact hc1
  clear_value y2
  extract_lets +onlyGivenNames y4
  clear_value y4
  refine setLive_canon ?_
  refine ite_of ?_ ?_
  · refine raise_canon ?_
    refine setLive_canon ?_
    exact h3
  · exact h3

theorem execTempCrit_canon {reading : Int} {s : Machine.State} (hc1 : s.Canon) :
    Goes State.Canon (execTempCrit reading s) := by
  unfold execTempCrit
  refine done_canon ?_
  extract_lets +onlyGivenNames y0
  clear_value y0
  extract_lets +onlyGivenNames y1
  clear_value y1
  extract_lets +onlyGivenNames y2
  have h3 : State.Canon y2 := by
    unfold y2
    refine setLive_canon ?_
    refine ite_of ?_ ?_
    · refine injDone_canon ?_
      exact hc1
    · exact hc1
  clear_value y2
  refine ite_of ?_ ?_
  · refine raise_canon ?_
    exact h3
  · exact h3

theorem execBusTimeout_canon {read : Bool} {s : Machine.State} (hc1 : s.Canon) :
    Goes State.Canon (execBusTimeout read s) := by
  unfold execBusTimeout
  refine done_canon ?_
  extract_lets +onlyGivenNames y0
  have h1 : State.Canon y0 := by
    unfold y0
    refine raise_canon ?_
    exact hc1
  clear_value y0
  refine ite_of ?_ ?_
  · refine setRdata_canon ?_
    exact h1
  · exact h1

theorem updReply_canon {op : Nat} {entry : Nat} {sess : Nat} {code : Nat} {more : List Byte} {s : Machine.State} (hc1 : s.Canon) :
    (updReply op entry sess code more s).Canon := by
  unfold updReply
  extract_lets +onlyGivenNames y0
  clear_value y0
  refine emit_canon ?_
  exact hc1

theorem updMsg_canon {op : Nat} {entry : Nat} {sess : Nat} {f : Machine.State → Machine.State × Nat × List Byte} {s : Machine.State} (hc1 : ∀ (a : Machine.State), a.Canon → InL State.Canon (f a)) (hc2 : s.Canon) :
    (updMsg op entry sess f s).Canon := by
  unfold updMsg
  refine ite_of ?_ ?_
  · exact hc2
  · refine ite_of ?_ ?_
    · refine updReply_canon ?_
      exact hc2
    · split
      rename_i v0 v1 v2 v3 v4
      have h5 : State.Canon v1 := by
        refine (of_eq (P := (InL State.Canon)) v4 ?_)
        refine hc1 _ ?_
        refine modUpd_canon ?_
        exact hc2
      refine updReply_canon ?_
      exact h5

theorem bankAdd_canon {bank : Nat} {ty : Nat} {did : Nat} {b : List Byte} {s : Machine.State} (hc1 : s.Canon) :
    (bankAdd bank ty did b s).Canon := by
  unfold bankAdd
  extract_lets +onlyGivenNames y0
  clear_value y0
  refine setBank_canon ?_
  exact hc1

theorem partReceived_canon {i : Nat} {s : Machine.State} (hc1 : s.Canon) : (partReceived i s).Canon := by
  unfold partReceived
  split
  · rename_i v0 v1
    exact hc1
  · rename_i v2 v3 v4
    extract_lets +onlyGivenNames y5
    clear_value y5
    extract_lets +onlyGivenNames y6
    clear_value y6
    extract_lets +onlyGivenNames y7
    clear_value y7
    extract_lets +onlyGivenNames y8
    have h9 : State.Canon y8 := by
      unfold y8
      refine ite_of ?_ ?_
      · refine bankAdd_canon ?_
        exact hc1
      · exact hc1
    clear_value y8
    refine foldl_of ?_ ?_
    · exact h9
    · intro x10
      intro x11
      intro h12
      refine stageNext_canon ?_
      exact h12

theorem updChunk_canon {entry : Nat} {off : Nat} {d : List Byte} {s : Machine.State} (hc1 : s.Canon) :
    InL State.Canon (updChunk entry off d s) := by
  unfold updChunk
  extract_lets +onlyGivenNames y0
  clear_value y0
  extract_lets +onlyGivenNames y1
  clear_value y1
  extract_lets +onlyGivenNames y2
  refine ite_of ?_ ?_
  · refine inL_mk ?_
    exact hc1
  · refine ite_of ?_ ?_
    · refine inL_mk ?_
      exact hc1
    · refine ite_of ?_ ?_
      · refine inL_mk ?_
        refine drawn_canon ?_
        exact hc1
      · refine ite_of ?_ ?_
        · refine inL_mk ?_
          exact hc1
        · extract_lets +onlyGivenNames y3
          have h4 : State.Canon y3 := by
            unfold y3
            refine modUpd_canon ?_
            exact hc1
          clear_value y3
          refine inL_mk ?_
          refine ite_of ?_ ?_
          · refine partReceived_canon ?_
            exact h4
          · exact h4

theorem execUpdData_canon {sess : BitVec 32} {entry : Fin 65536} {off : BitVec 32} {data : List Byte} {s : Machine.State} (hc1 : s.Canon) :
    Goes State.Canon (execUpdData sess entry off data s) := by
  unfold execUpdData
  refine done_canon ?_
  refine updMsg_canon ?_ ?_
  · intro x0
    intro h1
    extract_lets +onlyGivenNames y2
    have h3 : State.Canon y2 := by
      unfold y2
      refine ite_of ?_ ?_
      · exact h1
      · refine modUpd_canon ?_
        exact h1
    clear_value y2
    refine updChunk_canon ?_
    exact h3
  · exact hc1

theorem refused_canon {code : Nat} {s : Machine.State} (hc1 : s.Canon) : (refused code s).Canon := by
  unfold refused
  refine raise_canon ?_
  refine bump_canon ?_
  refine wrF_canon ?_
  exact hc1

theorem cycleBegin_canon {m : Man} {s : Machine.State} (hc1 : s.Canon) : (cycleBegin m s).Canon := by
  unfold cycleBegin
  extract_lets +onlyGivenNames y0
  clear_value y0
  extract_lets +onlyGivenNames y1
  have h2 : State.Canon y1 := by
    unfold y1
    refine modUpd_canon ?_
    exact hc1
  clear_value y1
  extract_lets +onlyGivenNames y3
  have h4 : State.Canon y3 := by
    unfold y3
    refine setUpdState_canon ?_
    refine bump_canon ?_
    refine wr_canon ?_
    refine wr_canon ?_
    exact h2
  clear_value y3
  extract_lets +onlyGivenNames y5
  have h6 : State.Canon y5 := by
    unfold y5
    refine updProgress_canon ?_
    refine bankDrop_canon ?_
    exact h4
  clear_value y5
  refine foldl_of ?_ ?_
  · exact h6
  · intro x7
    intro x8
    intro h9
    refine stageNext_canon ?_
    exact h9

theorem execUpdBegin_canon {sess : BitVec 32} {s : Machine.State} (hc1 : s.Canon) :
    Goes State.Canon (execUpdBegin sess s) := by
  unfold execUpdBegin
  refine done_canon ?_
  refine updMsg_canon ?_ ?_
  · intro x0
    intro h1
    refine ite_of ?_ ?_
    · refine inL_mk ?_
      exact h1
    · refine ite_of ?_ ?_
      · refine inL_mk ?_
        exact h1
      · split
        · rename_i v2 v3 v4
          refine inL_mk ?_
          exact h1
        · rename_i v5 v6 v7
          extract_lets +onlyGivenNames y8
          clear_value y8
          extract_lets +onlyGivenNames y9
          have h10 : State.Canon y9 := by
            unfold y9
            refine modUpd_canon ?_
            exact h1
          clear_value y9
          refine ite_of ?_ ?_
          · refine inL_mk ?_
            refine refused_canon ?_
            exact h10
          · refine inL_mk ?_
            refine cycleBegin_canon ?_
            exact h10
  · exact hc1

theorem execUpdStatus_canon {sess : BitVec 32} {entry : Fin 65536} {s : Machine.State} (hc1 : s.Canon) :
    Goes State.Canon (execUpdStatus sess entry s) := by
  unfold execUpdStatus
  refine done_canon ?_
  refine updMsg_canon ?_ ?_
  · intro x0
    intro h1
    refine inL_mk ?_
    exact h1
  · exact hc1

theorem orderNow_canon {k : Nat} {did : Nat} {s : Machine.State} (hc1 : s.Canon) : (orderNow k did s).Canon := by
  unfold orderNow
  extract_lets +onlyGivenNames y0
  clear_value y0
  split
  · rename_i v1 v2 v3
    refine bump_canon ?_
    refine emit_canon ?_
    exact hc1
  · rename_i v4 v5
    refine bump_canon ?_
    exact hc1

theorem activate_canon {s : Machine.State} (hc1 : s.Canon) : (activate s).Canon := by
  unfold activate
  split
  · rename_i v0 v1
    exact hc1
  · rename_i v2 v3 v4
    extract_lets +onlyGivenNames y5
    clear_value y5
    extract_lets +onlyGivenNames y6
    have h7 : State.Canon y6 := by
      unfold y6
      refine modUpd_canon ?_
      refine setUpdState_canon ?_
      exact hc1
    clear_value y6
    extract_lets +onlyGivenNames y8
    have h9 : State.Canon y8 := by
      unfold y8
      refine foldl_of ?_ ?_
      · exact h7
      · intro x10
        intro x11
        intro h12
        refine orderNow_canon ?_
        exact h12
    clear_value y8
    refine trialStart_canon ?_
    exact h9

theorem execUpdCommit_canon {sess : BitVec 32} {s : Machine.State} (hc1 : s.Canon) :
    Goes State.Canon (execUpdCommit sess s) := by
  unfold execUpdCommit
  refine done_canon ?_
  extract_lets +onlyGivenNames y0
  have h1 : State.Canon y0 := by
    unfold y0
    refine updMsg_canon ?_ ?_
    · intro x2
      intro h3
      refine ite_of ?_ ?_
      · refine inL_mk ?_
        exact h3
      · extract_lets +onlyGivenNames y4
        clear_value y4
        refine ite_of ?_ ?_
        · refine inL_mk ?_
          refine refused_canon ?_
          exact h3
        · refine inL_mk ?_
          refine setUpdState_canon ?_
          exact h3
    · exact hc1
  clear_value y0
  refine ite_of ?_ ?_
  · refine activate_canon ?_
    exact h1
  · exact h1

theorem sessionEnd_canon {s : Machine.State} (hc1 : s.Canon) : (sessionEnd s).Canon := by
  unfold sessionEnd
  extract_lets +onlyGivenNames y0
  have h1 : State.Canon y0 := by
    unfold y0
    split
    · rename_i v2 v3 v4
      refine ite_of ?_ ?_
      · extract_lets +onlyGivenNames y5
        clear_value y5
        extract_lets +onlyGivenNames y6
        have h7 : State.Canon y6 := by
          unfold y6
          refine foldl_of ?_ ?_
          · refine bankDrop_canon ?_
            exact hc1
          · intro x8
            intro x9
            intro h10
            refine coilSend_canon ?_
            exact h10
        clear_value y6
        refine modCol_canon ?_
        exact h7
      · exact hc1
    · rename_i v11 v12
      exact hc1
  clear_value y0
  refine setUpdState_canon ?_
  refine modUpd_canon ?_
  exact h1

theorem execUpdAbort_canon {sess : BitVec 32} {s : Machine.State} (hc1 : s.Canon) :
    Goes State.Canon (execUpdAbort sess s) := by
  unfold execUpdAbort
  refine done_canon ?_
  refine updMsg_canon ?_ ?_
  · intro x0
    intro h1
    refine ite_of ?_ ?_
    · refine inL_mk ?_
      exact h1
    · refine inL_mk ?_
      refine sessionEnd_canon ?_
      exact h1
  · exact hc1

end Sys2Proof.Machine
end

