-- ==== Sys2Proof/Laws/Canon6.lean ====
section
/-! SUPPORT. Sys2Proof/Laws/Canon6.lean: every operation keeps the canonical form of the stores (State.Canon), one lemma per operation, part 6. -/

set_option linter.unusedVariables false

namespace Sys2Proof.Machine
open Sys2Proof

theorem execUpdLock_canon {sess : BitVec 32} {s : Machine.State} (hc1 : s.Canon) :
    Goes State.Canon (execUpdLock sess s) := by
  unfold execUpdLock
  refine done_canon ?_
  refine updMsg_canon ?_ ?_
  · intro x0
    intro h1
    extract_lets +onlyGivenNames y2
    clear_value y2
    extract_lets +onlyGivenNames y3
    have h4 : State.Canon y3 := by
      unfold y3
      refine modUpd_canon ?_
      exact h1
    clear_value y3
    refine ite_of ?_ ?_
    · refine inL_mk ?_
      exact h4
    · split
      · rename_i v5 v6 v7
        refine inL_mk ?_
        refine xferStart_canon ?_
        exact h4
      · rename_i v8 v9
        extract_lets +onlyGivenNames y10
        have h11 : (InL State.Canon) y10 := by
          unfold y10
          refine lockApply_canon ?_
          exact h4
        clear_value y10
        refine inL_mk ?_
        refine inL_fst ?_
        exact h11
  · exact hc1

theorem execUpdSessionTimeout_canon {s : Machine.State} (hc1 : s.Canon) :
    Goes State.Canon (execUpdSessionTimeout s) := by
  unfold execUpdSessionTimeout
  refine done_canon ?_
  refine ite_of ?_ ?_
  · refine sessionEnd_canon ?_
    exact hc1
  · exact hc1

theorem stageWorker_canon {i : Nat} {ok : Bool} {s : Machine.State} (hc1 : s.Canon) : (stageWorker i ok s).Canon := by
  unfold stageWorker
  extract_lets +onlyGivenNames y0
  clear_value y0
  extract_lets +onlyGivenNames y1
  clear_value y1
  extract_lets +onlyGivenNames y2
  clear_value y2
  refine ite_of ?_ ?_
  · exact hc1
  · extract_lets +onlyGivenNames y3
    clear_value y3
    split
    · rename_i v4 v5 v6 v7
      extract_lets +onlyGivenNames y8
      have h9 : State.Canon y8 := by
        unfold y8
        refine modCol_canon ?_
        exact hc1
      clear_value y8
      extract_lets +onlyGivenNames y10
      clear_value y10
      extract_lets +onlyGivenNames y11
      have h12 : State.Canon y11 := by
        unfold y11
        refine ite_of ?_ ?_
        · refine bankAdd_canon ?_
          exact h9
        · exact h9
      clear_value y11
      refine updReport_canon ?_
      exact h12
    · rename_i v13 v14 v15 v16
      extract_lets +onlyGivenNames y17
      have h18 : State.Canon y17 := by
        unfold y17
        refine ite_of ?_ ?_
        · refine bankAdd_canon ?_
          exact hc1
        · exact hc1
      clear_value y17
      refine updReport_canon ?_
      exact h18
    · rename_i v19 v20 v21
      exact hc1

theorem stageHere_canon {i : Nat} {ok : Bool} {s : Machine.State} (hc1 : s.Canon) : (stageHere i ok s).Canon := by
  unfold stageHere
  split
  · rename_i v0 v1
    exact hc1
  · rename_i v2 v3 v4
    extract_lets +onlyGivenNames y5
    clear_value y5
    extract_lets +onlyGivenNames y6
    clear_value y6
    refine ite_of ?_ ?_
    · exact hc1
    · extract_lets +onlyGivenNames y7
      clear_value y7
      split
      · rename_i v8 v9
        exact hc1
      · rename_i v10 v11 v12
        refine ite_of ?_ ?_
        · refine partStaged_canon ?_
          refine bankAdd_canon ?_
          exact hc1
        · refine stageFail_canon ?_
          refine modUpd_canon ?_
          exact hc1

theorem execUpdPartStaged_canon {entry : Fin 256} {ok : Bool} {s : Machine.State} (hc1 : s.Canon) :
    Goes State.Canon (execUpdPartStaged entry ok s) := by
  unfold execUpdPartStaged
  refine done_canon ?_
  refine ite_of ?_ ?_
  · refine stageWorker_canon ?_
    exact hc1
  · refine stageHere_canon ?_
    exact hc1

theorem commitBank_canon {b : Nat} {m : Man} {s : Machine.State} (hc1 : s.Canon) :
    InO State.Canon (commitBank b m s) := by
  unfold commitBank
  extract_lets +onlyGivenNames y0
  clear_value y0
  split
  · rename_i v1 v2
    exact inO_none
  · rename_i v3 v4 v5
    have h6 : State.Canon v4 := by
      refine (of_eq (P := (InO State.Canon)) v5 ?_) _ rfl
      refine ite_of ?_ ?_
      · refine commitStore_canon ?_
        exact hc1
      · exact inO_none
    refine inO_some ?_
    refine setUpdState_canon ?_
    refine setLive_canon ?_
    refine wr_canon ?_
    refine wrB_canon ?_
    refine setFloors_canon ?_
    exact h6

theorem revertAll_canon {w : Word} {s : Machine.State} (hc1 : s.Canon) : (revertAll w s).Canon := by
  unfold revertAll
  split
  · rename_i v0 v1
    exact hc1
  · rename_i v2 v3 v4
    extract_lets +onlyGivenNames y5
    clear_value y5
    extract_lets +onlyGivenNames y6
    have h7 : State.Canon y6 := by
      unfold y6
      refine foldl_of ?_ ?_
      · refine setUpdState_canon ?_
        exact hc1
      · intro x8
        intro x9
        intro h10
        refine orderNow_canon ?_
        exact h10
    clear_value y6
    refine trialBack_canon ?_
    refine bankDrop_canon ?_
    refine modUpd_canon ?_
    exact h7

theorem commitPoint_canon {s : Machine.State} (hc1 : s.Canon) : (commitPoint s).Canon := by
  unfold commitPoint
  split
  · rename_i v0 v1
    exact hc1
  · rename_i v2 v3 v4
    split
    · rename_i v5 v6
      exact hc1
    · rename_i v7 v8 v9
      extract_lets +onlyGivenNames y10
      clear_value y10
      refine ite_of ?_ ?_
      · exact hc1
      · split
        · rename_i v11 v12
          refine revertAll_canon ?_
          exact hc1
        · rename_i v13 v14 v15
          have h16 : State.Canon v14 := by
            refine (of_eq (P := (InO State.Canon)) v15 ?_) _ rfl
            refine commitBank_canon ?_
            exact hc1
          extract_lets +onlyGivenNames y17
          have h18 : State.Canon y17 := by
            unfold y17
            refine modUpd_canon ?_
            exact h16
          clear_value y17
          extract_lets +onlyGivenNames y19
          have h20 : State.Canon y19 := by
            unfold y19
            refine foldl_of ?_ ?_
            · exact h18
            · intro x21
              intro x22
              intro h23
              refine orderNow_canon ?_
              exact h23
          clear_value y19
          extract_lets +onlyGivenNames y24
          have h25 : State.Canon y24 := by
            unfold y24
            refine raise_canon ?_
            refine bump_canon ?_
            exact h20
          clear_value y24
          refine ite_of ?_ ?_
          · exact h25
          · refine raiseLive_canon ?_
            exact h25

theorem execTrialReport_canon {did : Fin 2048} {s : Machine.State} (hc1 : s.Canon) :
    Goes State.Canon (execTrialReport did s) := by
  unfold execTrialReport
  refine done_canon ?_
  refine ite_of ?_ ?_
  · refine ite_of ?_ ?_
    · exact hc1
    · refine ite_of ?_ ?_
      · refine setUpdState_canon ?_
        refine updReport_canon ?_
        exact hc1
      · refine commitPoint_canon ?_
        refine modUpd_canon ?_
        exact hc1
  · split
    · rename_i v0 v1
      exact hc1
    · rename_i v2 v3 v4 v5
      have h6 : State.Canon v4 := by
        refine (of_eq (P := (InO (InR State.Canon))) v5 ?_) _ rfl
        refine inboxTake_canon ?_
        exact hc1
      refine ite_of ?_ ?_
      · refine commitPoint_canon ?_
        refine modUpd_canon ?_
        exact h6
      · refine revertAll_canon ?_
        exact h6

theorem execTrialTimeout_canon {did : Fin 2048} {s : Machine.State} (hc1 : s.Canon) :
    Goes State.Canon (execTrialTimeout did s) := by
  unfold execTrialTimeout
  refine done_canon ?_
  refine ite_of ?_ ?_
  · exact hc1
  · refine ite_of ?_ ?_
    · refine ite_of ?_ ?_
      · refine trialFail_canon ?_
        exact hc1
      · exact hc1
    · refine revertAll_canon ?_
      exact hc1

theorem takeOrder_canon {k : Nat} {s : Machine.State} (hc1 : s.Canon) : InO (InR State.Canon) (takeOrder k s) := by
  unfold takeOrder
  refine inboxTake_canon ?_
  exact hc1

theorem execCommitOrder_canon {s : Machine.State} (hc1 : s.Canon) : Goes State.Canon (execCommitOrder s) := by
  unfold execCommitOrder
  refine done_canon ?_
  split
  · rename_i v0 v1
    exact hc1
  · rename_i v2 v3 v4 v5
    have h6 : State.Canon v4 := by
      refine (of_eq (P := (InO (InR State.Canon))) v5 ?_) _ rfl
      refine takeOrder_canon ?_
      exact hc1
    extract_lets +onlyGivenNames y7
    clear_value y7
    extract_lets +onlyGivenNames y8
    clear_value y8
    refine ite_of ?_ ?_
    · refine updReport_canon ?_
      exact h6
    · split
      · rename_i v9 v10
        exact h6
      · rename_i v11 v12 v13
        refine ite_of ?_ ?_
        · refine updReport_canon ?_
          exact h6
        · split
          · rename_i v14 v15
            exact h6
          · rename_i v16 v17 v18
            have h19 : State.Canon v17 := by
              refine (of_eq (P := (InO State.Canon)) v18 ?_) _ rfl
              refine commitBank_canon ?_
              exact h6
            extract_lets +onlyGivenNames y20
            have h21 : State.Canon y20 := by
              unfold y20
              refine raise_canon ?_
              refine updReport_canon ?_
              exact h19
            clear_value y20
            refine ite_of ?_ ?_
            · exact h21
            · refine resetTo_canon ?_
              exact h21

theorem execRevertOrder_canon {s : Machine.State} (hc1 : s.Canon) : Goes State.Canon (execRevertOrder s) := by
  unfold execRevertOrder
  refine done_canon ?_
  split
  · rename_i v0 v1
    exact hc1
  · rename_i v2 v3 v4 v5
    have h6 : State.Canon v4 := by
      refine (of_eq (P := (InO (InR State.Canon))) v5 ?_) _ rfl
      refine takeOrder_canon ?_
      exact hc1
    refine ite_of ?_ ?_
    · refine trialBack_canon ?_
      refine bankDrop_canon ?_
      refine setUpdState_canon ?_
      exact h6
    · refine bankDrop_canon ?_
      exact h6

theorem execFootPowerOn_canon {auxAddr : Fin 4} {s : State} (hc1 : s.Canon) :
    Goes State.Canon (execFootPowerOn auxAddr s) := by
  have h := coreReset_canon (cold := true) hc1
  exact done_canon ⟨rfl, rfl, rfl, h.4, h.5, h.6⟩

theorem execPorstAssert_canon {s : Machine.State} (hc1 : s.Canon) : Goes State.Canon (execPorstAssert s) := by
  unfold execPorstAssert
  refine done_canon ?_
  refine resetTo_canon ?_
  exact hc1

theorem execResetNAssert_canon {s : Machine.State} (hc1 : s.Canon) : Goes State.Canon (execResetNAssert s) := by
  unfold execResetNAssert
  refine done_canon ?_
  refine resetTo_canon ?_
  exact hc1

theorem execPowerGoodFault_canon {s : Machine.State} (hc1 : s.Canon) : Goes State.Canon (execPowerGoodFault s) := by
  unfold execPowerGoodFault
  refine done_canon ?_
  refine resetTo_canon ?_
  exact hc1

theorem firstStart_canon {k : Nat} {s : Machine.State} (hc1 : s.Canon) : (firstStart k s).Canon := by
  unfold firstStart
  refine ite_of ?_ ?_
  · refine raise_canon ?_
    refine modSag_canon ?_
    exact hc1
  · split
    rename_i v0 v1 v2 v3
    have h4 : State.Canon v2 := by
      refine (of_eq (P := (InR State.Canon)) v3 ?_)
      refine draw_canon ?_
      exact hc1
    split
    rename_i v5 v6 v7 v8
    have h9 : State.Canon v7 := by
      refine (of_eq (P := (InR State.Canon)) v8 ?_)
      refine draw_canon ?_
      exact h4
    extract_lets +onlyGivenNames y10
    clear_value y10
    extract_lets +onlyGivenNames y11
    have h12 : State.Canon y11 := by
      unfold y11
      refine emit_canon ?_
      refine modSag_canon ?_
      exact h9
    clear_value y11
    refine getD_of ?_ ?_
    · refine commitStore_canon ?_
      exact h12
    · exact h12

theorem sagStart_canon {k : Nat} {storeOk : Bool} {s : Machine.State} (hc1 : s.Canon) :
    (sagStart k storeOk s).Canon := by
  unfold sagStart
  extract_lets +onlyGivenNames y0
  extract_lets +onlyGivenNames y1
  have h2 : State.Canon y1 := by
    unfold y1
    refine modSag_canon ?_
    exact hc1
  clear_value y1
  extract_lets +onlyGivenNames y3
  have h4 : State.Canon y3 := by
    unfold y3
    refine ite_of ?_ ?_
    · refine raise_canon ?_
      exact h2
    · exact h2
  clear_value y3
  extract_lets +onlyGivenNames y5
  clear_value y5
  extract_lets +onlyGivenNames y6
  have h7 : State.Canon y6 := by
    unfold y6
    refine ite_of ?_ ?_
    · exact h4
    · refine injDone_canon ?_
      exact h4
  clear_value y6
  extract_lets +onlyGivenNames y8
  have h9 : State.Canon y8 := by
    unfold y8
    refine ite_of ?_ ?_
    · refine firstStart_canon ?_
      exact h7
    · split
      · rename_i v10 v11 v12
        refine modSag_canon ?_
        exact h4
      · rename_i v13 v14
        refine modSag_canon ?_
        exact h4
  clear_value y8
  extract_lets +onlyGivenNames y15
  have h16 : State.Canon y15 := by
    unfold y15
    split
    · rename_i v17 v18 v19
      refine cacheKey_canon ?_
      exact h9
    · rename_i v20 v21
      exact h9
  clear_value y15
  extract_lets +onlyGivenNames y22
  have h23 : State.Canon y22 := by
    unfold y22
    refine modSag_canon ?_
    exact h16
  clear_value y22
  extract_lets +onlyGivenNames y24
  have h25 : State.Canon y24 := by
    unfold y24
    refine ite_of ?_ ?_
    · exact h16
    · refine ite_of ?_ ?_
      · refine modSag_canon ?_
        exact h16
      · refine getD_of ?_ ?_
        · refine commitStore_canon ?_
          exact h23
        · exact h23
  clear_value y24
  extract_lets +onlyGivenNames y26
  have h27 : State.Canon y26 := by
    unfold y26
    refine ite_of ?_ ?_
    · refine modSag_canon ?_
      exact h25
    · exact h25
  clear_value y26
  refine sagLive_canon ?_
  exact h27

theorem strapRole_canon {s : Machine.State} (hc1 : s.Canon) : (strapRole s).Canon := by
  unfold strapRole
  extract_lets +onlyGivenNames y0
  clear_value y0
  extract_lets +onlyGivenNames y1
  clear_value y1
  split
  · rename_i v2
    refine wrF_canon ?_
    exact hc1
  · rename_i v3
    refine wr_canon ?_
    refine wrF_canon ?_
    exact hc1
  · rename_i v4
    refine ite_of ?_ ?_
    · exact hc1
    · refine wr_canon ?_
      exact hc1
  · rename_i v5 v6 v7 v8
    exact hc1

theorem updAfter_canon {s : Machine.State} (hc1 : s.Canon) : (updAfter s).Canon := by
  unfold updAfter
  split
  · rename_i v0 v1
    exact hc1
  · rename_i v2 v3 v4 v5
    extract_lets +onlyGivenNames y6
    clear_value y6
    extract_lets +onlyGivenNames y7
    have h8 : State.Canon y7 := by
      unfold y7
      refine wr_canon ?_
      refine wrF_canon ?_
      refine canon_mk ?_
      exact hc1
    clear_value y7
    refine raise_canon ?_
    refine bump_canon ?_
    exact h8

theorem updSync_canon {s : Machine.State} (hc1 : s.Canon) : (updSync s).Canon := by
  unfold updSync
  extract_lets +onlyGivenNames y0
  have h1 : State.Canon y0 := by
    unfold y0
    refine wrB_canon ?_
    refine wrB_canon ?_
    exact hc1
  clear_value y0
  extract_lets +onlyGivenNames y2
  have h3 : State.Canon y2 := by
    unfold y2
    refine wr_canon ?_
    refine wr_canon ?_
    exact h1
  clear_value y2
  extract_lets +onlyGivenNames y4
  have h5 : State.Canon y4 := by
    unfold y4
    refine ite_of ?_ ?_
    · refine setUpdState_canon ?_
      exact h3
    · exact h3
  clear_value y4
  refine updAfter_canon ?_
  refine setLive_canon ?_
  refine setLive_canon ?_
  exact h5

theorem klnStart_canon {s : Machine.State} (hc1 : s.Canon) : (klnStart s).Canon := by
  unfold klnStart
  extract_lets +onlyGivenNames y0
  clear_value y0
  extract_lets +onlyGivenNames y1
  have h2 : State.Canon y1 := by
    unfold y1
    refine forN_of ?_ ?_
    · exact hc1
    · intro x3
      intro x4
      intro h5
      refine setRole_canon ?_
      exact h5
  clear_value y1
  extract_lets +onlyGivenNames y6
  have h7 : State.Canon y6 := by
    unfold y6
    refine ite_of ?_ ?_
    · exact h2
    · refine forN_of ?_ ?_
      · exact h2
      · intro x8
        intro x9
        intro h10
        refine wrF_canon ?_
        exact h10
  clear_value y6
  refine klnSettle_canon ?_
  refine wrB_canon ?_
  exact h7

theorem recovery_canon {why : Nat} {code : Nat} {s : Machine.State} (hc1 : s.Canon) : (recovery why code s).Canon := by
  unfold recovery
  refine wrF_canon ?_
  refine wrF_canon ?_
  refine wrF_canon ?_
  exact hc1

theorem romStart_canon {s : Machine.State} (hc1 : s.Canon) : (romStart s).Canon := by
  unfold romStart
  refine ite_of ?_ ?_
  · refine klnStart_canon ?_
    exact hc1
  · extract_lets +onlyGivenNames y0
    have h1 : State.Canon y0 := by
      unfold y0
      refine klnStart_canon ?_
      exact hc1
    clear_value y0
    refine ite_of ?_ ?_
    · refine recovery_canon ?_
      exact h1
    · refine ite_of ?_ ?_
      · refine recovery_canon ?_
        exact h1
      · refine canon_mk ?_
        exact h1

theorem execResetRelease_canon {bootMode : Fin 8} {didStrap : Fin 16} {trng : Nat} {storeOk : Bool} {s : Machine.State} (hc1 : s.Canon) :
    Goes State.Canon (execResetRelease bootMode didStrap trng storeOk s) := by
  unfold execResetRelease
  refine done_canon ?_
  split
  · rename_i v0 v1
    exact hc1
  · rename_i v2 v3 v4 v5
    refine ite_of ?_ ?_
    · exact hc1
    · extract_lets +onlyGivenNames y6
      clear_value y6
      extract_lets +onlyGivenNames y7
      clear_value y7
      extract_lets +onlyGivenNames y8
      clear_value y8
      extract_lets +onlyGivenNames y9
      have h10 : State.Canon y9 := by
        unfold y9
        refine wr_canon ?_
        refine coreReset_canon ?_
        exact hc1
      clear_value y9
      extract_lets +onlyGivenNames y11
      clear_value y11
      extract_lets +onlyGivenNames y12
      clear_value y12
      extract_lets +onlyGivenNames y13
      clear_value y13
      extract_lets +onlyGivenNames y14
      have h15 : State.Canon y14 := by
        unfold y14
        refine canon_mk ?_
        exact h10
      clear_value y14
      extract_lets +onlyGivenNames y16
      have h17 : State.Canon y16 := by
        unfold y16
        refine wrB_canon ?_
        refine wrB_canon ?_
        exact h15
      clear_value y16
      extract_lets +onlyGivenNames y18
      have h19 : State.Canon y18 := by
        unfold y18
        refine wrF_canon ?_
        exact h17
      clear_value y18
      extract_lets +onlyGivenNames y20
      have h21 : State.Canon y20 := by
        unfold y20
        refine ite_of ?_ ?_
        · refine wr_canon ?_
          exact h19
        · exact h19
      clear_value y20
      refine ite_of ?_ ?_
      · refine wrF_canon ?_
        exact h21
      · extract_lets +onlyGivenNames y22
        extract_lets +onlyGivenNames y23
        have h24 : State.Canon y23 := by
          unfold y23
          refine sagStart_canon ?_
          refine strapRole_canon ?_
          exact h21
        clear_value y23
        extract_lets +onlyGivenNames y25
        have h26 : State.Canon y25 := by
          unfold y25
          refine wrB_canon ?_
          exact h24
        clear_value y25
        extract_lets +onlyGivenNames y27
        clear_value y27
        extract_lets +onlyGivenNames y28
        have h29 : State.Canon y28 := by
          unfold y28
          refine wrB_canon ?_
          refine wrB_canon ?_
          exact h26
        clear_value y28
        extract_lets +onlyGivenNames y30
        clear_value y30
        extract_lets +onlyGivenNames y31
        have h32 : State.Canon y31 := by
          unfold y31
          refine updSync_canon ?_
          refine setFloors_canon ?_
          refine canon_mk ?_
          exact h29
        clear_value y31
        refine ite_of ?_ ?_
        · refine canon_mk ?_
          exact h32
        · refine ite_of ?_ ?_
          · refine canon_mk ?_
            exact h32
          · refine romStart_canon ?_
            exact h32

theorem execRootPllLock_canon {s : Machine.State} (hc1 : s.Canon) : Goes State.Canon (execRootPllLock s) := by
  unfold execRootPllLock
  refine done_canon ?_
  refine ite_of ?_ ?_
  · extract_lets +onlyGivenNames y0
    clear_value y0
    extract_lets +onlyGivenNames y1
    have h2 : State.Canon y1 := by
      unfold y1
      refine canon_mk ?_
      exact hc1
    clear_value y1
    refine ite_of ?_ ?_
    · exact h2
    · refine romStart_canon ?_
      refine canon_mk ?_
      exact h2
  · exact hc1

theorem execBootBistDone_canon {fails : Fin 32} {s : Machine.State} (hc1 : s.Canon) :
    Goes State.Canon (execBootBistDone fails s) := by
  unfold execBootBistDone
  refine done_canon ?_
  refine ite_of ?_ ?_
  · extract_lets +onlyGivenNames y0
    clear_value y0
    extract_lets +onlyGivenNames y1
    have h2 : State.Canon y1 := by
      unfold y1
      refine canon_mk ?_
      exact hc1
    clear_value y1
    refine romStart_canon ?_
    refine forN_of ?_ ?_
    · exact h2
    · intro x3
      intro x4
      intro h5
      refine ite_of ?_ ?_
      · refine retirePair_canon ?_
        exact h5
      · exact h5
  · exact hc1

theorem execFirmwareVerifyDone_canon {sigA : Bool} {sigB : Bool} {s : Machine.State} (hc1 : s.Canon) :
    Goes State.Canon (execFirmwareVerifyDone sigA sigB s) := by
  unfold execFirmwareVerifyDone
  refine done_canon ?_
  refine ite_of ?_ ?_
  · exact hc1
  · extract_lets +onlyGivenNames y0
    clear_value y0
    extract_lets +onlyGivenNames y1
    clear_value y1
    extract_lets +onlyGivenNames y2
    have h3 : ∀ (k : Nat) (s : Machine.State), s.Canon → (y2 k s).Canon := by
      intro x4
      intro x5
      intro h6
      unfold y2
      extract_lets +onlyGivenNames y7
      have h8 : State.Canon y7 := by
        unfold y7
        refine updSync_canon ?_
        refine wrB_canon ?_
        exact h6
      clear_value y7
      refine wrF_canon ?_
      refine canon_mk ?_
      exact h8
    clear_value y2
    refine ite_of ?_ ?_
    · refine h3 _ _ ?_
      exact hc1
    · refine ite_of ?_ ?_
      · refine h3 _ _ ?_
        exact hc1
      · extract_lets +onlyGivenNames y9
        clear_value y9
        extract_lets +onlyGivenNames y10
        have h11 : State.Canon y10 := by
          unfold y10
          refine canon_mk ?_
          exact hc1
        clear_value y10
        refine ite_of ?_ ?_
        · refine trialFail_canon ?_
          exact h11
        · refine recovery_canon ?_
          exact h11

theorem execLanePllLock_canon {port : Fin 24} {s : Machine.State} (hc1 : s.Canon) :
    Goes State.Canon (execLanePllLock port s) := by
  unfold execLanePllLock
  refine done_canon ?_
  refine ite_of ?_ ?_
  · refine canon_mk ?_
    exact hc1
  · exact hc1

theorem execAuxWrite_canon {bytes : List Byte} {s : Machine.State} (hc1 : s.Canon) :
    Goes State.Canon (execAuxWrite bytes s) := by
  unfold execAuxWrite
  refine done_canon ?_
  extract_lets +onlyGivenNames y0
  clear_value y0
  refine ite_of ?_ ?_
  · exact hc1
  · refine ite_of ?_ ?_
    · refine emit_canon ?_
      exact hc1
    · extract_lets +onlyGivenNames y1
      clear_value y1
      extract_lets +onlyGivenNames y2
      clear_value y2
      refine ite_of ?_ ?_
      · refine brgDone_canon ?_
        refine emit_canon ?_
        refine writeMany_canon ?_
        exact hc1
      · refine emit_canon ?_
        refine satInc_canon ?_
        exact hc1

theorem execAuxRead_canon {dev : BitVec 7} {hi : Byte} {lo : Byte} {n : Nat} {s : Machine.State} (hc1 : s.Canon) :
    Goes State.Canon (execAuxRead dev hi lo n s) := by
  unfold execAuxRead
  refine done_canon ?_
  extract_lets +onlyGivenNames y0
  clear_value y0
  refine ite_of ?_ ?_
  · exact hc1
  · refine ite_of ?_ ?_
    · refine emit_canon ?_
      exact hc1
    · split
      rename_i v1 v2 v3 v4
      have h5 : State.Canon v3 := by
        refine (of_eq (P := (InR State.Canon)) v4 ?_)
        refine readMany_canon ?_
        exact hc1
      extract_lets +onlyGivenNames y6
      clear_value y6
      refine emit_canon ?_
      exact h5

theorem execT1sEnergyDetect_canon {port : Fin 128} {s : Machine.State} (hc1 : s.Canon) :
    Goes State.Canon (execT1sEnergyDetect port s) := by
  unfold execT1sEnergyDetect
  refine done_canon ?_
  refine ite_of ?_ ?_
  · refine nmwSettle_canon ?_
    refine busWake_canon ?_
    refine raise_canon ?_
    exact hc1
  · exact hc1

theorem execLinTxBitError_canon {port : Fin 128} {s : Machine.State} (hc1 : s.Canon) :
    Goes State.Canon (execLinTxBitError port s) := by
  unfold execLinTxBitError
  extract_lets +onlyGivenNames y0
  clear_value y0
  refine done_canon ?_
  refine ite_of ?_ ?_
  · extract_lets +onlyGivenNames y1
    have h2 : State.Canon y1 := by
      unfold y1
      refine emit_canon ?_
      refine linErr_canon ?_
      exact hc1
    clear_value y1
    refine ite_of ?_ ?_
    · refine txAbandon_canon ?_
      refine lgFail_canon ?_
      exact h2
    · exact h2
  · exact hc1

theorem execLockWaitBudgetEnd_canon {k : Fin 64} {s : Machine.State} (hc1 : s.Canon) :
    Goes State.Canon (execLockWaitBudgetEnd k s) := by
  unfold execLockWaitBudgetEnd
  refine done_canon ?_
  split
  · rename_i v0 v1 v2
    refine ite_of ?_ ?_
    · refine brgDone_canon ?_
      refine modBrg_canon ?_
      exact hc1
    · exact hc1
  · rename_i v3 v4
    exact hc1

theorem tclk_canon {s : Machine.State} (hc1 : s.Canon) : (tclk s).Canon := by
  unfold tclk
  extract_lets +onlyGivenNames y0
  clear_value y0
  refine canon_mk ?_
  exact hc1

theorem stormEnd_canon {n : Nat} {s : Machine.State} (hc1 : s.Canon) : (stormEnd n s).Canon := by
  unfold stormEnd
  extract_lets +onlyGivenNames y0
  clear_value y0
  refine ite_of ?_ ?_
  · exact hc1
  · extract_lets +onlyGivenNames y1
    clear_value y1
    extract_lets +onlyGivenNames y2
    clear_value y2
    refine setLive_canon ?_
    refine setMac_canon ?_
    exact hc1

theorem tick_canon {s : Machine.State} (hc1 : s.Canon) : (tick s).Canon := by
  unfold tick
  extract_lets +onlyGivenNames y0
  have h1 : State.Canon y0 := by
    unfold y0
    refine tclk_canon ?_
    refine canon_mk ?_
    exact hc1
  clear_value y0
  refine foldl_of ?_ ?_
  · exact h1
  · intro x2
    intro x3
    intro h4
    refine ite_of ?_ ?_
    · exact h4
    · refine stormEnd_canon ?_
      exact h4

end Sys2Proof.Machine
end

