-- ==== Sys2Proof/Laws/State.lean ====
section
/-! SUPPORT. Sys2Proof/Laws/State.lean: what each update of the state leaves alone, one lemma per field and update. -/

namespace Sys2Proof.Machine
open Sys2Proof

theorem done_eq (s t : State) : done s t = .next (kept s t) := rfl
@[simp] theorem kept_pending (s t : State) : (kept s t).pending = s.pending := rfl
@[simp] theorem kept_now (s t : State) : (kept s t).now = s.now := rfl

@[simp] theorem kept_regs (s t : State) : (kept s t).regs = t.regs := rfl
@[simp] theorem kept_counters (s t : State) : (kept s t).counters = t.counters := rfl
@[simp] theorem kept_shadows (s t : State) : (kept s t).shadows = t.shadows := rfl
@[simp] theorem kept_mirror (s t : State) : (kept s t).mirror = t.mirror := rfl
@[simp] theorem kept_slotArgs (s t : State) : (kept s t).slotArgs = t.slotArgs := rfl
@[simp] theorem kept_rdata (s t : State) : (kept s t).rdata = t.rdata := rfl
@[simp] theorem kept_out (s t : State) : (kept s t).out = t.out := rfl
@[simp] theorem kept_fresh (s t : State) : (kept s t).fresh = t.fresh := rfl
@[simp] theorem kept_ing (s t : State) : (kept s t).ing = t.ing := rfl
@[simp] theorem kept_eq (s t : State) : (kept s t).eq = t.eq := rfl
@[simp] theorem kept_cfg (s t : State) : (kept s t).cfg = t.cfg := rfl
@[simp] theorem kept_tim (s t : State) : (kept s t).tim = t.tim := rfl
@[simp] theorem kept_cones (s t : State) : (kept s t).cones = t.cones := rfl
@[simp] theorem kept_lockgrps (s t : State) : (kept s t).lockgrps = t.lockgrps := rfl
@[simp] theorem kept_fxp (s t : State) : (kept s t).fxp = t.fxp := rfl
@[simp] theorem kept_fq (s t : State) : (kept s t).fq = t.fq := rfl
@[simp] theorem kept_mac (s t : State) : (kept s t).mac = t.mac := rfl
@[simp] theorem kept_wdgBad (s t : State) : (kept s t).wdgBad = t.wdgBad := rfl
@[simp] theorem kept_pol (s t : State) : (kept s t).pol = t.pol := rfl
@[simp] theorem kept_badRules (s t : State) : (kept s t).badRules = t.badRules := rfl
@[simp] theorem kept_tbl (s t : State) : (kept s t).tbl = t.tbl := rfl
@[simp] theorem kept_srt (s t : State) : (kept s t).srt = t.srt := rfl
@[simp] theorem kept_rfx (s t : State) : (kept s t).rfx = t.rfx := rfl
@[simp] theorem kept_shf (s t : State) : (kept s t).shf = t.shf := rfl
@[simp] theorem kept_recirc (s t : State) : (kept s t).recirc = t.recirc := rfl
@[simp] theorem kept_mcStage (s t : State) : (kept s t).mcStage = t.mcStage := rfl
@[simp] theorem kept_glz (s t : State) : (kept s t).glz = t.glz := rfl
@[simp] theorem kept_sag (s t : State) : (kept s t).sag = t.sag := rfl
@[simp] theorem kept_nmw (s t : State) : (kept s t).nmw = t.nmw := rfl
@[simp] theorem kept_qps (s t : State) : (kept s t).qps = t.qps := rfl
@[simp] theorem kept_brg (s t : State) : (kept s t).brg = t.brg := rfl
@[simp] theorem kept_col (s t : State) : (kept s t).col = t.col := rfl
@[simp] theorem kept_kiln (s t : State) : (kept s t).kiln = t.kiln := rfl
@[simp] theorem kept_foot (s t : State) : (kept s t).foot = t.foot := rfl
@[simp] theorem kept_crz (s t : State) : (kept s t).crz = t.crz := rfl
@[simp] theorem kept_flash (s t : State) : (kept s t).flash = t.flash := rfl
@[simp] theorem kept_boot (s t : State) : (kept s t).boot = t.boot := rfl
@[simp] theorem kept_upd (s t : State) : (kept s t).upd = t.upd := rfl
@[simp] theorem kept_self (s : State) : kept s s = s := rfl

@[simp] theorem wr_pending (k : Nat) (w : Word) (s : State) : (wr k w s).pending = s.pending := rfl
@[simp] theorem wr_now (k : Nat) (w : Word) (s : State) : (wr k w s).now = s.now := rfl
@[simp] theorem wr_counters (k : Nat) (w : Word) (s : State) : (wr k w s).counters = s.counters := rfl
@[simp] theorem wr_shadows (k : Nat) (w : Word) (s : State) : (wr k w s).shadows = s.shadows := rfl
@[simp] theorem wr_slotArgs (k : Nat) (w : Word) (s : State) : (wr k w s).slotArgs = s.slotArgs := rfl
@[simp] theorem wr_rdata (k : Nat) (w : Word) (s : State) : (wr k w s).rdata = s.rdata := rfl
@[simp] theorem wr_out (k : Nat) (w : Word) (s : State) : (wr k w s).out = s.out := rfl
@[simp] theorem wr_fresh (k : Nat) (w : Word) (s : State) : (wr k w s).fresh = s.fresh := rfl
@[simp] theorem wr_ing (k : Nat) (w : Word) (s : State) : (wr k w s).ing = s.ing := rfl
@[simp] theorem wr_eq (k : Nat) (w : Word) (s : State) : (wr k w s).eq = s.eq := rfl
@[simp] theorem wr_cfg (k : Nat) (w : Word) (s : State) : (wr k w s).cfg = s.cfg := rfl
@[simp] theorem wr_tim (k : Nat) (w : Word) (s : State) : (wr k w s).tim = s.tim := rfl
@[simp] theorem wr_cones (k : Nat) (w : Word) (s : State) : (wr k w s).cones = s.cones := rfl
@[simp] theorem wr_lockgrps (k : Nat) (w : Word) (s : State) : (wr k w s).lockgrps = s.lockgrps := rfl
@[simp] theorem wr_fxp (k : Nat) (w : Word) (s : State) : (wr k w s).fxp = s.fxp := rfl
@[simp] theorem wr_fq (k : Nat) (w : Word) (s : State) : (wr k w s).fq = s.fq := rfl
@[simp] theorem wr_mac (k : Nat) (w : Word) (s : State) : (wr k w s).mac = s.mac := rfl
@[simp] theorem wr_wdgBad (k : Nat) (w : Word) (s : State) : (wr k w s).wdgBad = s.wdgBad := rfl
@[simp] theorem wr_pol (k : Nat) (w : Word) (s : State) : (wr k w s).pol = s.pol := rfl
@[simp] theorem wr_badRules (k : Nat) (w : Word) (s : State) : (wr k w s).badRules = s.badRules := rfl
@[simp] theorem wr_tbl (k : Nat) (w : Word) (s : State) : (wr k w s).tbl = s.tbl := rfl
@[simp] theorem wr_srt (k : Nat) (w : Word) (s : State) : (wr k w s).srt = s.srt := rfl
@[simp] theorem wr_rfx (k : Nat) (w : Word) (s : State) : (wr k w s).rfx = s.rfx := rfl
@[simp] theorem wr_shf (k : Nat) (w : Word) (s : State) : (wr k w s).shf = s.shf := rfl
@[simp] theorem wr_recirc (k : Nat) (w : Word) (s : State) : (wr k w s).recirc = s.recirc := rfl
@[simp] theorem wr_mcStage (k : Nat) (w : Word) (s : State) : (wr k w s).mcStage = s.mcStage := rfl
@[simp] theorem wr_glz (k : Nat) (w : Word) (s : State) : (wr k w s).glz = s.glz := rfl
@[simp] theorem wr_sag (k : Nat) (w : Word) (s : State) : (wr k w s).sag = s.sag := rfl
@[simp] theorem wr_nmw (k : Nat) (w : Word) (s : State) : (wr k w s).nmw = s.nmw := rfl
@[simp] theorem wr_qps (k : Nat) (w : Word) (s : State) : (wr k w s).qps = s.qps := rfl
@[simp] theorem wr_brg (k : Nat) (w : Word) (s : State) : (wr k w s).brg = s.brg := rfl
@[simp] theorem wr_col (k : Nat) (w : Word) (s : State) : (wr k w s).col = s.col := rfl
@[simp] theorem wr_kiln (k : Nat) (w : Word) (s : State) : (wr k w s).kiln = s.kiln := rfl
@[simp] theorem wr_foot (k : Nat) (w : Word) (s : State) : (wr k w s).foot = s.foot := rfl
@[simp] theorem wr_crz (k : Nat) (w : Word) (s : State) : (wr k w s).crz = s.crz := rfl
@[simp] theorem wr_flash (k : Nat) (w : Word) (s : State) : (wr k w s).flash = s.flash := rfl
@[simp] theorem wr_boot (k : Nat) (w : Word) (s : State) : (wr k w s).boot = s.boot := rfl
@[simp] theorem wr_upd (k : Nat) (w : Word) (s : State) : (wr k w s).upd = s.upd := rfl

@[simp] theorem wrB_pending (k b : Nat) (v : Bool) (s : State) : (wrB k b v s).pending = s.pending := rfl
@[simp] theorem wrB_now (k b : Nat) (v : Bool) (s : State) : (wrB k b v s).now = s.now := rfl
@[simp] theorem wrB_counters (k b : Nat) (v : Bool) (s : State) : (wrB k b v s).counters = s.counters := rfl
@[simp] theorem wrB_shadows (k b : Nat) (v : Bool) (s : State) : (wrB k b v s).shadows = s.shadows := rfl
@[simp] theorem wrB_slotArgs (k b : Nat) (v : Bool) (s : State) : (wrB k b v s).slotArgs = s.slotArgs := rfl
@[simp] theorem wrB_rdata (k b : Nat) (v : Bool) (s : State) : (wrB k b v s).rdata = s.rdata := rfl
@[simp] theorem wrB_out (k b : Nat) (v : Bool) (s : State) : (wrB k b v s).out = s.out := rfl
@[simp] theorem wrB_fresh (k b : Nat) (v : Bool) (s : State) : (wrB k b v s).fresh = s.fresh := rfl
@[simp] theorem wrB_ing (k b : Nat) (v : Bool) (s : State) : (wrB k b v s).ing = s.ing := rfl
@[simp] theorem wrB_eq (k b : Nat) (v : Bool) (s : State) : (wrB k b v s).eq = s.eq := rfl
@[simp] theorem wrB_cfg (k b : Nat) (v : Bool) (s : State) : (wrB k b v s).cfg = s.cfg := rfl
@[simp] theorem wrB_tim (k b : Nat) (v : Bool) (s : State) : (wrB k b v s).tim = s.tim := rfl
@[simp] theorem wrB_cones (k b : Nat) (v : Bool) (s : State) : (wrB k b v s).cones = s.cones := rfl
@[simp] theorem wrB_lockgrps (k b : Nat) (v : Bool) (s : State) : (wrB k b v s).lockgrps = s.lockgrps := rfl
@[simp] theorem wrB_fxp (k b : Nat) (v : Bool) (s : State) : (wrB k b v s).fxp = s.fxp := rfl
@[simp] theorem wrB_fq (k b : Nat) (v : Bool) (s : State) : (wrB k b v s).fq = s.fq := rfl
@[simp] theorem wrB_mac (k b : Nat) (v : Bool) (s : State) : (wrB k b v s).mac = s.mac := rfl
@[simp] theorem wrB_wdgBad (k b : Nat) (v : Bool) (s : State) : (wrB k b v s).wdgBad = s.wdgBad := rfl
@[simp] theorem wrB_pol (k b : Nat) (v : Bool) (s : State) : (wrB k b v s).pol = s.pol := rfl
@[simp] theorem wrB_badRules (k b : Nat) (v : Bool) (s : State) : (wrB k b v s).badRules = s.badRules := rfl
@[simp] theorem wrB_tbl (k b : Nat) (v : Bool) (s : State) : (wrB k b v s).tbl = s.tbl := rfl
@[simp] theorem wrB_srt (k b : Nat) (v : Bool) (s : State) : (wrB k b v s).srt = s.srt := rfl
@[simp] theorem wrB_rfx (k b : Nat) (v : Bool) (s : State) : (wrB k b v s).rfx = s.rfx := rfl
@[simp] theorem wrB_shf (k b : Nat) (v : Bool) (s : State) : (wrB k b v s).shf = s.shf := rfl
@[simp] theorem wrB_recirc (k b : Nat) (v : Bool) (s : State) : (wrB k b v s).recirc = s.recirc := rfl
@[simp] theorem wrB_mcStage (k b : Nat) (v : Bool) (s : State) : (wrB k b v s).mcStage = s.mcStage := rfl
@[simp] theorem wrB_glz (k b : Nat) (v : Bool) (s : State) : (wrB k b v s).glz = s.glz := rfl
@[simp] theorem wrB_sag (k b : Nat) (v : Bool) (s : State) : (wrB k b v s).sag = s.sag := rfl
@[simp] theorem wrB_nmw (k b : Nat) (v : Bool) (s : State) : (wrB k b v s).nmw = s.nmw := rfl
@[simp] theorem wrB_qps (k b : Nat) (v : Bool) (s : State) : (wrB k b v s).qps = s.qps := rfl
@[simp] theorem wrB_brg (k b : Nat) (v : Bool) (s : State) : (wrB k b v s).brg = s.brg := rfl
@[simp] theorem wrB_col (k b : Nat) (v : Bool) (s : State) : (wrB k b v s).col = s.col := rfl
@[simp] theorem wrB_kiln (k b : Nat) (v : Bool) (s : State) : (wrB k b v s).kiln = s.kiln := rfl
@[simp] theorem wrB_foot (k b : Nat) (v : Bool) (s : State) : (wrB k b v s).foot = s.foot := rfl
@[simp] theorem wrB_crz (k b : Nat) (v : Bool) (s : State) : (wrB k b v s).crz = s.crz := rfl
@[simp] theorem wrB_flash (k b : Nat) (v : Bool) (s : State) : (wrB k b v s).flash = s.flash := rfl
@[simp] theorem wrB_boot (k b : Nat) (v : Bool) (s : State) : (wrB k b v s).boot = s.boot := rfl
@[simp] theorem wrB_upd (k b : Nat) (v : Bool) (s : State) : (wrB k b v s).upd = s.upd := rfl

@[simp] theorem wrF_pending (k hi lo v : Nat) (s : State) : (wrF k hi lo v s).pending = s.pending := rfl
@[simp] theorem wrF_now (k hi lo v : Nat) (s : State) : (wrF k hi lo v s).now = s.now := rfl
@[simp] theorem wrF_counters (k hi lo v : Nat) (s : State) : (wrF k hi lo v s).counters = s.counters := rfl
@[simp] theorem wrF_shadows (k hi lo v : Nat) (s : State) : (wrF k hi lo v s).shadows = s.shadows := rfl
@[simp] theorem wrF_slotArgs (k hi lo v : Nat) (s : State) : (wrF k hi lo v s).slotArgs = s.slotArgs := rfl
@[simp] theorem wrF_rdata (k hi lo v : Nat) (s : State) : (wrF k hi lo v s).rdata = s.rdata := rfl
@[simp] theorem wrF_out (k hi lo v : Nat) (s : State) : (wrF k hi lo v s).out = s.out := rfl
@[simp] theorem wrF_fresh (k hi lo v : Nat) (s : State) : (wrF k hi lo v s).fresh = s.fresh := rfl
@[simp] theorem wrF_ing (k hi lo v : Nat) (s : State) : (wrF k hi lo v s).ing = s.ing := rfl
@[simp] theorem wrF_eq (k hi lo v : Nat) (s : State) : (wrF k hi lo v s).eq = s.eq := rfl
@[simp] theorem wrF_cfg (k hi lo v : Nat) (s : State) : (wrF k hi lo v s).cfg = s.cfg := rfl
@[simp] theorem wrF_tim (k hi lo v : Nat) (s : State) : (wrF k hi lo v s).tim = s.tim := rfl
@[simp] theorem wrF_cones (k hi lo v : Nat) (s : State) : (wrF k hi lo v s).cones = s.cones := rfl
@[simp] theorem wrF_lockgrps (k hi lo v : Nat) (s : State) : (wrF k hi lo v s).lockgrps = s.lockgrps := rfl
@[simp] theorem wrF_fxp (k hi lo v : Nat) (s : State) : (wrF k hi lo v s).fxp = s.fxp := rfl
@[simp] theorem wrF_fq (k hi lo v : Nat) (s : State) : (wrF k hi lo v s).fq = s.fq := rfl
@[simp] theorem wrF_mac (k hi lo v : Nat) (s : State) : (wrF k hi lo v s).mac = s.mac := rfl
@[simp] theorem wrF_wdgBad (k hi lo v : Nat) (s : State) : (wrF k hi lo v s).wdgBad = s.wdgBad := rfl
@[simp] theorem wrF_pol (k hi lo v : Nat) (s : State) : (wrF k hi lo v s).pol = s.pol := rfl
@[simp] theorem wrF_badRules (k hi lo v : Nat) (s : State) : (wrF k hi lo v s).badRules = s.badRules := rfl
@[simp] theorem wrF_tbl (k hi lo v : Nat) (s : State) : (wrF k hi lo v s).tbl = s.tbl := rfl
@[simp] theorem wrF_srt (k hi lo v : Nat) (s : State) : (wrF k hi lo v s).srt = s.srt := rfl
@[simp] theorem wrF_rfx (k hi lo v : Nat) (s : State) : (wrF k hi lo v s).rfx = s.rfx := rfl
@[simp] theorem wrF_shf (k hi lo v : Nat) (s : State) : (wrF k hi lo v s).shf = s.shf := rfl
@[simp] theorem wrF_recirc (k hi lo v : Nat) (s : State) : (wrF k hi lo v s).recirc = s.recirc := rfl
@[simp] theorem wrF_mcStage (k hi lo v : Nat) (s : State) : (wrF k hi lo v s).mcStage = s.mcStage := rfl
@[simp] theorem wrF_glz (k hi lo v : Nat) (s : State) : (wrF k hi lo v s).glz = s.glz := rfl
@[simp] theorem wrF_sag (k hi lo v : Nat) (s : State) : (wrF k hi lo v s).sag = s.sag := rfl
@[simp] theorem wrF_nmw (k hi lo v : Nat) (s : State) : (wrF k hi lo v s).nmw = s.nmw := rfl
@[simp] theorem wrF_qps (k hi lo v : Nat) (s : State) : (wrF k hi lo v s).qps = s.qps := rfl
@[simp] theorem wrF_brg (k hi lo v : Nat) (s : State) : (wrF k hi lo v s).brg = s.brg := rfl
@[simp] theorem wrF_col (k hi lo v : Nat) (s : State) : (wrF k hi lo v s).col = s.col := rfl
@[simp] theorem wrF_kiln (k hi lo v : Nat) (s : State) : (wrF k hi lo v s).kiln = s.kiln := rfl
@[simp] theorem wrF_foot (k hi lo v : Nat) (s : State) : (wrF k hi lo v s).foot = s.foot := rfl
@[simp] theorem wrF_crz (k hi lo v : Nat) (s : State) : (wrF k hi lo v s).crz = s.crz := rfl
@[simp] theorem wrF_flash (k hi lo v : Nat) (s : State) : (wrF k hi lo v s).flash = s.flash := rfl
@[simp] theorem wrF_boot (k hi lo v : Nat) (s : State) : (wrF k hi lo v s).boot = s.boot := rfl
@[simp] theorem wrF_upd (k hi lo v : Nat) (s : State) : (wrF k hi lo v s).upd = s.upd := rfl

@[simp] theorem setMirror_pending (k : Nat) (d : Word) (s : State) : (setMirror k d s).pending = s.pending := rfl
@[simp] theorem setMirror_now (k : Nat) (d : Word) (s : State) : (setMirror k d s).now = s.now := rfl
@[simp] theorem setMirror_regs (k : Nat) (d : Word) (s : State) : (setMirror k d s).regs = s.regs := rfl
@[simp] theorem setMirror_counters (k : Nat) (d : Word) (s : State) : (setMirror k d s).counters = s.counters := rfl
@[simp] theorem setMirror_shadows (k : Nat) (d : Word) (s : State) : (setMirror k d s).shadows = s.shadows := rfl
@[simp] theorem setMirror_slotArgs (k : Nat) (d : Word) (s : State) : (setMirror k d s).slotArgs = s.slotArgs := rfl
@[simp] theorem setMirror_rdata (k : Nat) (d : Word) (s : State) : (setMirror k d s).rdata = s.rdata := rfl
@[simp] theorem setMirror_out (k : Nat) (d : Word) (s : State) : (setMirror k d s).out = s.out := rfl
@[simp] theorem setMirror_fresh (k : Nat) (d : Word) (s : State) : (setMirror k d s).fresh = s.fresh := rfl
@[simp] theorem setMirror_ing (k : Nat) (d : Word) (s : State) : (setMirror k d s).ing = s.ing := rfl
@[simp] theorem setMirror_eq (k : Nat) (d : Word) (s : State) : (setMirror k d s).eq = s.eq := rfl
@[simp] theorem setMirror_cfg (k : Nat) (d : Word) (s : State) : (setMirror k d s).cfg = s.cfg := rfl
@[simp] theorem setMirror_tim (k : Nat) (d : Word) (s : State) : (setMirror k d s).tim = s.tim := rfl
@[simp] theorem setMirror_cones (k : Nat) (d : Word) (s : State) : (setMirror k d s).cones = s.cones := rfl
@[simp] theorem setMirror_lockgrps (k : Nat) (d : Word) (s : State) : (setMirror k d s).lockgrps = s.lockgrps := rfl
@[simp] theorem setMirror_fxp (k : Nat) (d : Word) (s : State) : (setMirror k d s).fxp = s.fxp := rfl
@[simp] theorem setMirror_fq (k : Nat) (d : Word) (s : State) : (setMirror k d s).fq = s.fq := rfl
@[simp] theorem setMirror_mac (k : Nat) (d : Word) (s : State) : (setMirror k d s).mac = s.mac := rfl
@[simp] theorem setMirror_wdgBad (k : Nat) (d : Word) (s : State) : (setMirror k d s).wdgBad = s.wdgBad := rfl
@[simp] theorem setMirror_pol (k : Nat) (d : Word) (s : State) : (setMirror k d s).pol = s.pol := rfl
@[simp] theorem setMirror_badRules (k : Nat) (d : Word) (s : State) : (setMirror k d s).badRules = s.badRules := rfl
@[simp] theorem setMirror_tbl (k : Nat) (d : Word) (s : State) : (setMirror k d s).tbl = s.tbl := rfl
@[simp] theorem setMirror_srt (k : Nat) (d : Word) (s : State) : (setMirror k d s).srt = s.srt := rfl
@[simp] theorem setMirror_rfx (k : Nat) (d : Word) (s : State) : (setMirror k d s).rfx = s.rfx := rfl
@[simp] theorem setMirror_shf (k : Nat) (d : Word) (s : State) : (setMirror k d s).shf = s.shf := rfl
@[simp] theorem setMirror_recirc (k : Nat) (d : Word) (s : State) : (setMirror k d s).recirc = s.recirc := rfl
@[simp] theorem setMirror_mcStage (k : Nat) (d : Word) (s : State) : (setMirror k d s).mcStage = s.mcStage := rfl
@[simp] theorem setMirror_glz (k : Nat) (d : Word) (s : State) : (setMirror k d s).glz = s.glz := rfl
@[simp] theorem setMirror_sag (k : Nat) (d : Word) (s : State) : (setMirror k d s).sag = s.sag := rfl
@[simp] theorem setMirror_nmw (k : Nat) (d : Word) (s : State) : (setMirror k d s).nmw = s.nmw := rfl
@[simp] theorem setMirror_qps (k : Nat) (d : Word) (s : State) : (setMirror k d s).qps = s.qps := rfl
@[simp] theorem setMirror_brg (k : Nat) (d : Word) (s : State) : (setMirror k d s).brg = s.brg := rfl
@[simp] theorem setMirror_col (k : Nat) (d : Word) (s : State) : (setMirror k d s).col = s.col := rfl
@[simp] theorem setMirror_kiln (k : Nat) (d : Word) (s : State) : (setMirror k d s).kiln = s.kiln := rfl
@[simp] theorem setMirror_foot (k : Nat) (d : Word) (s : State) : (setMirror k d s).foot = s.foot := rfl
@[simp] theorem setMirror_crz (k : Nat) (d : Word) (s : State) : (setMirror k d s).crz = s.crz := rfl
@[simp] theorem setMirror_flash (k : Nat) (d : Word) (s : State) : (setMirror k d s).flash = s.flash := rfl
@[simp] theorem setMirror_boot (k : Nat) (d : Word) (s : State) : (setMirror k d s).boot = s.boot := rfl
@[simp] theorem setMirror_upd (k : Nat) (d : Word) (s : State) : (setMirror k d s).upd = s.upd := rfl

@[simp] theorem setRdata_pending (w : Word) (s : State) : (setRdata w s).pending = s.pending := rfl
@[simp] theorem setRdata_now (w : Word) (s : State) : (setRdata w s).now = s.now := rfl
@[simp] theorem setRdata_regs (w : Word) (s : State) : (setRdata w s).regs = s.regs := rfl
@[simp] theorem setRdata_counters (w : Word) (s : State) : (setRdata w s).counters = s.counters := rfl
@[simp] theorem setRdata_shadows (w : Word) (s : State) : (setRdata w s).shadows = s.shadows := rfl
@[simp] theorem setRdata_mirror (w : Word) (s : State) : (setRdata w s).mirror = s.mirror := rfl
@[simp] theorem setRdata_slotArgs (w : Word) (s : State) : (setRdata w s).slotArgs = s.slotArgs := rfl
@[simp] theorem setRdata_out (w : Word) (s : State) : (setRdata w s).out = s.out := rfl
@[simp] theorem setRdata_fresh (w : Word) (s : State) : (setRdata w s).fresh = s.fresh := rfl
@[simp] theorem setRdata_ing (w : Word) (s : State) : (setRdata w s).ing = s.ing := rfl
@[simp] theorem setRdata_eq (w : Word) (s : State) : (setRdata w s).eq = s.eq := rfl
@[simp] theorem setRdata_cfg (w : Word) (s : State) : (setRdata w s).cfg = s.cfg := rfl
@[simp] theorem setRdata_tim (w : Word) (s : State) : (setRdata w s).tim = s.tim := rfl
@[simp] theorem setRdata_cones (w : Word) (s : State) : (setRdata w s).cones = s.cones := rfl
@[simp] theorem setRdata_lockgrps (w : Word) (s : State) : (setRdata w s).lockgrps = s.lockgrps := rfl
@[simp] theorem setRdata_fxp (w : Word) (s : State) : (setRdata w s).fxp = s.fxp := rfl
@[simp] theorem setRdata_fq (w : Word) (s : State) : (setRdata w s).fq = s.fq := rfl
@[simp] theorem setRdata_mac (w : Word) (s : State) : (setRdata w s).mac = s.mac := rfl
@[simp] theorem setRdata_wdgBad (w : Word) (s : State) : (setRdata w s).wdgBad = s.wdgBad := rfl
@[simp] theorem setRdata_pol (w : Word) (s : State) : (setRdata w s).pol = s.pol := rfl
@[simp] theorem setRdata_badRules (w : Word) (s : State) : (setRdata w s).badRules = s.badRules := rfl
@[simp] theorem setRdata_tbl (w : Word) (s : State) : (setRdata w s).tbl = s.tbl := rfl
@[simp] theorem setRdata_srt (w : Word) (s : State) : (setRdata w s).srt = s.srt := rfl
@[simp] theorem setRdata_rfx (w : Word) (s : State) : (setRdata w s).rfx = s.rfx := rfl
@[simp] theorem setRdata_shf (w : Word) (s : State) : (setRdata w s).shf = s.shf := rfl
@[simp] theorem setRdata_recirc (w : Word) (s : State) : (setRdata w s).recirc = s.recirc := rfl
@[simp] theorem setRdata_mcStage (w : Word) (s : State) : (setRdata w s).mcStage = s.mcStage := rfl
@[simp] theorem setRdata_glz (w : Word) (s : State) : (setRdata w s).glz = s.glz := rfl
@[simp] theorem setRdata_sag (w : Word) (s : State) : (setRdata w s).sag = s.sag := rfl
@[simp] theorem setRdata_nmw (w : Word) (s : State) : (setRdata w s).nmw = s.nmw := rfl
@[simp] theorem setRdata_qps (w : Word) (s : State) : (setRdata w s).qps = s.qps := rfl
@[simp] theorem setRdata_brg (w : Word) (s : State) : (setRdata w s).brg = s.brg := rfl
@[simp] theorem setRdata_col (w : Word) (s : State) : (setRdata w s).col = s.col := rfl
@[simp] theorem setRdata_kiln (w : Word) (s : State) : (setRdata w s).kiln = s.kiln := rfl
@[simp] theorem setRdata_foot (w : Word) (s : State) : (setRdata w s).foot = s.foot := rfl
@[simp] theorem setRdata_crz (w : Word) (s : State) : (setRdata w s).crz = s.crz := rfl
@[simp] theorem setRdata_flash (w : Word) (s : State) : (setRdata w s).flash = s.flash := rfl
@[simp] theorem setRdata_boot (w : Word) (s : State) : (setRdata w s).boot = s.boot := rfl
@[simp] theorem setRdata_upd (w : Word) (s : State) : (setRdata w s).upd = s.upd := rfl

@[simp] theorem setShadow_pending (k : Nat) (w : Word) (s : State) : (setShadow k w s).pending = s.pending := rfl
@[simp] theorem setShadow_now (k : Nat) (w : Word) (s : State) : (setShadow k w s).now = s.now := rfl
@[simp] theorem setShadow_regs (k : Nat) (w : Word) (s : State) : (setShadow k w s).regs = s.regs := rfl
@[simp] theorem setShadow_counters (k : Nat) (w : Word) (s : State) : (setShadow k w s).counters = s.counters := rfl
@[simp] theorem setShadow_mirror (k : Nat) (w : Word) (s : State) : (setShadow k w s).mirror = s.mirror := rfl
@[simp] theorem setShadow_slotArgs (k : Nat) (w : Word) (s : State) : (setShadow k w s).slotArgs = s.slotArgs := rfl
@[simp] theorem setShadow_rdata (k : Nat) (w : Word) (s : State) : (setShadow k w s).rdata = s.rdata := rfl
@[simp] theorem setShadow_out (k : Nat) (w : Word) (s : State) : (setShadow k w s).out = s.out := rfl
@[simp] theorem setShadow_fresh (k : Nat) (w : Word) (s : State) : (setShadow k w s).fresh = s.fresh := rfl
@[simp] theorem setShadow_ing (k : Nat) (w : Word) (s : State) : (setShadow k w s).ing = s.ing := rfl
@[simp] theorem setShadow_eq (k : Nat) (w : Word) (s : State) : (setShadow k w s).eq = s.eq := rfl
@[simp] theorem setShadow_cfg (k : Nat) (w : Word) (s : State) : (setShadow k w s).cfg = s.cfg := rfl
@[simp] theorem setShadow_tim (k : Nat) (w : Word) (s : State) : (setShadow k w s).tim = s.tim := rfl
@[simp] theorem setShadow_cones (k : Nat) (w : Word) (s : State) : (setShadow k w s).cones = s.cones := rfl
@[simp] theorem setShadow_lockgrps (k : Nat) (w : Word) (s : State) : (setShadow k w s).lockgrps = s.lockgrps := rfl
@[simp] theorem setShadow_fxp (k : Nat) (w : Word) (s : State) : (setShadow k w s).fxp = s.fxp := rfl
@[simp] theorem setShadow_fq (k : Nat) (w : Word) (s : State) : (setShadow k w s).fq = s.fq := rfl
@[simp] theorem setShadow_mac (k : Nat) (w : Word) (s : State) : (setShadow k w s).mac = s.mac := rfl
@[simp] theorem setShadow_wdgBad (k : Nat) (w : Word) (s : State) : (setShadow k w s).wdgBad = s.wdgBad := rfl
@[simp] theorem setShadow_pol (k : Nat) (w : Word) (s : State) : (setShadow k w s).pol = s.pol := rfl
@[simp] theorem setShadow_badRules (k : Nat) (w : Word) (s : State) : (setShadow k w s).badRules = s.badRules := rfl
@[simp] theorem setShadow_tbl (k : Nat) (w : Word) (s : State) : (setShadow k w s).tbl = s.tbl := rfl
@[simp] theorem setShadow_srt (k : Nat) (w : Word) (s : State) : (setShadow k w s).srt = s.srt := rfl
@[simp] theorem setShadow_rfx (k : Nat) (w : Word) (s : State) : (setShadow k w s).rfx = s.rfx := rfl
@[simp] theorem setShadow_shf (k : Nat) (w : Word) (s : State) : (setShadow k w s).shf = s.shf := rfl
@[simp] theorem setShadow_recirc (k : Nat) (w : Word) (s : State) : (setShadow k w s).recirc = s.recirc := rfl
@[simp] theorem setShadow_mcStage (k : Nat) (w : Word) (s : State) : (setShadow k w s).mcStage = s.mcStage := rfl
@[simp] theorem setShadow_glz (k : Nat) (w : Word) (s : State) : (setShadow k w s).glz = s.glz := rfl
@[simp] theorem setShadow_sag (k : Nat) (w : Word) (s : State) : (setShadow k w s).sag = s.sag := rfl
@[simp] theorem setShadow_nmw (k : Nat) (w : Word) (s : State) : (setShadow k w s).nmw = s.nmw := rfl
@[simp] theorem setShadow_qps (k : Nat) (w : Word) (s : State) : (setShadow k w s).qps = s.qps := rfl
@[simp] theorem setShadow_brg (k : Nat) (w : Word) (s : State) : (setShadow k w s).brg = s.brg := rfl
@[simp] theorem setShadow_col (k : Nat) (w : Word) (s : State) : (setShadow k w s).col = s.col := rfl
@[simp] theorem setShadow_kiln (k : Nat) (w : Word) (s : State) : (setShadow k w s).kiln = s.kiln := rfl
@[simp] theorem setShadow_foot (k : Nat) (w : Word) (s : State) : (setShadow k w s).foot = s.foot := rfl
@[simp] theorem setShadow_crz (k : Nat) (w : Word) (s : State) : (setShadow k w s).crz = s.crz := rfl
@[simp] theorem setShadow_flash (k : Nat) (w : Word) (s : State) : (setShadow k w s).flash = s.flash := rfl
@[simp] theorem setShadow_boot (k : Nat) (w : Word) (s : State) : (setShadow k w s).boot = s.boot := rfl
@[simp] theorem setShadow_upd (k : Nat) (w : Word) (s : State) : (setShadow k w s).upd = s.upd := rfl

@[simp] theorem bumpN_pending (k n : Nat) (s : State) : (bumpN k n s).pending = s.pending := rfl
@[simp] theorem bumpN_now (k n : Nat) (s : State) : (bumpN k n s).now = s.now := rfl
@[simp] theorem bumpN_regs (k n : Nat) (s : State) : (bumpN k n s).regs = s.regs := rfl
@[simp] theorem bumpN_shadows (k n : Nat) (s : State) : (bumpN k n s).shadows = s.shadows := rfl
@[simp] theorem bumpN_mirror (k n : Nat) (s : State) : (bumpN k n s).mirror = s.mirror := rfl
@[simp] theorem bumpN_slotArgs (k n : Nat) (s : State) : (bumpN k n s).slotArgs = s.slotArgs := rfl
@[simp] theorem bumpN_rdata (k n : Nat) (s : State) : (bumpN k n s).rdata = s.rdata := rfl
@[simp] theorem bumpN_out (k n : Nat) (s : State) : (bumpN k n s).out = s.out := rfl
@[simp] theorem bumpN_fresh (k n : Nat) (s : State) : (bumpN k n s).fresh = s.fresh := rfl
@[simp] theorem bumpN_ing (k n : Nat) (s : State) : (bumpN k n s).ing = s.ing := rfl
@[simp] theorem bumpN_eq (k n : Nat) (s : State) : (bumpN k n s).eq = s.eq := rfl
@[simp] theorem bumpN_cfg (k n : Nat) (s : State) : (bumpN k n s).cfg = s.cfg := rfl
@[simp] theorem bumpN_tim (k n : Nat) (s : State) : (bumpN k n s).tim = s.tim := rfl
@[simp] theorem bumpN_cones (k n : Nat) (s : State) : (bumpN k n s).cones = s.cones := rfl
@[simp] theorem bumpN_lockgrps (k n : Nat) (s : State) : (bumpN k n s).lockgrps = s.lockgrps := rfl
@[simp] theorem bumpN_fxp (k n : Nat) (s : State) : (bumpN k n s).fxp = s.fxp := rfl
@[simp] theorem bumpN_fq (k n : Nat) (s : State) : (bumpN k n s).fq = s.fq := rfl
@[simp] theorem bumpN_mac (k n : Nat) (s : State) : (bumpN k n s).mac = s.mac := rfl
@[simp] theorem bumpN_wdgBad (k n : Nat) (s : State) : (bumpN k n s).wdgBad = s.wdgBad := rfl
@[simp] theorem bumpN_pol (k n : Nat) (s : State) : (bumpN k n s).pol = s.pol := rfl
@[simp] theorem bumpN_badRules (k n : Nat) (s : State) : (bumpN k n s).badRules = s.badRules := rfl
@[simp] theorem bumpN_tbl (k n : Nat) (s : State) : (bumpN k n s).tbl = s.tbl := rfl
@[simp] theorem bumpN_srt (k n : Nat) (s : State) : (bumpN k n s).srt = s.srt := rfl
@[simp] theorem bumpN_rfx (k n : Nat) (s : State) : (bumpN k n s).rfx = s.rfx := rfl
@[simp] theorem bumpN_shf (k n : Nat) (s : State) : (bumpN k n s).shf = s.shf := rfl
@[simp] theorem bumpN_recirc (k n : Nat) (s : State) : (bumpN k n s).recirc = s.recirc := rfl
@[simp] theorem bumpN_mcStage (k n : Nat) (s : State) : (bumpN k n s).mcStage = s.mcStage := rfl
@[simp] theorem bumpN_glz (k n : Nat) (s : State) : (bumpN k n s).glz = s.glz := rfl
@[simp] theorem bumpN_sag (k n : Nat) (s : State) : (bumpN k n s).sag = s.sag := rfl
@[simp] theorem bumpN_nmw (k n : Nat) (s : State) : (bumpN k n s).nmw = s.nmw := rfl
@[simp] theorem bumpN_qps (k n : Nat) (s : State) : (bumpN k n s).qps = s.qps := rfl
@[simp] theorem bumpN_brg (k n : Nat) (s : State) : (bumpN k n s).brg = s.brg := rfl
@[simp] theorem bumpN_col (k n : Nat) (s : State) : (bumpN k n s).col = s.col := rfl
@[simp] theorem bumpN_kiln (k n : Nat) (s : State) : (bumpN k n s).kiln = s.kiln := rfl
@[simp] theorem bumpN_foot (k n : Nat) (s : State) : (bumpN k n s).foot = s.foot := rfl
@[simp] theorem bumpN_crz (k n : Nat) (s : State) : (bumpN k n s).crz = s.crz := rfl
@[simp] theorem bumpN_flash (k n : Nat) (s : State) : (bumpN k n s).flash = s.flash := rfl
@[simp] theorem bumpN_boot (k n : Nat) (s : State) : (bumpN k n s).boot = s.boot := rfl
@[simp] theorem bumpN_upd (k n : Nat) (s : State) : (bumpN k n s).upd = s.upd := rfl

@[simp] theorem bump_pending (k : Nat) (s : State) : (bump k s).pending = s.pending := rfl
@[simp] theorem bump_now (k : Nat) (s : State) : (bump k s).now = s.now := rfl
@[simp] theorem bump_regs (k : Nat) (s : State) : (bump k s).regs = s.regs := rfl
@[simp] theorem bump_shadows (k : Nat) (s : State) : (bump k s).shadows = s.shadows := rfl
@[simp] theorem bump_mirror (k : Nat) (s : State) : (bump k s).mirror = s.mirror := rfl
@[simp] theorem bump_slotArgs (k : Nat) (s : State) : (bump k s).slotArgs = s.slotArgs := rfl
@[simp] theorem bump_rdata (k : Nat) (s : State) : (bump k s).rdata = s.rdata := rfl
@[simp] theorem bump_out (k : Nat) (s : State) : (bump k s).out = s.out := rfl
@[simp] theorem bump_fresh (k : Nat) (s : State) : (bump k s).fresh = s.fresh := rfl
@[simp] theorem bump_ing (k : Nat) (s : State) : (bump k s).ing = s.ing := rfl
@[simp] theorem bump_eq (k : Nat) (s : State) : (bump k s).eq = s.eq := rfl
@[simp] theorem bump_cfg (k : Nat) (s : State) : (bump k s).cfg = s.cfg := rfl
@[simp] theorem bump_tim (k : Nat) (s : State) : (bump k s).tim = s.tim := rfl
@[simp] theorem bump_cones (k : Nat) (s : State) : (bump k s).cones = s.cones := rfl
@[simp] theorem bump_lockgrps (k : Nat) (s : State) : (bump k s).lockgrps = s.lockgrps := rfl
@[simp] theorem bump_fxp (k : Nat) (s : State) : (bump k s).fxp = s.fxp := rfl
@[simp] theorem bump_fq (k : Nat) (s : State) : (bump k s).fq = s.fq := rfl
@[simp] theorem bump_mac (k : Nat) (s : State) : (bump k s).mac = s.mac := rfl
@[simp] theorem bump_wdgBad (k : Nat) (s : State) : (bump k s).wdgBad = s.wdgBad := rfl
@[simp] theorem bump_pol (k : Nat) (s : State) : (bump k s).pol = s.pol := rfl
@[simp] theorem bump_badRules (k : Nat) (s : State) : (bump k s).badRules = s.badRules := rfl
@[simp] theorem bump_tbl (k : Nat) (s : State) : (bump k s).tbl = s.tbl := rfl
@[simp] theorem bump_srt (k : Nat) (s : State) : (bump k s).srt = s.srt := rfl
@[simp] theorem bump_rfx (k : Nat) (s : State) : (bump k s).rfx = s.rfx := rfl
@[simp] theorem bump_shf (k : Nat) (s : State) : (bump k s).shf = s.shf := rfl
@[simp] theorem bump_recirc (k : Nat) (s : State) : (bump k s).recirc = s.recirc := rfl
@[simp] theorem bump_mcStage (k : Nat) (s : State) : (bump k s).mcStage = s.mcStage := rfl
@[simp] theorem bump_glz (k : Nat) (s : State) : (bump k s).glz = s.glz := rfl
@[simp] theorem bump_sag (k : Nat) (s : State) : (bump k s).sag = s.sag := rfl
@[simp] theorem bump_nmw (k : Nat) (s : State) : (bump k s).nmw = s.nmw := rfl
@[simp] theorem bump_qps (k : Nat) (s : State) : (bump k s).qps = s.qps := rfl
@[simp] theorem bump_brg (k : Nat) (s : State) : (bump k s).brg = s.brg := rfl
@[simp] theorem bump_col (k : Nat) (s : State) : (bump k s).col = s.col := rfl
@[simp] theorem bump_kiln (k : Nat) (s : State) : (bump k s).kiln = s.kiln := rfl
@[simp] theorem bump_foot (k : Nat) (s : State) : (bump k s).foot = s.foot := rfl
@[simp] theorem bump_crz (k : Nat) (s : State) : (bump k s).crz = s.crz := rfl
@[simp] theorem bump_flash (k : Nat) (s : State) : (bump k s).flash = s.flash := rfl
@[simp] theorem bump_boot (k : Nat) (s : State) : (bump k s).boot = s.boot := rfl
@[simp] theorem bump_upd (k : Nat) (s : State) : (bump k s).upd = s.upd := rfl

@[simp] theorem clearCounter_pending (k : Nat) (s : State) : (clearCounter k s).pending = s.pending := rfl
@[simp] theorem clearCounter_now (k : Nat) (s : State) : (clearCounter k s).now = s.now := rfl
@[simp] theorem clearCounter_regs (k : Nat) (s : State) : (clearCounter k s).regs = s.regs := rfl
@[simp] theorem clearCounter_shadows (k : Nat) (s : State) : (clearCounter k s).shadows = s.shadows := rfl
@[simp] theorem clearCounter_mirror (k : Nat) (s : State) : (clearCounter k s).mirror = s.mirror := rfl
@[simp] theorem clearCounter_slotArgs (k : Nat) (s : State) : (clearCounter k s).slotArgs = s.slotArgs := rfl
@[simp] theorem clearCounter_rdata (k : Nat) (s : State) : (clearCounter k s).rdata = s.rdata := rfl
@[simp] theorem clearCounter_out (k : Nat) (s : State) : (clearCounter k s).out = s.out := rfl
@[simp] theorem clearCounter_fresh (k : Nat) (s : State) : (clearCounter k s).fresh = s.fresh := rfl
@[simp] theorem clearCounter_ing (k : Nat) (s : State) : (clearCounter k s).ing = s.ing := rfl
@[simp] theorem clearCounter_eq (k : Nat) (s : State) : (clearCounter k s).eq = s.eq := rfl
@[simp] theorem clearCounter_cfg (k : Nat) (s : State) : (clearCounter k s).cfg = s.cfg := rfl
@[simp] theorem clearCounter_tim (k : Nat) (s : State) : (clearCounter k s).tim = s.tim := rfl
@[simp] theorem clearCounter_cones (k : Nat) (s : State) : (clearCounter k s).cones = s.cones := rfl
@[simp] theorem clearCounter_lockgrps (k : Nat) (s : State) : (clearCounter k s).lockgrps = s.lockgrps := rfl
@[simp] theorem clearCounter_fxp (k : Nat) (s : State) : (clearCounter k s).fxp = s.fxp := rfl
@[simp] theorem clearCounter_fq (k : Nat) (s : State) : (clearCounter k s).fq = s.fq := rfl
@[simp] theorem clearCounter_mac (k : Nat) (s : State) : (clearCounter k s).mac = s.mac := rfl
@[simp] theorem clearCounter_wdgBad (k : Nat) (s : State) : (clearCounter k s).wdgBad = s.wdgBad := rfl
@[simp] theorem clearCounter_pol (k : Nat) (s : State) : (clearCounter k s).pol = s.pol := rfl
@[simp] theorem clearCounter_badRules (k : Nat) (s : State) : (clearCounter k s).badRules = s.badRules := rfl
@[simp] theorem clearCounter_tbl (k : Nat) (s : State) : (clearCounter k s).tbl = s.tbl := rfl
@[simp] theorem clearCounter_srt (k : Nat) (s : State) : (clearCounter k s).srt = s.srt := rfl
@[simp] theorem clearCounter_rfx (k : Nat) (s : State) : (clearCounter k s).rfx = s.rfx := rfl
@[simp] theorem clearCounter_shf (k : Nat) (s : State) : (clearCounter k s).shf = s.shf := rfl
@[simp] theorem clearCounter_recirc (k : Nat) (s : State) : (clearCounter k s).recirc = s.recirc := rfl
@[simp] theorem clearCounter_mcStage (k : Nat) (s : State) : (clearCounter k s).mcStage = s.mcStage := rfl
@[simp] theorem clearCounter_glz (k : Nat) (s : State) : (clearCounter k s).glz = s.glz := rfl
@[simp] theorem clearCounter_sag (k : Nat) (s : State) : (clearCounter k s).sag = s.sag := rfl
@[simp] theorem clearCounter_nmw (k : Nat) (s : State) : (clearCounter k s).nmw = s.nmw := rfl
@[simp] theorem clearCounter_qps (k : Nat) (s : State) : (clearCounter k s).qps = s.qps := rfl
@[simp] theorem clearCounter_brg (k : Nat) (s : State) : (clearCounter k s).brg = s.brg := rfl
@[simp] theorem clearCounter_col (k : Nat) (s : State) : (clearCounter k s).col = s.col := rfl
@[simp] theorem clearCounter_kiln (k : Nat) (s : State) : (clearCounter k s).kiln = s.kiln := rfl
@[simp] theorem clearCounter_foot (k : Nat) (s : State) : (clearCounter k s).foot = s.foot := rfl
@[simp] theorem clearCounter_crz (k : Nat) (s : State) : (clearCounter k s).crz = s.crz := rfl
@[simp] theorem clearCounter_flash (k : Nat) (s : State) : (clearCounter k s).flash = s.flash := rfl
@[simp] theorem clearCounter_boot (k : Nat) (s : State) : (clearCounter k s).boot = s.boot := rfl
@[simp] theorem clearCounter_upd (k : Nat) (s : State) : (clearCounter k s).upd = s.upd := rfl

@[simp] theorem emit_pending (o : Out) (s : State) : (emit o s).pending = s.pending := rfl
@[simp] theorem emit_now (o : Out) (s : State) : (emit o s).now = s.now := rfl
@[simp] theorem emit_regs (o : Out) (s : State) : (emit o s).regs = s.regs := rfl
@[simp] theorem emit_counters (o : Out) (s : State) : (emit o s).counters = s.counters := rfl
@[simp] theorem emit_shadows (o : Out) (s : State) : (emit o s).shadows = s.shadows := rfl
@[simp] theorem emit_mirror (o : Out) (s : State) : (emit o s).mirror = s.mirror := rfl
@[simp] theorem emit_slotArgs (o : Out) (s : State) : (emit o s).slotArgs = s.slotArgs := rfl
@[simp] theorem emit_rdata (o : Out) (s : State) : (emit o s).rdata = s.rdata := rfl
@[simp] theorem emit_fresh (o : Out) (s : State) : (emit o s).fresh = s.fresh := rfl
@[simp] theorem emit_ing (o : Out) (s : State) : (emit o s).ing = s.ing := rfl
@[simp] theorem emit_eq (o : Out) (s : State) : (emit o s).eq = s.eq := rfl
@[simp] theorem emit_cfg (o : Out) (s : State) : (emit o s).cfg = s.cfg := rfl
@[simp] theorem emit_tim (o : Out) (s : State) : (emit o s).tim = s.tim := rfl
@[simp] theorem emit_cones (o : Out) (s : State) : (emit o s).cones = s.cones := rfl
@[simp] theorem emit_lockgrps (o : Out) (s : State) : (emit o s).lockgrps = s.lockgrps := rfl
@[simp] theorem emit_fxp (o : Out) (s : State) : (emit o s).fxp = s.fxp := rfl
@[simp] theorem emit_fq (o : Out) (s : State) : (emit o s).fq = s.fq := rfl
@[simp] theorem emit_mac (o : Out) (s : State) : (emit o s).mac = s.mac := rfl
@[simp] theorem emit_wdgBad (o : Out) (s : State) : (emit o s).wdgBad = s.wdgBad := rfl
@[simp] theorem emit_pol (o : Out) (s : State) : (emit o s).pol = s.pol := rfl
@[simp] theorem emit_badRules (o : Out) (s : State) : (emit o s).badRules = s.badRules := rfl
@[simp] theorem emit_tbl (o : Out) (s : State) : (emit o s).tbl = s.tbl := rfl
@[simp] theorem emit_srt (o : Out) (s : State) : (emit o s).srt = s.srt := rfl
@[simp] theorem emit_rfx (o : Out) (s : State) : (emit o s).rfx = s.rfx := rfl
@[simp] theorem emit_shf (o : Out) (s : State) : (emit o s).shf = s.shf := rfl
@[simp] theorem emit_recirc (o : Out) (s : State) : (emit o s).recirc = s.recirc := rfl
@[simp] theorem emit_mcStage (o : Out) (s : State) : (emit o s).mcStage = s.mcStage := rfl
@[simp] theorem emit_glz (o : Out) (s : State) : (emit o s).glz = s.glz := rfl
@[simp] theorem emit_sag (o : Out) (s : State) : (emit o s).sag = s.sag := rfl
@[simp] theorem emit_nmw (o : Out) (s : State) : (emit o s).nmw = s.nmw := rfl
@[simp] theorem emit_qps (o : Out) (s : State) : (emit o s).qps = s.qps := rfl
@[simp] theorem emit_brg (o : Out) (s : State) : (emit o s).brg = s.brg := rfl
@[simp] theorem emit_col (o : Out) (s : State) : (emit o s).col = s.col := rfl
@[simp] theorem emit_kiln (o : Out) (s : State) : (emit o s).kiln = s.kiln := rfl
@[simp] theorem emit_foot (o : Out) (s : State) : (emit o s).foot = s.foot := rfl
@[simp] theorem emit_crz (o : Out) (s : State) : (emit o s).crz = s.crz := rfl
@[simp] theorem emit_flash (o : Out) (s : State) : (emit o s).flash = s.flash := rfl
@[simp] theorem emit_boot (o : Out) (s : State) : (emit o s).boot = s.boot := rfl
@[simp] theorem emit_upd (o : Out) (s : State) : (emit o s).upd = s.upd := rfl

@[simp] theorem drawn_pending (s : State) : (drawn s).pending = s.pending := rfl
@[simp] theorem drawn_now (s : State) : (drawn s).now = s.now := rfl
@[simp] theorem drawn_regs (s : State) : (drawn s).regs = s.regs := rfl
@[simp] theorem drawn_counters (s : State) : (drawn s).counters = s.counters := rfl
@[simp] theorem drawn_shadows (s : State) : (drawn s).shadows = s.shadows := rfl
@[simp] theorem drawn_mirror (s : State) : (drawn s).mirror = s.mirror := rfl
@[simp] theorem drawn_slotArgs (s : State) : (drawn s).slotArgs = s.slotArgs := rfl
@[simp] theorem drawn_rdata (s : State) : (drawn s).rdata = s.rdata := rfl
@[simp] theorem drawn_out (s : State) : (drawn s).out = s.out := rfl
@[simp] theorem drawn_ing (s : State) : (drawn s).ing = s.ing := rfl
@[simp] theorem drawn_eq (s : State) : (drawn s).eq = s.eq := rfl
@[simp] theorem drawn_cfg (s : State) : (drawn s).cfg = s.cfg := rfl
@[simp] theorem drawn_tim (s : State) : (drawn s).tim = s.tim := rfl
@[simp] theorem drawn_cones (s : State) : (drawn s).cones = s.cones := rfl
@[simp] theorem drawn_lockgrps (s : State) : (drawn s).lockgrps = s.lockgrps := rfl
@[simp] theorem drawn_fxp (s : State) : (drawn s).fxp = s.fxp := rfl
@[simp] theorem drawn_fq (s : State) : (drawn s).fq = s.fq := rfl
@[simp] theorem drawn_mac (s : State) : (drawn s).mac = s.mac := rfl
@[simp] theorem drawn_wdgBad (s : State) : (drawn s).wdgBad = s.wdgBad := rfl
@[simp] theorem drawn_pol (s : State) : (drawn s).pol = s.pol := rfl
@[simp] theorem drawn_badRules (s : State) : (drawn s).badRules = s.badRules := rfl
@[simp] theorem drawn_tbl (s : State) : (drawn s).tbl = s.tbl := rfl
@[simp] theorem drawn_srt (s : State) : (drawn s).srt = s.srt := rfl
@[simp] theorem drawn_rfx (s : State) : (drawn s).rfx = s.rfx := rfl
@[simp] theorem drawn_shf (s : State) : (drawn s).shf = s.shf := rfl
@[simp] theorem drawn_recirc (s : State) : (drawn s).recirc = s.recirc := rfl
@[simp] theorem drawn_mcStage (s : State) : (drawn s).mcStage = s.mcStage := rfl
@[simp] theorem drawn_glz (s : State) : (drawn s).glz = s.glz := rfl
@[simp] theorem drawn_sag (s : State) : (drawn s).sag = s.sag := rfl
@[simp] theorem drawn_nmw (s : State) : (drawn s).nmw = s.nmw := rfl
@[simp] theorem drawn_qps (s : State) : (drawn s).qps = s.qps := rfl
@[simp] theorem drawn_brg (s : State) : (drawn s).brg = s.brg := rfl
@[simp] theorem drawn_col (s : State) : (drawn s).col = s.col := rfl
@[simp] theorem drawn_kiln (s : State) : (drawn s).kiln = s.kiln := rfl
@[simp] theorem drawn_foot (s : State) : (drawn s).foot = s.foot := rfl
@[simp] theorem drawn_crz (s : State) : (drawn s).crz = s.crz := rfl
@[simp] theorem drawn_flash (s : State) : (drawn s).flash = s.flash := rfl
@[simp] theorem drawn_boot (s : State) : (drawn s).boot = s.boot := rfl
@[simp] theorem drawn_upd (s : State) : (drawn s).upd = s.upd := rfl

@[simp] theorem setPort_pending (n : Nat) (p : FxpPort) (s : State) : (setPort n p s).pending = s.pending := rfl
@[simp] theorem setPort_now (n : Nat) (p : FxpPort) (s : State) : (setPort n p s).now = s.now := rfl
@[simp] theorem setPort_regs (n : Nat) (p : FxpPort) (s : State) : (setPort n p s).regs = s.regs := rfl
@[simp] theorem setPort_counters (n : Nat) (p : FxpPort) (s : State) : (setPort n p s).counters = s.counters := rfl
@[simp] theorem setPort_shadows (n : Nat) (p : FxpPort) (s : State) : (setPort n p s).shadows = s.shadows := rfl
@[simp] theorem setPort_mirror (n : Nat) (p : FxpPort) (s : State) : (setPort n p s).mirror = s.mirror := rfl
@[simp] theorem setPort_slotArgs (n : Nat) (p : FxpPort) (s : State) : (setPort n p s).slotArgs = s.slotArgs := rfl
@[simp] theorem setPort_rdata (n : Nat) (p : FxpPort) (s : State) : (setPort n p s).rdata = s.rdata := rfl
@[simp] theorem setPort_out (n : Nat) (p : FxpPort) (s : State) : (setPort n p s).out = s.out := rfl
@[simp] theorem setPort_fresh (n : Nat) (p : FxpPort) (s : State) : (setPort n p s).fresh = s.fresh := rfl
@[simp] theorem setPort_ing (n : Nat) (p : FxpPort) (s : State) : (setPort n p s).ing = s.ing := rfl
@[simp] theorem setPort_eq (n : Nat) (p : FxpPort) (s : State) : (setPort n p s).eq = s.eq := rfl
@[simp] theorem setPort_cfg (n : Nat) (p : FxpPort) (s : State) : (setPort n p s).cfg = s.cfg := rfl
@[simp] theorem setPort_tim (n : Nat) (p : FxpPort) (s : State) : (setPort n p s).tim = s.tim := rfl
@[simp] theorem setPort_cones (n : Nat) (p : FxpPort) (s : State) : (setPort n p s).cones = s.cones := rfl
@[simp] theorem setPort_lockgrps (n : Nat) (p : FxpPort) (s : State) : (setPort n p s).lockgrps = s.lockgrps := rfl
@[simp] theorem setPort_fq (n : Nat) (p : FxpPort) (s : State) : (setPort n p s).fq = s.fq := rfl
@[simp] theorem setPort_mac (n : Nat) (p : FxpPort) (s : State) : (setPort n p s).mac = s.mac := rfl
@[simp] theorem setPort_wdgBad (n : Nat) (p : FxpPort) (s : State) : (setPort n p s).wdgBad = s.wdgBad := rfl
@[simp] theorem setPort_pol (n : Nat) (p : FxpPort) (s : State) : (setPort n p s).pol = s.pol := rfl
@[simp] theorem setPort_badRules (n : Nat) (p : FxpPort) (s : State) : (setPort n p s).badRules = s.badRules := rfl
@[simp] theorem setPort_tbl (n : Nat) (p : FxpPort) (s : State) : (setPort n p s).tbl = s.tbl := rfl
@[simp] theorem setPort_srt (n : Nat) (p : FxpPort) (s : State) : (setPort n p s).srt = s.srt := rfl
@[simp] theorem setPort_rfx (n : Nat) (p : FxpPort) (s : State) : (setPort n p s).rfx = s.rfx := rfl
@[simp] theorem setPort_shf (n : Nat) (p : FxpPort) (s : State) : (setPort n p s).shf = s.shf := rfl
@[simp] theorem setPort_recirc (n : Nat) (p : FxpPort) (s : State) : (setPort n p s).recirc = s.recirc := rfl
@[simp] theorem setPort_mcStage (n : Nat) (p : FxpPort) (s : State) : (setPort n p s).mcStage = s.mcStage := rfl
@[simp] theorem setPort_glz (n : Nat) (p : FxpPort) (s : State) : (setPort n p s).glz = s.glz := rfl
@[simp] theorem setPort_sag (n : Nat) (p : FxpPort) (s : State) : (setPort n p s).sag = s.sag := rfl
@[simp] theorem setPort_nmw (n : Nat) (p : FxpPort) (s : State) : (setPort n p s).nmw = s.nmw := rfl
@[simp] theorem setPort_qps (n : Nat) (p : FxpPort) (s : State) : (setPort n p s).qps = s.qps := rfl
@[simp] theorem setPort_brg (n : Nat) (p : FxpPort) (s : State) : (setPort n p s).brg = s.brg := rfl
@[simp] theorem setPort_col (n : Nat) (p : FxpPort) (s : State) : (setPort n p s).col = s.col := rfl
@[simp] theorem setPort_kiln (n : Nat) (p : FxpPort) (s : State) : (setPort n p s).kiln = s.kiln := rfl
@[simp] theorem setPort_foot (n : Nat) (p : FxpPort) (s : State) : (setPort n p s).foot = s.foot := rfl
@[simp] theorem setPort_crz (n : Nat) (p : FxpPort) (s : State) : (setPort n p s).crz = s.crz := rfl
@[simp] theorem setPort_flash (n : Nat) (p : FxpPort) (s : State) : (setPort n p s).flash = s.flash := rfl
@[simp] theorem setPort_boot (n : Nat) (p : FxpPort) (s : State) : (setPort n p s).boot = s.boot := rfl
@[simp] theorem setPort_upd (n : Nat) (p : FxpPort) (s : State) : (setPort n p s).upd = s.upd := rfl

@[simp] theorem setFxq_pending (n q : Nat) (l : List FxpItem) (s : State) : (setFxq n q l s).pending = s.pending := rfl
@[simp] theorem setFxq_now (n q : Nat) (l : List FxpItem) (s : State) : (setFxq n q l s).now = s.now := rfl
@[simp] theorem setFxq_regs (n q : Nat) (l : List FxpItem) (s : State) : (setFxq n q l s).regs = s.regs := rfl
@[simp] theorem setFxq_counters (n q : Nat) (l : List FxpItem) (s : State) : (setFxq n q l s).counters = s.counters := rfl
@[simp] theorem setFxq_shadows (n q : Nat) (l : List FxpItem) (s : State) : (setFxq n q l s).shadows = s.shadows := rfl
@[simp] theorem setFxq_mirror (n q : Nat) (l : List FxpItem) (s : State) : (setFxq n q l s).mirror = s.mirror := rfl
@[simp] theorem setFxq_slotArgs (n q : Nat) (l : List FxpItem) (s : State) : (setFxq n q l s).slotArgs = s.slotArgs := rfl
@[simp] theorem setFxq_rdata (n q : Nat) (l : List FxpItem) (s : State) : (setFxq n q l s).rdata = s.rdata := rfl
@[simp] theorem setFxq_out (n q : Nat) (l : List FxpItem) (s : State) : (setFxq n q l s).out = s.out := rfl
@[simp] theorem setFxq_fresh (n q : Nat) (l : List FxpItem) (s : State) : (setFxq n q l s).fresh = s.fresh := rfl
@[simp] theorem setFxq_ing (n q : Nat) (l : List FxpItem) (s : State) : (setFxq n q l s).ing = s.ing := rfl
@[simp] theorem setFxq_eq (n q : Nat) (l : List FxpItem) (s : State) : (setFxq n q l s).eq = s.eq := rfl
@[simp] theorem setFxq_cfg (n q : Nat) (l : List FxpItem) (s : State) : (setFxq n q l s).cfg = s.cfg := rfl
@[simp] theorem setFxq_tim (n q : Nat) (l : List FxpItem) (s : State) : (setFxq n q l s).tim = s.tim := rfl
@[simp] theorem setFxq_cones (n q : Nat) (l : List FxpItem) (s : State) : (setFxq n q l s).cones = s.cones := rfl
@[simp] theorem setFxq_lockgrps (n q : Nat) (l : List FxpItem) (s : State) : (setFxq n q l s).lockgrps = s.lockgrps := rfl
@[simp] theorem setFxq_fxp (n q : Nat) (l : List FxpItem) (s : State) : (setFxq n q l s).fxp = s.fxp := rfl
@[simp] theorem setFxq_mac (n q : Nat) (l : List FxpItem) (s : State) : (setFxq n q l s).mac = s.mac := rfl
@[simp] theorem setFxq_wdgBad (n q : Nat) (l : List FxpItem) (s : State) : (setFxq n q l s).wdgBad = s.wdgBad := rfl
@[simp] theorem setFxq_pol (n q : Nat) (l : List FxpItem) (s : State) : (setFxq n q l s).pol = s.pol := rfl
@[simp] theorem setFxq_badRules (n q : Nat) (l : List FxpItem) (s : State) : (setFxq n q l s).badRules = s.badRules := rfl
@[simp] theorem setFxq_tbl (n q : Nat) (l : List FxpItem) (s : State) : (setFxq n q l s).tbl = s.tbl := rfl
@[simp] theorem setFxq_srt (n q : Nat) (l : List FxpItem) (s : State) : (setFxq n q l s).srt = s.srt := rfl
@[simp] theorem setFxq_rfx (n q : Nat) (l : List FxpItem) (s : State) : (setFxq n q l s).rfx = s.rfx := rfl
@[simp] theorem setFxq_shf (n q : Nat) (l : List FxpItem) (s : State) : (setFxq n q l s).shf = s.shf := rfl
@[simp] theorem setFxq_recirc (n q : Nat) (l : List FxpItem) (s : State) : (setFxq n q l s).recirc = s.recirc := rfl
@[simp] theorem setFxq_mcStage (n q : Nat) (l : List FxpItem) (s : State) : (setFxq n q l s).mcStage = s.mcStage := rfl
@[simp] theorem setFxq_glz (n q : Nat) (l : List FxpItem) (s : State) : (setFxq n q l s).glz = s.glz := rfl
@[simp] theorem setFxq_sag (n q : Nat) (l : List FxpItem) (s : State) : (setFxq n q l s).sag = s.sag := rfl
@[simp] theorem setFxq_nmw (n q : Nat) (l : List FxpItem) (s : State) : (setFxq n q l s).nmw = s.nmw := rfl
@[simp] theorem setFxq_qps (n q : Nat) (l : List FxpItem) (s : State) : (setFxq n q l s).qps = s.qps := rfl
@[simp] theorem setFxq_brg (n q : Nat) (l : List FxpItem) (s : State) : (setFxq n q l s).brg = s.brg := rfl
@[simp] theorem setFxq_col (n q : Nat) (l : List FxpItem) (s : State) : (setFxq n q l s).col = s.col := rfl
@[simp] theorem setFxq_kiln (n q : Nat) (l : List FxpItem) (s : State) : (setFxq n q l s).kiln = s.kiln := rfl
@[simp] theorem setFxq_foot (n q : Nat) (l : List FxpItem) (s : State) : (setFxq n q l s).foot = s.foot := rfl
@[simp] theorem setFxq_crz (n q : Nat) (l : List FxpItem) (s : State) : (setFxq n q l s).crz = s.crz := rfl
@[simp] theorem setFxq_flash (n q : Nat) (l : List FxpItem) (s : State) : (setFxq n q l s).flash = s.flash := rfl
@[simp] theorem setFxq_boot (n q : Nat) (l : List FxpItem) (s : State) : (setFxq n q l s).boot = s.boot := rfl
@[simp] theorem setFxq_upd (n q : Nat) (l : List FxpItem) (s : State) : (setFxq n q l s).upd = s.upd := rfl

@[simp] theorem setMac_pending (n : Nat) (m : Mac) (s : State) : (setMac n m s).pending = s.pending := rfl
@[simp] theorem setMac_now (n : Nat) (m : Mac) (s : State) : (setMac n m s).now = s.now := rfl
@[simp] theorem setMac_regs (n : Nat) (m : Mac) (s : State) : (setMac n m s).regs = s.regs := rfl
@[simp] theorem setMac_counters (n : Nat) (m : Mac) (s : State) : (setMac n m s).counters = s.counters := rfl
@[simp] theorem setMac_shadows (n : Nat) (m : Mac) (s : State) : (setMac n m s).shadows = s.shadows := rfl
@[simp] theorem setMac_mirror (n : Nat) (m : Mac) (s : State) : (setMac n m s).mirror = s.mirror := rfl
@[simp] theorem setMac_slotArgs (n : Nat) (m : Mac) (s : State) : (setMac n m s).slotArgs = s.slotArgs := rfl
@[simp] theorem setMac_rdata (n : Nat) (m : Mac) (s : State) : (setMac n m s).rdata = s.rdata := rfl
@[simp] theorem setMac_out (n : Nat) (m : Mac) (s : State) : (setMac n m s).out = s.out := rfl
@[simp] theorem setMac_fresh (n : Nat) (m : Mac) (s : State) : (setMac n m s).fresh = s.fresh := rfl
@[simp] theorem setMac_ing (n : Nat) (m : Mac) (s : State) : (setMac n m s).ing = s.ing := rfl
@[simp] theorem setMac_eq (n : Nat) (m : Mac) (s : State) : (setMac n m s).eq = s.eq := rfl
@[simp] theorem setMac_cfg (n : Nat) (m : Mac) (s : State) : (setMac n m s).cfg = s.cfg := rfl
@[simp] theorem setMac_tim (n : Nat) (m : Mac) (s : State) : (setMac n m s).tim = s.tim := rfl
@[simp] theorem setMac_cones (n : Nat) (m : Mac) (s : State) : (setMac n m s).cones = s.cones := rfl
@[simp] theorem setMac_lockgrps (n : Nat) (m : Mac) (s : State) : (setMac n m s).lockgrps = s.lockgrps := rfl
@[simp] theorem setMac_fxp (n : Nat) (m : Mac) (s : State) : (setMac n m s).fxp = s.fxp := rfl
@[simp] theorem setMac_fq (n : Nat) (m : Mac) (s : State) : (setMac n m s).fq = s.fq := rfl
@[simp] theorem setMac_wdgBad (n : Nat) (m : Mac) (s : State) : (setMac n m s).wdgBad = s.wdgBad := rfl
@[simp] theorem setMac_pol (n : Nat) (m : Mac) (s : State) : (setMac n m s).pol = s.pol := rfl
@[simp] theorem setMac_badRules (n : Nat) (m : Mac) (s : State) : (setMac n m s).badRules = s.badRules := rfl
@[simp] theorem setMac_tbl (n : Nat) (m : Mac) (s : State) : (setMac n m s).tbl = s.tbl := rfl
@[simp] theorem setMac_srt (n : Nat) (m : Mac) (s : State) : (setMac n m s).srt = s.srt := rfl
@[simp] theorem setMac_rfx (n : Nat) (m : Mac) (s : State) : (setMac n m s).rfx = s.rfx := rfl
@[simp] theorem setMac_shf (n : Nat) (m : Mac) (s : State) : (setMac n m s).shf = s.shf := rfl
@[simp] theorem setMac_recirc (n : Nat) (m : Mac) (s : State) : (setMac n m s).recirc = s.recirc := rfl
@[simp] theorem setMac_mcStage (n : Nat) (m : Mac) (s : State) : (setMac n m s).mcStage = s.mcStage := rfl
@[simp] theorem setMac_glz (n : Nat) (m : Mac) (s : State) : (setMac n m s).glz = s.glz := rfl
@[simp] theorem setMac_sag (n : Nat) (m : Mac) (s : State) : (setMac n m s).sag = s.sag := rfl
@[simp] theorem setMac_nmw (n : Nat) (m : Mac) (s : State) : (setMac n m s).nmw = s.nmw := rfl
@[simp] theorem setMac_qps (n : Nat) (m : Mac) (s : State) : (setMac n m s).qps = s.qps := rfl
@[simp] theorem setMac_brg (n : Nat) (m : Mac) (s : State) : (setMac n m s).brg = s.brg := rfl
@[simp] theorem setMac_col (n : Nat) (m : Mac) (s : State) : (setMac n m s).col = s.col := rfl
@[simp] theorem setMac_kiln (n : Nat) (m : Mac) (s : State) : (setMac n m s).kiln = s.kiln := rfl
@[simp] theorem setMac_foot (n : Nat) (m : Mac) (s : State) : (setMac n m s).foot = s.foot := rfl
@[simp] theorem setMac_crz (n : Nat) (m : Mac) (s : State) : (setMac n m s).crz = s.crz := rfl
@[simp] theorem setMac_flash (n : Nat) (m : Mac) (s : State) : (setMac n m s).flash = s.flash := rfl
@[simp] theorem setMac_boot (n : Nat) (m : Mac) (s : State) : (setMac n m s).boot = s.boot := rfl
@[simp] theorem setMac_upd (n : Nat) (m : Mac) (s : State) : (setMac n m s).upd = s.upd := rfl

@[simp] theorem setCone_pending (n : Nat) (c : Cone) (s : State) : (setCone n c s).pending = s.pending := rfl
@[simp] theorem setCone_now (n : Nat) (c : Cone) (s : State) : (setCone n c s).now = s.now := rfl
@[simp] theorem setCone_regs (n : Nat) (c : Cone) (s : State) : (setCone n c s).regs = s.regs := rfl
@[simp] theorem setCone_counters (n : Nat) (c : Cone) (s : State) : (setCone n c s).counters = s.counters := rfl
@[simp] theorem setCone_shadows (n : Nat) (c : Cone) (s : State) : (setCone n c s).shadows = s.shadows := rfl
@[simp] theorem setCone_mirror (n : Nat) (c : Cone) (s : State) : (setCone n c s).mirror = s.mirror := rfl
@[simp] theorem setCone_slotArgs (n : Nat) (c : Cone) (s : State) : (setCone n c s).slotArgs = s.slotArgs := rfl
@[simp] theorem setCone_rdata (n : Nat) (c : Cone) (s : State) : (setCone n c s).rdata = s.rdata := rfl
@[simp] theorem setCone_out (n : Nat) (c : Cone) (s : State) : (setCone n c s).out = s.out := rfl
@[simp] theorem setCone_fresh (n : Nat) (c : Cone) (s : State) : (setCone n c s).fresh = s.fresh := rfl
@[simp] theorem setCone_ing (n : Nat) (c : Cone) (s : State) : (setCone n c s).ing = s.ing := rfl
@[simp] theorem setCone_eq (n : Nat) (c : Cone) (s : State) : (setCone n c s).eq = s.eq := rfl
@[simp] theorem setCone_cfg (n : Nat) (c : Cone) (s : State) : (setCone n c s).cfg = s.cfg := rfl
@[simp] theorem setCone_tim (n : Nat) (c : Cone) (s : State) : (setCone n c s).tim = s.tim := rfl
@[simp] theorem setCone_lockgrps (n : Nat) (c : Cone) (s : State) : (setCone n c s).lockgrps = s.lockgrps := rfl
@[simp] theorem setCone_fxp (n : Nat) (c : Cone) (s : State) : (setCone n c s).fxp = s.fxp := rfl
@[simp] theorem setCone_fq (n : Nat) (c : Cone) (s : State) : (setCone n c s).fq = s.fq := rfl
@[simp] theorem setCone_mac (n : Nat) (c : Cone) (s : State) : (setCone n c s).mac = s.mac := rfl
@[simp] theorem setCone_wdgBad (n : Nat) (c : Cone) (s : State) : (setCone n c s).wdgBad = s.wdgBad := rfl
@[simp] theorem setCone_pol (n : Nat) (c : Cone) (s : State) : (setCone n c s).pol = s.pol := rfl
@[simp] theorem setCone_badRules (n : Nat) (c : Cone) (s : State) : (setCone n c s).badRules = s.badRules := rfl
@[simp] theorem setCone_tbl (n : Nat) (c : Cone) (s : State) : (setCone n c s).tbl = s.tbl := rfl
@[simp] theorem setCone_srt (n : Nat) (c : Cone) (s : State) : (setCone n c s).srt = s.srt := rfl
@[simp] theorem setCone_rfx (n : Nat) (c : Cone) (s : State) : (setCone n c s).rfx = s.rfx := rfl
@[simp] theorem setCone_shf (n : Nat) (c : Cone) (s : State) : (setCone n c s).shf = s.shf := rfl
@[simp] theorem setCone_recirc (n : Nat) (c : Cone) (s : State) : (setCone n c s).recirc = s.recirc := rfl
@[simp] theorem setCone_mcStage (n : Nat) (c : Cone) (s : State) : (setCone n c s).mcStage = s.mcStage := rfl
@[simp] theorem setCone_glz (n : Nat) (c : Cone) (s : State) : (setCone n c s).glz = s.glz := rfl
@[simp] theorem setCone_sag (n : Nat) (c : Cone) (s : State) : (setCone n c s).sag = s.sag := rfl
@[simp] theorem setCone_nmw (n : Nat) (c : Cone) (s : State) : (setCone n c s).nmw = s.nmw := rfl
@[simp] theorem setCone_qps (n : Nat) (c : Cone) (s : State) : (setCone n c s).qps = s.qps := rfl
@[simp] theorem setCone_brg (n : Nat) (c : Cone) (s : State) : (setCone n c s).brg = s.brg := rfl
@[simp] theorem setCone_col (n : Nat) (c : Cone) (s : State) : (setCone n c s).col = s.col := rfl
@[simp] theorem setCone_kiln (n : Nat) (c : Cone) (s : State) : (setCone n c s).kiln = s.kiln := rfl
@[simp] theorem setCone_foot (n : Nat) (c : Cone) (s : State) : (setCone n c s).foot = s.foot := rfl
@[simp] theorem setCone_crz (n : Nat) (c : Cone) (s : State) : (setCone n c s).crz = s.crz := rfl
@[simp] theorem setCone_flash (n : Nat) (c : Cone) (s : State) : (setCone n c s).flash = s.flash := rfl
@[simp] theorem setCone_boot (n : Nat) (c : Cone) (s : State) : (setCone n c s).boot = s.boot := rfl
@[simp] theorem setCone_upd (n : Nat) (c : Cone) (s : State) : (setCone n c s).upd = s.upd := rfl

@[simp] theorem setQp_pending (q : Nat) (v : Qp) (s : State) : (setQp q v s).pending = s.pending := rfl
@[simp] theorem setQp_now (q : Nat) (v : Qp) (s : State) : (setQp q v s).now = s.now := rfl
@[simp] theorem setQp_regs (q : Nat) (v : Qp) (s : State) : (setQp q v s).regs = s.regs := rfl
@[simp] theorem setQp_counters (q : Nat) (v : Qp) (s : State) : (setQp q v s).counters = s.counters := rfl
@[simp] theorem setQp_shadows (q : Nat) (v : Qp) (s : State) : (setQp q v s).shadows = s.shadows := rfl
@[simp] theorem setQp_mirror (q : Nat) (v : Qp) (s : State) : (setQp q v s).mirror = s.mirror := rfl
@[simp] theorem setQp_slotArgs (q : Nat) (v : Qp) (s : State) : (setQp q v s).slotArgs = s.slotArgs := rfl
@[simp] theorem setQp_rdata (q : Nat) (v : Qp) (s : State) : (setQp q v s).rdata = s.rdata := rfl
@[simp] theorem setQp_out (q : Nat) (v : Qp) (s : State) : (setQp q v s).out = s.out := rfl
@[simp] theorem setQp_fresh (q : Nat) (v : Qp) (s : State) : (setQp q v s).fresh = s.fresh := rfl
@[simp] theorem setQp_ing (q : Nat) (v : Qp) (s : State) : (setQp q v s).ing = s.ing := rfl
@[simp] theorem setQp_eq (q : Nat) (v : Qp) (s : State) : (setQp q v s).eq = s.eq := rfl
@[simp] theorem setQp_cfg (q : Nat) (v : Qp) (s : State) : (setQp q v s).cfg = s.cfg := rfl
@[simp] theorem setQp_tim (q : Nat) (v : Qp) (s : State) : (setQp q v s).tim = s.tim := rfl
@[simp] theorem setQp_cones (q : Nat) (v : Qp) (s : State) : (setQp q v s).cones = s.cones := rfl
@[simp] theorem setQp_lockgrps (q : Nat) (v : Qp) (s : State) : (setQp q v s).lockgrps = s.lockgrps := rfl
@[simp] theorem setQp_fxp (q : Nat) (v : Qp) (s : State) : (setQp q v s).fxp = s.fxp := rfl
@[simp] theorem setQp_fq (q : Nat) (v : Qp) (s : State) : (setQp q v s).fq = s.fq := rfl
@[simp] theorem setQp_mac (q : Nat) (v : Qp) (s : State) : (setQp q v s).mac = s.mac := rfl
@[simp] theorem setQp_wdgBad (q : Nat) (v : Qp) (s : State) : (setQp q v s).wdgBad = s.wdgBad := rfl
@[simp] theorem setQp_pol (q : Nat) (v : Qp) (s : State) : (setQp q v s).pol = s.pol := rfl
@[simp] theorem setQp_badRules (q : Nat) (v : Qp) (s : State) : (setQp q v s).badRules = s.badRules := rfl
@[simp] theorem setQp_tbl (q : Nat) (v : Qp) (s : State) : (setQp q v s).tbl = s.tbl := rfl
@[simp] theorem setQp_srt (q : Nat) (v : Qp) (s : State) : (setQp q v s).srt = s.srt := rfl
@[simp] theorem setQp_rfx (q : Nat) (v : Qp) (s : State) : (setQp q v s).rfx = s.rfx := rfl
@[simp] theorem setQp_shf (q : Nat) (v : Qp) (s : State) : (setQp q v s).shf = s.shf := rfl
@[simp] theorem setQp_recirc (q : Nat) (v : Qp) (s : State) : (setQp q v s).recirc = s.recirc := rfl
@[simp] theorem setQp_mcStage (q : Nat) (v : Qp) (s : State) : (setQp q v s).mcStage = s.mcStage := rfl
@[simp] theorem setQp_glz (q : Nat) (v : Qp) (s : State) : (setQp q v s).glz = s.glz := rfl
@[simp] theorem setQp_sag (q : Nat) (v : Qp) (s : State) : (setQp q v s).sag = s.sag := rfl
@[simp] theorem setQp_nmw (q : Nat) (v : Qp) (s : State) : (setQp q v s).nmw = s.nmw := rfl
@[simp] theorem setQp_brg (q : Nat) (v : Qp) (s : State) : (setQp q v s).brg = s.brg := rfl
@[simp] theorem setQp_col (q : Nat) (v : Qp) (s : State) : (setQp q v s).col = s.col := rfl
@[simp] theorem setQp_kiln (q : Nat) (v : Qp) (s : State) : (setQp q v s).kiln = s.kiln := rfl
@[simp] theorem setQp_foot (q : Nat) (v : Qp) (s : State) : (setQp q v s).foot = s.foot := rfl
@[simp] theorem setQp_crz (q : Nat) (v : Qp) (s : State) : (setQp q v s).crz = s.crz := rfl
@[simp] theorem setQp_flash (q : Nat) (v : Qp) (s : State) : (setQp q v s).flash = s.flash := rfl
@[simp] theorem setQp_boot (q : Nat) (v : Qp) (s : State) : (setQp q v s).boot = s.boot := rfl
@[simp] theorem setQp_upd (q : Nat) (v : Qp) (s : State) : (setQp q v s).upd = s.upd := rfl

end Sys2Proof.Machine
end

