-- ==== Sys2Proof/Laws/Regs.lean ====
section
/-! SUPPORT. Sys2Proof/Laws/Regs.lean: reads after writes: sparse tables, registers, their fields and bits, counters, shadows. -/

namespace Sys2Proof.Machine
open Sys2Proof

/-! ### Sparse tables -/

theorem tblFind_set {α : Type} (t : Tbl α) (i j : Nat) (v : α) :
    tblFind (tblSet t i v) j = if j = i then some v else tblFind t j := by
  induction t with
  | nil => simp [tblSet, tblFind, eq_comm]
  | cons e t ih =>
    obtain ⟨k, x⟩ := e
    simp only [tblSet]
    split
    · by_cases h : j = i
      · simp [tblFind, h]
      · simp [tblFind, h, Ne.symm h]
    · split
      · rename_i hk
        rw [← hk]
        by_cases h : j = i
        · simp [tblFind, h]
        · simp [tblFind, h, Ne.symm h]
      · rename_i hk
        simp only [tblFind, ih]
        split
        · rename_i h
          have : ¬ j = i := by omega
          rw [if_neg this]
        · rfl

theorem tblFind_erase {α : Type} (t : Tbl α) (i j : Nat) :
    tblFind (tblErase t i) j = if j = i then none else tblFind t j := by
  induction t with
  | nil => simp [tblErase, tblFind]
  | cons e t ih =>
    obtain ⟨k, x⟩ := e
    simp only [tblErase] at ih ⊢
    simp only [List.filter_cons]
    split
    · simp only [tblFind, ih]
      split
      · rename_i hk h
        have : ¬ j = i := by
          simp only [Bool.not_eq_true', decide_eq_false_iff_not] at hk
          omega
        rw [if_neg this]
      · rfl
    · rename_i h
      simp only [Bool.not_eq_true, Bool.not_eq_false', decide_eq_true_eq] at h
      simp only [ih, tblFind]
      by_cases hj : j = i
      · simp [hj]
      · have : ¬ k = j := fun hk => hj (hk.symm.trans h)
        simp [hj, this]

theorem tblGet_set {α : Type} (t : Tbl α) (i j : Nat) (v d : α) :
    tblGet (tblSet t i v) j d = if j = i then v else tblGet t j d := by
  simp only [tblGet, tblFind_set]
  split <;> rfl

theorem tblGet_erase {α : Type} (t : Tbl α) (i j : Nat) (d : α) :
    tblGet (tblErase t i) j d = if j = i then d else tblGet t j d := by
  simp only [tblGet, tblFind_erase]
  split <;> rfl

/-! ### Registers -/

theorem rd_of_regs {s t : State} (h : t.regs = s.regs) (k : Nat) : rd t k = rd s k := by
  simp [rd, h]

/-- A register reads what was last written to it, and a write changes no other word. -/
theorem rd_wr (k j : Nat) (w : Word) (s : State) : rd (wr k w s) j = if j = k then w else rd s j := by
  simp only [rd, wr, putWord]
  split
  · rw [tblFind_erase]
    by_cases h : j = k
    · subst h
      simp_all
    · simp [h]
  · rw [tblFind_set]
    by_cases h : j = k <;> simp [h]

@[simp] theorem rd_wr_same (k : Nat) (w : Word) (s : State) : rd (wr k w s) k = w := by simp [rd_wr]
theorem rd_wr_other {k j : Nat} (h : j ≠ k) (w : Word) (s : State) : rd (wr k w s) j = rd s j := by simp [rd_wr, h]

@[simp] theorem rd_kept (s t : State) (k : Nat) : rd (kept s t) k = rd t k := rfl
@[simp] theorem rd_setMirror (k j : Nat) (d : Word) (s : State) : rd (setMirror k d s) j = rd s j := rfl
@[simp] theorem rd_setRdata (w : Word) (s : State) (j : Nat) : rd (setRdata w s) j = rd s j := rfl
@[simp] theorem rd_setShadow (k : Nat) (w : Word) (s : State) (j : Nat) : rd (setShadow k w s) j = rd s j := rfl
@[simp] theorem rd_bumpN (k n : Nat) (s : State) (j : Nat) : rd (bumpN k n s) j = rd s j := rfl
@[simp] theorem rd_bump (k : Nat) (s : State) (j : Nat) : rd (bump k s) j = rd s j := rfl
@[simp] theorem rd_clearCounter (k : Nat) (s : State) (j : Nat) : rd (clearCounter k s) j = rd s j := rfl
@[simp] theorem rd_emit (o : Out) (s : State) (j : Nat) : rd (emit o s) j = rd s j := rfl
@[simp] theorem rd_drawn (s : State) (j : Nat) : rd (drawn s) j = rd s j := rfl
@[simp] theorem rd_setPort (n : Nat) (p : FxpPort) (s : State) (j : Nat) : rd (setPort n p s) j = rd s j := rfl
@[simp] theorem rd_setFxq (n q : Nat) (l : List FxpItem) (s : State) (j : Nat) : rd (setFxq n q l s) j = rd s j := rfl
@[simp] theorem rd_setMac (n : Nat) (m : Mac) (s : State) (j : Nat) : rd (setMac n m s) j = rd s j := rfl
@[simp] theorem rd_setCone (n : Nat) (c : Cone) (s : State) (j : Nat) : rd (setCone n c s) j = rd s j := rfl

theorem rd_wrF (k hi lo v j : Nat) (s : State) :
    rd (wrF k hi lo v s) j = if j = k then setFld (rd s k) hi lo v else rd s j := rd_wr ..
theorem rd_wrB (k b j : Nat) (v : Bool) (s : State) :
    rd (wrB k b v s) j = if j = k then setBit (rd s k) b v else rd s j := rd_wr ..

/-- Consecutive words: the words below and above keep their values. -/
theorem rd_wrWords_below {k j : Nat} (ws : List Word) (s : State) (h : j < k) : rd (wrWords k ws s) j = rd s j := by
  induction ws generalizing k s with
  | nil => rfl
  | cons w ws ih =>
    rw [wrWords, ih _ (by omega), rd_wr_other (by omega)]

theorem rd_wrWords_head (k : Nat) (w : Word) (ws : List Word) (s : State) : rd (wrWords k (w :: ws) s) k = w := by
  rw [wrWords, rd_wrWords_below _ _ (by omega), rd_wr_same]

theorem rd_wrWords_above {k j : Nat} (ws : List Word) (s : State) (h : k + 4 * ws.length ≤ j) :
    rd (wrWords k ws s) j = rd s j := by
  induction ws generalizing k s with
  | nil => rfl
  | cons w ws ih =>
    simp only [List.length_cons] at h
    rw [wrWords, ih _ (by omega), rd_wr_other (by omega)]

/-! ### Fields and bits -/

theorem bit_mergeMask (w m v : Word) (j : Nat) : bit (mergeMask w m v) j = if bit m j then bit v j else bit w j := by
  simp only [bit, mergeMask, BitVec.getLsbD_or, BitVec.getLsbD_and, BitVec.getLsbD_not]
  by_cases hj : j < 32
  · by_cases hm : m.getLsbD j = true
    · simp only [hj, hm, decide_true, Bool.not_true, Bool.and_false, Bool.false_or, Bool.and_true, if_true]
    · simp only [Bool.not_eq_true] at hm
      simp only [hj, hm, decide_true, Bool.not_false, Bool.and_true, Bool.and_false, Bool.or_false,
        Bool.false_eq_true, if_false]
  · simp [BitVec.getLsbD_of_ge _ _ (Nat.le_of_not_lt hj)]

theorem bit_w32 (n j : Nat) : bit (w32 n) j = (decide (j < 32) && n.testBit j) := by
  simp [bit, w32, BitVec.getLsbD_ofNat]

theorem bit_fmask (hi lo j : Nat) : bit (fmask hi lo) j = decide (j < 32 ∧ lo ≤ j ∧ j - lo < hi + 1 - lo) := by
  simp only [fmask, bit_w32, Nat.testBit_shiftLeft, Nat.testBit_two_pow_sub_one]
  by_cases h1 : j < 32 <;> by_cases h2 : lo ≤ j <;> simp [h1, h2]

theorem bit_setFld (w : Word) (hi lo v j : Nat) :
    bit (setFld w hi lo v) j = if j < 32 ∧ lo ≤ j ∧ j - lo < hi + 1 - lo then v.testBit (j - lo) else bit w j := by
  simp only [setFld, bit_mergeMask, bit_fmask, bit_w32, Nat.testBit_shiftLeft, decide_eq_true_eq]
  split
  · rename_i h
    simp [h.1, h.2.1]
  · rfl

/-- A bit after a write of a bit. -/
theorem bit_setBit (w : Word) (k j : Nat) (v : Bool) (hk : k < 32) : bit (setBit w k v) j = if j = k then v else bit w j := by
  simp only [setBit, bit_setFld]
  by_cases h : j = k
  · subst h
    have : j < 32 ∧ j ≤ j ∧ j - j < j + 1 - j := by omega
    rw [if_pos this]
    cases v <;> simp
  · have : ¬ (j < 32 ∧ k ≤ j ∧ j - k < k + 1 - k) := by omega
    rw [if_neg this, if_neg h]

theorem testBit_fld (w : Word) (hi lo i : Nat) : (fld w hi lo).testBit i = (decide (i < hi + 1 - lo) && bit w (lo + i)) := by
  simp [fld, nbits, Nat.testBit_mod_two_pow, Nat.testBit_shiftRight, bit, BitVec.getLsbD]

/-- A field reads what was last written to it, cut to its width. -/
theorem fld_setFld (w : Word) (hi lo v : Nat) (h : hi < 32) : fld (setFld w hi lo v) hi lo = v % 2 ^ (hi + 1 - lo) := by
  apply Nat.eq_of_testBit_eq
  intro i
  rw [testBit_fld, bit_setFld, Nat.testBit_mod_two_pow]
  by_cases hi' : i < hi + 1 - lo
  · have : lo + i < 32 ∧ lo ≤ lo + i ∧ lo + i - lo < hi + 1 - lo := by omega
    rw [if_pos this]
    simp [hi']
  · simp [hi']

/-- A field that does not overlap the one written keeps its value. -/
theorem fld_setFld_other (w : Word) {hi lo hi' lo' : Nat} (v : Nat) (h : hi' < lo ∨ hi < lo') :
    fld (setFld w hi lo v) hi' lo' = fld w hi' lo' := by
  apply Nat.eq_of_testBit_eq
  intro i
  rw [testBit_fld, testBit_fld, bit_setFld]
  by_cases hi2 : i < hi' + 1 - lo'
  · have : ¬ (lo' + i < 32 ∧ lo ≤ lo' + i ∧ lo' + i - lo < hi + 1 - lo) := by omega
    rw [if_neg this]
  · simp [hi2]

theorem bit_setFld_other (w : Word) {hi lo j : Nat} (v : Nat) (h : j < lo ∨ hi < j) : bit (setFld w hi lo v) j = bit w j := by
  have : ¬ (j < 32 ∧ lo ≤ j ∧ j - lo < hi + 1 - lo) := by omega
  rw [bit_setFld, if_neg this]

theorem fld_setBit_other (w : Word) {k hi lo : Nat} (v : Bool) (h : hi < k ∨ k < lo) : fld (setBit w k v) hi lo = fld w hi lo :=
  fld_setFld_other w _ h

theorem rdB_wrB (k b : Nat) (v : Bool) (s : State) (h : b < 32) : rdB (wrB k b v s) k b = v := by
  simp [rdB, rd_wrB, bit_setBit _ _ _ _ h]

theorem rdF_wrF (k hi lo v : Nat) (s : State) (h : hi < 32) : rdF (wrF k hi lo v s) k hi lo = v % 2 ^ (hi + 1 - lo) := by
  simp [rdF, rd_wrF, fld_setFld _ _ _ _ h]

/-! ### Counters and shadows -/

theorem counter_bumpN (k j n : Nat) (s : State) :
    counter (bumpN k n s) j = if j = k then (counter s k + n) % 2 ^ 64 else counter s j := by
  by_cases hz : (tblGet s.counters k 0 + n) % 2 ^ 64 = 0
  · simp only [bumpN, counter, tblPut, hz, if_true, tblGet_erase]
  · simp only [bumpN, counter, tblPut, hz, if_false, tblGet_set]

theorem counter_clear (k j : Nat) (s : State) : counter (clearCounter k s) j = if j = k then 0 else counter s j :=
  tblGet_erase ..

theorem shadow_setShadow (k j : Nat) (w : Word) (s : State) :
    shadow (setShadow k w s) j = if j = k then w else shadow s j := by
  by_cases hz : w = 0
  · simp only [setShadow, shadow, hz, if_true, tblGet_erase]
  · simp only [setShadow, shadow, hz, if_false, tblGet_set]

@[simp] theorem setShadows_regs (k : Nat) (ws : List Word) (s : State) : (setShadows k ws s).regs = s.regs := by
  induction ws generalizing k s with
  | nil => rfl
  | cons w ws ih => rw [setShadows, ih]; rfl

@[simp] theorem setShadows_tim (k : Nat) (ws : List Word) (s : State) : (setShadows k ws s).tim = s.tim := by
  induction ws generalizing k s with
  | nil => rfl
  | cons w ws ih => rw [setShadows, ih]; rfl

end Sys2Proof.Machine
end

