-- ==== Sys2Proof/Laws/Raise.lean ====
section
/-! SUPPORT. Sys2Proof/Laws/Raise.lean: what an event can touch. An occurrence of a leaf sets registers, may send a message,
a Coil frame into the switch's queues or the pads to their safe levels; everything else of the state stands still. -/

namespace Sys2Proof.Machine
open Sys2Proof

/-- The state without the fields that an event can touch: registers and their mirror, counters, outputs, Craze's arm bits, the
switch's queues with Shelf and the MACs, the flexports' engines and transmit queues. -/
def still (s : State) : State :=
  { s with regs := [], mirror := [], counters := [], out := [], crz := {}, eq := [], mac := [], shf := {}, fxp := [], fq := [] }

theorem still_ite {c : Prop} [Decidable c] {a b s : State} (ha : still a = still s) (hb : still b = still s) :
    still (if c then a else b) = still s := by
  split
  · exact ha
  · exact hb

theorem still_forN {n lo : Nat} {f : Nat → State → State} {s : State} (h : ∀ k s, still (f k s) = still s) :
    still (forN n lo f s) = still s := by
  induction n generalizing lo s with
  | zero => rfl
  | succ n ih => exact (ih (lo := lo + 1) (s := f lo s)).trans (h lo s)

theorem lpiWake_still (n : Nat) (s : State) : still (lpiWake n s) = still s := still_ite rfl rfl
theorem cbsUpdate_still (n : Nat) (s : State) : still (cbsUpdate n s) = still s := still_ite rfl (still_ite rfl rfl)
theorem shfTouch_still (g : Nat) (s : State) : still (shfTouch g s) = still s :=
  still_ite ((lpiWake_still _ _).trans (cbsUpdate_still _ _)) rfl
theorem shfUnref_still (p : Nat) (s : State) : still (shfUnref p s) = still s := still_ite rfl (still_ite rfl rfl)
theorem injDone_still (s : State) : still (injDone s) = still s := rfl

theorem shfPut_still (g c : Nat) (p : Pkt) (s : State) : still (shfPut g c p s) = still s := by
  simp only [shfPut]
  split
  · exact still_ite ((shfUnref_still _ _).trans rfl) rfl
  · rfl

theorem shfAdmit_still (g c : Nat) (p : Pkt) (b : Bool) (s : State) : still (shfAdmit g c p b s).2 = still s := by
  simp only [shfAdmit]
  split
  · rfl
  · split
    · exact (shfPut_still _ _ _ _).trans (shfTouch_still _ _)
    · exact (shfPut_still _ _ _ _).trans (shfTouch_still _ _)

theorem residueAdmit_still (g c n : Nat) (s : State) : still (residueAdmit g c n s) = still s := by
  induction n generalizing s with
  | zero => rfl
  | succ n ih =>
    simp only [residueAdmit]
    split
    · rfl
    · rename_i p rest _
      have h := shfAdmit_still g c p false (setResidue c rest s)
      split
      · rename_i t e
        rw [e] at h
        exact (ih t).trans h
      · rfl

theorem shfOffer_still (g c : Nat) (p : Pkt) (b : Bool) (s : State) : still (shfOffer g c p b s).2 = still s := by
  simp only [shfOffer]
  split
  · exact residueAdmit_still _ _ _ _
  · exact (shfAdmit_still _ _ _ _ _).trans (residueAdmit_still _ _ _ _)

theorem shfPop_still (g c : Nat) (s : State) : still (shfPop g c s) = still s := by
  simp only [shfPop]
  split <;> rfl

theorem kilnTake_still (n : Nat) (s : State) : still (kilnTake n s) = still s := by
  induction n generalizing s with
  | zero => rfl
  | succ n ih =>
    simp only [kilnTake]
    split
    · rfl
    · split
      · rfl
      · exact (ih _).trans ((shfUnref_still _ _).trans (shfPop_still _ _ _))

theorem shfTry_still (g c : Nat) (p : Pkt) (s : State) : still (shfTry g c p s).2 = still s := by
  have key : ∀ (p : Pkt) (s : State), still (if 128 ≤ g ∧ g < 152 ∧ linkDown s (g - 128) = true then
      (false, bump (swcCtr (g - 128) 5) (shfUnref p.pid s))
    else match shfOffer g c p true s with
      | (true, s) => (true, if g = 153 then kilnTake 1 s else s)
      | (false, s) => (false, bump (queueCtr (8 * g + c) 1) (shfUnref p.pid s))).2 = still s := by
    intro p s
    split
    · exact shfUnref_still _ _
    · have h := shfOffer_still g c p true s
      split
      · rename_i t e
        rw [e] at h
        exact (still_ite (kilnTake_still 1 t) rfl).trans h
      · rename_i t e
        rw [e] at h
        exact (shfUnref_still _ _).trans h
  simp only [shfTry]
  by_cases hp : p.pid = 0
  · simp only [hp, if_true]
    exact (key _ _).trans rfl
  · simp only [hp, if_false]
    exact key p s

theorem shfEnqueue_still (g c : Nat) (p : Pkt) (s : State) : still (shfEnqueue g c p s) = still s := shfTry_still ..

theorem coilOnPort_still (op n cls : Nat) (da tag : List Byte) (ety : Nat) (f : List Byte) (s : State) :
    still (coilOnPort op n cls da tag ety f s) = still s :=
  still_ite rfl (shfEnqueue_still _ _ _ _)

theorem coilOnLink_still (l cls : Nat) (f : List Byte) (s : State) : still (coilOnLink l cls f s) = still s := by
  simp only [coilOnLink, coilOnLinkOp]
  split <;> exact coilOnPort_still ..

theorem coilToward_still (d cls : Nat) (f : List Byte) (s : State) : still (coilToward d cls f s) = still s := by
  simp only [coilToward]
  split
  · exact coilOnLink_still ..
  · split
    · exact coilOnPort_still ..
    · rfl

/-- A Coil frame of this device changes nothing outside the switch's queues, counters and outputs. -/
theorem coilSend_still (d v c wa wb : Nat) (pl : List Byte) (s : State) : still (coilSend d v c wa wb pl s) = still s :=
  coilToward_still ..

theorem forwardEvent_still (l : Nat) (s : State) : still (forwardEvent l s) = still s :=
  still_ite (coilSend_still ..) rfl

theorem setLeafBit_still (l reg : Nat) (v : Bool) (s : State) : still (setLeafBit l reg v s) = still s := by
  simp only [setLeafBit]
  split <;> rfl

theorem setLive_still (l : Nat) (v : Bool) (s : State) : still (setLive l v s) = still s := setLeafBit_still ..

theorem sendVec_still (fn vec : Nat) (s : State) : still (sendVec fn vec s) = still s := still_ite rfl rfl

theorem settleGroup_still (g : Nat) (s : State) : still (settleGroup g s) = still s := by
  have h1 : ∀ (b : Bool) (t : State), still (if b then footFault 0 t else t) = still t := fun _ _ => still_ite rfl rfl
  have h2 : ∀ (b : Bool) (t : State), still (if b then emit (.kilnSignal g)
      { t with crz := { t.crz with armKiln := nsetBit t.crz.armKiln g false } } else t) = still t := fun _ _ => still_ite rfl rfl
  have h3 : ∀ (b : Bool) (f v : Nat) (t : State), still (if b then sendVec f v
      { t with crz := { t.crz with armHost := nsetBit t.crz.armHost g false } } else t) = still t :=
    fun _ _ _ _ => still_ite (sendVec_still _ _ _) rfl
  exact (h1 _ _).trans ((h2 _ _).trans (h3 _ _ _ _))

theorem raiseLeaf_still (l : Nat) (s : State) : still (raiseLeaf l s) = still s := by
  simp only [raiseLeaf]
  exact (settleGroup_still _ _).trans
    ((still_ite rfl (forwardEvent_still _ _)).trans (setLeafBit_still _ _ _ _))

theorem requeuePending_still (n : Nat) (s : State) : still (requeuePending n s) = still s := by
  simp only [requeuePending]
  split
  · split <;> rfl
  · rfl

theorem safePads_still (n : Nat) (s : State) : still (safePads n s) = still s := by
  have h1 : ∀ (b v : Bool) (t : State), still (if b then emit (.fieldPin n 2 v) t else t) = still t :=
    fun _ _ _ => still_ite rfl rfl
  have h2 : ∀ (b : Bool) (f : Nat → Bool) (t : State),
      still (if b then forN 4 0 (fun c s => emit (.fieldPin (n + 1) c (f c)) s) t else t) = still t :=
    fun _ f _ => still_ite (still_forN (f := fun c s => emit (.fieldPin (n + 1) c (f c)) s) (fun _ _ => rfl)) rfl
  simp only [safePads]
  split
  · exact (h1 _ _ _).trans rfl
  · rfl
  · rfl
  · exact (h2 _ (fun c => !nbit (tblGet s.foot.safeImg n 0) (9 + c)) _).trans rfl
  · exact still_forN (f := fun c t => if nbit (tblGet s.foot.safeImg n 0) (16 + c) then
      emit (.fieldPin n c (nbit (tblGet s.foot.safeImg n 0) (20 + c))) t else t) (fun _ _ => still_ite rfl rfl)
  · rfl

theorem enterSafe_still (c : Nat) (s : State) : still (enterSafe c s) = still s := by
  simp only [enterSafe]
  exact (raiseLeaf_still _ _).trans ((setLive_still _ _ _).trans
    ((still_forN (fun n s => (safePads_still n _).trans (requeuePending_still n s))).trans rfl))

/-- An occurrence of a leaf touches nothing but what still leaves out. -/
theorem raise_still (l : Nat) (s : State) : still (raise l s) = still s := by
  simp only [raise]
  exact (still_ite (enterSafe_still _ _) rfl).trans (raiseLeaf_still _ _)

theorem raiseLive_still (l : Nat) (s : State) : still (raiseLive l s) = still s :=
  (raise_still _ _).trans (setLive_still _ _ _)

@[simp] theorem raise_tim (l : Nat) (s : State) : (raise l s).tim = s.tim :=
  (congrArg State.tim (raise_still l s) :)
@[simp] theorem raise_cones (l : Nat) (s : State) : (raise l s).cones = s.cones :=
  (congrArg State.cones (raise_still l s) :)
@[simp] theorem raise_cfg (l : Nat) (s : State) : (raise l s).cfg = s.cfg :=
  (congrArg State.cfg (raise_still l s) :)
@[simp] theorem raise_boot (l : Nat) (s : State) : (raise l s).boot = s.boot :=
  (congrArg State.boot (raise_still l s) :)
@[simp] theorem raise_sag (l : Nat) (s : State) : (raise l s).sag = s.sag :=
  (congrArg State.sag (raise_still l s) :)
@[simp] theorem raise_glz (l : Nat) (s : State) : (raise l s).glz = s.glz :=
  (congrArg State.glz (raise_still l s) :)
@[simp] theorem raise_kiln (l : Nat) (s : State) : (raise l s).kiln = s.kiln :=
  (congrArg State.kiln (raise_still l s) :)
@[simp] theorem raise_foot (l : Nat) (s : State) : (raise l s).foot = s.foot :=
  (congrArg State.foot (raise_still l s) :)
@[simp] theorem raise_nmw (l : Nat) (s : State) : (raise l s).nmw = s.nmw :=
  (congrArg State.nmw (raise_still l s) :)
@[simp] theorem raise_srt (l : Nat) (s : State) : (raise l s).srt = s.srt :=
  (congrArg State.srt (raise_still l s) :)
@[simp] theorem raise_rfx (l : Nat) (s : State) : (raise l s).rfx = s.rfx :=
  (congrArg State.rfx (raise_still l s) :)
@[simp] theorem raise_tbl (l : Nat) (s : State) : (raise l s).tbl = s.tbl :=
  (congrArg State.tbl (raise_still l s) :)
@[simp] theorem raise_qps (l : Nat) (s : State) : (raise l s).qps = s.qps :=
  (congrArg State.qps (raise_still l s) :)
@[simp] theorem raise_brg (l : Nat) (s : State) : (raise l s).brg = s.brg :=
  (congrArg State.brg (raise_still l s) :)
@[simp] theorem raise_col (l : Nat) (s : State) : (raise l s).col = s.col :=
  (congrArg State.col (raise_still l s) :)
@[simp] theorem raise_upd (l : Nat) (s : State) : (raise l s).upd = s.upd :=
  (congrArg State.upd (raise_still l s) :)
@[simp] theorem raise_lockgrps (l : Nat) (s : State) : (raise l s).lockgrps = s.lockgrps :=
  (congrArg State.lockgrps (raise_still l s) :)
@[simp] theorem raise_flash (l : Nat) (s : State) : (raise l s).flash = s.flash :=
  (congrArg State.flash (raise_still l s) :)
@[simp] theorem raise_rdata (l : Nat) (s : State) : (raise l s).rdata = s.rdata :=
  (congrArg State.rdata (raise_still l s) :)
@[simp] theorem raise_shadows (l : Nat) (s : State) : (raise l s).shadows = s.shadows :=
  (congrArg State.shadows (raise_still l s) :)
@[simp] theorem raise_slotArgs (l : Nat) (s : State) : (raise l s).slotArgs = s.slotArgs :=
  (congrArg State.slotArgs (raise_still l s) :)
@[simp] theorem raise_pending (l : Nat) (s : State) : (raise l s).pending = s.pending :=
  (congrArg State.pending (raise_still l s) :)
@[simp] theorem raise_now (l : Nat) (s : State) : (raise l s).now = s.now :=
  (congrArg State.now (raise_still l s) :)

/-! ### Registers that no event writes -/

/-- The blocks whose leaves have their registers at a fixed place (R529): all but the flexports and the MACs. -/
def leafBlocks : List Nat := [0x001B0010, 0x000600E0, 0x00070040, 0x00090040, 0x00200040, 0x00240040, 0x00280440, 0x00300040,
  0x00380040, 0x00080040, 0x00400040, 0x00480040, 0x00050400, 0x00500040, 0x00480050, 0x00040480, 0x00030040, 0x00020040,
  0x000B0080, 0x00010040]

/-- A register that no event writes: no STATUS or LIVE word, none of FOOT_FAULT, FOOT_SAFE, CRZ_INJ and MAC_STATUS, and below the
sequence numbers of the queues and the vector tables. -/
def quiet (k : Nat) : Prop :=
  k < 0x0F41000C ∧ k ≠ 0x000B0040 ∧ k ≠ 0x000B0020 ∧ k ≠ 0x00010014 ∧
  ¬ (0x00180000 ≤ k ∧ k < 0x001B0000 ∧ (k % 0x2000 = 4 ∨ k % 0x2000 = 0x10 ∨ k % 0x2000 = 0x14)) ∧
  ¬ (0x00100000 ≤ k ∧ k < 0x00180000 ∧ (k % 0x1000 = 0x10 ∨ k % 0x1000 = 0x14)) ∧
  k ∉ leafBlocks ∧ k ∉ leafBlocks.map (· + 4)

/-- A leaf's registers are those of a flexport, a MAC or one of the blocks. -/
theorem leafHome_at {l h b : Nat} (e : leafHome l = some (h, b)) :
    (0x00100000 ≤ h ∧ h < 0x00180000 ∧ h % 0x1000 = 0x10) ∨ (0x00180000 ≤ h ∧ h < 0x001B0000 ∧ h % 0x2000 = 0x10) ∨ h ∈ leafBlocks := by
  have pick : ∀ {c : Prop} [Decidable c] {p q : Nat × Nat} {x : Option (Nat × Nat)},
      (if c then some p else x) = some q → (c ∧ p = q) ∨ x = some q := by
    intro c _ p q x h
    split at h
    · exact Or.inl ⟨‹c›, Option.some.inj h⟩
    · exact Or.inr h
  unfold leafHome at e
  refine (pick e).elim (fun ⟨_, e⟩ => ?_) (fun e => (pick e).elim (fun ⟨_, e⟩ => ?_) (fun e => ?_))
  · have := congrArg Prod.fst e
    simp only at this
    omega
  · have := congrArg Prod.fst e
    simp only at this
    omega
  · refine Or.inr (Or.inr ?_)
    iterate 20
      refine (pick e).elim (fun ⟨_, e⟩ => ?_) (fun e => ?_)
      · have := congrArg Prod.fst e
        simp only at this
        rw [← this]
        decide
    cases e

theorem rd_setLeafBit (l reg : Nat) (hr : reg < 2) (v : Bool) (s : State) {k : Nat} (hk : quiet k) :
    rd (setLeafBit l reg v s) k = rd s k := by
  simp only [setLeafBit]
  split
  · rename_i h b e
    obtain ⟨_, _, _, _, hm, hf, hb, hb'⟩ := hk
    refine (rd_wrB _ _ _ _ _).trans (if_neg ?_)
    rcases leafHome_at e with h | h | h
    · omega
    · omega
    · rcases (by omega : reg = 0 ∨ reg = 1) with r | r
      · intro e'
        exact hb (by rw [e', r]; exact h)
      · intro e'
        exact hb' (by rw [e', r]; exact List.mem_map.2 ⟨_, h, rfl⟩)
  · rfl

theorem rd_setLive (l : Nat) (v : Bool) (s : State) {k : Nat} (hk : quiet k) : rd (setLive l v s) k = rd s k :=
  rd_setLeafBit _ _ (by decide) _ _ hk

theorem rd_ite {c : Prop} [Decidable c] {a b s : State} {k : Nat} (ha : rd a k = rd s k) (hb : rd b k = rd s k) :
    rd (if c then a else b) k = rd s k := by
  split
  · exact ha
  · exact hb

theorem rd_forN {n lo : Nat} {f : Nat → State → State} {s : State} {k : Nat} (h : ∀ i s, rd (f i s) k = rd s k) :
    rd (forN n lo f s) k = rd s k := by
  induction n generalizing lo s with
  | zero => rfl
  | succ n ih => exact (ih (lo := lo + 1) (s := f lo s)).trans (h lo s)

theorem rd_lpiWake (n : Nat) (hn : n < 24) (s : State) {k : Nat} (hk : quiet k) : rd (lpiWake n s) k = rd s k := by
  refine rd_ite ?_ rfl
  refine (rd_wrB _ _ _ _ _).trans (if_neg ?_)
  have := hk.2.2.2.2.1
  simp only [macStatus, macBase]
  omega

theorem rd_cbsUpdate (n : Nat) (s : State) (k : Nat) : rd (cbsUpdate n s) k = rd s k := rd_ite rfl (rd_ite rfl rfl)

theorem rd_shfTouch (g : Nat) (s : State) {k : Nat} (hk : quiet k) : rd (shfTouch g s) k = rd s k := by
  simp only [shfTouch]
  split
  · exact (rd_lpiWake _ (by omega) _ hk).trans (rd_cbsUpdate ..)
  · rfl

theorem rd_shfUnref (p : Nat) (s : State) (k : Nat) : rd (shfUnref p s) k = rd s k := rd_ite rfl (rd_ite rfl rfl)

theorem rd_injDone (s : State) {k : Nat} (hk : quiet k) : rd (injDone s) k = rd s k :=
  (rd_wrB _ _ _ _ _).trans ((if_neg hk.2.2.2.1).trans ((rd_wrB _ _ _ _ _).trans (if_neg hk.2.2.2.1)))

theorem rd_seqIn (q : Nat) (w : Word) (s : State) {k : Nat} (hk : quiet k) : rd (wr (seqIn q) w s) k = rd s k :=
  rd_wr_other (by have := hk.1; simp only [seqIn]; omega) _ _

theorem rd_seqOut (q : Nat) (w : Word) (s : State) {k : Nat} (hk : quiet k) : rd (wr (seqOut q) w s) k = rd s k :=
  rd_wr_other (by have := hk.1; simp only [seqOut]; omega) _ _

theorem rd_shfPut (g c : Nat) (p : Pkt) (s : State) {k : Nat} (hk : quiet k) : rd (shfPut g c p s) k = rd s k := by
  simp only [shfPut]
  split
  · exact rd_ite ((rd_shfUnref _ _ _).trans ((rd_injDone _ hk).trans (rd_seqIn _ _ _ hk))) (rd_seqIn _ _ _ hk)
  · exact rd_seqIn _ _ _ hk

theorem rd_shfAdmit (g c : Nat) (p : Pkt) (b : Bool) (s : State) {k : Nat} (hk : quiet k) :
    rd (shfAdmit g c p b s).2 k = rd s k := by
  simp only [shfAdmit]
  split
  · rfl
  · split
    · exact (rd_shfPut _ _ _ _ hk).trans (rd_shfTouch _ _ hk)
    · exact (rd_shfPut _ _ _ _ hk).trans (rd_shfTouch _ _ hk)

theorem rd_residueAdmit (g c n : Nat) (s : State) {k : Nat} (hk : quiet k) : rd (residueAdmit g c n s) k = rd s k := by
  induction n generalizing s with
  | zero => rfl
  | succ n ih =>
    simp only [residueAdmit]
    split
    · rfl
    · rename_i p rest _
      have h := rd_shfAdmit g c p false (setResidue c rest s) hk
      split
      · rename_i t e
        rw [e] at h
        exact (ih t).trans h
      · rfl

theorem rd_shfOffer (g c : Nat) (p : Pkt) (b : Bool) (s : State) {k : Nat} (hk : quiet k) :
    rd (shfOffer g c p b s).2 k = rd s k := by
  simp only [shfOffer]
  split
  · exact rd_residueAdmit _ _ _ _ hk
  · exact (rd_shfAdmit _ _ _ _ _ hk).trans (rd_residueAdmit _ _ _ _ hk)

theorem rd_shfPop (g c : Nat) (s : State) {k : Nat} (hk : quiet k) : rd (shfPop g c s) k = rd s k := by
  simp only [shfPop]
  split <;> exact rd_seqOut _ _ _ hk

theorem rd_kilnTake (n : Nat) (s : State) {k : Nat} (hk : quiet k) : rd (kilnTake n s) k = rd s k := by
  induction n generalizing s with
  | zero => rfl
  | succ n ih =>
    simp only [kilnTake]
    split
    · rfl
    · split
      · rfl
      · exact (ih _).trans ((rd_shfUnref _ _ _).trans (rd_shfPop _ _ _ hk))

theorem rd_shfEnqueue (g c : Nat) (p : Pkt) (s : State) {k : Nat} (hk : quiet k) : rd (shfEnqueue g c p s) k = rd s k := by
  have key : ∀ (p : Pkt) (s : State), rd (if 128 ≤ g ∧ g < 152 ∧ linkDown s (g - 128) = true then
      (false, bump (swcCtr (g - 128) 5) (shfUnref p.pid s))
    else match shfOffer g c p true s with
      | (true, s) => (true, if g = 153 then kilnTake 1 s else s)
      | (false, s) => (false, bump (queueCtr (8 * g + c) 1) (shfUnref p.pid s))).2 k = rd s k := by
    intro p s
    split
    · exact rd_shfUnref _ _ _
    · have h := rd_shfOffer g c p true s hk
      split
      · rename_i t e
        rw [e] at h
        exact (rd_ite (rd_kilnTake 1 t hk) rfl).trans h
      · rename_i t e
        rw [e] at h
        exact (rd_shfUnref _ _ _).trans h
  simp only [shfEnqueue, shfTry]
  by_cases hp : p.pid = 0
  · simp only [hp, if_true]
    exact (key _ _).trans rfl
  · simp only [hp, if_false]
    exact key p s

theorem rd_coilOnPort (op n cls : Nat) (da tag : List Byte) (ety : Nat) (f : List Byte) (s : State) {k : Nat} (hk : quiet k) :
    rd (coilOnPort op n cls da tag ety f s) k = rd s k :=
  rd_ite rfl (rd_shfEnqueue _ _ _ _ hk)

theorem rd_coilOnLink (l cls : Nat) (f : List Byte) (s : State) {k : Nat} (hk : quiet k) :
    rd (coilOnLink l cls f s) k = rd s k := by
  simp only [coilOnLink, coilOnLinkOp]
  split <;> exact rd_coilOnPort _ _ _ _ _ _ _ _ hk

theorem rd_coilToward (d cls : Nat) (f : List Byte) (s : State) {k : Nat} (hk : quiet k) :
    rd (coilToward d cls f s) k = rd s k := by
  simp only [coilToward]
  split
  · exact rd_coilOnLink _ _ _ _ hk
  · split
    · exact rd_coilOnPort _ _ _ _ _ _ _ _ hk
    · rfl

/-- A Coil frame of this device leaves every quiet register as it was. -/
theorem rd_coilSend (d v c wa wb : Nat) (pl : List Byte) (s : State) {k : Nat} (hk : quiet k) :
    rd (coilSend d v c wa wb pl s) k = rd s k :=
  rd_coilToward _ _ _ _ hk

theorem rd_sendVec (fn vec : Nat) (s : State) {k : Nat} (hk : quiet k) : rd (sendVec fn vec s) k = rd s k := by
  have : ¬ k = bar2Key fn (0x800 + 4 * (vec / 32)) := by
    have := hk.1
    simp only [bar2Key]
    omega
  simp only [sendVec]
  split
  · rw [rd_emit, rd_wrB, if_neg this]
  · rfl

theorem rd_settleGroup (g : Nat) (s : State) {k : Nat} (hk : quiet k) : rd (settleGroup g s) k = rd s k := by
  have h1 : ∀ (b : Bool) (t : State), rd (if b then footFault 0 t else t) k = rd t k := fun _ _ =>
    rd_ite ((rd_wrB _ _ _ _ _).trans (if_neg hk.2.1)) rfl
  have h2 : ∀ (b : Bool) (t : State), rd (if b then emit (.kilnSignal g)
      { t with crz := { t.crz with armKiln := nsetBit t.crz.armKiln g false } } else t) k = rd t k := fun _ _ => rd_ite rfl rfl
  have h3 : ∀ (b : Bool) (f v : Nat) (t : State), rd (if b then sendVec f v
      { t with crz := { t.crz with armHost := nsetBit t.crz.armHost g false } } else t) k = rd t k :=
    fun _ _ _ _ => rd_ite (rd_sendVec _ _ _ hk) rfl
  exact (h1 _ _).trans ((h2 _ _).trans (h3 _ _ _ _))

theorem rd_raiseLeaf (l : Nat) (s : State) {k : Nat} (hk : quiet k) : rd (raiseLeaf l s) k = rd s k := by
  have f : ∀ t : State, rd (forwardEvent l t) k = rd t k := fun t => by
    simp only [forwardEvent]
    split
    · exact (rd_coilSend _ _ _ _ _ _ _ hk).trans rfl
    · rfl
  simp only [raiseLeaf]
  exact (rd_settleGroup _ _ hk).trans ((rd_ite rfl (f _)).trans (rd_setLeafBit _ _ (by decide) _ _ hk))

theorem rd_requeuePending (n : Nat) (s : State) (k : Nat) : rd (requeuePending n s) k = rd s k := by
  simp only [requeuePending]
  split
  · split <;> rfl
  · rfl

theorem rd_safePads (n : Nat) (s : State) (k : Nat) : rd (safePads n s) k = rd s k := by
  simp only [safePads]
  split
  · exact rd_ite rfl rfl
  · rfl
  · rfl
  · exact rd_ite ((rd_forN (f := fun c s' => emit (.fieldPin (n + 1) c (!nbit (tblGet s.foot.safeImg n 0) (9 + c))) s')
      (fun _ _ => rfl)).trans rfl) rfl
  · exact rd_forN (f := fun c t => if nbit (tblGet s.foot.safeImg n 0) (16 + c) then
      emit (.fieldPin n c (nbit (tblGet s.foot.safeImg n 0) (20 + c))) t else t) (fun _ _ => rd_ite rfl rfl)
  · rfl

theorem rd_enterSafe (c : Nat) (s : State) {k : Nat} (hk : quiet k) : rd (enterSafe c s) k = rd s k := by
  simp only [enterSafe]
  refine (rd_raiseLeaf _ _ hk).trans ((rd_setLive _ _ _ hk).trans
    ((rd_forN (fun n s => (rd_safePads n _ _).trans (rd_requeuePending n s _))).trans ?_))
  exact (rd_wrF _ _ _ _ _ _).trans ((if_neg hk.2.2.1).trans ((rd_wrB _ _ _ _ _).trans (if_neg hk.2.2.1)))

/-- An occurrence of a leaf leaves every quiet register as it was. -/
theorem rd_raise (l : Nat) (s : State) {k : Nat} (hk : quiet k) : rd (raise l s) k = rd s k := by
  simp only [raise]
  exact (rd_ite (rd_enterSafe _ _ hk) rfl).trans (rd_raiseLeaf _ _ hk)

theorem rd_raiseLive (l : Nat) (s : State) {k : Nat} (hk : quiet k) : rd (raiseLive l s) k = rd s k :=
  (rd_raise _ _ hk).trans (rd_setLive _ _ _ hk)

end Sys2Proof.Machine
end

