-- ==== Sys2Proof/WellFormed.lean ====
section
/-! DEFINITION. Sys2Proof/WellFormed.lean: the operand values that a command admits beyond what its type says. -/

namespace Sys2Proof

/-- A requester: a device identifier has 11 bits (R477). -/
def reqWf : Requester → Bool
  | .bridge did => decide (did < 2048)
  | .host _ => true
  | .kiln => true
  | .manager => true
  | .aux => true

/-- A register offset: a word of BAR0 (R573). -/
def offWf (off : Nat) : Bool := decide (off < 2 ^ 28) && decide (off % 4 = 0)

/-- The greatest payload of a frame format (R97, R123, R133, R139, R145, R146). -/
def fmtMax : FrameFmt → Nat
  | .cc => 8
  | .fd => 64
  | .xl => 2048
  | .lin => 8
  | .t1s => 2048
  | .sent => 8
  | .spic => 64
  | .pwmx => 8

/-- A field-bus frame: its identifier, its CAN XL fields and its payload fit its format. -/
def frameWf (f : FieldFrame) : Bool :=
  decide (f.id < if f.ext then 2 ^ 29 else 2 ^ 11) && decide (f.sdt < 256) && decide (f.vcid < 256) &&
  decide (f.af < 2 ^ 32) && decide (f.dlc < 16) && decide (f.data.length ≤ fmtMax f.fmt)

/-- The surroundings of a register write: a send waits in a ring of at most 2^16 entries (R434). -/
def envWf (e : WrEnv) : Bool := e.sends.all (fun n => decide (n < 2 ^ 16))

/-- A send descriptor (R437): its fields fit the places the descriptor gives them. -/
def descWf (d : SendDesc) : Bool :=
  decide (d.addr < 2 ^ 64) && decide (1 ≤ d.len) && decide (d.len < 2 ^ 16) && decide (d.h < 2 ^ 8) && decide (d.mss < 2 ^ 14)

/-- What the Slip DMA engine turns to: an item of Kiln firmware has at least one byte. -/
def workWf : SlipWork → Bool
  | .kiln bytes => decide (1 ≤ bytes.length)
  | .queue => true
  | .capture => true
  | .resume => true

/-- The operands of a command lie in the ranges that the manual gives them. -/
def Instr.wf : Instr → Bool
  | .registerWrite req off _ _ env => reqWf req && offWf off && envWf env
  | .counterRead req off => reqWf req && offWf off
  | .entrySnapshotRead req off => reqWf req && offWf off
  | .resRelease req _ _ _ => reqWf req
  | .load req _ _ _ => reqWf req
  | .swap req _ _ => reqWf req
  | .warmRestart req _ _ => reqWf req
  | .regionCheckDone => true
  | .regionApplyDone => true
  | .clusterQuiesceTimeout _ => true
  | .clusterPortIdle _ => true
  | .swapBoundary => true
  | .bankDrainDone _ => true
  | .mirrorScan _ => true
  | .cfgLockSet req => reqWf req
  | .slewUpdate => true
  | .rateWrite req _ _ => reqWf req
  | .domainStep req _ => reqWf req
  | .domainStateChange _ _ => true
  | .initWaitExpiry => true
  | .revertHoldExpiry => true
  | .selAuto req => reqWf req
  | .selForceA req => reqWf req
  | .selForceB req => reqWf req
  | .autoSelEnable req => reqWf req
  | .timSnap req => reqWf req
  | .wtNsRead _ => true
  | .coneArm req _ _ => reqWf req
  | .coneDisarm req _ _ => reqWf req
  | .coneFire _ _ => true
  | .conePulseEnd _ => true
  | .planCycleStart => true
  | .fxpEnable req _ => reqWf req
  | .fxpDisable req _ _ => reqWf req
  | .canxRxFrame _ frame _ => frameWf frame
  | .fxpSelect _ => true
  | .fxpTxSuccess _ _ _ => true
  | .canxArbLost _ => true
  | .canxError _ _ _ _ _ _ _ => true
  | .boffDelayExpiry _ => true
  | .canxRecover req _ => reqWf req
  | .busOn _ => true
  | .canxIntegrated _ => true
  | .canxFreeze req _ _ => reqWf req
  | .canxUnfreeze req _ => reqWf req
  | .trxFlag _ _ => true
  | .txtsRead _ => true
  | .linSlotStart _ => true
  | .linHeaderRx _ _ _ => true
  | .linRxResponse _ _ _ _ => true
  | .linResponseTimeout _ _ => true
  | .linSchedReq req _ _ => reqWf req
  | .linSleep req _ => reqWf req
  | .linWake req _ => reqWf req
  | .linIdleTimeout _ => true
  | .wakeRx _ _ => true
  | .linScheduleRestart _ => true
  | .t1sRxFrame _ _ _ _ => true
  | .t1sTxOpportunity _ => true
  | .t1sCollision _ => true
  | .t1sBeaconRx _ => true
  | .plcaLost _ => true
  | .sentCalPulse _ _ => true
  | .sentRxFrame _ _ _ _ => true
  | .spicTransactionDone _ _ _ => true
  | .pwmxPeriodDone _ _ _ _ _ _ => true
  | .pwmxStuck _ _ => true
  | .pwmxPeriodStart _ _ => true
  | .lgRelease req _ _ => reqWf req
  | .lgRetry _ => true
  | .lgGiveup _ => true
  | .macRxFrame _ _ _ _ => true
  | .pfcPauseExpiry _ _ => true
  | .pfcStorm _ _ => true
  | .pfcRefresh _ => true
  | .linkUp _ _ => true
  | .linkDown _ _ _ => true
  | .lpiEnter _ => true
  | .lpiWakeDone _ => true
  | .tc10Sleep req _ => reqWf req
  | .tc10WakeCmd req _ => reqWf req
  | .tc10Wake _ _ => true
  | .svcRxFrame _ _ _ => true
  | .pipelineAdmit _ _ => true
  | .recircAdmit _ => true
  | .learnPlace => true
  | .agingSweep => true
  | .l2Insert req _ => reqWf req
  | .l2Delete req _ => reqWf req
  | .l2Lookup req _ => reqWf req
  | .l2Flush req _ _ => reqWf req
  | .l2Relocate req _ => reqWf req
  | .lpmInsert req _ _ => reqWf req
  | .lpmDelete req _ _ => reqWf req
  | .lpmLookup req _ _ => reqWf req
  | .nhWrite req _ _ => reqWf req
  | .classUnblock req _ => reqWf req
  | .marClear req _ => reqWf req
  | .routerHandoff => true
  | .routeLookup _ => true
  | .transientImageFree => true
  | .limiterToken _ => true
  | .routeTimeout _ => true
  | .mdtExpiry _ => true
  | .srtImgSend req _ => reqWf req
  | .containerFlush _ => true
  | .pioInputChange _ => true
  | .reflexPulseEnd _ => true
  | .reflexPwmPeriod _ => true
  | .pioOutWrite req _ _ => reqWf req
  | .capPeriodDone _ _ _ => true
  | .capStuck _ => true
  | .capTsRead _ => true
  | .portSelect _ => true
  | .gclEntry _ => true
  | .residueAdmit _ _ => true
  | .residueExpiry _ => true
  | .mcGroupCommit req _ _ => reqWf req
  | .frerResetTimeout _ => true
  | .frerForceReset req _ => reqWf req
  | .spillWriteDone _ _ addr => decide (addr < 2 ^ 40)
  | .reseqTake _ => true
  | .readbackDone _ _ _ _ => true
  | .reseqGap _ => true
  | .ovfTraining _ _ => true
  | .ovfRetrain _ => true
  | .patrolScrub addr _ => decide (addr < 2 ^ 40)
  | .wmMaxRead _ _ => true
  | .sha256 req _ _ => reqWf req
  | .hmac req _ _ => reqWf req
  | .hmacVerify req _ _ _ _ => reqWf req
  | .lmsVerify req _ _ _ _ _ _ => reqWf req
  | .rxscSet req _ _ _ => reqWf req
  | .saInstall req _ _ _ _ _ => reqWf req
  | .saEnable req _ _ _ _ _ => reqWf req
  | .saRetire req _ _ _ _ _ => reqWf req
  | .saRead req _ _ _ _ _ => reqWf req
  | .fvSet req _ => reqWf req
  | .fvRead req _ => reqWf req
  | .nodeRead req _ _ => reqWf req
  | .keyUpdate req _ _ => reqWf req
  | .keyInject req _ _ _ => reqWf req
  | .nodeInvalidate req _ _ => reqWf req
  | .lifecycle req _ _ _ => reqWf req
  | .attest req _ nonce _ => reqWf req && decide (nonce.length = 32)
  | .debugChallenge req _ => reqWf req
  | .debugResponse req _ _ _ _ => reqWf req
  | .debugChallengeExpiry => true
  | .keyRemask => true
  | .keyDerivation _ => true
  | .zeroizePin => true
  | .ringMsgRx => true
  | .ringSuccessorTimeout _ => true
  | .tokenLost _ => true
  | .sleepCommit _ => true
  | .ncWake req _ => reqWf req
  | .ncConsentWrite req _ _ => reqWf req
  | .wakeValidationTimeout _ => true
  | .wakeMuteEnd _ => true
  | .footFwClear req _ => reqWf req
  | .standbyEnter req => reqWf req
  | .standbyAuto => true
  | .standbyDone => true
  | .standbyWake _ _ _ _ => true
  | .standbyTimerExpiry => true
  | .txDoorbell req _ _ => reqWf req
  | .rxbDoorbell req _ _ => reqWf req
  | .cqDoorbell req _ _ _ => reqWf req
  | .slipSend _ ds _ _ => ds.all descWf && decide (1 ≤ ds.length)
  | .sendTsTimeout _ => true
  | .slipDeliver work _ addrs _ => workWf work && addrs.all (fun x => decide (x < 2 ^ 64))
  | .qpItrExpiry _ => true
  | .qpEnable req _ => reqWf req
  | .qpDisable req _ _ => reqWf req
  | .qpQuiesced _ => true
  | .qpFlush req _ _ => reqWf req
  | .capMark req _ => reqWf req
  | .capRewind req _ => reqWf req
  | .capRelease req _ _ => reqWf req
  | .functionFlr _ _ => true
  | .brgWindowWrite _ _ data => decide (1 ≤ data.length)
  | .brgWindowRead _ tag len => decide (tag < 1024) && decide (1 ≤ len) && decide (len ≤ 128)
  | .brgNpIssue _ => true
  | .brgWriteRx env => envWf env
  | .brgReadRx _ => true
  | .brgCplRx => true
  | .brgMsgRx => true
  | .brgLockRx => true
  | .brgUnlockRx => true
  | .brgSemAcqRx => true
  | .brgSemRelRx => true
  | .brgErrRx => true
  | .brgReadTimeout _ => true
  | .brgTagRelease _ => true
  | .brgLockExpiry _ => true
  | .brgLockBackoff _ => true
  | .brgSemExpiry _ => true
  | .brgLock req _ _ => reqWf req
  | .brgUnlock req _ _ => reqWf req
  | .brgFence req _ _ => reqWf req
  | .semAcquire req _ _ => reqWf req
  | .semRelease req _ _ => reqWf req
  | .brgErrlogPop req => reqWf req
  | .coilHelloTimer => true
  | .coilFrameRx _ => true
  | .coilDataRx => true
  | .coilRouterRx => true
  | .helloRx => true
  | .assignRx => true
  | .joinRx => true
  | .coilLinkLost _ => true
  | .syncRx _ _ _ _ => true
  | .pdelayReqRx => true
  | .pdelayRespRx => true
  | .timeRelayTimer _ _ _ => true
  | .coilSyncTimeout _ => true
  | .xferDataRx => true
  | .xferAckRx => true
  | .xferCommandRx => true
  | .xferResultRx => true
  | .xferAbortRx => true
  | .xferRetxTimeout _ => true
  | .colRevtPop req => reqWf req
  | .lockstepMismatch _ _ _ _ => true
  | .failoverResume _ _ => true
  | .kilnCheckpoint _ _ _ => true
  | .pairWdg _ _ _ _ => true
  | .pairBistDone _ _ => true
  | .kilnMemScrub _ _ => true
  | .footCmdKey req _ => reqWf req
  | .safeEnter req => reqWf req
  | .safeExit req => reqWf req
  | .warmReset req => reqWf req
  | .coldReset req => reqWf req
  | .zeroise req => reqWf req
  | .footWakeCmd req => reqWf req
  | .retireClear req => reqWf req
  | .safePinAssert _ => true
  | .footWdgKick req _ => reqWf req
  | .footWdgExpiry => true
  | .footWdgAction => true
  | .footWdgCfgWrite req _ => reqWf req
  | .vbatReading samples => decide (samples.length = 16) && samples.all (fun x => decide (x < 2 ^ 16))
  | .footFaultClear req _ => reqWf req
  | .crzRouteWrite req _ _ => reqWf req
  | .groupArm req _ _ _ => reqWf req
  | .leafInject req _ _ => reqWf req
  | .injKeyWrite req _ => reqWf req
  | .injUnlockExpiry => true
  | .injGo req => reqWf req
  | .injExpiry => true
  | .clockFault _ => true
  | .clockFaultCleared _ => true
  | .vmonFault _ _ => true
  | .tempCrit _ => true
  | .busTimeout _ => true
  | .updData _ _ _ data => decide (data.length ≤ 1024)
  | .updBegin _ => true
  | .updStatus _ _ => true
  | .updCommit _ => true
  | .updAbort _ => true
  | .updLock _ => true
  | .updSessionTimeout => true
  | .updPartStaged _ _ => true
  | .trialReport _ => true
  | .trialTimeout _ => true
  | .commitOrder => true
  | .revertOrder => true
  | .footPowerOn _ => true
  | .porstAssert => true
  | .resetNAssert => true
  | .powerGoodFault => true
  | .resetRelease _ _ _ _ => true
  | .rootPllLock => true
  | .bootBistDone _ => true
  | .firmwareVerifyDone _ _ => true
  | .lanePllLock _ => true
  | .auxWrite _ => true
  | .auxRead _ _ _ n => decide (1 ≤ n)
  | .t1sEnergyDetect _ => true
  | .linTxBitError _ => true
  | .lockWaitBudgetEnd _ => true

end Sys2Proof
end

