-- ==== Sys2Proof/Tests/Slice0.lean ====
section
/-! SUPPORT. Sys2Proof/Tests/Slice0.lean: the checks of WellFormed on ill-formed commands, worked examples, and for every
statement with hypotheses a named theorem that shows what meets them. -/

open Sys2Proof Sys2Proof.Machine

namespace Sys2Proof.Tests

set_option Elab.async false -- one kernel evaluation at a time: many at once exhaust the memory of their threads

/-- The state after power-on with some register words written. -/
def regs (l : List (Nat × Nat)) : State := l.foldl (fun s e => wr e.1 (w32 e.2) s) State.reset

/-- Flexport n runs personality p, with some personality registers written. -/
def fxpAs (n p : Nat) (l : List (Nat × Nat)) : State :=
  regs ([(fxpBase n, 2 ^ 31 + p * 2 ^ 24), (fxpBase n + 4, 2 ^ 31)] ++ l.map (fun e => (persKey p (fxpBase n + e.1), e.2)))


/-! ### Ill-formed operands are refused, one for each check of WellFormed -/

theorem test_wf_requester : Instr.wf (.injGo (.bridge 2048)) = false := by decide
theorem test_wf_offset_range : Instr.wf (.counterRead .kiln (2 ^ 28)) = false := by decide
theorem test_wf_offset_word : Instr.wf (.counterRead .kiln 6) = false := by decide
theorem test_wf_write_env : Instr.wf (.registerWrite .kiln 0 true 0 { sends := [65536] }) = false := by decide
theorem test_wf_write_rx_env : Instr.wf (.brgWriteRx { sends := [65536] }) = false := by decide
theorem test_wf_frame_id : Instr.wf (.canxRxFrame 0 { id := 2048 } 0) = false := by decide
theorem test_wf_frame_ext_id : Instr.wf (.canxRxFrame 0 { id := 2 ^ 29, ext := true } 0) = false := by decide
theorem test_wf_frame_sdt : Instr.wf (.canxRxFrame 0 { fmt := .xl, sdt := 256 } 0) = false := by decide
theorem test_wf_frame_vcid : Instr.wf (.canxRxFrame 0 { fmt := .xl, vcid := 256 } 0) = false := by decide
theorem test_wf_frame_af : Instr.wf (.canxRxFrame 0 { fmt := .xl, af := 2 ^ 32 } 0) = false := by decide
theorem test_wf_frame_dlc : Instr.wf (.canxRxFrame 0 { rtr := true, dlc := 16 } 0) = false := by decide
theorem test_wf_frame_data : Instr.wf (.canxRxFrame 0 { fmt := .fd, data := List.replicate 65 0 } 0) = false := by decide
theorem test_wf_spill_addr : Instr.wf (.spillWriteDone 0 0 (2 ^ 40)) = false := by decide
theorem test_wf_nonce : Instr.wf (.attest .kiln 2 (List.replicate 31 0) 0) = false := by decide
theorem test_wf_no_descriptor : Instr.wf (.slipSend 0 [] [] true) = false := by decide
theorem test_wf_descriptor_addr : Instr.wf (.slipSend 0 [{ addr := 2 ^ 64, len := 1 }] [] true) = false := by decide
theorem test_wf_descriptor_empty : Instr.wf (.slipSend 0 [{ len := 0 }] [] true) = false := by decide
theorem test_wf_descriptor_len : Instr.wf (.slipSend 0 [{ len := 65536 }] [] true) = false := by decide
theorem test_wf_descriptor_h : Instr.wf (.slipSend 0 [{ len := 1, h := 256 }] [] true) = false := by decide
theorem test_wf_descriptor_mss : Instr.wf (.slipSend 0 [{ len := 1, mss := 16384 }] [] true) = false := by decide
theorem test_wf_slip_work : Instr.wf (.slipDeliver (.kiln []) 0 [] none) = false := by decide
theorem test_wf_slip_addr : Instr.wf (.slipDeliver .queue 0 [2 ^ 64] none) = false := by decide
theorem test_wf_window_data : Instr.wf (.brgWindowWrite (.window false 0 0) true []) = false := by decide
theorem test_wf_window_tag : Instr.wf (.brgWindowRead (.window false 0 0) 1024 4) = false := by decide
theorem test_wf_window_len : Instr.wf (.brgWindowRead (.window false 0 0) 0 129) = false := by decide
theorem test_wf_window_none : Instr.wf (.brgWindowRead (.window false 0 0) 0 0) = false := by decide
theorem test_wf_vbat_count : Instr.wf (.vbatReading [1]) = false := by decide +kernel
theorem test_wf_vbat_sample : Instr.wf (.vbatReading (List.replicate 16 65536)) = false := by decide +kernel
theorem test_wf_chunk : Instr.wf (.updData 0 0 0 (List.replicate 1025 0)) = false := by decide +kernel
theorem test_wf_aux_read : Instr.wf (.auxRead 0x58 0 0 0) = false := by decide
theorem test_wf_good : Instr.wf (.canxRxFrame 127 { fmt := .fd, id := 0x18F00A21, ext := true, data := List.replicate 64 0 } 0) = true := by decide

/-! ### Worked examples of the spec, and the test vectors of the standards that it names -/

/-- FIPS 180-4: SHA-256 of "abc". -/
theorem test_sha256_abc : Machine.sha256 [0x61, 0x62, 0x63] =
    beBytes 32 0xba7816bf8f01cfea414140de5dae2223b00361a396177a9cb410ff61f20015ad := by decide +kernel

/-- FIPS 197, C.1: AES-128. -/
theorem test_aes_fips197 : aesEnc (beBytes 16 0x000102030405060708090a0b0c0d0e0f) (beBytes 16 0x00112233445566778899aabbccddeeff) =
    beBytes 16 0x69c4e0d86a7b0430d8cdb78070b4c55a := by decide +kernel

/-- RFC 4493: AES-CMAC of the empty message. -/
theorem test_cmac_rfc4493 : cmac (beBytes 16 0x2b7e151628aed2a6abf7158809cf4f3c) [] =
    beBytes 16 0xbb1d6929e95937287fa37d129b756746 := by decide +kernel

/-- The check value of the IEEE 802.3 CRC-32, least significant byte first. -/
theorem test_fcs_check : fcs (beBytes 9 0x313233343536373839) = [0x26, 0x39, 0xF4, 0xCB] := by decide +kernel

/-- R581: the PEC of the SMBus polynomial, by its check value. -/
theorem test_pec_check : pec (beBytes 9 0x313233343536373839) = 0xF4 := by decide +kernel

/-- Chapter 24, example: way 1, bucket 0x0A3, slot 2, with L2_N 13. -/
theorem test_l2_offset : l2Off State.reset 1 0x0A3 2 = 0x080828E0 := by decide +kernel

/-- Chapter 14, example: the candidates of trailer bytes 0x01, 0xFD and 0xFF. -/
theorem test_freshness_candidates :
    (leastCongruent 0x12FB 256 0x01, leastCongruent 0x12FE 256 0xFD, leastCongruent 0x12FE 256 0xFF) = (0x1301, 0x13FD, 0x12FF) := by
  decide

/-- ISO 17987: the protected identifier of 0x01 is 0xC1; 0x81 has a wrong parity bit. -/
theorem test_lin_parity : linParityOk 0xC1 = true ∧ linParityOk 0x81 = false := by decide

/-- Chapter 2, example: a LOAD in a slot whose last ticket is 0x2B reads PENDING with ticket 0x2C. -/
theorem test_load_pending : Goes (fun t => slotStatus t (cfgSlot 0) = 0x002C0001)
    (exec (.load (.host 0) 0 2 1) (regs [(cfgSlot 0 + 0x24, 0x2B0000)])) := by
  show slotStatus _ (cfgSlot 0) = _; decide +kernel

/-- Chapter 21, example: GO flips bit 29 of the shadow copy of MAC_RXCFG of E4; the primary copy stands. -/
theorem test_inject_mirror : Goes (fun t => rd t 0x00188030 = 0x05F2 ∧ tblGet t.mirror 0x00188030 0 = 0x20000000)
    (exec (.injGo .kiln) (regs [(0x00010014, 0x80000000), (0x00010018, 0x0600001D), (0x0001001C, 0x00188030)])) := by
  show _ ∧ _; decide +kernel

/-- R8: the LO word of a counter at 2^64 − 1, and what stays. -/
theorem test_counter_wide : Goes (fun t => t.rdata = 0xFFFFFFFF ∧ counter t 0x00090400 = 0 ∧ shadow t 0x00090404 = 0xFFFFFFFF)
    (exec (.counterRead (.host 0) 0x00090400) { State.reset with counters := [(0x00090400, 2 ^ 64 - 1)] }) := by
  show _ ∧ _ ∧ _; decide +kernel

/-- R540: a key write by host function 1 is refused and recorded with its offset. -/
theorem test_key_stranger : Goes (fun t => rd t 0x00000020 = 0x90010010 ∧ t.crz.key1 = none)
    (exec (.injKeyWrite (.host 1) 0x43525A31) State.reset) := by
  show _ ∧ _; decide +kernel

/-- R574: a write to a RO register is ignored. -/
theorem test_ro_write : Goes (fun t => rd t 0 = 0x0A080100)
    (exec (.registerWrite .kiln 0 true 0xFFFFFFFF {}) State.reset) := by
  show _ = _; decide +kernel

/-- R522: ZEROISE without its key does nothing but count in FOOT_CMD_REJ. -/
theorem test_zeroise_no_key : Goes (fun t => rd t 0x000B0018 = 1 ∧ t.sag = State.reset.sag)
    (exec (.zeroise .kiln) State.reset) := by
  show _ ∧ _; decide +kernel

/-- R67: the third cycle of three adds 0xD555_5556. -/
theorem test_third_cycle : Goes (fun t => t.tim.domA = 0xD5555556 ∧ t.tim.phase = 0)
    (step { State.reset with tim := { State.reset.tim with phase := 2 } }) := by
  show _ ∧ _; decide +kernel

/-! ### Hypotheses that something meets -/

theorem witness_StepKeepsCanonicalForm : State.reset.Canon ∧ step State.reset = .next (tick State.reset) :=
  ⟨⟨by decide, by decide, by decide, by decide, by decide, by decide⟩, rfl⟩

theorem witness_NominalRateAdvancesClocks : ∃ s : State, s.pending = [] ∧ s.tim.phase < 3 ∧ rd s 0x00060050 = 0 ∧
    rd s 0x00060070 = 0 ∧ wtState s = 3 := ⟨regs [(0x00060010, 0x8C000000)], by decide +kernel⟩

theorem witness_WorkingTimeNeverStandsOrSteps : ∃ s : State, s.pending = [] ∧ wtState s ≠ 0 ∧
    (rateOf s (selOf s)).natAbs ≤ 549755814 ∧ s.tim.holdRate.natAbs ≤ 549755814 ∧ (slewOf s).natAbs ≤ 109951162 :=
  ⟨regs [(0x00060010, 0x84000000), (0x00060050, 549755814), (0x00060034, 109951162)], by decide +kernel⟩

theorem witness_ClockCommands :
    (signed 32 (w32 549755814).toNat).natAbs ≤ 549755814 ∧ 549755814 < signed 32 (w32 549755815).toNat ∧
    signed 32 (w32 (2 ^ 32 - 549755815)).toNat < -549755814 ∧ (∃ s : State, wtState s = 1) ∧ hostOrKiln (.bridge 5) = true :=
  ⟨by decide, by decide, by decide, ⟨regs [(0x00060010, 0x84000000)], by decide +kernel⟩, by decide⟩

theorem witness_DomainSelection :
    mgrDid State.reset = 0 ∧
    (∃ s : State, wtState s = 0 ∧ s.tim.initWait = true ∧ s.cones = [] ∧ domLocked s false = false ∧ selectOf s = 0 ∧
      rdB s 0x00060040 31 = true) ∧
    (∃ s : State, s.tim.revertRun = true ∧ wtState s = 1 ∧ selectOf s = 0 ∧ autoSel s = true ∧ selOf s = true ∧
      domLocked s false = true ∧ domLocked s true = true) ∧
    (∃ s : State, hostRights .manager = true ∧ domLocked s false = true ∧ domLocked s true = true) ∧
    (∃ s : State, hostRights .manager = true ∧ domLocked s false = false ∧ domLocked s true = false ∧ locked s = false) :=
  ⟨by decide +kernel, ⟨regs [(0x00060040, 0x80000000)], by decide +kernel⟩,
    ⟨{ regs [(0x00060010, 0x86000202)] with tim := { revertRun := true } }, by decide +kernel⟩,
    ⟨regs [(0x00060010, 0x86000202)], by decide +kernel⟩, ⟨State.reset, by decide +kernel⟩⟩

/-- A host Cone's registers: FIRE_PDU-free pulse settings of Cone 95 with target 2000 ns. -/
def cone95 (l : List (Nat × Nat)) : State := regs ([(coneKey 95 4, 2000)] ++ l)

theorem witness_ConeCommands :
    (∃ s : State, hostOrKiln .kiln = true ∧ 64 ≤ (95 : Fin 96).val ∧ (coneOf s 95).pulsing = false ∧
      coneLimits (coneLatched (wr (coneKey 95 0) (setBit (0x80000000 &&& 0x8FE03FF0) 31 true) s) 95) none = true ∧
      0 < coneDist s (coneLatched (wr (coneKey 95 0) (setBit (0x80000000 &&& 0x8FE03FF0) 31 true) s) 95).tgt) ∧
    (∃ s : State, (coneOf s 64).pulsing = false ∧ wtValid s = true ∧
      coneLimits (coneLatched (wr (coneKey 64 0) (setBit (0x80000000 &&& 0x8FE03FF0) 31 true) s) 64) none = true ∧
      coneDist s (coneLatched (wr (coneKey 64 0) (setBit (0x80000000 &&& 0x8FE03FF0) 31 true) s) 64).tgt ≤ 0) ∧
    (∃ s : State, coneLimits (coneLatched (wr (coneKey 64 0) (setBit (0x85000000 &&& 0x8FE03FF0) 31 true) s) 64) none = false) ∧
    (∃ s : State, (coneOf s 64).pinEn = false) ∧
    (∃ s : State, (coneOf s 64).pinEn = true ∧ (coneOf s 64).pulsing = false ∧ rdB s (coneStatus 64) 28 = !(coneOf s 64).pol) ∧
    (∃ s : State, coneArmed s 0 = true ∧ wtValid s = true ∧ (coneOf s 0).waitPlan = false ∧ coneDist s (coneOf s 0).tgt ≤ 0 ∧
      (coneOf s 0).mode = 1 ∧ (coneOf s 0).pinEn = true ∧ (coneOf s 0).width ≠ 0 ∧ (coneOf s 0).per = 0) ∧
    (∃ s : State, (coneOf s 64).tail = none ∧ (coneOf s 64).pulsing = true) ∧
    (∃ s : State, wtValid s = true ∧ regionApplied s 21 = true ∧ s.cfg.planFirst = false ∧ s.cfg.planSwap = none) :=
  ⟨⟨cone95 [], by decide +kernel⟩, ⟨regs [(0x00060010, 0x84000000)], by decide +kernel⟩, ⟨State.reset, by decide +kernel⟩,
    ⟨State.reset, by decide +kernel⟩, ⟨{ regs [(coneStatus 64, 0x10000000)] with cones := [(64, { pinEn := true })] }, by decide +kernel⟩,
    ⟨{ regs [(0x00060010, 0x84000000), (coneStatus 0, 0x20000000)] with
        cones := [(0, { mode := 1, pinEn := true, width := 5 })] }, by decide +kernel⟩,
    ⟨{ State.reset with cones := [(64, { pulsing := true })] }, by decide +kernel⟩,
    ⟨regs [(0x00060010, 0x84000000), (0x000A0400 + 0x10 * 21, 1)], by decide +kernel⟩⟩


theorem witness_LoaderCommands :
    (∃ s : State, keySlotMay 0 (.host 0) = true ∧ slotPending s (cfgSlot 0) = false ∧ 1 ≤ (27 : Fin 32).val ∧
      (27 : Fin 32).val ≤ 27 ∧ (1 : Fin 4).val ≤ 1 ∧ s.cfg.queue = [] ∧ bankState s 27 ≠ 3) ∧
    (∃ s : State, slotPending s (cfgSlot 3) = false ∧ keySlotMay 3 .manager = true ∧ s.cfg.queue ≠ [] ∧ regionInUse s 27 = false) ∧
    (∃ s : State, s.cfg.queue = [{ region := 18, src := 2 }] ∧ s.cfg.checked = false ∧ srcPart s 2 18 = some [0]) ∧
    (∃ s : State, s.cfg.queue = [{ region := 18, src := 2 }] ∧ s.cfg.checked = false ∧ srcPart s 2 18 = none) ∧
    (∃ s : State, s.cfg.queue = [{ region := 17 }] ∧ s.cfg.checked = true ∧ applyReady 17 s = true ∧ banked 17 = false) ∧
    (∃ s : State, keySlotMay 2 .kiln = true ∧ slotPending s (cfgSlot 2) = false ∧ s.cfg.queue = [] ∧ activeBank s 18 ≠ none ∧
      bankState s 18 = 2) ∧
    (∃ s : State, s.cfg.queue = [{ swap := true, region := 21 }] ∧ s.cfg.planSwap = none ∧ activeBank s 21 ≠ none ∧
      bankState s 21 = 2) ∧
    (∃ s : State, bankState s 18 = 3 ∧ inFlight s 18 = 0 ∧ bankState s 20 = 3 ∧ inFlight s 20 = 0) ∧
    hostRights (.bridge 1) = true :=
  ⟨⟨State.reset, by decide +kernel⟩, ⟨{ State.reset with cfg := { queue := [{ swap := true, region := 27 }] } }, by decide +kernel⟩,
    ⟨{ State.reset with cfg := { queue := [{ region := 18, src := 2 }], buf := some (18, [0]) } }, by decide +kernel⟩,
    ⟨{ State.reset with cfg := { queue := [{ region := 18, src := 2 }] } }, by decide +kernel⟩,
    ⟨{ State.reset with cfg := { queue := [{ region := 17 }], checked := true } }, by decide +kernel⟩,
    ⟨regs [(0x000A0400 + 0x10 * 18, 1), (regState 18, 0x20)], by decide +kernel⟩,
    ⟨{ regs [(0x000A0400 + 0x10 * 21, 1), (regState 21, 0x20)] with cfg := { queue := [{ swap := true, region := 21 }] } }, by decide +kernel⟩,
    ⟨regs [(regState 18, 0x30), (regState 20, 0x30)], by decide +kernel⟩, by decide⟩

theorem witness_MirrorScans :
    (∃ s : State, tblGet s.mirror (keyOf s 0x00000100) 0 ≠ 0 ∧ rdB s 0x000A0210 31 = false) ∧
    (∃ s : State, tblGet s.mirror (keyOf s 0x00000100) 0 ≠ 0 ∧ rdB s 0x000A0210 31 = true ∧
      (rd s 0x000A0214).toNat ≠ keyOf s 0x00000100 % 2 ^ 28) ∧
    (∃ s : State, tblGet s.mirror (keyOf s 0x00000100) 0 = 0) :=
  ⟨⟨{ State.reset with mirror := [(0x00000100, 1)] }, by decide +kernel⟩,
    ⟨{ regs [(0x000A0210, 0x80FF0000), (0x000A0214, 0x00181000)] with mirror := [(0x00000100, 1)] }, by decide +kernel⟩,
    ⟨State.reset, by decide +kernel⟩⟩

theorem witness_ResetCommands :
    (∃ s : State, s.boot.rst = none) ∧ (∃ s : State, s.boot.rst = some (true, 9)) ∧
    (∃ s : State, keySlotMay 1 (.host 0) = true ∧ slotPending s (cfgSlot 1) = false ∧ (0 : Fin 4).val ≤ 1) :=
  ⟨⟨{ State.reset with boot := { rst := none } }, by decide +kernel⟩, ⟨{ State.reset with boot := { rst := some (true, 9) } }, by decide +kernel⟩,
    ⟨State.reset, by decide +kernel⟩⟩

theorem witness_StartCommands :
    (∃ s : State, s.boot.rst ≠ none ∧ s.boot.clk = 0) ∧ (∃ s : State, s.boot.wait = 1 ∧ s.boot.cold = true) ∧
    (∃ s : State, s.boot.wait = 1 ∧ s.boot.cold = false) ∧ (∃ s : State, s.boot.wait = 2) ∧ (∃ s : State, s.boot.wait = 3) ∧
    (∃ s : State, s.boot.wait = 4) ∧ (∃ s : State, regionApplied s 0 = true ∧ rdF s (macBase 23) 31 28 ≠ 0) :=
  ⟨⟨{ State.reset with boot := { rst := some (true, 0) } }, by decide +kernel⟩,
    ⟨{ State.reset with boot := { wait := 1, cold := true } }, by decide +kernel⟩,
    ⟨{ State.reset with boot := { wait := 1, cold := false } }, by decide +kernel⟩,
    ⟨{ State.reset with boot := { wait := 2 } }, by decide +kernel⟩, ⟨{ State.reset with boot := { wait := 3 } }, by decide +kernel⟩,
    ⟨{ State.reset with boot := { wait := 4 } }, by decide +kernel⟩,
    ⟨regs [(0x000A0400, 1), (macBase 23, 0x10000000)], by decide +kernel⟩⟩


/-- A packet number 7 with sequence number 3. -/
def pkt7 : Pkt := { bytes := [1, 2], pid := 7, seq := 3, spilled := true, ready := false }

theorem witness_ShelfCommands :
    (∃ s : State, findSeq s 1279 (3 : Word).toNat = some pkt7 ∧ (pktOf s 7).staging ≠ 0 ∧ injArmed s 0x08 = none) ∧
    (∃ s : State, eqOf s (1279 / 8) (1279 % 8) = [pkt7] ∧ (rsqOf s 1279).length < rdF s (0x0F400004 + 0x10 * 1279) 11 0 ∧
      rsqUsed s < 65536) ∧
    (∃ s : State, findSeq s 0 (3 : Word).toNat = some pkt7 ∧ pkt7.ovfErr = none ∧ (pktOf s 7).readback ≠ 0 ∧
      (rsqOf s 0).any (fun x => x.seq = (3 : Word).toNat) = true ∧
      (tblGet s.shf.late 0 []).any (fun x => x.seq = (3 : Word).toNat) = false) ∧
    (∃ s : State, rd s (seqOut 0) ≠ rd s (seqIn 0) ∧ shfHead s 0 0 = none ∧ eqOf s 0 0 = [] ∧ rsqOf s 0 = [] ∧
      tblGet s.shf.late 0 [] = []) ∧
    (∃ s : State, s.boot.wait ≠ 4 ∧ rdB s 0x00480800 31 = true ∧ injArmed s 0x08 = none ∧
      rdB s (0x00540000 + 0x20 * 1023) 31 = true ∧ rdB s (0x00481000 + 0x20 * 31) 31 = false) :=
  ⟨⟨{ State.reset with eq := [(1279, [pkt7])], shf := { pkts := [(7, { staging := 1 })] } }, by decide +kernel⟩,
    ⟨{ regs [(0x0F400004 + 0x10 * 1279, 1)] with eq := [(1279, [pkt7])] }, by decide +kernel⟩,
    ⟨{ State.reset with shf := { pkts := [(7, { readback := 1 })], rsq := [(0, [pkt7])] } }, by decide +kernel⟩,
    ⟨regs [(seqIn 0, 1)], by decide +kernel⟩, ⟨regs [(0x00480800, 0x80000000), (0x00540000 + 0x20 * 1023, 0x80000000)], by decide +kernel⟩⟩


/-- Cluster 0 in a state, with its own settings and wake information. -/
def cluster0 (st : Nat) (c : NmwC) : State :=
  { regs [(ncKey 0 0x48, st * 2 ^ 29)] with nmw := { clusters := [(0, c)] } }

theorem witness_NetworkWakeCommands :
    (∃ s : State, s.nmw.ring = [(5, [0, 0, 0, 15], true)] ∧ rdB s (ncKey (byteAt [0, 0, 0, 15] 3 % 16) 0) 31 = true ∧
      (ncCarriers s (byteAt [0, 0, 0, 15] 3 % 16)).any (fun k => k.1 == 5) = true) ∧
    (∃ s : State, s.nmw.ring = [(5, [0, 0, 0, 15], true)] ∧ rdB s (ncKey (byteAt [0, 0, 0, 15] 3 % 16) 0) 31 = false) ∧
    (∃ s : State, (ncOf s 0).await = some 3 ∧ ncState s 0 = 1) ∧
    (∃ s : State, ncState s 0 = 2 ∧ (ncOf s 0).latch = none) ∧ (∃ s : State, ncState s 0 = 2 ∧ (ncOf s 0).latch ≠ none) ∧
    (∃ s : State, hostRights .manager = true ∧ ncState s 0 = 4 ∧ (ncOf s 0).woke = none) ∧
    (∃ s : State, ncState s 0 = 4 ∧ (ncOf s 0).woke = some 127) ∧
    (∃ s : State, muted s 127 = true ∧ (hostOrKiln .aux || decide (Requester.aux = .aux)) = true) ∧
    (∃ s : State, persOf s 127 = 3 ∧ s.nmw.t1sAsleep.contains 127 = true) :=
  ⟨⟨{ regs [(ncKey 15 0, 0x80000000), (ncKey 15 0x24, 0x80050000)] with nmw := { ring := [(5, [0, 0, 0, 15], true)] } }, by decide +kernel⟩,
    ⟨{ State.reset with nmw := { ring := [(5, [0, 0, 0, 15], true)] } }, by decide +kernel⟩,
    ⟨cluster0 1 { await := some 3 }, by decide +kernel⟩, ⟨cluster0 2 {}, by decide +kernel⟩,
    ⟨cluster0 2 { latch := some none }, by decide +kernel⟩, ⟨cluster0 4 {}, by decide +kernel⟩,
    ⟨cluster0 4 { woke := some 127 }, by decide +kernel⟩, ⟨regs [(fwKey 127, 2)], by decide +kernel⟩,
    ⟨{ fxpAs 127 3 [] with nmw := { t1sAsleep := [127] } }, by decide +kernel⟩⟩


/-- Pin 63 as given. -/
def pin63 (p : PioPin) : State := { State.reset with rfx := { pins := [(63, p)] } }

theorem witness_ReflexCommands :
    (∃ s : State, (pinOf s 63).pulse = some true) ∧
    (∃ s : State, (pinOf s 63).pwm = some (8, 4) ∧ (pinOf s 63).pwmNext = none) ∧
    (∃ s : State, (pinOf s 63).pwm = some (8, 4) ∧ (pinOf s 63).pwmNext = some (6, 3)) ∧
    (∃ s : State, ownerAdmits (rdF s (pioKey 63 0) 30 28) 2 = true ∧ rdB s (pioKey 63 0) 31 = true) ∧
    (∃ s : State, ownerAdmits (rdF s (pioKey 0 0) 30 28) 2 = false) ∧
    (∃ s : State, (pinOf s 63).fifo = [(true, 2 ^ 40)]) :=
  ⟨⟨pin63 { pulse := some true }, by decide +kernel⟩, ⟨pin63 { pwm := some (8, 4) }, by decide +kernel⟩,
    ⟨pin63 { pwm := some (8, 4), pwmNext := some (6, 3) }, by decide +kernel⟩, ⟨regs [(pioKey 63 0, 0xA0000000)], by decide +kernel⟩,
    ⟨State.reset, by decide +kernel⟩, ⟨pin63 { fifo := [(true, 2 ^ 40)] }, by decide +kernel⟩⟩


/-- A classical CAN frame in a transmit queue. -/
def canItem : FxpItem := { frame := { id := 0x123, dlc := 1, data := [7] } }

/-- Flexport 127 runs CANX in an operating state with an engine as given. -/
def canPort (st : Nat) (l : List (Nat × Nat)) (p : FxpPort) : State :=
  { fxpAs 127 1 ((0x118, st * 2 ^ 28) :: l) with fxp := [(127, p)] }

theorem witness_FlexportEngineCommands :
    (∃ s : State, hostOrKiln .kiln = true ∧ rdB s (fxpBase 127) 31 = false) ∧
    (∃ s : State, fxpPermitted s 127 = true ∧ persBad s 127 = false ∧ lent s 127 = false) ∧
    (∃ s : State, fxpPermitted s 127 = true ∧ persBad s 127 = true) ∧
    (∃ s : State, rdB s (fxpBase 127) 31 = true ∧ (port s 127).txing = false) ∧
    (∃ s : State, (port s 127).quiesce = true ∧ (port s 127).txing = false) ∧
    (∃ s : State, persOf s 127 ≠ 3 ∧ persOf s 127 ≠ 5 ∧ canTake s 127 = true ∧ (port s 127).txing = false ∧
      (port s 127).pend = none ∧ lgRetryOf s 127 = none ∧ lgLateOf s 127 = none ∧
      fxqHighest s 127 (fun q => !held s 127 q) = some (7, canItem)) ∧
    (∃ s : State, (port s 127).pend = some (0, canItem) ∧ (port s 127).txing = true ∧ persOf s 127 ≠ 1 ∧ persOf s 127 ≠ 5) ∧
    (∃ s : State, persOf s 127 = 1 ∧ rdB s (persReg s 127 0x100) 18 = true ∧ (port s 127).dPin = true) ∧
    (∃ s : State, persOf s 127 ≠ 1 ∧ persOf s 127 ≠ 2) :=
  ⟨⟨State.reset, by decide +kernel⟩, ⟨regs [(0x8000 + 32 * (32 + 127) + 0x10, 1)], by decide +kernel⟩,
    ⟨regs [(0x8000 + 32 * (32 + 127) + 0x10, 1), (fxpBase 127, 0x01000000)], by decide +kernel⟩,
    ⟨fxpAs 127 1 [], by decide +kernel⟩, ⟨canPort 2 [] { quiesce := true }, by decide +kernel⟩,
    ⟨{ canPort 2 [] {} with fq := [(8 * 127 + 7, [canItem])] }, by decide +kernel⟩,
    ⟨{ State.reset with fxp := [(127, { pend := some (0, canItem), txing := true })] }, by decide +kernel⟩,
    ⟨canPort 2 [(0x100, 0x00040000)] {}, by decide +kernel⟩, ⟨State.reset, by decide +kernel⟩⟩

theorem witness_CanCommands :
    (∃ s : State, persOf s 127 = 1 ∧ onBus s 127 = true ∧ opState s 127 = 2 ∧ injFor s 0x0F 127 = false ∧
      canItem.frame.fmt = .cc ∧ (port s 127).txing = false) ∧
    (∃ s : State, persOf s 127 = 1 ∧ onBus s 127 = true ∧ opState s 127 = 4 ∧ injFor s 0x0F 127 = false) ∧
    (∃ s : State, persOf s 127 = 1 ∧ onBus s 127 = true ∧ opState s 127 = 5 ∧ injFor s 0x0F 127 = false ∧
      wakeMatch s 127 canItem.frame = false) ∧
    (∃ s : State, persOf s 127 = 1 ∧ (port s 127).txing = true) ∧
    (∃ s : State, persOf s 127 = 1 ∧ opState s 127 = 6 ∧ rdF s (persReg s 127 0x100) 23 22 = 1) ∧
    (∃ s : State, hostOrKiln (.host 0) = true ∧ persOf s 127 = 1 ∧ opState s 127 = 6 ∧ rdF s (persReg s 127 0x100) 23 22 = 2 ∧
      (port s 127).recovering = true) ∧
    (∃ s : State, persOf s 127 = 1 ∧ onBus s 127 = true ∧ opState s 127 = 1) :=
  ⟨⟨canPort 2 [] {}, by decide +kernel⟩, ⟨canPort 4 [] {}, by decide +kernel⟩, ⟨canPort 5 [] {}, by decide +kernel⟩,
    ⟨canPort 2 [] { txing := true }, by decide +kernel⟩, ⟨canPort 6 [(0x100, 0x00400000)] {}, by decide +kernel⟩,
    ⟨canPort 6 [(0x100, 0x00800000)] { recovering := true }, by decide +kernel⟩, ⟨canPort 1 [] {}, by decide +kernel⟩⟩


/-- Flexport 0 runs a personality with some registers and an engine as given. -/
def port0 (p : Nat) (l : List (Nat × Nat)) (e : FxpPort) : State := { fxpAs 0 p l with fxp := [(0, e)] }

theorem witness_LinCommands :
    (∃ s : State, linOn s 0 = true ∧ linCmdr s 0 = true ∧ safeOn s = false ∧ (port s 0).quiesce = false ∧
      (port s 0).linRun = true ∧ (port s 0).txing = false ∧ (port s 0).linSleepReq = false ∧ (port s 0).linReq = none ∧
      fld (linEnt s 0 (port s 0).linSlot) 14 12 = 2 ∧ linAsleep s 0 = false ∧ persOf s 0 = 2) ∧
    (∃ s : State, linOn s 0 = true ∧ linCmdr s 0 = false ∧ linAsleep s 0 = false ∧
      85 * rdF s (persReg s 0 0x100) 17 0 ≤ 100 * 850 ∧ 100 * 850 ≤ 115 * rdF s (persReg s 0 0x100) 17 0 ∧
      linParityOk (0x80 : Fin 256) = true ∧
      (List.range 64).find? (fun i => fld (linEnt s 0 i) 14 12 != 0 && fld (linEnt s 0 i) 5 0 == (0x80 : Fin 256).val % 64) = some 63 ∧
      fld (linEnt s 0 63) 14 12 = 2 ∧ 100 * 849 < 85 * rdF s (persReg s 0 0x100) 17 0) ∧
    (∃ s : State, linOn s 0 = true ∧ (port s 0).linHdr = some (1, 63) ∧ injFor s 0x0F 0 = false ∧
      (0xFE : Fin 256).val = linChecksum 1 (bit (linEnt s 0 63) 11) [1] ∧
      (0xFF : Fin 256).val ≠ linChecksum 1 (bit (linEnt s 0 63) 11) [1]) ∧
    (∃ s : State, hostOrKiln .kiln = true ∧ persOf s 0 = 2 ∧ (port s 0).linRun = true) ∧
    (∃ s : State, linOn s 0 = true ∧ linAsleep s 0 = true ∧ (port s 0).linRestart = true) :=
  ⟨⟨port0 2 [(0x100, 0x80000000), (0x200, 0x2000)] { linRun := true }, by decide +kernel⟩,
    ⟨port0 2 [(0x100, 1000), (0x2FC, 0x2000)] {}, by decide +kernel⟩,
    ⟨port0 2 [] { linHdr := some (1, 63) }, by decide +kernel⟩, ⟨port0 2 [] { linRun := true }, by decide +kernel⟩,
    ⟨{ setLive (lfFxp 0 13) true (fxpAs 0 2 []) with fxp := [(0, { linRestart := true })] }, by decide +kernel⟩⟩

theorem witness_OtherBusCommands :
    (∃ s : State, t1sOn s 0 = true ∧ 60 ≤ (List.replicate 60 (0 : Byte)).length ∧
      (List.replicate 1518 (0 : Byte)).length ≤ 1518 ∧ plcaFollower s 0 = true) ∧
    (∃ s : State, persOf s 0 = 4 ∧ onBus s 0 = true ∧ (port s 0).sentWait = none ∧
      4 * (56 * rdF s (persReg s 0 0x100) 15 0) ≤ 5 * 4480 ∧ 5 * 5376 ≤ 6 * (56 * rdF s (persReg s 0 0x100) 15 0) ∧
      5 * 4479 < 4 * (56 * rdF s (persReg s 0 0x100) 15 0)) ∧
    (∃ s : State, persOf s 0 = 4 ∧ onBus s 0 = true ∧ (port s 0).cal ≠ 0 ∧ bit (rd s (persReg s 0 0x100)) 31 = false ∧
      bit (rd s (persReg s 0 0x100)) 24 = false ∧ [1200, 1500, 1200].length = fld (rd s (persReg s 0 0x100)) 27 25 + 2 ∧
      ([1200, 1500, 1200].map (sentTicks (port s 0).cal)).all (fun x => decide (12 ≤ x) && decide (x ≤ 27)) = true ∧
      injFor s 0x0F 0 = false ∧
      (([1200, 1500, 1200].map (sentTicks (port s 0).cal)).map (· - 12)).getD (fld (rd s (persReg s 0 0x100)) 27 25 + 1) 0 =
        sentCrc (bit (rd s (persReg s 0 0x100)) 30)
          (slice (([1200, 1500, 1200].map (sentTicks (port s 0).cal)).map (· - 12)) 1 (fld (rd s (persReg s 0 0x100)) 27 25))) ∧
    (∃ s : State, (port s 0).pend = some (7, canItem) ∧ (port s 0).txing = true ∧ persOf s 0 = 5 ∧ canItem.bridge = none ∧
      [(9 : Byte)].length = canItem.frame.data.length) ∧
    (∃ s : State, onBus s 0 = true ∧ pwmCaps s 0 3 = true) ∧
    (∃ s : State, onBus s 0 = true ∧ pwmGen s 0 3 = true ∧ safeOn s = false) :=
  ⟨⟨port0 3 [(0x100, 0x81000000)] {}, by decide +kernel⟩, ⟨port0 4 [(0x100, 100)] {}, by decide +kernel⟩,
    ⟨port0 4 [(0x100, 0x02000064)] { cal := 5600 }, by decide +kernel⟩,
    ⟨port0 5 [] { pend := some (7, canItem), txing := true }, by decide +kernel⟩,
    ⟨port0 6 [(0x130, 0x40000000)] {}, by decide +kernel⟩, ⟨port0 6 [(0x130, 0x80000000)] {}, by decide +kernel⟩⟩

theorem witness_LockGroupCommands :
    (∃ s : State, hostOrKiln .kiln = true ∧ rdB s (lgKey 15 0) 31 = true ∧ s.cfg.planFirst = false ∧
      (lgState s 15).aligned = [] ∧ (lgState s 15).retryWait = []) ∧
    (∃ s : State, rdB s (lgKey 15 0) 31 = true ∧ s.cfg.planFirst = false ∧ (lgState s 15).aligned ≠ []) ∧
    (∃ s : State, (lgState s 15).retryWait ≠ [] ∧
      (lgState s 15).retryWait.all (fun n => (lgState s 15).atSel.contains n) = true ∧
      rdF s (lgKey 15 0x14) 3 0 < fld (lgCtl s 15) 27 24) :=
  ⟨⟨regs [(lgKey 15 0, 0x80000000)], by decide +kernel⟩,
    ⟨{ regs [(lgKey 15 0, 0x80000000)] with lockgrps := [(15, { aligned := [1] })] }, by decide +kernel⟩,
    ⟨{ regs [(lgKey 15 0, 0x81000000)] with lockgrps := [(15, { retryWait := [1], atSel := [1] })] }, by decide +kernel⟩⟩


/-- A frame of 60 bytes, without its FCS; an ARP frame of the same length. -/
def frame60 : List Byte := List.replicate 60 1
def arp60 : List Byte := List.replicate 12 1 ++ [0x08, 0x06] ++ List.replicate 46 0

/-- The state in which macRxFrame has counted the length of a frame of 60 bytes. -/
def rx60 (n : Nat) (s : State) : State :=
  bumpN (macCtr n 0) 64 (bumpN (macCtr n 24) 0 (bumpN (macCtr n 23) 0 (bumpN (macCtr n 12) 0 s)))

/-- Port E23 with its link up, some registers, and packets waiting in class 7. -/
def port23 (l : List (Nat × Nat)) (q : List Pkt) : State :=
  { regs ((macStatus 23, 0x86000000) :: l) with eq := if q = [] then [] else [(8 * 151 + 7, q)] }

theorem witness_MacCommands :
    (∃ s : State, linkUp s 23 = true ∧ injFor (rx60 23 s) 0x10 23 = false ∧ 64 ≤ frame60.length + 4 ∧
      frame60.length + 4 ≤ maxFrame (rx60 23 s) 23 ∧
      (macsecValidate 23 frame60 (macCountRx 23 frame60 (rx60 23 s))).2 = some (frame60, false)) ∧
    (∃ s : State, linkUp s 23 = true ∧ (macsecValidate 23 frame60 (macCountRx 23 frame60 (rx60 23 s))).2 = none) ∧
    (∃ s : State, linkUp s 0 = false) ∧
    (∃ s : State, rdF s (macBase 23 + 0x54) 15 0 ≠ 0 ∧ rdB s (macStatus 23) (16 + 7) = true) ∧
    (∃ s : State, modeSpeed (rdF s (macBase 23) 31 28) 0 = some 9 ∧ s.boot.lanes.contains 23 = true ∧ linkUp s 23 = false) ∧
    (∃ s : State, modeSpeed (rdF s (macBase 24) 31 28) 3 = some 3 ∧ linkUp s 24 = false) ∧
    (∃ s : State, rdB s (macBase 23 + 0x80) 31 = true ∧ 3 ≤ rdF s (macBase 23) 31 28 ∧ rdF s (macBase 23) 31 28 ≤ 6 ∧
      linkUp s 23 = true ∧ rdB s (macStatus 23) 29 = false ∧ rdB s (macBase 23 + 0x80) 30 = false ∧
      (List.range 8).all (fun c => queueEmpty s (128 + 23) c) = true) ∧
    (∃ s : State, hostOrKiln .kiln = true ∧ tc10On s 23 = true) ∧
    (∃ s : State, arp60.length + 4 ≤ maxFrame (bumpN (macCtr 24 0) 64 s) 24 ∧ beAt arp60 12 2 = 0x0806) :=
  ⟨⟨port23 [] [], by decide +kernel⟩, ⟨port23 [(msecKey 23 0, 0x20000000)] [], by decide +kernel⟩, ⟨State.reset, by decide +kernel⟩,
    ⟨port23 [(macBase 23 + 0x54, 1), (macStatus 23, 0x86800000)] [], by decide +kernel⟩,
    ⟨{ regs [(macBase 23, 0x10000000)] with boot := { lanes := [23] } }, by decide +kernel⟩, ⟨State.reset, by decide +kernel⟩,
    ⟨port23 [(macBase 23 + 0x80, 0x80000000), (macBase 23, 0x60000000)] [], by decide +kernel⟩,
    ⟨port23 [(macBase 23 + 0x90, 0x80000000)] [], by decide +kernel⟩, ⟨State.reset, by decide +kernel⟩⟩

theorem witness_PortSchedulerCommands :
    (∃ s : State, portMay s 23 = true ∧
      (portPick 23 (forN 8 0 (fun c s => gateTooLong 23 c (eqOf s (128 + 23) c).length s) (cbsUpdate 23 s))).1 = some 7) ∧
    (∃ s : State, portMay s 23 = true ∧
      (portPick 23 (forN 8 0 (fun c s => gateTooLong 23 c (eqOf s (128 + 23) c).length s) (cbsUpdate 23 s))).1 = none) ∧
    (∃ s : State, (macOf s 0).gcl = some 0 ∧ 0 + 1 < gclLen s (gclBank s 0) 0) ∧
    (∃ s : State, (macOf s 0).gcl = some 0 ∧ 0 + 1 = gclLen s (gclBank s 0) 0) ∧
    (∃ s : State, residueTake (gpnOf 27) (residueOf s 7) = some (pkt7, []) ∧
      (shfAdmit (gpnOf 27) 7 pkt7 false (setResidue 7 [] s)).1 = true) ∧
    (∃ s : State, hostOrKiln .kiln = true ∧ locked s = false ∧ s.mcStage = []) ∧
    (∃ s : State, locked s = false ∧ s.mcStage = [(0x0F000000 + 0x20 * 4095 + 4 * 7, (5 : Word))]) ∧
    (∃ s : State, locked s = true) ∧
    (∃ s : State, rdB s (strKey 4095 + 4) 31 = false ∧ recovering s 4095 = true) :=
  ⟨⟨port23 [] [{ bytes := frame60 }], by decide +kernel⟩, ⟨port23 [] [], by decide +kernel⟩,
    ⟨{ regs [(gclCtl 0 0, 2)] with mac := [(0, { gcl := some 0 })] }, by decide +kernel⟩,
    ⟨{ regs [(gclCtl 0 0, 1)] with mac := [(0, { gcl := some 0 })] }, by decide +kernel⟩,
    ⟨{ State.reset with shf := { residue := [(7, [(gpnOf 27, pkt7)])], pkts := [(7, { n := 1, inflight := 1 })] } }, by decide +kernel⟩,
    ⟨State.reset, by decide +kernel⟩, ⟨{ State.reset with mcStage := [(0x0F000000 + 0x20 * 4095 + 4 * 7, 5)] }, by decide +kernel⟩,
    ⟨regs [(0x000A0200, 1)], by decide +kernel⟩, ⟨regs [(0x0F020000, 0x80000FFF)], by decide +kernel⟩⟩


theorem witness_TableCommands :
    (∃ s : State, tblMay 1 (.host 0) = true ∧ slotPending s (tblSlot 1) = false ∧ tblMay 2 .kiln = true ∧ slotPending s (tblSlot 2) = false) ∧
    (∃ s : State, s.tbl.learn = [⟨1, 2, 3, 4⟩] ∧
      (l2Homes s 1 2 ++ stashOffs).find? (fun o => !l2Valid s o) = some ((l2Homes s 1 2).headD 0)) ∧
    (∃ s : State, rdF s 0x00280400 11 0 ≠ 0) ∧
    (∃ s : State, l2Bad s 0x08000000 = false ∧ bit (rd s 0x08000000) 30 = false ∧ bit (rd s 0x08000000) 29 = true) ∧
    (∃ s : State, bit (rd s 0x08000000) 29 = false ∧ bit (rd s 0x08000000) 28 = true) :=
  ⟨⟨State.reset, by decide +kernel⟩, ⟨{ State.reset with tbl := { learn := [⟨1, 2, 3, 4⟩] } }, by decide +kernel⟩,
    ⟨regs [(0x00280400, 1)], by decide +kernel⟩, ⟨regs [(0x08000000, 0xA0000000)], by decide +kernel⟩,
    ⟨regs [(0x08000000, 0x90000000)], by decide +kernel⟩⟩

theorem witness_InsertThenLookup :
    (∃ s : State, 4095 < 2 ^ 12 ∧ 2 ^ 48 - 1 < 2 ^ 48 ∧ injArmed s 0x09 = none ∧ s.tbl.bad = [] ∧
      (l2Homes s 4095 (2 ^ 48 - 1)).any (fun o => !l2Valid s o) = true) ∧
    (∃ s : State, injArmed s 0x09 = none ∧ s.tbl.bad = [] ∧ (l2Homes s 1 2 ++ stashOffs).any (l2Is s 1 2) = true) :=
  ⟨⟨State.reset, by decide +kernel⟩, ⟨(l2Insert false 1 2 0 0 State.reset).1, by decide +kernel⟩⟩

theorem witness_PipelineCommands :
    (∃ s : State, hostOrKiln .kiln = true ∧ regionApplied s 17 = true ∧ fld (rd s (regState 17)) 2 0 ≠ 4 ∧
      tblGet s.ing (gpnOf 27) [] = [pkt7] ∧ pkt7.bad = false) ∧
    (∃ s : State, tblGet s.recirc 1 [] = [pkt7] ∧ regionApplied s 17 = false) :=
  ⟨⟨{ regs [(0x000A0400 + 0x10 * 17, 1)] with ing := [(gpnOf 27, [pkt7])] }, by decide +kernel⟩,
    ⟨{ State.reset with recirc := [(1, [pkt7])] }, by decide +kernel⟩⟩


/-- An item of the signal router. -/
def item1 : RItem := { src := 0, kind := 0, id := 5 }

theorem witness_RouterCommands :
    (∃ s : State, s.srt.lq.length < 1024 ∧ s.srt.held = [] ∧ shfHead s 155 6 = some { bytes := [1] } ∧ shfHead s 155 7 = none) ∧
    (∃ s : State, s.srt.lq = [item1]) ∧
    (∃ s : State, routeOf (bump (srtCtr 0) s) (srtBank s) (keyItem (bump (srtCtr 0) s) (srtBank s) item1) = none) ∧
    (∃ s : State, s.srt.trans = [⟨0, 7, item1⟩]) ∧
    (∃ s : State, nbits (bw s (srtBank s) (oLim 4095) 0) 19 0 ≠ 0) ∧
    (∃ s : State, activeBank s 20 = some 0 ∧ tblFind s.srt.timers 262143 = some 9 ∧
      nbit (bw s 0 (oRoute 262143) 0) 31 = true ∧ nbits (bw s 0 (oRoute 262143) 2) 23 19 = 31) ∧
    (∃ s : State, bit (rd s (imgState 65535)) 29 = true ∧ bit (rd s (imgState 65535)) 30 = true ∧ (contOf s 65535).flush = true) ∧
    (∃ s : State, bit (rd s (imgState 65535)) 29 = true ∧ bit (rd s (imgState 65535)) 30 = false) ∧
    hostOrKiln .kiln = true :=
  ⟨⟨{ State.reset with eq := [(8 * 155 + 6, [{ bytes := [1] }])] }, by decide +kernel⟩, ⟨{ State.reset with srt := { lq := [item1] } }, by decide +kernel⟩,
    ⟨State.reset, by decide +kernel⟩, ⟨{ State.reset with srt := { trans := [⟨0, 7, item1⟩] } }, by decide +kernel⟩,
    ⟨regs [(bankBase 0 + oLim 4095, 1)], by decide +kernel⟩,
    ⟨{ regs [(0x000A0400 + 0x10 * 20, 1), (bankBase 0 + oRoute 262143, 0x80000000), (bankBase 0 + oRoute 262143 + 8, 31 * 2 ^ 19)] with
        srt := { timers := [(262143, 9)] } }, by decide +kernel⟩,
    ⟨{ regs [(imgState 65535, 0x60000000)] with srt := { conts := [(65535, { flush := true })] } }, by decide +kernel⟩,
    ⟨regs [(imgState 65535, 0x20000000)], by decide +kernel⟩, by decide⟩


/-- Queue pair 1023, owned by function 3, enabled, of a class and a TX_MODE, with some more registers. -/
def qp (cls mode : Nat) (l : List (Nat × Nat)) : State :=
  regs ([(0x00520000 + 4 * 1023, 0xB0000000 + cls * 2 ^ 26 + mode * 2 ^ 24), (qpKey 1023 0, 0x80040004)] ++ l)

theorem witness_DoorbellCommands :
    (∃ s : State, qpMay s 1023 (.host 3) = true ∧ qpRuns s 1023 = true ∧
      idxDist (rdF s (qpKey 1023 0x2C) 15 0) 8 ≤ qpRing s 1023 ∧
      idxDist (rdF s (qpKey 1023 0x2C) 15 0) (qpOf s 1023).txProd ≤ idxDist (rdF s (qpKey 1023 0x2C) 15 0) 8 ∧
      qpRing s 1023 < idxDist (rdF s (qpKey 1023 0x2C) 15 0) 9 ∧
      idxDist (qpOf s 1023).rxbNext 16 ≤ qpRing s 1023 ∧
      idxDist (qpOf s 1023).rxbNext (qpOf s 1023).rxbProd ≤ idxDist (qpOf s 1023).rxbNext 16 ∧
      qpRing s 1023 < idxDist (qpOf s 1023).rxbNext 17 ∧
      idxDist 0 (rdF s (qpKey 1023 0x30) 15 0) ≤ qpRing s 1023 ∧
      idxDist 0 (rdF s (qpKey 1023 0x30) 15 0) ≤ idxDist (qpOf s 1023).cqCons (rdF s (qpKey 1023 0x30) 15 0) ∧
      qpRing s 1023 < idxDist 1 (rdF s (qpKey 1023 0x30) 15 0)) ∧
    (∃ s : State, qpMay s 0 .manager = true ∧ qpRuns s 0 = false) ∧
    (∃ s : State, (7 : Fin 8).val ≠ 0 ∧ (7 : Fin 8).val ≠ qpOwner s 1023) :=
  ⟨⟨qp 0 0 [(qpKey 1023 0x2C, 0xFFF8)], by decide +kernel⟩, ⟨State.reset, by decide +kernel⟩, ⟨qp 0 0 [], by decide +kernel⟩⟩

/-- One descriptor of a send of two bytes. -/
def desc2 : SendDesc := { len := 2 }

theorem witness_QueuePairCommands :
    (∃ s : State, qpMay s 1023 (.host 3) = true ∧ qpEn s 1023 = false ∧ qpBusy s 1023 = false ∧ qpBadCfg s 1023 = false) ∧
    (∃ s : State, qpMay s 0 (.host 0) = true ∧ qpEn s 0 = false ∧ qpBusy s 0 = false ∧ qpBadCfg s 0 = true) ∧
    (∃ s : State, qpMay s 1023 (.host 3) = true ∧ qpEn s 1023 = true) ∧
    (∃ s : State, qpBusy s 1023 = true ∧ qpEn s 1023 = false) ∧
    (∃ s : State, qpClass s 1023 = 2 ∧ qpRuns s 1023 = true) ∧
    (∃ s : State, qpRuns s 1023 = true ∧ [desc2].length ≤ idxDist (qpOf s 1023).txNext (qpOf s 1023).txProd ∧
      qpTxMode s 1023 ≠ 1 ∧ sendBad s 1023 [desc2] = false ∧
      [(1 : Byte), 2].length = [desc2].foldl (fun n x => n + x.len) 0) ∧
    (∃ s : State, (qpOf s 1023).wbs = [{ eop := 5 }]) ∧
    (∃ s : State, [7, 6, 5, 4, 3, 2, 1, 0].find? (fun c => (shfHead s 152 c).isSome) = some 3 ∧
      shfHead s 152 3 = some { bytes := [1] } ∧ (qpOf s (0 % 1024)).cur = none) ∧
    (∃ s : State, qpClass s 1023 = 1 ∧ qpRuns s 1023 = true ∧ (qpOf s 1023).capMark = some 4) ∧
    (∃ s : State, qpClass s 1023 = 1 ∧ qpRuns s 1023 = true ∧ (qpOf s 1023).capMark = none) ∧ (7 : Fin 8).val ≠ 0 :=
  ⟨⟨qp 0 0 [(qpKey 1023 0, 0x00040004)], by decide +kernel⟩, ⟨State.reset, by decide +kernel⟩, ⟨qp 0 0 [], by decide +kernel⟩,
    ⟨qp 0 0 [(qpKey 1023 0, 0x40040004)], by decide +kernel⟩, ⟨qp 2 0 [], by decide +kernel⟩,
    ⟨{ qp 0 0 [] with qps := [(1023, { txProd := 1 })] }, by decide +kernel⟩,
    ⟨{ State.reset with qps := [(1023, { wbs := [{ eop := 5 }] })] }, by decide +kernel⟩,
    ⟨{ State.reset with eq := [(8 * 152 + 3, [{ bytes := [1] }])] }, by decide +kernel⟩,
    ⟨{ qp 1 0 [] with qps := [(1023, { capMark := some 4 })] }, by decide +kernel⟩, ⟨qp 1 0 [], by decide +kernel⟩, by decide⟩


/-- Saggar with a root, an owner, and an injected node 8 for every operation. -/
def sag8 : Sag :=
  let n : Node := { st := 1, injected := true, depth := 1, usage := 63, value := List.replicate 16 2 }
  { root := some [1], prov := true, ownerHash := some (sha256 [7]), nodes := [(8, n)] }

/-- Slot 0 of Glaze has taken a command whose arguments are as given; the tree has an injected node 8 for every operation, and
a root. -/
def glzAccepted (args : List Nat) : State :=
  let s := regs ((List.range 8).map (fun k => (glzSlot 0 + 4 + 4 * k, args.getD k 0)))
  slotAccept (glzSlot 0) { s with sag := sag8, glz := { fvSet := [9] } }

theorem witness_GlazeCommands :
    (∃ s : State, keySlotMay 0 (.host 0) = true ∧ slotPending s (glzSlot 0) = false) ∧
    commandKey (glzAccepted [0, 0, 0, 8]) uHmac (slotArg (glzAccepted [0, 0, 0, 8]) (glzSlot 0) 3 % 4096) = .ok (List.replicate 16 2) ∧
    some (sha256 [7]) = trustedHash (glzAccepted []) 1 ∧ some (sha256 [6]) ≠ trustedHash (glzAccepted []) 1 ∧
    (nbit (slotArg (glzAccepted [1, 2, 3]) (glzSlot 0) 2) 0 = true ∧ (23 : Fin 32).val < 24 ∧ (15 : Fin 32).val < 16) ∧
    ((glzAccepted [9]).glz.fvSet.contains (slotArg (glzAccepted [9]) (glzSlot 0) 0 % 65536) = true ∧
      slotArg (glzAccepted [9, 0, 3]) (glzSlot 0) 1 * 2 ^ 32 + slotArg (glzAccepted [9, 0, 3]) (glzSlot 0) 2 <
        fvLatest (wr (fvKey 9 + 4) 4 (glzAccepted [9, 0, 3])) 9) ∧
    (glzAccepted [65535]).glz.fvSet.contains (slotArg (glzAccepted [65535]) (glzSlot 0) 0 % 65536) = false ∧
    (saInstall 0 23 (saIndex true 3 0) (glzAccepted [8])).2 = (0, []) ∧
    (saRetire 23 (saIndex true 3 0) (glzAccepted [8])).2 = (0, []) ∧
    saState (glzAccepted []) 23 (saIndex true 3 0) = 0 ∧
    saState (wr (saKey 23 (saIndex false 3 15)) 0x40000008 (glzAccepted [])) 23 (saIndex false 3 15) = 1 ∧
    saState (wr (saKey 23 (saIndex false 3 15)) 0xC0000008 (glzAccepted [])) 23 (saIndex false 3 15) = 3 ∧
    (∃ s : State, keySlotMay 3 .manager = true ∧ slotPending s (glzSlot 3) = false) :=
  ⟨⟨State.reset, by decide +kernel⟩, by rfl, by decide +kernel, by decide +kernel, by decide +kernel, by decide +kernel, by decide +kernel,
    by decide +kernel, by decide +kernel, by decide +kernel, by decide +kernel, by decide +kernel, ⟨State.reset, by decide +kernel⟩⟩

/-- Slot 0 of Saggar has taken a command whose arguments are as given. -/
def sagAccepted (g : Sag) (args : List Nat) : State :=
  let s := regs ((List.range 8).map (fun k => (sagSlot 0 + 4 + 4 * k, args.getD k 0)))
  slotAccept (sagSlot 0) { s with sag := g }

/-- An update message of node 8 that invalidates node 9: header, IV, ciphertext and tag. -/
def updateMsg : List Byte :=
  let h : List Byte := beBytes 4 0x53475501 ++ beBytes 16 0 ++ beBytes 4 1 ++ beBytes 2 8 ++ [2, 0] ++ beBytes 2 9 ++
    List.replicate 10 0 ++ List.replicate 12 5
  let c := gcmSeal (List.replicate 16 2) (List.replicate 12 5) h (List.replicate 32 3)
  h ++ c.1 ++ c.2

theorem witness_SaggarCommands :
    (∃ s : State, keySlotMay 0 (.host 0) = true ∧ slotPending s (sagSlot 0) = false) ∧
    (∃ a : State, authMode a = false ∧ slotArg a (sagSlot 0) 0 % 4096 = 8 ∧ slotArg a (sagSlot 0) 2 % 64 = 31 ∧
      injectCheck a 4095 8 31 = 0 ∧ (commitStore (injectNode 4095 8 0 31 2 (List.replicate 16 1)) a).isSome = true) ∧
    (∃ a : State, authMode a = false ∧ lifecycle a < 3 ∧ (nodeOf a 8).st = 1 ∧ (invalidate 8 id a).isSome = true) ∧
    (∃ a : State, authMode a = true) ∧
    (∃ a : State, updateMalformed updateMsg = false ∧ beAt updateMsg 4 16 = a.sag.uid ∧
      commandKey a uWrap (beAt updateMsg 24 2) = .ok (List.replicate 16 2) ∧
      gcmOpen (List.replicate 16 2) (slice updateMsg 40 12) (updateMsg.take 52) (slice updateMsg 52 32) (slice updateMsg 84 16) =
        some (List.replicate 32 3) ∧ a.sag.updCtr < beAt updateMsg 20 4) ∧
    (∃ a : State, beAt updateMsg 20 4 ≤ a.sag.updCtr) ∧
    (∃ a : State, lifecycle a = 0) ∧ (∃ a : State, lifecycle a = 1) ∧ (∃ a : State, lifecycle a = 4) ∧
    (∃ a : State, ∃ key i u, a.sag.rootFail = false ∧ lifecycle a ≠ 4 ∧ commandKey a uSign 1 = .ok key ∧ takeLeaf 0 a = some (i, u)) ∧
    (∃ a : State, a.sag.failAt = none ∧ a.sag.fails < 16 ∧ trngInjected a = 0) ∧
    (∃ a : State, debugKeyHash a = some (sha256 [7]) ∧ a.sag.chal = some [1]) ∧
    (∃ s : State, (nodeOf s 8).st = 1 ∧ keyRefused s 8 = false ∧ s.sag.root ≠ none) :=
  ⟨⟨State.reset, by decide +kernel⟩, ⟨sagAccepted sag8 [8, 0, 31], by decide +kernel⟩, ⟨sagAccepted sag8 [], by decide +kernel⟩,
    ⟨sagAccepted { authLock := true } [], by decide +kernel⟩,
    ⟨sagAccepted sag8 [], by decide +kernel, by decide +kernel, by rfl, by decide +kernel, by decide +kernel⟩,
    ⟨sagAccepted { updCtr := 1 } [], by decide +kernel⟩, ⟨State.reset, by decide +kernel⟩, ⟨sagAccepted sag8 [], by decide +kernel⟩,
    ⟨sagAccepted { decom := true } [], by decide +kernel⟩,
    ⟨sagAccepted sag8 [], _, _, _, by decide +kernel, by decide +kernel, by rfl, by rfl⟩,
    ⟨sagAccepted sag8 [], by decide +kernel⟩, ⟨sagAccepted { sag8 with chal := some [1] } [], by decide +kernel⟩,
    ⟨sagAccepted sag8 [], by decide +kernel⟩⟩


theorem witness_FootCommands :
    footMay .aux = true ∧
    (∃ s : State, s.foot.key = some (.aux, 5) ∧ s.now ≤ 5 + msT 100) ∧
    (∃ s : State, s.foot.key = some (.aux, 0) ∧ (Requester.aux ≠ .kiln ∨ 0 + msT 100 < s.now)) ∧
    (∃ s : State, s.foot.key = some (.aux, 0) ∧ 0 + msT 100 < s.now) ∧
    (∃ s : State, rdB s 0x000B0020 30 = true ∧ s.foot.wdgExpired = false ∧ rdB s 0x00010000 31 = false ∧ safeOn s = true) ∧
    (∃ s : State, s.foot.wdgExpired = true ∧ rdF s 0x000B0030 31 30 = 1) ∧
    (∃ s : State, s.foot.wdgExpired = true ∧ rdF s 0x000B0030 31 30 = 2) ∧
    (∃ s : State, s.foot.wdgExpired = false ∧ rdB s 0x000B0030 29 = false ∧ injArmed s 0x05 = none ∧
      rdB s 0x000B0038 30 = false ∧ rdB s 0x000B0038 31 = false) ∧
    (∃ s : State, s.foot.wdgExpired = false ∧ rdB s 0x000B0030 29 = false ∧ injArmed s 0x05 = none ∧
      rdB s 0x000B0038 30 = false ∧ rdB s 0x000B0038 31 = true ∧ s.now < s.foot.wdgLast + msT (rdF s 0x000B0030 28 20)) ∧
    (rdB State.reset 0x000B0038 31 = false ∧ fld (0xC0000000 : Word) 31 30 = 3 ∧ fld (0x80000000 : Word) 31 30 ≠ 3) ∧
    (∃ s : State, injArmed s 0x17 = none ∧ 600 = [9600].sum / 16 % 65536 ∧ 12000 = 600 * rdF s 0x000B0058 15 0 / 1000 ∧
      leafBit s (lfFoot 2) 1 = false ∧ rdF (wr 0x000B0050 (w32 (600 * 65536 + 12000)) s) 0x000B0054 31 16 ≤ 12000) ∧
    (∃ s : State, 500 = [8000].sum / 16 % 65536 ∧ 10000 = 500 * rdF s 0x000B0058 15 0 / 1000 ∧
      leafBit s (lfFoot 2) 1 = false ∧ 10000 < rdF (wr 0x000B0050 (w32 (500 * 65536 + 10000)) s) 0x000B0054 31 16) :=
  ⟨by decide, ⟨{ State.reset with foot := { key := some (.aux, 5) } }, by decide +kernel⟩,
    ⟨{ State.reset with foot := { key := some (.aux, 0) } }, by decide +kernel⟩,
    ⟨{ State.reset with foot := { key := some (.aux, 0) }, now := 120000001 }, by decide +kernel⟩,
    ⟨regs [(0x000B0020, 0xC0000000)], by decide +kernel⟩,
    ⟨{ regs [(0x000B0030, 0x40000000)] with foot := { wdgExpired := true } }, by decide +kernel⟩,
    ⟨{ regs [(0x000B0030, 0x80000000)] with foot := { wdgExpired := true } }, by decide +kernel⟩,
    ⟨State.reset, by decide +kernel⟩,
    ⟨{ regs [(0x000B0038, 0x80000000), (0x000B0030, 0x40100000)] with foot := { wdgLast := 5 } }, by decide +kernel⟩,
    by decide +kernel, ⟨State.reset, by decide +kernel⟩, ⟨State.reset, by decide +kernel⟩⟩

theorem witness_StandbyCommands :
    hostRights .manager = true ∧
    (∃ s : State, standbyRefused s = 0) ∧ (∃ s : State, standbyRefused s ≠ 0 ∧ ncState s 15 = 1) ∧
    (∃ s : State, rdB s 0x00070004 29 = true ∧ ∀ c, c < 16 → ncState s c = 0 ∨ ncState s c = 3) ∧
    (∃ s : State, s.nmw.entering = true ∧ s.foot.wakeGot = true) ∧
    (∃ s : State, wakeAllowed s 0 127 7 = true ∧ s.foot.wakeArmed = true ∧ muted s 127 = true) ∧
    (∃ s : State, wakeAllowed s 3 127 0 = true ∧ s.foot.wakeArmed = true ∧ muted s 127 = false ∧ s.foot.wakeGot = false ∧
      rdB s 0x000B0100 29 = false) ∧
    (∃ s : State, wakeAllowed s 5 63 0 = true ∧ s.foot.wakeArmed = true ∧ muted s 63 = false ∧ s.foot.wakeGot = true) ∧
    (∃ s : State, fld (tblGet s.nmw.footCopy 0x0007000C 0) 23 0 ≠ 0) :=
  ⟨by decide, ⟨State.reset, by decide +kernel⟩, ⟨regs [(ncKey 15 0x48, 0x20000000)], by decide +kernel⟩,
    ⟨regs [(0x00070004, 0x20000000)], by decide +kernel⟩,
    ⟨{ State.reset with nmw := { entering := true }, foot := { wakeGot := true } }, by decide +kernel⟩,
    ⟨{ regs [(fwKey 127, 2)] with nmw := { footCopy := [(0x00070200 + 4 * 127, 0xC0000000),
        (0x00078000 + 0x100 * 127 + 0x20 * 7, 0x80000000)] }, foot := { wakeArmed := true, safeImg := [(127, 1)] } }, by decide +kernel⟩,
    ⟨{ State.reset with nmw := { footCopy := [(0x00070200 + 4 * 127, 0x80000000)] }, foot := { wakeArmed := true, safeImg := [(127, 3)] } }, by decide +kernel⟩,
    ⟨{ State.reset with nmw := { footCopy := [(0x00070008, 0xBF000000)] }, foot := { wakeArmed := true, wakeGot := true } }, by decide +kernel⟩,
    ⟨{ State.reset with nmw := { footCopy := [(0x0007000C, 1)] } }, by decide +kernel⟩⟩


/-- The injection unlock is open, with a target and an argument. -/
def unlocked (target arg : Nat) : State := regs [(0x00010014, 0x80000000), (0x00010018, target), (0x0001001C, arg)]

theorem witness_CrazeCommands :
    hostOrKiln .kiln = true ∧ (∃ s : State, locked s = false) ∧ (∃ s : State, locked s = true) ∧
    (∃ s : State, injectLeaves (0x00011300 : BitVec 28).toNat ≠ [] ∧ injectLeaves (0x000B008C : BitVec 28).toNat ≠ [] ∧
      injOpen s = true) ∧
    (∃ s : State, injOpen s = false ∧ s.crz.key1 = none) ∧ (∃ s : State, s.crz.inj = some (1, 2, 3)) ∧
    (∃ s : State, 0x05 = rdF s 0x00010018 31 24 ∧ 0 = rdF s 0x00010018 15 0 ∧ 0 = (rd s 0x0001001C).toNat ∧ injOpen s = true ∧
      s.crz.inj = none ∧ injValid s 0x05 0 0 = true ∧ (injNow s 0x05 0 0).isNone = true) ∧
    (∃ s : State, 0x0D = rdF s 0x00010018 31 24 ∧ 2047 = (rd s 0x0001001C).toNat ∧ injOpen s = true ∧
      s.crz.inj = none ∧ injValid s 0x0D 0 2047 = true ∧ (injNow s 0x0D 0 2047).isSome = true) ∧
    (∃ s : State, injFor s 0x14 (6 + 5) = false ∧ leafBit s (lfCrz (6 + 5)) 1 = false ∧ injArmed s 0x15 = none) :=
  ⟨by decide, ⟨State.reset, by decide +kernel⟩, ⟨regs [(0x000A0200, 1)], by decide +kernel⟩, ⟨unlocked 0 0, by decide +kernel⟩,
    ⟨State.reset, by decide +kernel⟩, ⟨{ State.reset with crz := { inj := some (1, 2, 3) } }, by decide +kernel⟩,
    ⟨unlocked 0x05000000 0, by decide +kernel⟩, ⟨unlocked 0x0D000000 2047, by decide +kernel⟩, ⟨State.reset, by decide +kernel⟩⟩

theorem witness_KilnCommands :
    (∃ s : State, resumesOn s 4 = false ∧ pairRole s 4 = 1 ∧ injFor s 0x01 4 = false ∧ injFor s 0x02 4 = false ∧
      (kpair s 4).latent = false ∧ resumesOn (withLogs 4 1 [2] [3] (raise (lfKln 6) (bump (klnCtr 6) s))) 4 = false) ∧
    (∃ s : State, resumesOn s 0 = false ∧ pairRole s 0 = 2) ∧
    (∃ s : State, s.kiln.queue = [{ failed := 0, cause := 1, onto := some 4 }] ∧ injFor s 0x04 0 = false ∧
      replayOk (kpair s 0) [7, 8] 0 = true ∧
      pairRole (([7, 8].drop (kpair s 0).outLog.length).foldl (fun s h => emit (.kilnNote "output" [4, h]) s) s) 4 ≠ 6) ∧
    (∃ s : State, s.kiln.queue = [{ failed := 0, cause := 1, onto := some 4 }] ∧ injFor s 0x04 0 = false ∧
      replayOk (kpair s 0) [8] 0 = false) ∧
    (∃ s : State, pairRole s 4 = 4) ∧ (∃ s : State, injArmed s 0x07 = none) ∧ (0 : Fin 5) ≠ 4 :=
  ⟨⟨regs [(0x00020000, 1 * 2 ^ 12)], by decide +kernel⟩, ⟨regs [(0x00020000, 2)], by decide +kernel⟩,
    ⟨{ State.reset with kiln := { queue := [{ failed := 0, cause := 1, onto := some 4 }], pairs := [{ outLog := [7] }] } }, by decide +kernel⟩,
    ⟨{ State.reset with kiln := { queue := [{ failed := 0, cause := 1, onto := some 4 }], pairs := [{ outLog := [7] }] } }, by decide +kernel⟩,
    ⟨regs [(0x00020000, 4 * 2 ^ 12)], by decide +kernel⟩, ⟨State.reset, by decide +kernel⟩, by decide⟩


/-- A bridge transaction of device 5 on channel 11. -/
def tx5 (ty : Nat) : BrgTx := { ty := ty, ch := 11, req := 5, budget := 1000 }

/-- A Coil frame of the bridge service from device 5. -/
def brgFrame5 (t : BrgTx) : CoilFrame :=
  { svc := 2, ttl := 15, cls := 7, dst := 1, src := 5, wa := 0, wb := 0, data := brgBytes t, port := 23, link := some 7,
    dmac := [], smac := [], ts := 0 }

/-- A state in whose inbox that frame waits. -/
def brgInbox (t : BrgTx) (s : State) : State := { s with col := { s.col with inbox := [brgFrame5 t] } }

/-- Window 15 leads to device 3 on channel 11. -/
def win15 : State := regs [(0x00080800 + 0x10 * 15, 2 ^ 31 + 11 * 2 ^ 24 + 3), (0x00080500 + 4 * 11, 1),
  (0x00080000 + 0x80 * 3 + 4, 15)]

theorem witness_BridgeRequesterCommands :
    (∃ s : State, bit (winCfg s 15) 31 = true ∧ bit (winCfg s 15) 30 = false ∧ fld (winCfg s 15) 27 24 < 12 ∧
      didBad s (fld (winCfg s 15) 10 0) = false ∧ 0x1FFFFC % 4 = 0) ∧
    (∃ s : State, s.brg.reads = []) ∧
    (∃ s : State, tblFind s.brg.opens 1023 = none ∧ s.brg.dead.contains 1023 = false ∧
      s.brg.wait.find? (fun np => decide (npOpen s np.tx.ch < rdF s (0x00080500 + 4 * np.tx.ch) 6 0)) =
        some { did := 3, tx := tx5 1, who := .host 7 }) ∧
    (∃ s : State, tblFind s.brg.opens 1023 = some { did := 3, tx := tx5 1, who := .host 7 }) ∧
    (∃ s : State, hostRights (.host 0) = true ∧ slotPending s (brgSlot 1) = false ∧ chBusy (slotAccept (brgSlot 1) s) 11 = false ∧
      (11 : Fin 16).val < 12 ∧ 12 ≤ (15 : Fin 16).val) ∧
    (∃ s : State, Requester.kiln = .kiln ∧ slotPending s (brgSlot 3) = false ∧ chBusy (slotAccept (brgSlot 3) s) (12 + 3) = false) ∧
    (∃ s : State, winTarget s (slotArg s (brgSlot 3) 0 % 16) = some (3, 0) ∧ tblFind s.brg.seqs 11 = none) ∧
    (∃ s : State, tblFind s.brg.seqs 11 = some { did := 3, bus := 0, slot := 3, phase := 3 }) ∧
    (∃ s : State, tblFind s.brg.seqs 11 = some { did := 3, bus := 0, slot := 3, phase := 2 }) ∧ hostOrKiln .kiln = true :=
  ⟨⟨win15, by decide +kernel⟩, ⟨win15, by decide +kernel⟩,
    ⟨{ win15 with brg := { wait := [{ did := 3, tx := tx5 1, who := .host 7 }] } }, by decide +kernel⟩,
    ⟨{ win15 with brg := { opens := [(1023, { did := 3, tx := tx5 1, who := .host 7 })] } }, by decide +kernel⟩,
    ⟨win15, by decide +kernel⟩, ⟨win15, by decide +kernel⟩, ⟨slotAccept (brgSlot 3) win15, by decide +kernel⟩,
    ⟨{ win15 with brg := { seqs := [(11, { did := 3, bus := 0, slot := 3, phase := 3 })] } }, by decide +kernel⟩,
    ⟨{ win15 with brg := { seqs := [(11, { did := 3, bus := 0, slot := 3, phase := 2 })] } }, by decide +kernel⟩, by decide⟩

/-- A started device, in no reset. -/
def started : State := { State.reset with boot := { State.reset.boot with rst := none } }

theorem witness_BridgeTargetCommands :
    (∀ ty : Fin 9, ∃ s : State, brgPick ty [] s.col.inbox = some (brgFrame5 (tx5 ty), tx5 ty, [])) ∧
    (∃ s : State, brgPick 0 [] s.col.inbox = some (brgFrame5 (tx5 0), tx5 0, []) ∧
      inReset (modCol (fun c => { c with inbox := [] }) s) = false ∧ brgWaits (modCol (fun c => { c with inbox := [] }) s) (tx5 0) = false) ∧
    (∃ s : State, brgPick 1 [] s.col.inbox = some (brgFrame5 (tx5 1), tx5 1, []) ∧ (tx5 1).budget ≠ 0 ∧
      inReset (modCol (fun c => { c with inbox := [] }) s) = true) ∧
    (∃ s : State, brgPick 1 [] s.col.inbox = some (brgFrame5 (tx5 1), tx5 1, []) ∧
      inReset (modCol (fun c => { c with inbox := [] }) s) = false ∧ brgWaits (modCol (fun c => { c with inbox := [] }) s) (tx5 1) = true) ∧
    (∃ s : State, brgPick 1 [] s.col.inbox = some (brgFrame5 (tx5 1), tx5 1, []) ∧
      inReset (modCol (fun c => { c with inbox := [] }) s) = false ∧ brgWaits (modCol (fun c => { c with inbox := [] }) s) (tx5 1) = false) ∧
    (∃ (t : BrgTx) (s : State), t.tgt = 0 ∧ brgDenied s t = false ∧ t.len = 4 ∧ inWindows t.addr = false) ∧
    (∃ s : State, brgPick 2 [] s.col.inbox = some (brgFrame5 (tx5 2), tx5 2, []) ∧
      tblFind s.brg.opens (tx5 2).tag = some { did := 5, tx := tx5 1, who := .host 7 }) ∧
    (∃ s : State, brgPick 2 [] s.col.inbox = some (brgFrame5 (tx5 2), tx5 2, []) ∧ tblFind s.brg.opens (tx5 2).tag = none) ∧
    (∃ s : State, brgPick 3 [] s.col.inbox = some (brgFrame5 (tx5 3), tx5 3, []) ∧ 64 ≤ s.col.revt.length ∧
      mgrDid (bump (colCtr 11) (modCol (fun c => { c with inbox := [] }) s)) = 0) ∧
    (∃ s : State, brgPick 3 [] s.col.inbox = some (brgFrame5 (tx5 3), tx5 3, []) ∧ s.col.revt.length < 64 ∧
      mgrDid (raise (lfCol 7) (revtSync (modCol (fun c => { c with inbox := [], revt := c.revt ++
        [[w32 (5 * 2 ^ 16), 0, 0, 0]] }) s))) = 0) ∧
    (∃ s : State, brgPick 4 [] s.col.inbox = some (brgFrame5 { tx5 4 with budget := 0 }, { tx5 4 with budget := 0 }, [])) ∧
    brgBehind [] (tx5 5) = false ∧
    (∃ s : State, ({ tx5 6 with id := 63 } : BrgTx).id < 64 ∧ bit (rd s (semKey 63)) 31 = false) ∧
    (∃ s : State, bit (rd s (semKey 63)) 31 = true ∧ rdB s (semKey (63 : Fin 64)) 31 = true) ∧
    (∃ s : State, tblFind s.brg.buses (0 : Fin 129).val = some { did := 5, ch := 11, est := true }) ∧
    (∃ s : State, s.brg.lockWait[(63 : Fin 64).val]? = some { bus := 0, tx := tx5 4 } ∧ (tx5 4).ty = 4) :=
  ⟨fun ty => ⟨brgInbox (tx5 ty) State.reset, by revert ty; decide +kernel⟩, ⟨brgInbox (tx5 0) started, by decide +kernel⟩,
    ⟨brgInbox (tx5 1) State.reset, by decide +kernel⟩,
    ⟨{ brgInbox (tx5 1) started with brg := { buses := [(0, { did := 6, ch := 0, est := true })] } }, by decide +kernel⟩,
    ⟨brgInbox (tx5 1) started, by decide +kernel⟩, ⟨{ tx5 1 with len := 4 }, started, by decide +kernel⟩,
    ⟨{ brgInbox (tx5 2) started with brg := { opens := [(0, { did := 5, tx := tx5 1, who := .host 7 })] } }, by decide +kernel⟩,
    ⟨brgInbox (tx5 2) started, by decide +kernel⟩,
    ⟨{ started with col := { inbox := [brgFrame5 (tx5 3)], revt := List.replicate 64 [] } }, by decide +kernel⟩,
    ⟨brgInbox (tx5 3) started, by decide +kernel⟩, ⟨brgInbox { tx5 4 with budget := 0 } started, by decide +kernel⟩, by decide,
    ⟨started, by decide +kernel⟩, ⟨regs [(semKey 63, 2 ^ 31)], by decide +kernel⟩,
    ⟨{ started with brg := { buses := [(0, { did := 5, ch := 11, est := true })] } }, by decide +kernel⟩,
    ⟨{ started with brg := { lockWait := List.replicate 64 { bus := 0, tx := tx5 4 } } }, by decide +kernel⟩⟩

theorem witness_AuxCommands :
    (∃ (s : State) (b : List Byte), byteAt b 0 = auxByte s ∧ auxAddrOk (beAt b 1 2) = true ∧ 8 ≤ b.length ∧
      ((b.dropLast).drop 3).length % 4 = 0 ∧ b.getLast? = some (pec b.dropLast)) ∧
    (∃ (s : State) (b : List Byte), byteAt b 0 = auxByte s ∧ auxAddrOk (beAt b 1 2) = true ∧ 8 ≤ b.length ∧
      ((b.dropLast).drop 3).length % 4 = 0 ∧ b.getLast? ≠ some (pec b.dropLast)) ∧
    (∃ s : State, 2 * (0x58 : BitVec 7).toNat = auxByte s ∧ auxAddrOk ((0x0F : Byte).toNat * 256 + (0xFC : Byte).toNat) = true) ∧
    (∃ s : State, 2 * (0x50 : BitVec 7).toNat ≠ auxByte s ∧ byteAt [0xA0] 0 ≠ auxByte s) :=
  ⟨⟨State.reset, [0xB0, 0x0F, 0xFC, 1, 2, 3, 4] ++ [pec [0xB0, 0x0F, 0xFC, 1, 2, 3, 4]], by decide +kernel⟩,
    ⟨State.reset, [0xB0, 0x0F, 0xFC, 1, 2, 3, 4] ++ [pec [0xB0, 0x0F, 0xFC, 1, 2, 3, 4] + 1], by decide +kernel⟩,
    ⟨State.reset, by decide +kernel⟩, ⟨State.reset, by decide +kernel⟩⟩

/-- A terminated Coil frame from device 5 that came on link 7. -/
def coil5 (svc wa wb : Nat) (data : List Byte) : CoilFrame :=
  { svc := svc, ttl := 15, cls := 7, dst := 1, src := 5, wa := wa, wb := wb, data := data, port := 23, link := some 7,
    dmac := bootGroup, smac := [2, 0, 0, 0, 0, 5], ts := 0 }

/-- A state in whose inbox a frame waits, and the state after that frame is taken. -/
def inbox (f : CoilFrame) (s : State) : State := { s with col := { s.col with inbox := [f] } }
def taken (s : State) : State := { s with col := { s.col with inbox := [] } }

/-- A packet of port 23 with a Coil frame from device 5 to device 1 in it. -/
def coilPkt (svc : Nat) : Pkt :=
  { bytes := List.replicate 12 2 ++ [0x88, 0xB5] ++ coilHdr svc 7 15 1 5 0 0 0, ingress := 128 + 23, pid := 9 }

/-- That packet waits to be taken. -/
def coilRxQ (svc : Nat) (s : State) : State := { s with col := { s.col with rx := [coilPkt svc] } }

/-- Device 1, whose link 7 on port 23 stands in state st. -/
def link7 (st : Nat) : State := regs [(colLink 7 0, 2 ^ 31 + 23 * 2 ^ 16), (colLink 7 12, st * 2 ^ 30), (0x00000004, 0x2001)]

/-- Entry 0 assigns DID 5 on link 7 to the UID 17. -/
def assigned : State := regs [(0x0F80000C, 17), (0x0F800010, 2 ^ 31 + 7 * 2 ^ 16 + 5), (memberKey 5, 2 ^ 30)]

theorem witness_CoilCommands :
    (∃ s : State, role s = 2) ∧
    (∃ s : State, s.col.rx = [{ coilPkt 2 with bytes := [1] }] ∧
      coilParse (modCol (fun c => { c with rx := [] }) s) 23 { coilPkt 2 with bytes := [1] } = none) ∧
    (∃ (s : State) (f : CoilFrame), s.col.rx = [coilPkt 2] ∧ coilParse (modCol (fun c => { c with rx := [] }) s)
      ((coilPkt 2).ingress % 256 - 128) (coilPkt 2) = some f ∧ f.link = some 7 ∧
      linkState (modCol (fun c => { c with rx := [] }) s) 7 = 3) ∧
    (∃ (s : State) (f : CoilFrame), s.col.rx = [coilPkt 6] ∧ coilParse (modCol (fun c => { c with rx := [] }) s)
      ((coilPkt 6).ingress % 256 - 128) (coilPkt 6) = some f ∧ f.link = some 7 ∧
      linkState (modCol (fun c => { c with rx := [] }) s) 7 ≠ 3 ∧ byteAt (coilPkt 6).bytes (coilOff (coilPkt 6).bytes) / 16 = 1 ∧
      f.svc ≤ 6 ∧ f.dst ≠ 0 ∧ f.dst ≠ 0x7FF ∧ f.dst = ownDid (modCol (fun c => { c with rx := [] }) s) ∧
      f.src ≠ ownDid (modCol (fun c => { c with rx := [] }) s)) ∧
    (∃ s u : State, inboxTake (fun f => f.svc == 0) s = some (coil5 0 (152 * 256) 0 [1], u) ∧ 152 * 256 / 2 ^ 30 = 0) ∧
    (∃ (s u : State) (it : RItem) (n : Nat), inboxTake (fun f => f.svc == 1) s =
        some (coil5 1 127 0 (0x20 :: List.replicate 23 0), u) ∧
      mehryrParse (0x20 :: List.replicate 23 0) 0x300 (beAt (0x20 :: List.replicate 23 0) 8 8) 0 24 = some (it, n) ∧
      it.kind = 1 ∧ 127 % 256 < 128) ∧
    (∃ s u : State, inboxTake (fun f => f.svc == 1) s = some (coil5 1 127 0 [0], u) ∧
      mehryrParse [0] 0x300 (beAt [0] 8 8) 0 1 = none) ∧
    (∃ s u : State, inboxTake (fun f => f.svc == 3 && frOp f == 1) s =
        some (coil5 3 (2 ^ 24) 0 (List.replicate 17 0 ++ [1]), u) ∧ (coil5 3 (2 ^ 24) 0 (List.replicate 17 0 ++ [1])).link = some 7 ∧
      beAt (List.replicate 17 0 ++ [1]) 16 2 % 2048 = ownDid u ∧ ownDid u ≠ 0 ∧ beAt (List.replicate 17 0 ++ [1]) 0 16 ≠ u.sag.uid) ∧
    (∃ s u : State, inboxTake (fun f => f.svc == 3 && frOp f == 1) s = some (coil5 3 (2 ^ 24) 0 (List.replicate 18 0), u) ∧
      beAt (List.replicate 18 0) 16 2 % 2048 = 0 ∧ role u ≠ 0) ∧
    (∃ s u : State, inboxTake (fun f => f.svc == 3 && frOp f == 1) s =
        some (coil5 3 (2 ^ 24) 0 (List.replicate 17 0 ++ [5]), u) ∧
      beAt (List.replicate 17 0 ++ [5]) 16 2 % 2048 ≠ 0 ∧ beAt (List.replicate 17 0 ++ [5]) 16 2 % 2048 ≠ ownDid u ∧
      (coil5 3 (2 ^ 24) 0 []).dmac = bootGroup ∧ rdB (coilLinkUp 7 5 u) (colLink 7 0) 30 = true) ∧
    (∃ s u : State, inboxTake (fun f => f.svc == 3 && frOp f == 2) s =
        some (coil5 3 (2 * 2 ^ 24) 0 (List.replicate 17 0 ++ [5, 0, 1, 3]), u) ∧ role u = 1 ∧ rdF u 0x00000004 13 12 = 0 ∧
      beAt (List.replicate 17 0 ++ [5, 0, 1, 3]) 0 16 = u.sag.uid) ∧
    (∃ s u : State, inboxTake (fun f => f.svc == 3 && frOp f == 3) s =
        some (coil5 3 (3 * 2 ^ 24) 0 (List.replicate 15 0 ++ [17, 0, 5] ++ List.replicate 6 0), u) ∧
      assignFind u (beAt (List.replicate 15 0 ++ [17, 0, 5] ++ List.replicate 6 0) 0 16) = some (7, 5) ∧ memberState u 5 = 1) ∧
    (∃ s : State, linkState s 7 = 2) ∧ hostOrKiln (.host 0) = true :=
  ⟨⟨regs [(0x00090004, 2 ^ 31)], by decide +kernel⟩,
    ⟨{ State.reset with col := { rx := [{ coilPkt 2 with bytes := [1] }] } }, by decide +kernel⟩,
    ⟨coilRxQ 2 (link7 3), { coil5 2 0 0 [] with dmac := List.replicate 6 2, smac := List.replicate 6 2 }, by decide +kernel⟩,
    ⟨coilRxQ 6 (link7 2), { coil5 6 0 0 [] with dmac := List.replicate 6 2, smac := List.replicate 6 2 }, by decide +kernel⟩,
    ⟨inbox (coil5 0 (152 * 256) 0 [1]) State.reset, State.reset, by decide +kernel⟩,
    ⟨inbox (coil5 1 127 0 (0x20 :: List.replicate 23 0)) State.reset, State.reset,
      { src := 0x300, kind := 1, ext := 0, id := 0, data := [], ts := 0 }, 16, by decide +kernel⟩,
    ⟨inbox (coil5 1 127 0 [0]) State.reset, State.reset, by decide +kernel⟩,
    ⟨inbox (coil5 3 (2 ^ 24) 0 (List.replicate 17 0 ++ [1])) { link7 2 with sag := { uid := 9 } }, { link7 2 with sag := { uid := 9 } }, by decide +kernel⟩,
    ⟨inbox (coil5 3 (2 ^ 24) 0 (List.replicate 18 0)) (regs [(0x00090004, 2 ^ 31)]), regs [(0x00090004, 2 ^ 31)], by decide +kernel⟩,
    ⟨inbox (coil5 3 (2 ^ 24) 0 (List.replicate 17 0 ++ [5])) (regs [(colLink 7 0, 3 * 2 ^ 30)]), regs [(colLink 7 0, 3 * 2 ^ 30)], by decide +kernel⟩,
    ⟨inbox (coil5 3 (2 * 2 ^ 24) 0 (List.replicate 17 0 ++ [5, 0, 1, 3])) (regs [(0x00090004, 2 ^ 30)]), regs [(0x00090004, 2 ^ 30)], by decide +kernel⟩,
    ⟨inbox (coil5 3 (3 * 2 ^ 24) 0 (List.replicate 15 0 ++ [17, 0, 5] ++ List.replicate 6 0)) assigned, assigned, by decide +kernel⟩,
    ⟨link7 2, by decide +kernel⟩, by decide⟩

/-- Domain 0 is enabled, and link 7 leads to the manager. -/
def synced : State := regs [(0x00060040, 2 ^ 31), (0x00060010, 2), (colLink 7 0, 3 * 2 ^ 30), (colLink 7 12, 2 ^ 31)]

theorem witness_CoilTimeCommands :
    (∃ s u : State, inboxTake (fun f => f.svc == 4 && frOp f == 1) s =
        some (coil5 4 (2 ^ 24) 0 (List.replicate 24 0 ++ [2]), u) ∧ rdB u (colLink 7 0) 30 = true ∧ nbit (2 ^ 24) 8 = false ∧
      domEnabled u false = true ∧ (signed 32 (w32 549755814).toNat).natAbs ≤ 549755814 ∧
      byteAt (List.replicate 24 0 ++ [2]) 24 = 2 ∧ tblFind u.col.gm 0 = none) ∧
    (∃ s : State, uplink s = some 7 ∧ domLocked s false = true) ∧
    (∃ s u : State, inboxTake (fun f => f.svc == 4 && frOp f == 2) s = some (coil5 4 (2 * 2 ^ 24) 0 [], u)) ∧
    (∃ s u : State, inboxTake (fun f => f.svc == 4 && frOp f == 3) s = some (coil5 4 (3 * 2 ^ 24) 0 (List.replicate 16 0), u) ∧
      (tblGet u.col.pdelay 7 {}).t1 = some 0) ∧
    (∃ s : State, linkState s 7 = 2 ∧ rdB s (colLink 7 0) 30 = true) ∧
    (∃ s : State, linkState s 7 = 2 ∧ rdB s (colLink 7 0) 30 = false) :=
  ⟨⟨inbox (coil5 4 (2 ^ 24) 0 (List.replicate 24 0 ++ [2])) synced, synced, by decide +kernel⟩, ⟨synced, by decide +kernel⟩,
    ⟨inbox (coil5 4 (2 * 2 ^ 24) 0 []) synced, synced, by decide +kernel⟩,
    ⟨{ synced with col := { inbox := [coil5 4 (3 * 2 ^ 24) 0 (List.replicate 16 0)], pdelay := [(7, { t1 := some 0 })] } },
      { synced with col := { pdelay := [(7, { t1 := some 0 })] } }, by decide +kernel⟩,
    ⟨synced, by decide +kernel⟩, ⟨link7 2, by decide +kernel⟩⟩

/-- A worker whose manager is device 5. -/
def worker5 : State := regs [(0x00090004, 2 ^ 30 + 5)]

/-- The same, with a transfer from the manager of which 8 bytes have come. -/
def receiving (svc : Nat) : State :=
  { worker5 with col := { xin := [(svc, { svc := svc, obj := 3, xfer := 10, src := 5, data := List.replicate 8 0 })] } }

/-- A transfer to device 5, of which 8 bytes are acknowledged and 16 are sent. -/
def xo (sends : Nat) : XferOut :=
  { did := 5, svc := 5, obj := 3, xfer := 10, data := List.replicate 32 0, acked := 8, sent := 16, sends := sends }

theorem witness_TransferCommands :
    (∃ (f : CoilFrame) (x : XferIn) (s u : State), inboxTake (fun f => (f.svc == 5 || f.svc == 6) && frOp f == 1) s = some (f, u) ∧
      fromManager u f = true ∧ f.svc = 6 ∧ tblFind u.col.xin 6 = some x ∧ x.xfer = frXfer f ∧ x.src = f.src ∧ x.obj = frObj f ∧
      f.wb = x.data.length ∧ f.data.length = 8) ∧
    (∃ (f : CoilFrame) (x : XferIn) (s u : State), inboxTake (fun f => (f.svc == 5 || f.svc == 6) && frOp f == 1) s = some (f, u) ∧
      fromManager u f = true ∧ f.svc = 6 ∧ tblFind u.col.xin 6 = some x ∧ x.xfer ≠ frXfer f) ∧
    (∃ (f : CoilFrame) (x : XferOut) (s u : State), inboxTake (fun f => (f.svc == 5 || f.svc == 6) && frOp f == 2) s = some (f, u) ∧
      u.col.xout.find? (fun x => x.did == f.src && x.svc == f.svc && x.xfer / 2 == frXfer f / 2) = some x ∧ f.wa % 2 = 1) ∧
    (∃ (f : CoilFrame) (x : XferOut) (s u : State), inboxTake (fun f => (f.svc == 5 || f.svc == 6) && frOp f == 2) s = some (f, u) ∧
      u.col.xout.find? (fun x => x.did == f.src && x.svc == f.svc && x.xfer / 2 == frXfer f / 2) = some x ∧ f.wa % 2 = 0 ∧
      x.acked < f.wb ∧ f.wb ≤ x.sent ∧ f.wb ≠ x.data.length) ∧
    (∃ (f : CoilFrame) (s u : State),
      inboxTake (fun f => (f.svc == 5 || (f.svc == 6 && beAt f.data 0 4 == 1)) && frOp f == 3) s = some (f, u) ∧
      fromManager u f = true ∧ f.svc = 5 ∧ slotPending u (cfgSlot 3) = false ∧ beAt f.data 0 4 = 2 + 27 * 2 ^ 8) ∧
    (∀ svc : Fin 2, ∃ (f : CoilFrame) (s u : State),
      inboxTake (fun f => (f.svc == 5 || (f.svc == 6 && frObj f != 0x81)) && frOp f == 4) s = some (f, u) ∧
      memberState u f.src = 2 ∧ f.svc = 5 + svc) ∧
    (∃ (f : CoilFrame) (x : XferIn) (s u : State), inboxTake (fun f => (f.svc == 5 || f.svc == 6) && frOp f == 5) s = some (f, u) ∧
      fromManager u f = true ∧ f.svc = 5 ∧ tblFind u.col.xin 5 = some x ∧ x.src = f.src ∧ x.xfer = frXfer f) ∧
    (∃ (x : XferOut) (s : State), s.col.xout.find? (fun y => y.xfer == (10 : Fin 65536).val) = some x ∧ x.acked < x.sent ∧ x.sends < 8) ∧
    (∃ (x : XferOut) (s : State), s.col.xout.find? (fun y => y.xfer == (10 : Fin 65536).val) = some x ∧ x.acked < x.sent ∧
      8 ≤ x.sends ∧ x.svc = 5) :=
  ⟨⟨coil5 6 (2 ^ 24 + 3 * 2 ^ 16 + 10) 8 (List.replicate 8 1), { svc := 6, obj := 3, xfer := 10, src := 5, data := List.replicate 8 0 },
      inbox (coil5 6 (2 ^ 24 + 3 * 2 ^ 16 + 10) 8 (List.replicate 8 1)) (receiving 6), receiving 6, by decide +kernel⟩,
    ⟨coil5 6 (2 ^ 24 + 3 * 2 ^ 16 + 12) 0 [], { svc := 6, obj := 3, xfer := 10, src := 5, data := List.replicate 8 0 },
      inbox (coil5 6 (2 ^ 24 + 3 * 2 ^ 16 + 12) 0 []) (receiving 6), receiving 6, by decide +kernel⟩,
    ⟨coil5 5 (2 * 2 ^ 24 + 11) 8 [], xo 1, { State.reset with col := { inbox := [coil5 5 (2 * 2 ^ 24 + 11) 8 []], xout := [xo 1] } },
      { State.reset with col := { xout := [xo 1] } }, by decide +kernel⟩,
    ⟨coil5 5 (2 * 2 ^ 24 + 10) 16 [], xo 1, { State.reset with col := { inbox := [coil5 5 (2 * 2 ^ 24 + 10) 16 []], xout := [xo 1] } },
      { State.reset with col := { xout := [xo 1] } }, by decide +kernel⟩,
    ⟨coil5 5 (3 * 2 ^ 24) 0 [0, 0, 27, 2], inbox (coil5 5 (3 * 2 ^ 24) 0 [0, 0, 27, 2]) worker5, worker5, by decide +kernel⟩,
    fun svc => ⟨coil5 (5 + svc) (4 * 2 ^ 24) 0 [], inbox (coil5 (5 + svc) (4 * 2 ^ 24) 0 []) (regs [(memberKey 5, 2 ^ 31)]),
      regs [(memberKey 5, 2 ^ 31)], by revert svc; decide +kernel⟩,
    ⟨coil5 5 (5 * 2 ^ 24 + 10) 0 [], { svc := 5, obj := 3, xfer := 10, src := 5, data := List.replicate 8 0 },
      inbox (coil5 5 (5 * 2 ^ 24 + 10) 0 []) (receiving 5), receiving 5, by decide +kernel⟩,
    ⟨xo 7, { State.reset with col := { xout := [xo 7] } }, by decide +kernel⟩,
    ⟨xo 8, { State.reset with col := { xout := [xo 8] } }, by decide +kernel⟩⟩

/-- Recovery boot (BOOT_STATE 4), where update messages are taken. -/
def recovering (l : List (Nat × Nat)) : State := regs ((0x00000014, 4 * 2 ^ 29) :: l)

/-- A manifest without signature: Kiln firmware, Foot firmware and region 0, each of 8 bytes, for every device. -/
def manBytes : List Byte :=
  let entry (ty : Byte) : List Byte := [ty, 0, 0x07, 0xFF] ++ beBytes 4 1 ++ beBytes 4 8 ++ beBytes 4 0 ++ List.replicate 32 0
  beBytes 4 0x5A47384D ++ [0, 1, 0x0A, 0x08] ++ beBytes 4 2 ++ [0, 3, 0, 0] ++ List.replicate 4 0 ++ [1, 0, 0, 0] ++
    List.replicate 68 0 ++ entry 0x40 ++ entry 0x41 ++ entry 0 ++ beBytes 4 0

theorem witness_UpdateMessages :
    (∃ s : State, updTakes s = true ∧ updState s = 0 ∧ s.upd.opened = false ∧ s.upd.uncommitted = []) ∧
    (∃ s : State, updTakes s = true ∧ updState s = 0 ∧ s.upd.sess = some (7 : BitVec 32).toNat ∧ s.upd.uncommitted = []) ∧
    (∃ s v t : State, v = modUpd (fun u => { u with last := s.now }) s ∧ updTakes s = true ∧
      s.upd.sess = some (7 : BitVec 32).toNat ∧ updState v = 2 ∧ refusal v = 0 ∧
      t = updReply 4 0xFFFF 7 0 [] (setUpdState 3 v) ∧ updState t = 3 ∧ rdB t 0x000B0070 31 = false) ∧
    (∃ s v : State, v = modUpd (fun u => { u with last := s.now }) s ∧ updTakes s = true ∧
      s.upd.sess = some (7 : BitVec 32).toNat ∧ updState v < 3 ∧ inRecovery v = false ∧
      beAt (tblGet v.upd.objs 0xFFFE []) 4 16 = v.sag.uid) ∧
    (∃ s : State, updTakes s = true ∧ updState s ≠ 0 ∧ s.upd.sess ≠ some (8 : BitVec 32).toNat) ∧
    (∃ s : State, 2 < 0xFFFE ∧ updState s = 1 ∧ 2 < manCount s.upd.man ∧ (List.replicate 8 (0 : Byte)).length ≤ 1024 ∧
      (tblGet s.upd.objs 2 []).length + 8 < objLimit s 2) ∧
    (∃ s : State, s.upd.sess ≠ none ∧ updState s ≤ 2 ∧ updTakes s = true) :=
  ⟨⟨recovering [], by decide +kernel⟩, ⟨{ recovering [] with upd := { sess := some 7 } }, by decide +kernel⟩,
    ⟨{ recovering [(0x00030000, 2 ^ 30)] with upd := { sess := some 7 } }, _, _, rfl, by decide +kernel, by decide +kernel,
      by decide +kernel, by decide +kernel, rfl, by decide +kernel, by decide +kernel⟩,
    ⟨{ regs [(0x00000014, 3 * 2 ^ 29)] with upd := { sess := some 7 } }, _, rfl, by decide +kernel⟩,
    ⟨{ recovering [(0x00030000, 2 ^ 29)] with upd := { sess := some 7 } }, by decide +kernel⟩,
    ⟨{ recovering [(0x00030000, 2 ^ 29)] with upd := { man := manBytes.take 196 ++ beBytes 4 16 ++ manBytes.drop 200 } }, by decide +kernel⟩,
    ⟨{ recovering [(0x00030000, 2 ^ 29)] with upd := { sess := some 7 } }, by decide +kernel⟩⟩

/-- A trial of bank B that started well: RUNNING, with no refused region. -/
def onTrial : State := regs [(0x00000014, 3 * 2 ^ 29 + 2 ^ 27), (0x000B0070, 3 * 2 ^ 30)]

/-- An order of the manager, device 5. -/
def order5 (k : Nat) : CoilFrame := coil5 6 (3 * 2 ^ 24 + 0x81 * 2 ^ 16) 0 (beBytes 4 k)

theorem witness_UpdateOutcomes :
    (∃ (m : Man) (s : State), role s = 0 ∧ manParse s.upd.man = some m ∧ updState s = 1 ∧ (2 : Fin 256).val < m.entries.length ∧
      (entryDids s m (manEntry s.upd.man 2)).contains (ownDid s) = true ∧ s.upd.staged.contains (2, ownDid s) = false ∧
      (tblGet s.upd.objs 2 []).length = (manEntry s.upd.man 2).len) ∧
    (∃ s : State, (0 : Fin 2048).val = ownDid s ∧ trialGood s = true ∧ role s ≠ 1) ∧
    (∃ s : State, (0 : Fin 2048).val = ownDid s ∧ trialGood s = true ∧ role s = 1 ∧ s.upd.alone = false) ∧
    (∀ c : Fin 2, ∃ (f : CoilFrame) (s u : State), (5 : Fin 2048).val ≠ ownDid s ∧
      inboxTake (fun f => f.svc == 6 && f.src == (5 : Fin 2048).val && frOp f == 4 && frObj f == 0x81) s = some (f, u) ∧
      byteAt f.data 3 = c) ∧
    (∃ s : State, trialBank s = some 1 ∧ s.upd.reported.contains (2047 : Fin 2048).val = false ∧ role s ≠ 1) ∧
    (∃ (f : CoilFrame) (s u : State), takeOrder 2 s = some (f, u) ∧ rdB u 0x000B0070 31 = true) ∧
    (∃ (f : CoilFrame) (s u : State), takeOrder 3 s = some (f, u) ∧ rdB u 0x000B0070 31 = false) ∧
    (∃ (f : CoilFrame) (s u : State), takeOrder 3 s = some (f, u) ∧ rdB u 0x000B0070 31 = true) :=
  ⟨⟨{ seq := 2, entries := (List.range 3).map (manEntry manBytes), img := 0, pos := 0, len := 1, flags := 0, route := 0, inv := 0 },
      { recovering [(0x00030000, 2 ^ 29)] with upd := { man := manBytes, objs := [(2, List.replicate 8 0)] } }, by decide +kernel⟩,
    ⟨onTrial, by decide +kernel⟩, ⟨{ wr 0x00090004 (w32 (2 ^ 30)) onTrial with col := { prov := some 23 } }, by decide +kernel⟩,
    fun c => ⟨coil5 6 (4 * 2 ^ 24 + 0x81 * 2 ^ 16) 0 [0, 0, 0, b8 c], inbox (coil5 6 (4 * 2 ^ 24 + 0x81 * 2 ^ 16) 0 [0, 0, 0, b8 c]) onTrial,
      onTrial, by revert c; decide +kernel⟩,
    ⟨onTrial, by decide +kernel⟩,
    ⟨order5 2, inbox (order5 2) (wr 0x00090004 5 onTrial), wr 0x00090004 5 onTrial, by decide +kernel⟩,
    ⟨order5 3, inbox (order5 3) (wr 0x00090004 5 State.reset), wr 0x00090004 5 State.reset, by decide +kernel⟩,
    ⟨order5 3, inbox (order5 3) (wr 0x00090004 5 onTrial), wr 0x00090004 5 onTrial, by decide +kernel⟩⟩

/-- The row of the register map that an offset lies in. -/
def rowAt (rows : List RegRow) (off : Nat) (h : (findRow rows off).isSome = true) : RegRow := (findRow rows off).get h

theorem witness_CounterRead :
    (∃ (q : Requester) (r : RegRow) (s : State),
      ¬ (0x00100000 ≤ 0x00200100 ∧ 0x00200100 < 0x00180000 ∧ 0x100 ≤ 0x00200100 % 0x1000) ∧
      reach s q 0x00200100 = some 0x00200100 ∧ reach s q 0x00200104 = some 0x00200104 ∧ 0x00200100 % 8 = 0 ∧
      blockRows 0x00200104 = blockRows 0x00200100 ∧ injArmed s 0x16 = none ∧ findRow (blockRows 0x00200100) 0x00200100 = some r ∧
      findRow (blockRows 0x00200100) 0x00200104 = some r ∧ r.kind = .counter ∧ r.mirrored = false ∧
      rowWord r 0x00200100 = some 0 ∧ rowWord r 0x00200104 = some 1 ∧ counter s (keyOf s 0x00200100) < 2 ^ 64) ∧
    (∃ (q : Requester) (r : RegRow) (s : State),
      0x00100000 ≤ 0x0017F158 ∧ 0x0017F158 < 0x00180000 ∧ 0x100 ≤ 0x0017F158 % 0x1000 ∧
      reach s q 0x0017F158 = some 0x0017F158 ∧ reach s q 0x0017F15C = some 0x0017F15C ∧ 0x0017F158 % 8 = 0 ∧
      blockRows 0x0017F15C = blockRows 0x0017F158 ∧ injArmed s 0x16 = none ∧
      findRow (rowsPers (persOf s ((0x0017F158 - 0x00100000) / 0x1000))) 0x0017F158 = some r ∧
      findRow (rowsPers (persOf s ((0x0017F158 - 0x00100000) / 0x1000))) 0x0017F15C = some r ∧ r.kind = .counter ∧
      r.mirrored = false ∧ rowWord r 0x0017F158 = some 0 ∧ rowWord r 0x0017F15C = some 1) ∧
    (∃ (q : Requester) (s : State), reach s q 0x000B0018 = some 0x000B0018 ∧ reach s q 0x000B0008 = some 0x000B0008 ∧
      injArmed s 0x16 = none) :=
  ⟨⟨.host 0, rowAt (blockRows 0x00200100) 0x00200100 (by decide +kernel), { State.reset with counters := [(0x00200100, 2 ^ 64 - 1)] },
      by decide +kernel⟩,
    ⟨.kiln, rowAt (rowsPers 1) 0x0017F158 (by decide +kernel), fxpAs 127 1 [], by decide +kernel⟩,
    ⟨.aux, State.reset, by decide +kernel⟩⟩

/-- A status word in slot 3 of the Saggar: a pending command or a held result. -/
def slotIn (st : Nat) : State := regs [(slotBase 1 3 + 0x24, st)]

theorem witness_SlotProtocol :
    (∃ s : State, slotPending s (slotBase 1 3) = true ∧ 0xFE < 0xFF) ∧ (∃ s : State, slotPending s (slotBase 1 3) = false) ∧
    (∃ s : State, slotMay 1 3 .manager = true ∧ bit (slotStatus s (slotBase 1 3)) 31 = true ∧
      slotTicket s (slotBase 1 3) = (255 : BitVec 8).toNat) ∧
    (∃ s : State, slotMay 4 3 .kiln = true ∧ bit (slotStatus s (slotBase 4 3)) 31 = false) ∧ slotMay 4 3 (.host 0) = false :=
  ⟨⟨slotIn (255 * 2 ^ 16 + 1), by decide +kernel⟩, ⟨State.reset, by decide +kernel⟩,
    ⟨slotIn (2 ^ 31 + 255 * 2 ^ 16), by decide +kernel⟩, ⟨State.reset, by decide +kernel⟩, by decide⟩

theorem witness_AccessTypes :
    (∃ s : State, locked s = true) ∧ (∃ s : State, locked s = false ∧ 127 < 128 ∧ 0xFFC < 0x1000) :=
  ⟨⟨regs [(0x000A0200, 1)], by decide +kernel⟩, ⟨State.reset, by decide +kernel⟩⟩

/-- What the first clauses of RegisterWrites ask of an offset outside the personalities' registers. -/
def writable (q : Requester) (off : Nat) (r : RegRow) (s : State) : Prop :=
  (decide (0x00100000 ≤ off) && decide (off < 0x00180000) && decide (0x100 ≤ off % 0x1000)) = false ∧
    reach s q off = some off ∧ blockDead s off = false ∧ slotAt off = none ∧ ¬ (0x00011000 ≤ off ∧ off < 0x00011300) ∧
    ¬ (0x00100000 ≤ off ∧ off < 0x00180000 ∧ off % 0x1000 = 0) ∧ (regCommand q off 5 {} s).isNone = true ∧ off ≠ 0x00070004 ∧
    findRow (blockRows off) off = some r ∧ rowMask r .rw ||| rowMask r .rwl ||| rowMask r .w1c ||| rowMask r .w1s ≠ 0

theorem witness_RegisterWrites :
    (∃ (r : RegRow) (s : State), writable (.host 0) 0x00090320 r s ∧ fieldMay s (.host 0) 0x00090320 r = true ∧
      qpHeld s 0x00090320 = false ∧ seedHeld s 0x00090320 = false ∧ planHeld 0x00090320 = false ∧
      rowMask r .rw ||| (if rwlHeld s 0x00090320 then 0 else rowMask r .rwl) ||| rowMask r .w1c ||| rowMask r .w1s ≠ 0) ∧
    (∃ (q : Requester) (r : RegRow) (s : State), writable q 0x00180084 r s ∧ fieldMay s q 0x00180084 r = false) ∧
    (∃ (r : RegRow) (s : State), writable (.host 0) 0x00510008 r s ∧ fieldMay s (.host 0) 0x00510008 r = true ∧
      qpHeld s 0x00510008 = true) ∧
    (∃ s : State, reach s .kiln 0x00090320 = some 0x00090320 ∧ blockDead s 0x00090320 = false ∧
      (findRow (blockRows 0x00090320) 0x00090320).isSome = true) ∧
    (∃ s : State, injArmed s 0x16 = none ∧ slotMay 3 2 .kiln = true ∧
      reach s .kiln (slotBase 3 2 + 4 + 4 * 7) = some (slotBase 3 2 + 4 + 4 * 7) ∧ slotMay 3 2 (.host 0) = false) :=
  ⟨⟨rowAt (blockRows 0x00090320) 0x00090320 (by decide +kernel), State.reset, by unfold writable; decide +kernel⟩,
    ⟨.host 0, rowAt (blockRows 0x00180084) 0x00180084 (by decide +kernel), State.reset, by unfold writable; decide +kernel⟩,
    ⟨rowAt (blockRows 0x00510008) 0x00510008 (by decide +kernel), regs [(0x00510000, 2 ^ 31)], by unfold writable; decide +kernel⟩,
    ⟨State.reset, by decide +kernel⟩, ⟨State.reset, by decide +kernel⟩⟩

theorem witness_EntrySnapshots : ∃ s : State, injArmed s 0x16 = none := ⟨State.reset, by decide +kernel⟩

theorem witness_StrangersRefused :
    hostOrKiln (.host 1) = false ∧ (∃ s : State, 1 < 2 ∧ 0x0FFFFFFC < 2 ^ 28 ∧ rdB s 0x00000020 31 = false) ∧
    (∃ s : State, rdB s 0x00000020 31 = true) :=
  ⟨by decide, ⟨State.reset, by decide +kernel⟩, ⟨regs [(0x00000020, 2 ^ 31)], by decide +kernel⟩⟩

/-- Leaf 0 of a group is set and enabled, and the group's route is w. -/
def pendingGroup (g w : Nat) : State := wr (routeKey g) (w32 w) (setLeafBit (32 * g) 2 true (setLeafBit (32 * g) 0 true State.reset))

theorem witness_EventLeaves :
    (∃ s : State, mgrDid s = 0 ∧ 2015 < 2016) ∧ (leafHome 0).isSome = true ∧ (∃ s : State, 62 < 63 ∧ grpPending s 62 = false) ∧
    (∃ s : State, grpPending s 2 = true ∧ rdB s (routeKey 2) 28 = true ∧ nbit s.crz.armHost 2 = true ∧
      rdB s (routeKey 2) 29 = false ∧ rdB s (routeKey 2) 31 = false) ∧
    (∃ s : State, grpPending s 2 = true ∧ rdB s (routeKey 2) 28 = false ∧ rdB s (routeKey 2) 29 = false ∧
      rdB s (routeKey 2) 31 = true) ∧
    (∃ s : State, grpPending s 2 = true ∧ rdB s (routeKey 2) 30 = true) :=
  ⟨⟨State.reset, by decide +kernel⟩, by decide +kernel, ⟨State.reset, by decide +kernel⟩,
    ⟨{ pendingGroup 2 (2 ^ 28) with crz := { armHost := 4 } }, by decide +kernel⟩, ⟨pendingGroup 2 (2 ^ 31), by decide +kernel⟩,
    ⟨pendingGroup 2 (2 ^ 30), by decide +kernel⟩⟩

theorem witness_GcmOpenSeal : (List.replicate 32 (0 : Byte)).length = 32 ∧ (List.replicate 12 (0 : Byte)).length = 12 :=
  ⟨rfl, rfl⟩

theorem witness_ErrorLog :
    (∃ s : State, s.brg.log.length < 16) ∧ (∃ s : State, 16 ≤ s.brg.log.length ∧ s.brg.log.length ≤ 16) ∧
    hostOrKiln (.host 0) = true :=
  ⟨⟨State.reset, by decide +kernel⟩, ⟨{ State.reset with brg := { log := List.replicate 16 [1, 2, 3, 4] } }, by decide +kernel⟩,
    by decide⟩

theorem witness_GroupPending :
    (∃ s : State, injArmed s 0x16 = none) ∧ (∃ s : State, leafBit s 2015 2 = false) ∧
    (∃ (l : Nat) (s : State), mgrDid s ≠ 0 ∧ leafBit s l 2 = true ∧
      nbit ((rd s 0x00090320).toNat + 2 ^ 32 * (rd s 0x00090324).toNat) (l / 32) = true) :=
  ⟨⟨State.reset, by decide +kernel⟩, ⟨State.reset, by decide +kernel⟩,
    ⟨64, wr 0x00090320 4 (wr 0x00090004 5 (setLeafBit 64 2 true State.reset)), by decide +kernel⟩⟩

end Sys2Proof.Tests
end

section
/-! Every step keeps the canonical form of the stores: what `State.Canon` says of the power-on state and of every command is
put together to the two statements about it. -/

namespace Sys2Proof.Machine
open Sys2Proof

/-- Every command keeps the canonical form, by the lemma on its meaning. -/
theorem exec_keeps_canon {s : State} (h : s.Canon) : ∀ c : Instr, Goes State.Canon (exec c s)
  | .registerWrite .. => execRegisterWrite_canon h
  | .counterRead .. => execCounterRead_canon h
  | .entrySnapshotRead .. => execEntrySnapshotRead_canon h
  | .resRelease .. => execResRelease_canon h
  | .load .. => execLoad_canon h
  | .swap .. => execSwap_canon h
  | .warmRestart .. => execWarmRestart_canon h
  | .regionCheckDone => execRegionCheckDone_canon h
  | .regionApplyDone => execRegionApplyDone_canon h
  | .clusterQuiesceTimeout .. => execClusterQuiesceTimeout_canon h
  | .clusterPortIdle .. => execClusterPortIdle_canon h
  | .swapBoundary => execSwapBoundary_canon h
  | .bankDrainDone .. => execBankDrainDone_canon h
  | .mirrorScan .. => execMirrorScan_canon h
  | .cfgLockSet .. => execCfgLockSet_canon h
  | .slewUpdate => execSlewUpdate_canon h
  | .rateWrite .. => execRateWrite_canon h
  | .domainStep .. => execDomainStep_canon h
  | .domainStateChange .. => execDomainStateChange_canon h
  | .initWaitExpiry => execInitWaitExpiry_canon h
  | .revertHoldExpiry => execRevertHoldExpiry_canon h
  | .selAuto .. => execSelAuto_canon h
  | .selForceA .. => execSelForceA_canon h
  | .selForceB .. => execSelForceB_canon h
  | .autoSelEnable .. => execAutoSelEnable_canon h
  | .timSnap .. => execTimSnap_canon h
  | .wtNsRead .. => execWtNsRead_canon h
  | .coneArm .. => execConeArm_canon h
  | .coneDisarm .. => execConeDisarm_canon h
  | .coneFire .. => execConeFire_canon h
  | .conePulseEnd .. => execConePulseEnd_canon h
  | .planCycleStart => execPlanCycleStart_canon h
  | .fxpEnable .. => execFxpEnable_canon h
  | .fxpDisable .. => execFxpDisable_canon h
  | .canxRxFrame .. => execCanxRxFrame_canon h
  | .fxpSelect .. => execFxpSelect_canon h
  | .fxpTxSuccess .. => execFxpTxSuccess_canon h
  | .canxArbLost .. => execCanxArbLost_canon h
  | .canxError .. => execCanxError_canon h
  | .boffDelayExpiry .. => execBoffDelayExpiry_canon h
  | .canxRecover .. => execCanxRecover_canon h
  | .busOn .. => execBusOn_canon h
  | .canxIntegrated .. => execCanxIntegrated_canon h
  | .canxFreeze .. => execCanxFreeze_canon h
  | .canxUnfreeze .. => execCanxUnfreeze_canon h
  | .trxFlag .. => execTrxFlag_canon h
  | .txtsRead .. => execTxtsRead_canon h
  | .linSlotStart .. => execLinSlotStart_canon h
  | .linHeaderRx .. => execLinHeaderRx_canon h
  | .linRxResponse .. => execLinRxResponse_canon h
  | .linResponseTimeout .. => execLinResponseTimeout_canon h
  | .linSchedReq .. => execLinSchedReq_canon h
  | .linSleep .. => execLinSleep_canon h
  | .linWake .. => execLinWake_canon h
  | .linIdleTimeout .. => execLinIdleTimeout_canon h
  | .wakeRx .. => execWakeRx_canon h
  | .linScheduleRestart .. => execLinScheduleRestart_canon h
  | .t1sRxFrame .. => execT1sRxFrame_canon h
  | .t1sTxOpportunity .. => execT1sTxOpportunity_canon h
  | .t1sCollision .. => execT1sCollision_canon h
  | .t1sBeaconRx .. => execT1sBeaconRx_canon h
  | .plcaLost .. => execPlcaLost_canon h
  | .sentCalPulse .. => execSentCalPulse_canon h
  | .sentRxFrame .. => execSentRxFrame_canon h
  | .spicTransactionDone .. => execSpicTransactionDone_canon h
  | .pwmxPeriodDone .. => execPwmxPeriodDone_canon h
  | .pwmxStuck .. => execPwmxStuck_canon h
  | .pwmxPeriodStart .. => execPwmxPeriodStart_canon h
  | .lgRelease .. => execLgRelease_canon h
  | .lgRetry .. => execLgRetry_canon h
  | .lgGiveup .. => execLgGiveup_canon h
  | .macRxFrame .. => execMacRxFrame_canon h
  | .pfcPauseExpiry .. => execPfcPauseExpiry_canon h
  | .pfcStorm .. => execPfcStorm_canon h
  | .pfcRefresh .. => execPfcRefresh_canon h
  | .linkUp .. => execLinkUp_canon h
  | .linkDown .. => execLinkDown_canon h
  | .lpiEnter .. => execLpiEnter_canon h
  | .lpiWakeDone .. => execLpiWakeDone_canon h
  | .tc10Sleep .. => execTc10Sleep_canon h
  | .tc10WakeCmd .. => execTc10WakeCmd_canon h
  | .tc10Wake .. => execTc10Wake_canon h
  | .svcRxFrame .. => execSvcRxFrame_canon h
  | .pipelineAdmit .. => execPipelineAdmit_canon h
  | .recircAdmit .. => execRecircAdmit_canon h
  | .learnPlace => execLearnPlace_canon h
  | .agingSweep => execAgingSweep_canon h
  | .l2Insert .. => execL2Insert_canon h
  | .l2Delete .. => execL2Delete_canon h
  | .l2Lookup .. => execL2Lookup_canon h
  | .l2Flush .. => execL2Flush_canon h
  | .l2Relocate .. => execL2Relocate_canon h
  | .lpmInsert .. => execLpmInsert_canon h
  | .lpmDelete .. => execLpmDelete_canon h
  | .lpmLookup .. => execLpmLookup_canon h
  | .nhWrite .. => execNhWrite_canon h
  | .classUnblock .. => execClassUnblock_canon h
  | .marClear .. => execMarClear_canon h
  | .routerHandoff => execRouterHandoff_canon h
  | .routeLookup .. => execRouteLookup_canon h
  | .transientImageFree => execTransientImageFree_canon h
  | .limiterToken .. => execLimiterToken_canon h
  | .routeTimeout .. => execRouteTimeout_canon h
  | .mdtExpiry .. => execMdtExpiry_canon h
  | .srtImgSend .. => execSrtImgSend_canon h
  | .containerFlush .. => execContainerFlush_canon h
  | .pioInputChange .. => execPioInputChange_canon h
  | .reflexPulseEnd .. => execReflexPulseEnd_canon h
  | .reflexPwmPeriod .. => execReflexPwmPeriod_canon h
  | .pioOutWrite .. => execPioOutWrite_canon h
  | .capPeriodDone .. => execCapPeriodDone_canon h
  | .capStuck .. => execCapStuck_canon h
  | .capTsRead .. => execCapTsRead_canon h
  | .portSelect .. => execPortSelect_canon h
  | .gclEntry .. => execGclEntry_canon h
  | .residueAdmit .. => execResidueAdmit_canon h
  | .residueExpiry .. => execResidueExpiry_canon h
  | .mcGroupCommit .. => execMcGroupCommit_canon h
  | .frerResetTimeout .. => execFrerResetTimeout_canon h
  | .frerForceReset .. => execFrerForceReset_canon h
  | .spillWriteDone .. => execSpillWriteDone_canon h
  | .reseqTake .. => execReseqTake_canon h
  | .readbackDone .. => execReadbackDone_canon h
  | .reseqGap .. => execReseqGap_canon h
  | .ovfTraining .. => execOvfTraining_canon h
  | .ovfRetrain .. => execOvfRetrain_canon h
  | .patrolScrub .. => execPatrolScrub_canon h
  | .wmMaxRead .. => execWmMaxRead_canon h
  | .sha256 .. => execSha256_canon h
  | .hmac .. => execHmac_canon h
  | .hmacVerify .. => execHmacVerify_canon h
  | .lmsVerify .. => execLmsVerify_canon h
  | .rxscSet .. => execRxscSet_canon h
  | .saInstall .. => execSaInstall_canon h
  | .saEnable .. => execSaEnable_canon h
  | .saRetire .. => execSaRetire_canon h
  | .saRead .. => execSaRead_canon h
  | .fvSet .. => execFvSet_canon h
  | .fvRead .. => execFvRead_canon h
  | .nodeRead .. => execNodeRead_canon h
  | .keyUpdate .. => execKeyUpdate_canon h
  | .keyInject .. => execKeyInject_canon h
  | .nodeInvalidate .. => execNodeInvalidate_canon h
  | .lifecycle .. => execLifecycle_canon h
  | .attest .. => execAttest_canon h
  | .debugChallenge .. => execDebugChallenge_canon h
  | .debugResponse .. => execDebugResponse_canon h
  | .debugChallengeExpiry => execDebugChallengeExpiry_canon h
  | .keyRemask => execKeyRemask_canon h
  | .keyDerivation .. => execKeyDerivation_canon h
  | .zeroizePin => execZeroizePin_canon h
  | .ringMsgRx => execRingMsgRx_canon h
  | .ringSuccessorTimeout .. => execRingSuccessorTimeout_canon h
  | .tokenLost .. => execTokenLost_canon h
  | .sleepCommit .. => execSleepCommit_canon h
  | .ncWake .. => execNcWake_canon h
  | .ncConsentWrite .. => execNcConsentWrite_canon h
  | .wakeValidationTimeout .. => execWakeValidationTimeout_canon h
  | .wakeMuteEnd .. => execWakeMuteEnd_canon h
  | .footFwClear .. => execFootFwClear_canon h
  | .standbyEnter .. => execStandbyEnter_canon h
  | .standbyAuto => execStandbyAuto_canon h
  | .standbyDone => execStandbyDone_canon h
  | .standbyWake .. => execStandbyWake_canon h
  | .standbyTimerExpiry => execStandbyTimerExpiry_canon h
  | .txDoorbell .. => execTxDoorbell_canon h
  | .rxbDoorbell .. => execRxbDoorbell_canon h
  | .cqDoorbell .. => execCqDoorbell_canon h
  | .slipSend .. => execSlipSend_canon h
  | .sendTsTimeout .. => execSendTsTimeout_canon h
  | .slipDeliver .. => execSlipDeliver_canon h
  | .qpItrExpiry .. => execQpItrExpiry_canon h
  | .qpEnable .. => execQpEnable_canon h
  | .qpDisable .. => execQpDisable_canon h
  | .qpQuiesced .. => execQpQuiesced_canon h
  | .qpFlush .. => execQpFlush_canon h
  | .capMark .. => execCapMark_canon h
  | .capRewind .. => execCapRewind_canon h
  | .capRelease .. => execCapRelease_canon h
  | .functionFlr .. => execFunctionFlr_canon h
  | .brgWindowWrite .. => execBrgWindowWrite_canon h
  | .brgWindowRead .. => execBrgWindowRead_canon h
  | .brgNpIssue .. => execBrgNpIssue_canon h
  | .brgWriteRx .. => execBrgWriteRx_canon h
  | .brgReadRx .. => execBrgReadRx_canon h
  | .brgCplRx => execBrgCplRx_canon h
  | .brgMsgRx => execBrgMsgRx_canon h
  | .brgLockRx => execBrgLockRx_canon h
  | .brgUnlockRx => execBrgUnlockRx_canon h
  | .brgSemAcqRx => execBrgSemAcqRx_canon h
  | .brgSemRelRx => execBrgSemRelRx_canon h
  | .brgErrRx => execBrgErrRx_canon h
  | .brgReadTimeout .. => execBrgReadTimeout_canon h
  | .brgTagRelease .. => execBrgTagRelease_canon h
  | .brgLockExpiry .. => execBrgLockExpiry_canon h
  | .brgLockBackoff .. => execBrgLockBackoff_canon h
  | .brgSemExpiry .. => execBrgSemExpiry_canon h
  | .brgLock .. => execBrgLock_canon h
  | .brgUnlock .. => execBrgUnlock_canon h
  | .brgFence .. => execBrgFence_canon h
  | .semAcquire .. => execSemAcquire_canon h
  | .semRelease .. => execSemRelease_canon h
  | .brgErrlogPop .. => execBrgErrlogPop_canon h
  | .coilHelloTimer => execCoilHelloTimer_canon h
  | .coilFrameRx .. => execCoilFrameRx_canon h
  | .coilDataRx => execCoilDataRx_canon h
  | .coilRouterRx => execCoilRouterRx_canon h
  | .helloRx => execHelloRx_canon h
  | .assignRx => execAssignRx_canon h
  | .joinRx => execJoinRx_canon h
  | .coilLinkLost .. => execCoilLinkLost_canon h
  | .syncRx .. => execSyncRx_canon h
  | .pdelayReqRx => execPdelayReqRx_canon h
  | .pdelayRespRx => execPdelayRespRx_canon h
  | .timeRelayTimer .. => execTimeRelayTimer_canon h
  | .coilSyncTimeout .. => execCoilSyncTimeout_canon h
  | .xferDataRx => execXferDataRx_canon h
  | .xferAckRx => execXferAckRx_canon h
  | .xferCommandRx => execXferCommandRx_canon h
  | .xferResultRx => execXferResultRx_canon h
  | .xferAbortRx => execXferAbortRx_canon h
  | .xferRetxTimeout .. => execXferRetxTimeout_canon h
  | .colRevtPop .. => execColRevtPop_canon h
  | .lockstepMismatch .. => execLockstepMismatch_canon h
  | .failoverResume .. => execFailoverResume_canon h
  | .kilnCheckpoint .. => execKilnCheckpoint_canon h
  | .pairWdg .. => execPairWdg_canon h
  | .pairBistDone .. => execPairBistDone_canon h
  | .kilnMemScrub .. => execKilnMemScrub_canon h
  | .footCmdKey .. => execFootCmdKey_canon h
  | .safeEnter .. => execSafeEnter_canon h
  | .safeExit .. => execSafeExit_canon h
  | .warmReset .. => execWarmReset_canon h
  | .coldReset .. => execColdReset_canon h
  | .zeroise .. => execZeroise_canon h
  | .footWakeCmd .. => execFootWakeCmd_canon h
  | .retireClear .. => execRetireClear_canon h
  | .safePinAssert .. => execSafePinAssert_canon h
  | .footWdgKick .. => execFootWdgKick_canon h
  | .footWdgExpiry => execFootWdgExpiry_canon h
  | .footWdgAction => execFootWdgAction_canon h
  | .footWdgCfgWrite .. => execFootWdgCfgWrite_canon h
  | .vbatReading .. => execVbatReading_canon h
  | .footFaultClear .. => execFootFaultClear_canon h
  | .crzRouteWrite .. => execCrzRouteWrite_canon h
  | .groupArm .. => execGroupArm_canon h
  | .leafInject .. => execLeafInject_canon h
  | .injKeyWrite .. => execInjKeyWrite_canon h
  | .injUnlockExpiry => execInjUnlockExpiry_canon h
  | .injGo .. => execInjGo_canon h
  | .injExpiry => execInjExpiry_canon h
  | .clockFault .. => execClockFault_canon h
  | .clockFaultCleared .. => execClockFaultCleared_canon h
  | .vmonFault .. => execVmonFault_canon h
  | .tempCrit .. => execTempCrit_canon h
  | .busTimeout .. => execBusTimeout_canon h
  | .updData .. => execUpdData_canon h
  | .updBegin .. => execUpdBegin_canon h
  | .updStatus .. => execUpdStatus_canon h
  | .updCommit .. => execUpdCommit_canon h
  | .updAbort .. => execUpdAbort_canon h
  | .updLock .. => execUpdLock_canon h
  | .updSessionTimeout => execUpdSessionTimeout_canon h
  | .updPartStaged .. => execUpdPartStaged_canon h
  | .trialReport .. => execTrialReport_canon h
  | .trialTimeout .. => execTrialTimeout_canon h
  | .commitOrder => execCommitOrder_canon h
  | .revertOrder => execRevertOrder_canon h
  | .footPowerOn .. => execFootPowerOn_canon h
  | .porstAssert => execPorstAssert_canon h
  | .resetNAssert => execResetNAssert_canon h
  | .powerGoodFault => execPowerGoodFault_canon h
  | .resetRelease .. => execResetRelease_canon h
  | .rootPllLock => execRootPllLock_canon h
  | .bootBistDone .. => execBootBistDone_canon h
  | .firmwareVerifyDone .. => execFirmwareVerifyDone_canon h
  | .lanePllLock .. => execLanePllLock_canon h
  | .auxWrite .. => execAuxWrite_canon h
  | .auxRead .. => execAuxRead_canon h
  | .t1sEnergyDetect .. => execT1sEnergyDetect_canon h
  | .linTxBitError .. => execLinTxBitError_canon h
  | .lockWaitBudgetEnd .. => execLockWaitBudgetEnd_canon h

/-- Taking the command at the front out of the queue touches no store. -/
theorem canon_pending {s : State} (rest : List Instr) (h : s.Canon) : State.Canon { s with pending := rest } :=
  canon_same h rfl rfl rfl rfl rfl

/-- A step is an idle cycle or the command at the front, and each keeps the canonical form. -/
theorem step_keeps_canon {s : State} (h : s.Canon) : Goes State.Canon (step s) := by
  unfold step
  split
  · exact goes_next (tick_canon h)
  · rename_i c rest _
    exact exec_keeps_canon (canon_pending rest h) c

/-- What a step's outcome keeps holds of the next state. -/
theorem Goes.of_eq_next {P : State → Prop} {o : Host.Outcome State Fault Refusal} {t : State} (h : Goes P o)
    (e : o = .next t) : P t := by
  subst e
  exact h

/-- Settles O3: at power-on the stores list nothing and the flash has two banks. -/
theorem resetKeepsCanonicalForm : Obligations.ResetKeepsCanonicalForm := reset_canon

/-- Settles O4: a step is the idle cycle or one command, and each of them keeps the form. -/
theorem stepKeepsCanonicalForm : Obligations.StepKeepsCanonicalForm :=
  fun _ _ h e => (step_keeps_canon h).of_eq_next e

end Sys2Proof.Machine
end

section
/-! Bits of a written word (R6): what each access type does to a bit of its fields, and when the RWL fields are held. -/

namespace Sys2Proof.Machine
open Sys2Proof

theorem bit_or (a b : Word) (j : Nat) : bit (a ||| b) j = (bit a j || bit b j) := BitVec.getLsbD_or

theorem bit_and (a b : Word) (j : Nat) : bit (a &&& b) j = (bit a j && bit b j) := BitVec.getLsbD_and

theorem bit_not (a : Word) {j : Nat} (h : j < 32) : bit (~~~a) j = !bit a j := by
  simp [bit, h]

theorem bit_zero (j : Nat) : bit 0 j = false := BitVec.getLsbD_zero

/-- A bit of a written word, by the access type of the field it lies in: W1S before W1C before RW and RWL. -/
theorem bit_accessWord (r : RegRow) (held : Bool) (old w : Word) {b : Nat} (hb : b < 32) :
    bit (accessWord r held old w) b =
      (if bit (rowMask r .w1s) b = true ∧ bit w b = true then true
       else if bit (rowMask r .w1c) b = true ∧ bit w b = true then false
       else if bit (rowMask r .rw) b = true ∨ (held = false ∧ bit (rowMask r .rwl) b = true) then bit w b
       else bit old b) := by
  have hrwl : bit (if held then 0 else rowMask r .rwl) b = (!held && bit (rowMask r .rwl) b) := by
    cases held
    · rfl
    · exact bit_zero b
  simp only [accessWord, bit_or, bit_and, bit_not _ hb, bit_mergeMask, hrwl]
  clear hrwl
  generalize bit (rowMask r .w1s) b = set, bit (rowMask r .w1c) b = clear, bit (rowMask r .rw) b = free,
    bit (rowMask r .rwl) b = lockable, bit w b = new, bit old b = now
  revert held set clear free lockable new now
  decide

/-- The masks of a list of fields add to what was collected before them. -/
theorem bit_foldl_fmask (a : Acc) {b : Nat} (hb : b < 32) (fs : List Fld) (m : Word) :
    bit (fs.foldl (fun m f => if f.acc = a then m ||| fmask f.hi f.lo else m) m) b =
      (bit m b || fs.any (fun f => decide (f.acc = a) && decide (f.lo ≤ b) && decide (b ≤ f.hi))) := by
  induction fs generalizing m with
  | nil => simp
  | cons f fs ih =>
    have hf : bit (fmask f.hi f.lo) b = (decide (f.lo ≤ b) && decide (b ≤ f.hi)) := by
      rw [bit_fmask, ← Bool.decide_and]
      exact decide_eq_decide.2 (by omega)
    rw [List.foldl_cons, ih, List.any_cons]
    by_cases ha : f.acc = a
    · simp [ha, bit_or, hf, Bool.or_assoc]
    · simp [ha]

/-- The mask of an access type has the bits of the fields of that type. -/
theorem bit_rowMask (r : RegRow) (a : Acc) {b : Nat} (hb : b < 32) :
    bit (rowMask r a) b = r.flds.any (fun f => decide (f.acc = a) && decide (f.lo ≤ b) && decide (b ≤ f.hi)) := by
  rw [rowMask, bit_foldl_fmask a hb, bit_zero, Bool.false_or]

theorem rwlHeld_of_locked {s : State} (h : locked s = true) (off : Nat) : rwlHeld s off = true := by
  rw [rwlHeld, h, Bool.true_or]

/-- While the configuration is not locked, a flexport's RWL fields are held by its own ENABLE alone (R95, R96). -/
theorem rwlHeld_fxp {s : State} {n o : Nat} (hn : n < 128) (ho : o < 0x1000) (h : locked s = false) :
    rwlHeld s (fxpBase n + o) = rdB s (fxpBase n) 31 := by
  have hlo : 0x00100000 ≤ fxpBase n + o := by unfold fxpBase; omega
  have hhi : fxpBase n + o < 0x00180000 := by unfold fxpBase; omega
  have hport : (fxpBase n + o - 0x00100000) / 0x1000 = n := by unfold fxpBase; omega
  simp [rwlHeld, h, hlo, hhi, hport]

/-- Settles O47: bit by bit from the write's formula, the fields' masks and the two reasons that hold RWL fields. -/
theorem accessTypes : Obligations.AccessTypes :=
  ⟨fun r held old w _ hb => bit_accessWord r held old w hb, fun r a _ hb => bit_rowMask r a hb,
    fun _ off h => rwlHeld_of_locked h off, fun _ _ _ hn ho h => rwlHeld_fxp hn ho h⟩

end Sys2Proof.Machine
end

section
/-! Which register an access names (R575, R580): a requester's offset that reaches a word of a block that answers is an access
to that word. -/

namespace Sys2Proof.Machine
open Sys2Proof

/-- What a requester reaches depends on the registers alone (the owners of the queue pairs, R431). -/
theorem reach_of_regs {s t : State} (h : t.regs = s.regs) (q : Requester) (off : Nat) : reach t q off = reach s q off := by
  have hq : ∀ f k, ownedQp t f k = ownedQp s f k := fun f k => by
    simp only [ownedQp, qpOwner, qpCfg, rd_of_regs h]
  cases q <;> simp only [reach, vfOff, hq]

/-- The words of a virtual function's watermark pending bits stand for no register. -/
theorem reach_vfPend {f : Fin 8} {off : Nat} (s : State) (hf : f ≠ 0) (hlo : 0xA000 ≤ off) (hhi : off < 0xA020) :
    reach s (.host f) off = none := by
  have h32 : ¬ 2 ^ 32 ≤ off := by omega
  have hv : vfOff s f off = none := by
    have h1 : ¬ off < 0x4000 := by omega
    have h2 : ¬ off < 0x8000 := by omega
    have h3 : ¬ off < 0xA000 := by omega
    have h4 : ¬ (0xC000 ≤ off ∧ off < 0xD000) := by omega
    simp only [vfOff, h1, h2, h3, h4, if_false]
  simp only [reach, h32, hf, hv, if_false, ite_self]

/-- A function that reaches a word does not name its watermark pending bits. -/
theorem not_vfPend_of_reach {s : State} {f : Fin 8} {off k : Nat} (hr : reach s (.host f) off = some k) :
    ¬ (f ≠ 0 ∧ 0xA000 ≤ off ∧ off < 0xA020) := by
  rintro ⟨hf, hlo, hhi⟩
  rw [reach_vfPend s hf hlo hhi] at hr
  cases hr

theorem blockDead_of_unarmed {s : State} (h : injArmed s 0x16 = none) (off : Nat) : blockDead s off = false := by
  simp only [blockDead, h]

theorem readFor_of_reach {s : State} {q : Requester} {off k : Nat} (hr : reach s q off = some k)
    (hd : blockDead s k = false) : readFor q off s = readWord k s := by
  cases q with
  | host f => simp only [readFor, if_neg (not_vfPend_of_reach hr), hr, hd, Bool.false_eq_true, if_false]
  | kiln => simp only [readFor, hr, hd, Bool.false_eq_true, if_false]
  | manager => simp only [readFor, hr, hd, Bool.false_eq_true, if_false]
  | bridge did => simp only [readFor, hr, hd, Bool.false_eq_true, if_false]
  | aux => simp only [readFor, hr, hd, Bool.false_eq_true, if_false]

/-- A write that reaches a word of a block that answers: a whole word is written, one with a byte disabled is recorded where
there is a register. -/
theorem writeFor_of_reach {s : State} {q : Requester} {off k : Nat} (full : Bool) (w : Word) (e : WrEnv)
    (hr : reach s q off = some k) (hd : blockDead s k = false) :
    writeFor q off full w e s = if !full then (if (findRow (blockRows k) k).isSome then accErr q 0 k s else s)
      else wordWrite q k w e s := by
  cases q with
  | host f =>
    have hp : ¬ (f ≠ 0 ∧ 0xA000 ≤ off ∧ off < 0xA020 ∧ off % 4 = 0) :=
      fun ⟨hf, hlo, hhi, _⟩ => not_vfPend_of_reach hr ⟨hf, hlo, hhi⟩
    simp only [writeFor, if_neg hp, hr, hd, Bool.false_eq_true, if_false]
  | kiln => simp only [writeFor, hr, hd, Bool.false_eq_true, if_false]
  | manager => simp only [writeFor, hr, hd, Bool.false_eq_true, if_false]
  | bridge did => simp only [writeFor, hr, hd, Bool.false_eq_true, if_false]
  | aux => simp only [writeFor, hr, hd, Bool.false_eq_true, if_false]

/-- A requester whose address space is BAR0 alone reaches nothing beyond it, so its write does nothing. -/
theorem writeFor_beyond {s : State} {q : Requester} {off : Nat} (full : Bool) (w : Word) (e : WrEnv)
    (hq : q = .kiln ∨ q = .aux) (h : 2 ^ 28 ≤ off) : writeFor q off full w e s = s := by
  have hr : reach s q off = none := by
    have h1 : ¬ off < 2 ^ 28 := by omega
    have h2 : ¬ (0x000B0000 ≤ off ∧ off < 0x000B1000) := by omega
    rcases hq with rfl | rfl
    · simp only [reach, h1, if_false, ite_self]
    · simp only [reach, h2, if_false, ite_self]
  rcases hq with rfl | rfl <;> simp only [writeFor, hr]

end Sys2Proof.Machine
end

section
/-! Counters (R8): the read of a counter's LO word takes and clears it, the read of its HI word completes it; the saturating
counts of FOOT are one word each. -/

namespace Sys2Proof.Machine
open Sys2Proof

/-- The rows of the map among which an access looks for an offset: those of the port's personality, or the block's. -/
def rowsFor (s : State) (off : Nat) : List RegRow :=
  if 0x00100000 ≤ off ∧ off < 0x00180000 ∧ 0x100 ≤ off % 0x1000 then rowsPers (persOf s ((off - 0x00100000) / 0x1000))
  else blockRows off

theorem persOf_of_regs {s t : State} (h : t.regs = s.regs) (n : Nat) : persOf t n = persOf s n := by
  rw [persOf, rd_of_regs h, persOf]

theorem rowsFor_of_regs {s t : State} (h : t.regs = s.regs) (off : Nat) : rowsFor t off = rowsFor s off := by
  rw [rowsFor, persOf_of_regs h, rowsFor]

theorem keyOf_of_regs {s t : State} (h : t.regs = s.regs) (off : Nat) : keyOf t off = keyOf s off := by
  rw [keyOf, persOf_of_regs h, keyOf]

/-- Both words of a counter lie in the same port's personality registers, or both outside of any. -/
theorem inPers_hi_iff {off : Nat} (h8 : off % 8 = 0) :
    (0x00100000 ≤ off + 4 ∧ off + 4 < 0x00180000 ∧ 0x100 ≤ (off + 4) % 0x1000) ↔
      (0x00100000 ≤ off ∧ off < 0x00180000 ∧ 0x100 ≤ off % 0x1000) := by
  omega

theorem rowsFor_hi {s : State} {off : Nat} (h8 : off % 8 = 0) (hb : blockRows (off + 4) = blockRows off) :
    rowsFor s (off + 4) = rowsFor s off := by
  simp only [rowsFor, inPers_hi_iff h8, hb]
  split
  · have hport : (off + 4 - 0x00100000) / 0x1000 = (off - 0x00100000) / 0x1000 := by omega
    rw [hport]
  · rfl

/-- The storage of a counter's HI word follows that of its LO word. -/
theorem keyOf_hi {s : State} {off : Nat} (h8 : off % 8 = 0) : keyOf s (off + 4) = keyOf s off + 4 := by
  simp only [keyOf, inPers_hi_iff h8]
  split
  · have hport : (off + 4 - 0x00100000) / 0x1000 = (off - 0x00100000) / 0x1000 := by omega
    rw [hport, persKey, persKey, Nat.add_assoc]
  · rfl

/-- The state after a read of the LO word of the counter at a key: it is in the shadow and the counter is 0. -/
def tookCounter (k : Nat) (s : State) : State :=
  setShadow (k + 4) (w32 (counter s k / 2 ^ 32)) (clearCounter k s)

/-- A read of a counter's word: an even one takes the counter, an odd one shows the shadow. -/
theorem readWord_counter {s : State} {off : Nat} {r : RegRow} (hrow : findRow (rowsFor s off) off = some r)
    (hk : r.kind = .counter) (hm : r.mirrored = false) :
    readWord off s = if (rowWord r off).getD 0 % 2 = 0
      then (w32 (counter s (keyOf s off)), tookCounter (keyOf s off) s) else (shadow s (keyOf s off), s) := by
  have hkey : (if 0x00100000 ≤ off ∧ off < 0x00180000 ∧ 0x100 ≤ off % 0x1000 then keyOf s off else off) = keyOf s off := by
    split
    · rfl
    · rename_i hp
      rw [keyOf, if_neg hp]
  rw [rowsFor] at hrow
  simp only [readWord, hrow, hk, hm, hkey, tookCounter, Bool.false_eq_true, if_false, if_true]

theorem readWord_counter_lo {s : State} {off j : Nat} {r : RegRow} (hrow : findRow (rowsFor s off) off = some r)
    (hk : r.kind = .counter) (hm : r.mirrored = false) (hw : rowWord r off = some (2 * j)) :
    readWord off s = (w32 (counter s (keyOf s off)), tookCounter (keyOf s off) s) := by
  rw [readWord_counter hrow hk hm, hw, Option.getD_some, if_pos (by omega)]

theorem readWord_counter_hi {s : State} {off j : Nat} {r : RegRow} (hrow : findRow (rowsFor s off) off = some r)
    (hk : r.kind = .counter) (hm : r.mirrored = false) (hw : rowWord r off = some (2 * j + 1)) :
    readWord off s = (shadow s (keyOf s off), s) := by
  rw [readWord_counter hrow hk hm, hw, Option.getD_some, if_neg (by omega)]

/-- A counter read by a requester that reaches the word of a block that answers. -/
theorem exec_counterRead_of_reach {s t : State} {q : Requester} {off : Nat} {w : Word} (hr : reach s q off = some off)
    (hu : injArmed s 0x16 = none) (h : readWord off s = (w, t)) :
    exec (.counterRead q off) s = .next (kept s (setRdata w t)) := by
  have hread : readFor q off s = (w, t) := (readFor_of_reach hr (blockDead_of_unarmed hu off)).trans h
  change done s (let (w, t) := readFor q off s; setRdata w t) = _
  rw [hread]
  rfl

/-- The two halves of a counter that fits 64 bits make the whole. -/
theorem halves_toNat {n : Nat} (h : n < 2 ^ 64) : (w32 (n / 2 ^ 32)).toNat * 2 ^ 32 + (w32 n).toNat = n := by
  simp only [w32, BitVec.toNat_ofNat]
  omega

/-- The state that a read of the LO word at a key leaves, as the command's outcome. -/
def tookLo (k : Nat) (s : State) : State := kept s (setRdata (w32 (counter s k)) (tookCounter k s))

theorem tookLo_rdata (k : Nat) (s : State) : (tookLo k s).rdata = w32 (counter s k) := rfl
theorem tookLo_regs (k : Nat) (s : State) : (tookLo k s).regs = s.regs := rfl
theorem injArmed_tookLo (k : Nat) (s : State) (d : Nat) : injArmed (tookLo k s) d = injArmed s d := rfl
theorem counter_tookLo (k j : Nat) (s : State) : counter (tookLo k s) j = if j = k then 0 else counter s j :=
  counter_clear k j s
theorem shadow_tookLo_hi (k : Nat) (s : State) : shadow (tookLo k s) (k + 4) = w32 (counter s k / 2 ^ 32) :=
  (shadow_setShadow (k + 4) (k + 4) _ (clearCounter k s)).trans (if_pos rfl)

section
variable {q : Requester} {off j : Nat} {r : RegRow} {s : State}

theorem exec_counterRead_lo (hr : reach s q off = some off) (hu : injArmed s 0x16 = none)
    (hrow : findRow (rowsFor s off) off = some r) (hk : r.kind = .counter) (hm : r.mirrored = false)
    (hw : rowWord r off = some (2 * j)) :
    exec (.counterRead q off) s = .next (tookLo (keyOf s off) s) :=
  exec_counterRead_of_reach hr hu (readWord_counter_lo hrow hk hm hw)

/-- The read of the HI word shows the shadow that the read of the LO word left. -/
theorem exec_counterRead_hi (hr : reach s q (off + 4) = some (off + 4)) (hu : injArmed s 0x16 = none) (h8 : off % 8 = 0)
    (hb : blockRows (off + 4) = blockRows off) (hrow : findRow (rowsFor s off) (off + 4) = some r) (hk : r.kind = .counter)
    (hm : r.mirrored = false) (hw : rowWord r (off + 4) = some (2 * j + 1)) :
    exec (.counterRead q (off + 4)) (tookLo (keyOf s off) s) =
      .next (setRdata (w32 (counter s (keyOf s off) / 2 ^ 32)) (tookLo (keyOf s off) s)) := by
  have hregs := tookLo_regs (keyOf s off) s
  have hrow' : findRow (rowsFor (tookLo (keyOf s off) s) (off + 4)) (off + 4) = some r := by
    rw [rowsFor_of_regs hregs, rowsFor_hi h8 hb, hrow]
  have hword := readWord_counter_hi hrow' hk hm hw
  rw [keyOf_of_regs hregs, keyOf_hi h8, shadow_tookLo_hi] at hword
  exact exec_counterRead_of_reach ((reach_of_regs hregs q _).trans hr) hu hword

end

theorem rdF_lt (s : State) (k hi lo : Nat) : rdF s k hi lo < 2 ^ (hi + 1 - lo) := Nat.mod_lt _ (Nat.two_pow_pos _)

/-- A saturating count: it adds one and stays at the field's greatest value. -/
theorem rdF_satInc (k hi lo : Nat) (s : State) (h : hi < 32) :
    rdF (satInc k hi lo s) k hi lo = min (2 ^ (hi + 1 - lo) - 1) (rdF s k hi lo + 1) := by
  have hlt := rdF_lt s k hi lo
  rw [satInc]
  split
  · rename_i hroom
    rw [rdF_wrF _ _ _ _ _ h, Nat.mod_eq_of_lt hroom]
    omega
  · omega

/-- A read of a FOOT register with a clear-on-read field returns the word and clears it. -/
theorem readWord_foot_rc {s : State} {off : Nat} {r : RegRow} (hoff : 0x000B0000 ≤ off ∧ off < 0x000B1000)
    (hrow : findRow (blockRows off) off = some r) (hk : r.kind = .plain) (hm : r.mirrored = false) (hrc : rowMask r .rc ≠ 0) :
    readWord off s = (rd s off, wr off 0 s) := by
  obtain ⟨hlo, hhi⟩ := hoff
  have h1 : ¬ 0x00100000 ≤ off := by omega
  have h2 : ¬ 0x00381000 ≤ off := by omega
  have h3 : ¬ 0x00481000 ≤ off := by omega
  have h4 : ¬ 0x00540000 ≤ off := by omega
  simp only [readWord, hrow, hk, hm, h1, h2, h3, h4, false_and, or_self, Bool.false_eq_true, reduceCtorEq, if_false]
  exact if_pos hrc

/-- The registers of FOOT that count to 65,535: FOOT_CMD_REJ and FOOT_AUX_ERR. -/
theorem footCount_row {k : Nat} (h : k = 0x000B0018 ∨ k = 0x000B0008) :
    ∃ r, findRow (blockRows k) k = some r ∧ r.kind = .plain ∧ r.mirrored = false ∧ rowMask r .rc ≠ 0 := by
  have hany : (findRow (blockRows k) k).any
      (fun r => decide (r.kind = .plain) && decide (r.mirrored = false) && decide (rowMask r .rc ≠ 0)) = true := by
    rcases h with rfl | rfl
    · decide
    · decide
  obtain ⟨r, hrow, hr⟩ := (Option.any_eq_true _ _).1 hany
  simp only [Bool.and_eq_true, decide_eq_true_eq] at hr
  obtain ⟨⟨hk, hm⟩, hrc⟩ := hr
  exact ⟨r, hrow, hk, hm, hrc⟩

theorem exec_counterRead_foot {s : State} {q : Requester} {k : Nat} (h : k = 0x000B0018 ∨ k = 0x000B0008)
    (hr : reach s q k = some k) (hu : injArmed s 0x16 = none) :
    exec (.counterRead q k) s = .next (kept s (setRdata (rd s k) (wr k 0 s))) := by
  obtain ⟨r, hrow, hk, hm, hrc⟩ := footCount_row h
  exact exec_counterRead_of_reach hr hu (readWord_foot_rc (by omega) hrow hk hm hrc)

/-- Settles O45: the LO read takes the counter, the HI read finds its upper half in the shadow, and the FOOT counts are one
saturating word that its read clears. -/
theorem counterRead : Obligations.CounterRead := by
  refine ⟨fun k n s => ?_, ?_, fun k s hk => ⟨?_, fun q hr hu => ?_⟩⟩
  · rw [counter_bumpN, if_pos rfl]
  · intro q off j r rows s hrows hr hr4 h8 hb hu hlo hhi hk hm hw hw4
    change rows = rowsFor s off at hrows
    subst hrows
    refine ⟨_, exec_counterRead_lo hr hu hlo hk hm hw, rfl, ?_, shadow_tookLo_hi _ s, fun k hne => ?_, rfl,
      _, exec_counterRead_hi hr4 hu h8 hb hhi hk hm hw4, rfl, rfl, rfl, rfl, halves_toNat⟩
    · rw [counter_tookLo, if_pos rfl]
    · rw [counter_tookLo, if_neg hne]
  · exact rdF_satInc k 15 0 s (by decide)
  · exact ⟨_, exec_counterRead_foot hk hr hu, rfl, rd_wr_same k 0 s, fun j hj => rd_wr_other hj 0 s, rfl, rfl⟩

end Sys2Proof.Machine
end

section
/-! Register writes (R6, R574 to R576): a whole word written to a register of fields, to a slot's argument and to an event
STATUS register. -/

namespace Sys2Proof.Machine
open Sys2Proof

/-- A write of a whole word that reaches a block that answers. -/
theorem exec_registerWrite_full {s : State} {q : Requester} {off k : Nat} (w : Word) (e : WrEnv)
    (hr : reach s q off = some k) (hd : blockDead s k = false) :
    exec (.registerWrite q off true w e) s = .next (kept s (brgDone (wordWrite q k w e s))) := by
  change done s (brgDone (writeFor q off true w e s)) = _
  rw [writeFor_of_reach true w e hr hd]
  rfl

/-- A write with a byte disabled changes no register and is recorded, where there is a register. -/
theorem exec_registerWrite_partial {s : State} {q : Requester} {off k : Nat} (w : Word) (e : WrEnv)
    (hr : reach s q off = some k) (hd : blockDead s k = false) (hrow : (findRow (blockRows k) k).isSome = true) :
    exec (.registerWrite q off false w e) s = .next (kept s (brgDone (accErr q 0 k s))) := by
  change done s (brgDone (writeFor q off false w e s)) = _
  rw [writeFor_of_reach false w e hr hd, hrow]
  rfl

/-- An offset where a whole-word write is a write of fields and nothing else. -/
structure FieldsOnly (s : State) (q : Requester) (off : Nat) (w : Word) (e : WrEnv) : Prop where
  noSlot : slotAt off = none
  noLeaf : ¬ (0x00011000 ≤ off ∧ off < 0x00011300)
  noFxpCfg : ¬ (0x00100000 ≤ off ∧ off < 0x00180000 ∧ off % 0x1000 = 0)
  noCommand : regCommand q off w e s = none
  noStandby : off ≠ 0x00070004

theorem FieldsOnly.wordWrite_eq {s : State} {q : Requester} {off : Nat} {w : Word} {e : WrEnv}
    (h : FieldsOnly s q off w e) : wordWrite q off w e s = fieldWrite q off w s := by
  obtain ⟨hs, hl, hf, hc, hb⟩ := h
  simp only [wordWrite, hs, hl, hf, hc, hb, if_false]

theorem FieldsOnly.exec_registerWrite {s : State} {q : Requester} {off : Nat} {w : Word} {e : WrEnv}
    (h : FieldsOnly s q off w e) (hr : reach s q off = some off) (hd : blockDead s off = false) :
    exec (.registerWrite q off true w e) s = .next (kept s (brgDone (fieldWrite q off w s))) := by
  rw [exec_registerWrite_full w e hr hd, h.wordWrite_eq]

/-- A write looks for an offset among the same rows as a read; it asks for the personality's range by a Boolean. -/
theorem rowsFor_eq_bool (s : State) (off : Nat) :
    (if (decide (0x00100000 ≤ off) && decide (off < 0x00180000) && decide (0x100 ≤ off % 0x1000)) = true
      then rowsPers (persOf s ((off - 0x00100000) / 0x1000)) else blockRows off) = rowsFor s off := by
  simp only [rowsFor, Bool.and_eq_true, decide_eq_true_eq, and_assoc]

section
variable {s : State} {q : Requester} {off : Nat} {w : Word} {r : RegRow}

/-- A permitted write of fields, none of them held, takes the word by access type and has its effects. -/
theorem fieldWrite_permitted (hrow : findRow (rowsFor s off) off = some r)
    (hany : rowMask r .rw ||| rowMask r .rwl ||| rowMask r .w1c ||| rowMask r .w1s ≠ 0) (hmay : fieldMay s q off r = true)
    (hqp : qpHeld s off = false) (hseed : seedHeld s off = false) (hplan : planHeld off = false)
    (hnow : rowMask r .rw ||| (if rwlHeld s off then 0 else rowMask r .rwl) ||| rowMask r .w1c ||| rowMask r .w1s ≠ 0) :
    fieldWrite q off w s =
      fieldEffects off s (wr (keyOf s off) (accessWord r (rwlHeld s off) (rd s (keyOf s off)) w) s) := by
  rw [← rowsFor_eq_bool] at hrow
  simp only [fieldWrite, hrow, hany, hmay, hqp, hseed, hplan, hnow, Bool.or_self, Bool.false_eq_true, reduceCtorEq, or_self,
    if_false]

/-- A write of fields by a requester that may not is recorded alone. -/
theorem fieldWrite_stranger (hrow : findRow (rowsFor s off) off = some r)
    (hany : rowMask r .rw ||| rowMask r .rwl ||| rowMask r .w1c ||| rowMask r .w1s ≠ 0) (hmay : fieldMay s q off r = false) :
    fieldWrite q off w s = accErr q 1 off s := by
  rw [← rowsFor_eq_bool] at hrow
  simp only [fieldWrite, hrow, hany, hmay, if_false, if_true]

/-- A permitted write of fields that their unit holds does nothing. -/
theorem fieldWrite_held (hrow : findRow (rowsFor s off) off = some r)
    (hany : rowMask r .rw ||| rowMask r .rwl ||| rowMask r .w1c ||| rowMask r .w1s ≠ 0) (hmay : fieldMay s q off r = true)
    (hheld : qpHeld s off = true ∨ seedHeld s off = true ∨ planHeld off = true) : fieldWrite q off w s = s := by
  have hor : (qpHeld s off || seedHeld s off || planHeld off) = true := by
    simpa only [Bool.or_eq_true, or_assoc] using hheld
  rw [← rowsFor_eq_bool] at hrow
  simp only [fieldWrite, hrow, hany, hmay, hor, or_true, reduceCtorEq, if_false, if_true]

end

/-- The arguments of every slot of every engine are found as such. -/
theorem slotAt_arg : ∀ (e : Fin 5) (k : Fin 4) (j : Fin 8),
    slotAt (slotBase e k + 4 + 4 * j) = some (e.val, k.val, 4 + 4 * j.val) := by
  decide

/-- A write to a slot's argument is the argument's new word, for the slot's permitted requesters. -/
theorem wordWrite_slotArg (q : Requester) (e : Fin 5) (k : Fin 4) (j : Fin 8) (w : Word) (env : WrEnv) (s : State) :
    wordWrite q (slotBase e k + 4 + 4 * j) w env s =
      if slotMay e k q then wr (slotBase e k + 4 + 4 * j) w s else accErr q 1 (slotBase e k + 4 + 4 * j) s := by
  have h0 : ¬ 4 + 4 * j.val = 0 := by omega
  have harg : 0x04 ≤ 4 + 4 * j.val ∧ 4 + 4 * j.val < 0x24 := by omega
  simp only [wordWrite, slotAt_arg, slotRegWrite, if_neg h0, if_pos harg, regCmd]

/-- The row of Wedge's event STATUS register (R184, R527). -/
def wedgeStatusRow : RegRow := { name := "WDG_EVT_STATUS", base := 0x00200040, flds := [fl 4 0 .w1c] }

theorem findRow_wedgeStatus (s : State) : findRow (rowsFor s 0x00200040) 0x00200040 = some wedgeStatusRow := by
  change findRow (blockRows 0x00200040) 0x00200040 = _
  decide

theorem fieldsOnly_wedgeStatus (s : State) (q : Requester) (w : Word) (e : WrEnv) : FieldsOnly s q 0x00200040 w e where
  noSlot := by decide
  noLeaf := by decide
  noFxpCfg := by decide
  noCommand := by rfl
  noStandby := by decide

theorem fieldEffects_wedgeStatus (s t : State) : fieldEffects 0x00200040 s t = t := by
  have he : isEnable 0x00200040 = false := by decide
  simp [fieldEffects, he]

/-- A STATUS bit stays where the word written has 0 and clears where it has 1. -/
theorem bit_accessWord_wedgeStatus (held : Bool) (old w : Word) {b : Nat} (hb : b < 5) :
    bit (accessWord wedgeStatusRow held old w) b = (bit old b && !bit w b) := by
  have hb32 : b < 32 := by omega
  have hset : bit (rowMask wedgeStatusRow .w1s) b = false := bit_zero b
  have hrw : bit (rowMask wedgeStatusRow .rw) b = false := bit_zero b
  have hrwl : bit (rowMask wedgeStatusRow .rwl) b = false := bit_zero b
  have hclear : bit (rowMask wedgeStatusRow .w1c) b = true := by
    have hin : b ≤ 4 := by omega
    simp [bit_rowMask _ _ hb32, wedgeStatusRow, fl, hin]
  rw [bit_accessWord _ _ _ _ hb32, hset, hrw, hrwl, hclear]
  cases bit w b <;> simp

theorem exec_registerWrite_wedgeStatus {s : State} (w : Word) (e : WrEnv) (hu : injArmed s 0x16 = none) :
    exec (.registerWrite (.host 0) 0x00200040 true w e) s = .next (kept s (brgDone
      (wr 0x00200040 (accessWord wedgeStatusRow (rwlHeld s 0x00200040) (rd s 0x00200040) w) s))) := by
  have hmask : rowMask wedgeStatusRow .rw ||| rowMask wedgeStatusRow .rwl ||| rowMask wedgeStatusRow .w1c |||
      rowMask wedgeStatusRow .w1s ≠ 0 := by decide
  have hnow : rowMask wedgeStatusRow .rw ||| (if rwlHeld s 0x00200040 then 0 else rowMask wedgeStatusRow .rwl) |||
      rowMask wedgeStatusRow .w1c ||| rowMask wedgeStatusRow .w1s ≠ 0 := by
    cases rwlHeld s 0x00200040 <;> decide
  rw [(fieldsOnly_wedgeStatus s _ w e).exec_registerWrite rfl (blockDead_of_unarmed hu _),
    fieldWrite_permitted (findRow_wedgeStatus s) hmask rfl rfl rfl rfl hnow, fieldEffects_wedgeStatus]
  rfl

/-- Settles O48: a write that reaches its word is followed through to the fields' write, whose three outcomes are the
permitted, the stranger's and the held one. -/
theorem registerWrites : Obligations.RegisterWrites := by
  refine ⟨?_, ?_, ?_, ?_, fun w env s hu => ?_⟩
  · intro q off w env s r pers hpers hr hd hslot hleaf hcfg hcmd hstandby hrow hany
    subst hpers
    rw [rowsFor_eq_bool] at hrow
    rw [(FieldsOnly.mk hslot hleaf hcfg hcmd hstandby).exec_registerWrite hr hd]
    refine ⟨fun hmay hqp hseed hplan hnow => ?_, fun hmay => ?_, fun hmay hheld => ?_⟩
    · rw [fieldWrite_permitted hrow hany hmay hqp hseed hplan hnow]
    · rw [fieldWrite_stranger hrow hany hmay]
    · rw [fieldWrite_held hrow hany hmay hheld]
  · exact fun q off w env s => exec_registerWrite_partial w env
  · intro off full w env s hoff
    have beyond (q : Requester) (hq : q = .kiln ∨ q = .aux) :
        exec (.registerWrite q off full w env) s = .next (kept s (brgDone s)) :=
      congrArg (fun t => done s (brgDone t)) (writeFor_beyond full w env hq hoff)
    exact ⟨beyond _ (.inl rfl), beyond _ (.inr rfl)⟩
  · intro q e k j w env s hu hr
    rw [exec_registerWrite_full w env hr (blockDead_of_unarmed hu _), wordWrite_slotArg]
    exact ⟨fun hmay => by rw [hmay]; rfl, fun hmay => by rw [hmay]; rfl⟩
  · exact ⟨_, exec_registerWrite_wedgeStatus w env hu, fun b hb => bit_accessWord_wedgeStatus _ _ _ hb⟩

end Sys2Proof.Machine
end

section
/-! Command slots (R52 to R55): what a slot's registers hold after its CMD write is refused or accepted, after its command has
ended and after its result is released. -/

namespace Sys2Proof.Machine
open Sys2Proof

theorem nextTicket_of_lt {n : Nat} (h : n < 255) : nextTicket n = n + 1 := if_neg (by omega)

theorem slotTicket_lt (s : State) (b : Nat) : slotTicket s b < 256 := Nat.mod_lt _ (by decide)

/-- A ticket fits its eight bits (R53). -/
theorem nextTicket_lt {n : Nat} (h : n < 256) : nextTicket n < 256 := by
  unfold nextTicket
  split
  · decide
  · omega

theorem setBit_true (w : Word) {k : Nat} (h : k < 32) : setBit w k true = w ||| w32 (2 ^ k) := by
  refine BitVec.eq_of_getLsbD_eq fun j hj => ?_
  change bit (setBit w k true) j = bit (w ||| w32 (2 ^ k)) j
  rw [bit_setBit _ _ _ _ h, bit_or, bit_w32, Nat.testBit_two_pow]
  by_cases hjk : j = k
  · simp [hjk, h]
  · simp [hjk, Ne.symm hjk]

/-! ### Consecutive words -/

theorem rd_wrWords_getD {k j : Nat} (ws : List Word) (s : State) (h : j < ws.length) :
    rd (wrWords k ws s) (k + 4 * j) = ws.getD j 0 := by
  induction ws generalizing k j s with
  | nil => exact absurd h (by simp)
  | cons w ws ih =>
    cases j with
    | zero => exact rd_wrWords_head k w ws s
    | succ j =>
      have hk : k + 4 * (j + 1) = k + 4 + 4 * j := by omega
      rw [hk, wrWords, ih _ (by simpa using h), List.getD_cons_succ]

theorem getD_replicate_of_lt {n j : Nat} (w : Word) (h : j < n) : (List.replicate n w).getD j 0 = w := by
  rw [List.getD_eq_getElem?_getD, List.getElem?_replicate, if_pos h, Option.getD_some]

theorem rdWords_getD (s : State) {k j n : Nat} (h : j < n) : (rdWords s k n).getD j 0 = rd s (k + 4 * j) := by
  induction n generalizing k j with
  | zero => exact absurd h (by omega)
  | succ n ih =>
    cases j with
    | zero => rfl
    | succ j =>
      have hk : k + 4 * (j + 1) = k + 4 + 4 * j := by omega
      rw [hk, rdWords, List.getD_cons_succ, ih (by omega)]

@[simp] theorem wrWords_slotArgs (k : Nat) (ws : List Word) (s : State) : (wrWords k ws s).slotArgs = s.slotArgs := by
  induction ws generalizing k s with
  | nil => rfl
  | cons w ws ih => rw [wrWords, ih, wr_slotArgs]

/-! ### The registers that a slot shows -/

/-- A slot's RES_STATUS and its result words are written. -/
def slotShow (b : Nat) (st : Word) (ws : List Word) (s : State) : State := wrWords (b + 0x28) ws (wr (b + 0x24) st s)

/-- The result words that a command's end leaves (R54): those that the command answers, then zeros. -/
def resultWords (b : Nat) (res : List Nat) : List Word := ((padTo res 8 0).take (resWords b)).map w32

/-- A released slot's RES_STATUS (R53): neither VALID nor a CODE, and the ticket as it was. -/
def releasedStatus (st : Word) : Word := setFld (setBit st 31 false) 7 0 0

theorem slotAccept_eq (b : Nat) (s : State) :
    slotAccept b s = slotShow b (w32 (nextTicket (slotTicket s b) * 2 ^ 16 + 1)) (List.replicate (resWords b) 0)
      { s with slotArgs := tblSet s.slotArgs b (rdWords s (b + 0x04) 8) } := rfl

/-- A code other than INTERNAL raises no event at its command's end (R55). -/
theorem slotResult_eq {b c : Nat} (res : List Nat) {s : State} (hp : slotPending s b = true) (hc : c < 0xFF) :
    slotResult b c res s = slotShow b (w32 (2 ^ 31 + slotTicket s b * 2 ^ 16 + c)) (resultWords b res) s := by
  have hi : ¬ c = cInternal := Nat.ne_of_lt hc
  simp only [slotResult, hp, hi, if_true, if_false, slotShow, resultWords]

theorem resWords_le (b : Nat) : resWords b ≤ 8 := by
  unfold resWords
  split <;> decide

theorem resultWords_length (b : Nat) (res : List Nat) : (resultWords b res).length = resWords b := by
  have h := resWords_le b
  simp only [resultWords, padTo, List.length_map, List.length_take, List.length_append, List.length_replicate]
  omega

/-- A result word is the command's, or 0 where the command answers fewer. -/
theorem resultWords_getD {b j : Nat} (res : List Nat) (h : j < resWords b) :
    (resultWords b res).getD j 0 = w32 (res.getD j 0) := by
  have hpad : (padTo res 8 0)[j]? = some (res.getD j 0) := by
    have h8 := resWords_le b
    by_cases hj : j < res.length
    · rw [padTo, List.getElem?_append_left hj, List.getD_eq_getElem?_getD, List.getElem?_eq_getElem hj, Option.getD_some]
    · have hz : j - res.length < 8 - res.length := by omega
      rw [padTo, List.getElem?_append_right (by omega), List.getElem?_replicate, if_pos hz, List.getD_eq_getElem?_getD,
        List.getElem?_eq_none (by omega), Option.getD_none]
  rw [resultWords, List.getD_eq_getElem?_getD, List.getElem?_map, List.getElem?_take_of_lt h, hpad]
  rfl

section
variable (b : Nat) (st : Word) (ws : List Word) (s : State)

theorem slotStatus_slotShow : slotStatus (slotShow b st ws s) b = st := by
  rw [slotStatus, slotShow, rd_wrWords_below _ _ (by omega), rd_wr_same]

theorem rd_slotShow_result {j : Nat} (h : j < ws.length) : rd (slotShow b st ws s) (b + 0x28 + 4 * j) = ws.getD j 0 :=
  rd_wrWords_getD ws _ h

/-- Outside RES_STATUS and the places of the eight result words nothing is written. -/
theorem rd_slotShow_outside {k : Nat} (hlen : ws.length ≤ 8) (hk : k < b + 0x24 ∨ b + 0x48 ≤ k) :
    rd (slotShow b st ws s) k = rd s k := by
  have hne : k ≠ b + 0x24 := by omega
  rcases hk with hk | hk
  · rw [slotShow, rd_wrWords_below _ _ (by omega), rd_wr_other hne]
  · rw [slotShow, rd_wrWords_above _ _ (by omega), rd_wr_other hne]

end

/-! ### A refused and an accepted CMD write (R53) -/

theorem slotCommand_refused {b : Nat} {ok : Bool} {s : State} (f : State → State) (h : ok = false ∨ slotPending s b = true) :
    slotCommand b ok f s = slotReject b s := by
  have hno : ¬ (ok && !slotPending s b) = true := by
    rcases h with h | h <;> simp [h]
  exact if_neg hno

theorem slotCommand_accepted {b : Nat} {s : State} (f : State → State) (h : slotPending s b = false) :
    slotCommand b true f s = f (slotAccept b s) := by
  simp [slotCommand, h]

theorem slotStatus_slotReject (b : Nat) (s : State) : slotStatus (slotReject b s) b = slotStatus s b ||| 0x40000000 := by
  rw [slotStatus, slotReject, rd_wrB, if_pos rfl, setBit_true _ (by decide)]
  rfl

theorem rd_slotReject_other {b k : Nat} (h : k ≠ b + 0x24) (s : State) : rd (slotReject b s) k = rd s k :=
  (rd_wrB _ _ _ _ _).trans (if_neg h)

section
variable (b : Nat) (s : State)

theorem slotStatus_slotAccept :
    slotStatus (slotAccept b s) b = w32 (nextTicket (slotTicket s b) * 2 ^ 16 + 1) := by
  rw [slotAccept_eq, slotStatus_slotShow]

theorem slotPending_slotAccept : slotPending (slotAccept b s) b = true := by
  have hcode : fld (w32 (nextTicket (slotTicket s b) * 2 ^ 16 + 1)) 7 0 = cPending := by
    simp only [fld, nbits, w32, BitVec.toNat_ofNat, Nat.shiftRight_zero, cPending]
    omega
  rw [slotPending, slotStatus_slotAccept, hcode]
  rfl

theorem slotTicket_slotAccept : slotTicket (slotAccept b s) b = nextTicket (slotTicket s b) := by
  have hlt := nextTicket_lt (slotTicket_lt s b)
  rw [slotTicket, slotStatus_slotAccept]
  simp only [fld, nbits, w32, BitVec.toNat_ofNat, Nat.shiftRight_eq_div_pow]
  omega

/-- An accepted command's arguments are those that its slot held at the CMD write. -/
theorem slotArg_slotAccept {k : Nat} (hk : k < 8) : slotArg (slotAccept b s) b k = (rd s (b + 4 + 4 * k)).toNat := by
  rw [slotArg, slotAccept_eq, slotShow, wrWords_slotArgs, wr_slotArgs, tblGet_set, if_pos rfl, rdWords_getD _ hk]

theorem rd_slotAccept_result {k : Nat} (hk : k < resWords b) : rd (slotAccept b s) (b + 0x28 + 4 * k) = 0 := by
  rw [slotAccept_eq, rd_slotShow_result _ _ _ _ (by simpa using hk), getD_replicate_of_lt 0 hk]

theorem rd_slotAccept_outside {k : Nat} (hk : k < b + 0x24 ∨ b + 0x48 ≤ k) : rd (slotAccept b s) k = rd s k := by
  rw [slotAccept_eq, rd_slotShow_outside _ _ _ _ (by simpa using resWords_le b) hk]
  rfl

end

/-! ### RES_RELEASE (R53) -/

section
variable {q : Requester} {e : Fin 5} {k : Fin 4} {v : BitVec 8} {s : State}

theorem exec_resRelease_permitted (h : slotMay e k q = true) :
    exec (.resRelease q e k v) s = .next (kept s (resRelease e k v.toNat s)) := by
  change done s (regCmd q (slotMay e k q) _ (resRelease e k v.toNat) s) = _
  rw [h]
  rfl

/-- Another than the slot's requesters releases nothing: the write is recorded (R576). -/
theorem exec_resRelease_stranger (h : slotMay e k q = false) :
    exec (.resRelease q e k v) s = .next (kept s (accErr q 1 (slotBase e k + 0x48) s)) := by
  change done s (regCmd q (slotMay e k q) _ (resRelease e k v.toNat) s) = _
  rw [h]
  rfl

end

theorem resRelease_held {e k v : Nat} {s : State} (hv : bit (slotStatus s (slotBase e k)) 31 = true)
    (ht : slotTicket s (slotBase e k) = v) :
    resRelease e k v s = slotShow (slotBase e k) (releasedStatus (slotStatus s (slotBase e k)))
      (List.replicate (resWords (slotBase e k)) 0) s := by
  have hcond : (bit (slotStatus s (slotBase e k)) 31 && fld (slotStatus s (slotBase e k)) 23 16 == v) = true := by
    change fld _ 23 16 = v at ht
    simp [hv, ht]
  exact if_pos hcond

/-- A release with another value, or of no held result, does nothing. -/
theorem resRelease_idle {e k v : Nat} {s : State}
    (h : bit (slotStatus s (slotBase e k)) 31 = false ∨ slotTicket s (slotBase e k) ≠ v) : resRelease e k v s = s := by
  have hcond : ¬ (bit (slotStatus s (slotBase e k)) 31 && fld (slotStatus s (slotBase e k)) 23 16 == v) = true := by
    rcases h with h | h
    · simp [h]
    · change fld _ 23 16 ≠ v at h
      simp [h]
  exact if_neg hcond

theorem bit_releasedStatus (st : Word) : bit (releasedStatus st) 31 = false := by
  rw [releasedStatus, bit_setFld_other _ _ (by decide), bit_setBit _ _ _ _ (by decide), if_pos rfl]

theorem code_releasedStatus (st : Word) : fld (releasedStatus st) 7 0 = 0 := fld_setFld _ 7 0 0 (by decide)

theorem ticket_releasedStatus (st : Word) : fld (releasedStatus st) 23 16 = fld st 23 16 := by
  rw [releasedStatus, fld_setFld_other _ _ (by decide), fld_setBit_other _ _ (by decide)]

/-- Settles O46: an acceptance, a command's end and a release each write RES_STATUS and the result words and nothing else
(`slotShow`), and the clauses read these back. -/
theorem slotProtocol : Obligations.SlotProtocol := by
  refine ⟨⟨rfl, fun n h => nextTicket_of_lt h⟩, ?_, ?_, ?_, ?_, fun q e k v s => exec_resRelease_stranger⟩
  · intro b ok f s h
    rw [slotCommand_refused f h]
    exact ⟨slotStatus_slotReject b s, fun k hk => rd_slotReject_other hk s⟩
  · intro b f s h
    exact ⟨slotAccept b s, slotCommand_accepted f h, slotStatus_slotAccept b s, slotPending_slotAccept b s,
      slotTicket_slotAccept b s, fun k => slotArg_slotAccept b s, fun k => rd_slotAccept_result b s,
      fun k => rd_slotAccept_outside b s⟩
  · intro b c res s hp hc
    have hlen := resultWords_length b res
    refine ⟨_, slotResult_eq res hp hc, slotStatus_slotShow _ _ _ _, fun k hk => ?_,
      fun k => rd_slotShow_outside _ _ _ _ (Nat.le_trans (Nat.le_of_eq hlen) (resWords_le b))⟩
    rw [rd_slotShow_result _ _ _ _ (Nat.lt_of_lt_of_eq hk hlen.symm), resultWords_getD res hk]
  · intro q e k v s hmay
    rw [exec_resRelease_permitted hmay]
    refine ⟨fun hv ht => ?_, fun h => by rw [resRelease_idle h, kept_self]⟩
    have hstatus := slotStatus_slotShow (slotBase e k) (releasedStatus (slotStatus s (slotBase e k)))
      (List.replicate (resWords (slotBase e k)) 0) s
    rw [resRelease_held hv ht]
    refine ⟨_, rfl, ?_, ?_, ?_, fun j hj => ?_, fun j hj => ?_⟩
    · exact (congrArg (bit · 31) hstatus).trans (bit_releasedStatus _)
    · exact (congrArg (fld · 7 0) hstatus).trans (code_releasedStatus _)
    · exact (congrArg (fld · 23 16) hstatus).trans ((ticket_releasedStatus _).trans ht)
    · rw [rd_kept, rd_slotShow_result _ _ _ _ (by simpa using hj), getD_replicate_of_lt 0 hj]
    · rw [rd_kept, rd_slotShow_outside _ _ _ _ (by simpa using resWords_le _) hj]

end Sys2Proof.Machine
end

section
/-! The mirror (R64, R65): what a scan of a mirrored word finds and records. -/

namespace Sys2Proof.Machine
open Sys2Proof

theorem tblGet_wr_mirror (k : Nat) (w : Word) (s : State) : tblGet (wr k w s).mirror k 0 = 0 :=
  (tblGet_erase s.mirror k k 0).trans (if_pos rfl)

section
variable {k : Nat} {s : State}

theorem mirrorCompare_equal (h : tblGet s.mirror k 0 = 0) :
    mirrorCompare k s = setLive (lfCrz 0) (s.mirror != []) s := if_pos h

/-- The first word found different is recorded with its place and its region. -/
theorem mirrorCompare_first (h : tblGet s.mirror k 0 ≠ 0) (hnone : rdB s 0x000A0210 31 = false) :
    mirrorCompare k s = raiseLive (lfCrz 0) (wrB 0x000A0210 29 true (wr 0x000A0214 (w32 (k % 2 ^ 28))
      (wrF 0x000A0210 23 16 (if regionOf k < 28 then regionOf k else 0xFE) (wrB 0x000A0210 31 true s)))) := by
  rw [mirrorCompare, if_neg h]
  simp only [hnone, Bool.false_eq_true, if_false]

/-- A further word found different sets MULTI and leaves the place recorded. -/
theorem mirrorCompare_further (h : tblGet s.mirror k 0 ≠ 0) (hsome : rdB s 0x000A0210 31 = true)
    (hother : (rd s 0x000A0214).toNat ≠ k % 2 ^ 28) :
    mirrorCompare k s = raiseLive (lfCrz 0) (wrB 0x000A0210 29 true (wrB 0x000A0210 30 true s)) := by
  rw [mirrorCompare, if_neg h]
  simp only [hsome, hother, if_true, if_false]

end

/-- Settles O12: a write drops the word's difference, and a scan takes one of the compare's three ways. -/
theorem mirrorScans : Obligations.MirrorScans := by
  have scan (off : Fin 268435456) (s : State) :
      exec (.mirrorScan off) s = .next (kept s (mirrorCompare (keyOf s off) s)) := rfl
  refine ⟨tblGet_wr_mirror, ?_, ?_, ?_⟩
  · intro off s h hnone
    rw [scan, mirrorCompare_first h hnone]
  · intro off s h hsome hother
    rw [scan, mirrorCompare_further h hsome hother]
  · intro off s h
    rw [scan, mirrorCompare_equal h]

end Sys2Proof.Machine
end

section
/-! The configuration loader (R45 to R65): what it accepts, what it makes of a checked and of an applied region, its banks and
its lock. -/

namespace Sys2Proof.Machine
open Sys2Proof

/-! ### What a slot accepts for the loader (R56, R57) -/

@[simp] theorem wrWords_cfg (k : Nat) (ws : List Word) (s : State) : (wrWords k ws s).cfg = s.cfg := by
  induction ws generalizing k s with
  | nil => rfl
  | cons w ws ih => rw [wrWords, ih, wr_cfg]

@[simp] theorem slotAccept_cfg (b : Nat) (s : State) : (slotAccept b s).cfg = s.cfg := by
  rw [slotAccept_eq, slotShow, wrWords_cfg, wr_cfg]

/-- The regions' registers lie above the loader's slots. -/
theorem rd_slotAccept_cfgSlot {k : Fin 4} {j : Nat} (h : 0x000A0400 ≤ j) (s : State) :
    rd (slotAccept (cfgSlot k) s) j = rd s j :=
  rd_slotAccept_outside _ _ (.inr (by unfold cfgSlot; omega))

/-- A command of slot k is accepted and stands at the end of the loader's queue. -/
def cfgQueued (k : Fin 4) (c : CfgCmd) (s : State) : State :=
  let a := slotAccept (cfgSlot k) s
  { a with cfg := { a.cfg with queue := a.cfg.queue ++ [{ c with slot := some k.val }] } }

theorem rd_cfgQueued {k : Fin 4} {j : Nat} (h : 0x000A0400 ≤ j) (c : CfgCmd) (s : State) :
    rd (cfgQueued k c s) j = rd s j := rd_slotAccept_cfgSlot h s

theorem bankState_cfgQueued (k : Fin 4) (c : CfgCmd) (s : State) (r : Nat) :
    bankState (cfgQueued k c s) r = bankState s r := by
  rw [bankState, rd_cfgQueued (by unfold regState; omega), bankState]

theorem activeBank_of_rd {s t : State} {r : Nat} (hgen : rd t (activeGen r) = rd s (activeGen r))
    (hstate : rd t (regState r) = rd s (regState r)) : activeBank t r = activeBank s r := by
  have happlied : regionApplied t r = regionApplied s r := congrArg (· != 0) hgen
  rw [activeBank, activeBank, happlied, rdF, hstate, rdF]

theorem activeBank_cfgQueued (k : Fin 4) (c : CfgCmd) (s : State) (r : Nat) :
    activeBank (cfgQueued k c s) r = activeBank s r :=
  activeBank_of_rd (rd_cfgQueued (by unfold activeGen; omega) c s) (rd_cfgQueued (by unfold regState; omega) c s)

theorem regionInUse_of_idle {s : State} (h : s.cfg.queue = []) (r : Nat) : regionInUse s r = false := by
  rw [regionInUse, h]

section
variable {k : Fin 4} {q : Requester} {c : CfgCmd} {s : State}

/-- A good command from a permitted requester waits behind what the loader does, or is started where it does nothing. -/
theorem cfgAccept_good (f : State → State) (hmay : keySlotMay k q = true) (hfree : slotPending s (cfgSlot k) = false)
    (huse : regionInUse s c.region = false) :
    cfgAccept k q c false f s = if s.cfg.queue.isEmpty then f (cfgQueued k c s) else cfgQueued k c s := by
  have huse' : regionInUse (slotAccept (cfgSlot k) s) c.region = false := by
    rw [regionInUse, slotAccept_cfg]
    exact huse
  rw [cfgAccept, hmay, slotCommand_accepted _ hfree]
  simp only [huse', Bool.false_eq_true, if_false, slotAccept_cfg, cfgQueued]

theorem cfgAccept_idle (f : State → State) (hmay : keySlotMay k q = true) (hfree : slotPending s (cfgSlot k) = false)
    (hidle : s.cfg.queue = []) : cfgAccept k q c false f s = f (cfgQueued k c s) := by
  rw [cfgAccept_good f hmay hfree (regionInUse_of_idle hidle _), hidle]
  rfl

theorem cfgAccept_busy (f : State → State) (hmay : keySlotMay k q = true) (hfree : slotPending s (cfgSlot k) = false)
    (huse : regionInUse s c.region = false) (hbusy : s.cfg.queue ≠ []) : cfgAccept k q c false f s = cfgQueued k c s := by
  have hne : ¬ s.cfg.queue.isEmpty = true := fun h => hbusy (List.isEmpty_iff.1 h)
  rw [cfgAccept_good f hmay hfree huse, if_neg hne]

end

theorem cfgQueued_of_idle {k : Fin 4} {c : CfgCmd} {s : State} (h : s.cfg.queue = []) :
    cfgQueued k c s = { slotAccept (cfgSlot k) s with
      cfg := { (slotAccept (cfgSlot k) s).cfg with queue := [{ c with slot := some k.val }] } } := by
  simp only [cfgQueued, slotAccept_cfg, h, List.nil_append]

/-! ### LOAD (R50, R56) -/

/-- A LOAD at the head of the queue is started, unless it is refused at once. -/
theorem cfgNext_load {n : Nat} {c : CfgCmd} {rest : List CfgCmd} {s : State} (hq : s.cfg.queue = c :: rest)
    (hload : c.swap = false) (hr : 1 ≤ c.region) (hbank : bankState s c.region ≠ 3) :
    cfgNext (n + 1) s = loadStart c.region s := by
  have h0 : ¬ c.region = 0 := by omega
  simp only [cfgNext, hq, hload, h0, and_false, Bool.and_eq_true, beq_iff_eq, hbank, Bool.false_eq_true, if_false]

section
variable {q : Requester} {k : Fin 4} {r : Fin 32} {src : Fin 4} {s : State}

/-- A LOAD of regions 0 to 27 from bank A or B is not a bad command. -/
theorem exec_load (hr : r.val ≤ 27) (hsrc : src.val ≤ 1) :
    exec (.load q k r src) s = .next (kept s (cfgAccept k q { region := r, src := src } false
      (fun s => cfgNext (s.cfg.queue.length + 1) s) s)) := by
  have hgood : (decide (27 < r.val) || srcBad s src) = false := by
    have h27 : ¬ 27 < r.val := by omega
    have h2 : ¬ 2 < src.val := by omega
    have hman : ¬ src.val = 2 := by omega
    simp [srcBad, h27, h2, hman]
  change done s (cfgAccept k q _ (decide (27 < r.val) || srcBad s src) _ s) = _
  rw [hgood]
  rfl

theorem exec_load_idle (hmay : keySlotMay k q = true) (hfree : slotPending s (cfgSlot k) = false) (hr : 1 ≤ r.val)
    (hr' : r.val ≤ 27) (hsrc : src.val ≤ 1) (hidle : s.cfg.queue = []) (hbank : bankState s r ≠ 3) :
    exec (.load q k r src) s = .next (kept s (loadStart r (cfgQueued k { region := r, src := src } s))) := by
  have hqueue : (cfgQueued k { region := r, src := src } s).cfg.queue =
      [{ region := r, src := src, slot := some k.val }] := by rw [cfgQueued_of_idle hidle]
  have hbank' : bankState (cfgQueued k { region := r, src := src } s) r ≠ 3 := by rwa [bankState_cfgQueued]
  rw [exec_load hr' hsrc, cfgAccept_idle _ hmay hfree hidle, cfgNext_load hqueue rfl hr hbank']

theorem exec_load_busy (hmay : keySlotMay k q = true) (hfree : slotPending s (cfgSlot k) = false) (hr : r.val ≤ 27)
    (hsrc : src.val ≤ 1) (hbusy : s.cfg.queue ≠ []) (huse : regionInUse s r = false) :
    exec (.load q k r src) s = .next (kept s (cfgQueued k { region := r, src := src } s)) := by
  rw [exec_load hr hsrc, cfgAccept_busy _ hmay hfree huse hbusy]

end

/-! ### A region that has been checked or applied (R50, R56, R58) -/

section
variable {c : CfgCmd} {rest : List CfgCmd} {s : State}

theorem regionCheckDone_found {b : List Byte} (hq : s.cfg.queue = c :: rest) (hload : c.swap = false)
    (hnew : s.cfg.checked = false) (hb : srcPart s c.src c.region = some b) :
    regionCheckDone s =
      if loadCode c.src c.region b s = cOk then applyStart c.region { s with cfg := { s.cfg with checked := true, load := b } }
      else cfgFinish (loadCode c.src c.region b s) [] (wr (regState c.region) s.cfg.saved s) := by
  simp only [regionCheckDone, hq, hload, hnew, hb, Bool.or_self, Bool.false_eq_true, if_false, Option.isNone_some,
    Option.getD_some]

/-- A source that does not offer the region fails its signature. -/
theorem regionCheckDone_missing (hq : s.cfg.queue = c :: rest) (hload : c.swap = false) (hnew : s.cfg.checked = false)
    (hb : srcPart s c.src c.region = none) :
    regionCheckDone s = cfgFinish cSignature [] (wr (regState c.region) s.cfg.saved s) := by
  have hcode : ¬ cSignature = cOk := by decide
  simp only [regionCheckDone, hq, hload, hnew, hb, Bool.or_self, Bool.false_eq_true, if_false, Option.isNone_none, if_true,
    hcode]

/-- A checked region of one bank, but for the forwarding tables, is written and ACTIVE with its generation. -/
theorem regionApplyDone_single (hq : s.cfg.queue = c :: rest) (hload : c.swap = false) (hchecked : s.cfg.checked = true)
    (hready : applyReady c.region s = true) (hsingle : banked c.region = false) (hr : c.region ≠ 19) :
    regionApplyDone s =
      let g := regGen s.cfg.load
      let ws := recWrites ((regRecs s.cfg.load).getD [])
      let t := setAct c.region 1 (wr (activeGen c.region) (w32 g) (loaderWords c.region 0 ws s))
      cfgFinish cOk [g, regLen s.cfg.load] (mirrorReload c.region (regionEffects c.region g ws s t)) := by
  simp only [regionApplyDone, hq, hload, hchecked, hready, hsingle, hr, Bool.not_true, Bool.or_self, Bool.false_eq_true, if_false]

end

/-! ### SWAP and the banks (R57, R60 to R62) -/

section
variable {s : State}

/-- The banks of region 18 swap at once. -/
theorem swapRun_rules (hactive : activeBank s 18 ≠ none) (hstaged : bankState s 18 = 2) :
    swapRun 18 s = cfgFinish cOk [(rd s (inactiveGen 18)).toNat, (rd s (activeGen 18)).toNat]
      (wrB 0x00240000 31 true (wrF 0x00240000 28 28 (rdF (bankFlip 18 3 s) (regState 18) 8 8) (bankFlip 18 3 s))) := by
  have hb : banked 18 = true := rfl
  simp [swapRun, hb, hactive, hstaged]

/-- The SWAP of a staged time plan waits for its boundary from now on. -/
theorem swapRun_plan (hactive : activeBank s 21 ≠ none) (hstaged : bankState s 21 = 2) :
    swapRun 21 s = { s with cfg := { s.cfg with planSwap := some s.tim.wt } } := by
  have hb : banked 21 = true := rfl
  simp [swapRun, hb, hactive, hstaged]

/-- A swap exchanges the generations of the two banks. -/
theorem rd_bankFlip_activeGen (r st : Nat) : rd (bankFlip r st s) (activeGen r) = rd s (inactiveGen r) := by
  have h1 : activeGen r ≠ regState r := by unfold activeGen regState; omega
  have h2 : activeGen r ≠ inactiveGen r := by unfold activeGen inactiveGen; omega
  simp only [bankFlip, setBankState, rd_wrF, rd_wrB, rd_wr, h1, h2, if_false, if_true]

theorem rd_bankFlip_inactiveGen (r st : Nat) : rd (bankFlip r st s) (inactiveGen r) = rd s (activeGen r) := by
  have h1 : inactiveGen r ≠ regState r := by unfold inactiveGen regState; omega
  simp only [bankFlip, setBankState, rd_wrF, rd_wrB, rd_wr, h1, if_false, if_true]

theorem bankState_setBankState (r v : Nat) : bankState (setBankState r v s) r = v % 8 :=
  rdF_wrF (regState r) 6 4 v s (by decide)

theorem exec_swap {q : Requester} {k : Fin 4} {r : Fin 32} (hr : r.val ≤ 27) (hmay : keySlotMay k q = true)
    (hfree : slotPending s (cfgSlot k) = false) (hidle : s.cfg.queue = []) :
    exec (.swap q k r) s = .next (kept s (swapRun r (cfgQueued k { swap := true, region := r } s))) := by
  have hgood : decide (27 < r.val) = false := decide_eq_false (by omega)
  change done s (cfgAccept k q _ (decide (27 < r.val)) (swapRun r) s) = _
  rw [hgood, cfgAccept_idle _ hmay hfree hidle]
  rfl

theorem exec_swap_rules {q : Requester} {k : Fin 4} (hmay : keySlotMay k q = true)
    (hfree : slotPending s (cfgSlot k) = false) (hidle : s.cfg.queue = []) (hactive : activeBank s 18 ≠ none)
    (hstaged : bankState s 18 = 2) :
    let u := bankFlip 18 3 (cfgQueued k { swap := true, region := 18 } s)
    exec (.swap q k 18) s = .next (kept s (cfgFinish cOk [(rd s (inactiveGen 18)).toNat, (rd s (activeGen 18)).toNat]
      (wrB 0x00240000 31 true (wrF 0x00240000 28 28 (rdF u (regState 18) 8 8) u)))) := by
  have hactive' : activeBank (cfgQueued k { swap := true, region := 18 } s) 18 ≠ none := by rwa [activeBank_cfgQueued]
  have hrun := swapRun_rules hactive' ((bankState_cfgQueued k { swap := true, region := 18 } s 18).trans hstaged)
  rw [rd_cfgQueued (by decide), rd_cfgQueued (by decide)] at hrun
  intro u
  rw [← hrun]
  exact exec_swap (by decide) hmay hfree hidle

theorem exec_swapBoundary {c : CfgCmd} {rest : List CfgCmd} (hq : s.cfg.queue = c :: rest) (hswap : c.swap = true)
    (hwait : s.cfg.planSwap = none) : exec .swapBoundary s = .next (kept s (swapRun c.region s)) := by
  change execSwapBoundary s = _
  simp only [execSwapBoundary, hq, hswap, hwait, and_self, if_true, done_eq]

/-- A drained bank is HELD; that of the rules shows it (R222). -/
theorem exec_bankDrainDone {r : Fin 28} (hdrain : bankState s r = 3) (hempty : inFlight s r = 0) :
    exec (.bankDrainDone r) s = .next (kept s (if r.val = 18
      then raise (lfCls 0) (wrB 0x00240000 30 true (wrB 0x00240000 31 false (setBankState r 4 s))) else setBankState r 4 s)) :=
  congrArg (fun t => Host.Outcome.next (kept s t)) (if_pos ⟨hdrain, hempty⟩)

/-! ### The lock (R63) -/

theorem exec_cfgLockSet {q : Requester} (h : hostRights q = true) :
    exec (.cfgLockSet q) s = .next (kept s (wrB 0x000A0200 0 true s)) := by
  change done s (regCmd q (hostRights q) 0x000A0200 (wrB 0x000A0200 0 true) s) = _
  rw [h]
  rfl

end

/-- Settles O11: each command's outcome is the lemma on what it does, with the loader's queue as the slot's acceptance left
it. -/
theorem loaderCommands : Obligations.LoaderCommands := by
  refine ⟨?_, ?_, ?_, ?_, ?_, ?_, ?_, ?_, ?_, ?_⟩
  · intro q k r src s hmay hfree hr hr' hsrc hidle hbank a
    rw [exec_load_idle hmay hfree hr hr' hsrc hidle hbank, cfgQueued_of_idle hidle]
  · intro q k r src s hmay hfree hr hsrc hbusy huse a
    rw [exec_load_busy hmay hfree hr hsrc hbusy huse, cfgQueued, slotAccept_cfg]
  · intro c rest b s hq hload hnew hb
    rw [← regionCheckDone_found hq hload hnew hb]
    rfl
  · intro c rest s hq hload hnew hb
    rw [← regionCheckDone_missing hq hload hnew hb]
    rfl
  · intro c rest s hq hload hchecked hready hsingle hr g ws t
    rw [← regionApplyDone_single hq hload hchecked hready hsingle hr]
    rfl
  · intro q k s hmay hfree hidle hactive hstaged a u
    have hu : u = bankFlip 18 3 (cfgQueued k { swap := true, region := 18 } s) := by
      rw [cfgQueued_of_idle hidle]
    rw [hu, rd_bankFlip_activeGen, rd_bankFlip_inactiveGen, rd_cfgQueued (by decide), rd_cfgQueued (by decide)]
    exact ⟨exec_swap_rules hmay hfree hidle hactive hstaged, rfl, rfl, bankState_setBankState 18 3⟩
  · intro c rest s hq hswap hwait hr hactive hstaged
    rw [exec_swapBoundary hq hswap hwait, hr, swapRun_plan hactive hstaged]
  · exact fun s => exec_bankDrainDone (r := 18)
  · exact fun s => exec_bankDrainDone (r := 20)
  · intro q s h
    refine ⟨_, exec_cfgLockSet h, rdB_wrB 0x000A0200 0 true s (by decide), fun k hk => ?_⟩
    rw [rd_kept, rd_wrB, if_neg hk]

end Sys2Proof.Machine
end

section
/-! The idle cycle (R67 to R73): what a TCLK cycle leaves alone, how an increment is scaled, and how far the clocks advance. -/

namespace Sys2Proof.Machine
open Sys2Proof

/-! ### What an idle cycle leaves alone -/

/-- No event writes the clocks', the domains' and the selection's registers. -/
theorem quiet_tim {k : Nat} (hlo : 0x00060000 ≤ k) (hhi : k < 0x000600E0) : quiet k := by
  have hrow : ∀ b ∈ leafBlocks, k < b ∨ b + 4 < k := by
    simp only [leafBlocks, List.forall_mem_cons, List.not_mem_nil, false_implies, implies_true, and_true]
    omega
  have hnot : k ∉ leafBlocks := fun h => by have := hrow k h; omega
  have hnot' : k ∉ leafBlocks.map (· + 4) := fun h => by
    obtain ⟨b, hb, rfl⟩ := List.mem_map.1 h
    have := hrow b hb
    omega
  exact ⟨by omega, by omega, by omega, by omega, by omega, by omega, hnot, hnot'⟩

theorem stormEnd_still (n : Nat) (s : State) : still (stormEnd n s) = still s :=
  still_ite rfl (setLive_still _ _ _)

theorem rd_stormEnd (n : Nat) (s : State) {k : Nat} (hk : quiet k) : rd (stormEnd n s) k = rd s k :=
  rd_ite rfl (rd_setLive _ _ _ hk)

/-- Of what no event touches, an idle cycle changes the clocks alone. -/
theorem tick_still (s : State) : still (tick s) = still (tclk { s with now := s.now + 1 }) :=
  foldl_of (P := fun t => still t = still (tclk { s with now := s.now + 1 })) rfl
    fun _ _ h => still_ite h ((stormEnd_still _ _).trans h)

theorem rd_tick (s : State) {k : Nat} (hk : quiet k) : rd (tick s) k = rd s k :=
  foldl_of (P := fun t => rd t k = rd s k) rfl fun _ _ h => rd_ite h ((rd_stormEnd _ _ hk).trans h)

@[simp] theorem tick_tim (s : State) : (tick s).tim = (tclk s).tim := (congrArg State.tim (tick_still s) :)
@[simp] theorem tick_pending (s : State) : (tick s).pending = s.pending := (congrArg State.pending (tick_still s) :)

theorem step_idle {s : State} (h : s.pending = []) : step s = .next (tick s) := by rw [step, h]

/-! ### Scaled increments (R68, R70) -/

theorem nominalInc_cases (p : Nat) : nominalInc p = 0xD5555555 ∨ nominalInc p = 0xD5555556 := by
  unfold nominalInc
  split
  · exact .inr rfl
  · exact .inl rfl

/-- Three cycles in a row, wherever they begin, advance by 2.5 ns. -/
theorem nominalInc_three (p : Nat) : nominalInc p + nominalInc ((p + 1) % 3) + nominalInc ((p + 2) % 3) = 5 * 2 ^ 31 := by
  unfold nominalInc
  split <;> split <;> split <;> omega

@[simp] theorem scaleInc_zero (inc : Nat) : scaleInc inc 0 = inc := by
  rw [scaleInc, Int.add_zero, Int.mul_tdiv_cancel _ (by decide), Int.toNat_natCast]

/-- A scale r within ±b scales an increment within the scales of −b and b. -/
theorem scaleInc_bounds {r : Int} {b : Nat} (inc : Nat) (hb : b ≤ 2 ^ 40) (hr : r.natAbs ≤ b) :
    inc * (2 ^ 40 - b) / 2 ^ 40 ≤ scaleInc inc r ∧ scaleInc inc r ≤ inc * (2 ^ 40 + b) / 2 ^ 40 := by
  obtain ⟨f, hf⟩ : ∃ f : Nat, 2 ^ 40 + r = f := ⟨(2 ^ 40 + r).toNat, by omega⟩
  have hscale : scaleInc inc r = inc * f / 2 ^ 40 := by
    rw [scaleInc, hf, ← Int.natCast_mul]
    exact Int.toNat_natCast (inc * f / 2 ^ 40)
  rw [hscale]
  exact ⟨Nat.div_le_div_right (Nat.mul_le_mul_left _ (by omega)), Nat.div_le_div_right (Nat.mul_le_mul_left _ (by omega))⟩

/-! ### Working time's increment (R70 to R73) -/

theorem wtState_lt (s : State) : wtState s < 4 := Nat.mod_lt _ (by decide)

/-- Within the limits of rate and slew an initialised working time's increment is between 0.8325 ns and 2 ns (R71). -/
theorem wtInc_bounds {s : State} (h0 : wtState s ≠ 0) (hrate : (rateOf s (selOf s)).natAbs ≤ 549755814)
    (hhold : s.tim.holdRate.natAbs ≤ 549755814) (hslew : (slewOf s).natAbs ≤ 109951162) :
    3575560274 ≤ wtInc s ∧ wtInc s < 2 * 2 ^ 32 := by
  have hnom := nominalInc_cases s.tim.phase
  have hlt := wtState_lt s
  rcases (by omega : wtState s = 1 ∨ wtState s = 2 ∨ wtState s = 3) with h | h | h
  · obtain ⟨hlo, hhi⟩ := scaleInc_bounds (nominalInc s.tim.phase) (by decide) hrate
    obtain ⟨hlo', hhi'⟩ := scaleInc_bounds (scaleInc (nominalInc s.tim.phase) (rateOf s (selOf s))) (by decide) hslew
    simp only [wtInc, h]
    omega
  · obtain ⟨hlo, hhi⟩ := scaleInc_bounds (nominalInc s.tim.phase) (by decide) hhold
    simp only [wtInc, h]
    omega
  · simp only [wtInc, h]
    omega

/-- Settles O7: an idle step is a cycle of the clocks, and the increment is within its bounds in each state of working time. -/
theorem workingTimeNeverStandsOrSteps : Obligations.WorkingTimeNeverStandsOrSteps := by
  intro s hidle h0 hrate hhold hslew
  refine ⟨tick s, wtInc s, step_idle hidle, ?_, wtInc_bounds h0 hrate hhold hslew⟩
  rw [tick_tim, tclk]

/-! ### The nominal rate (R67) -/

/-- Nothing waits, both domains run at the nominal rate and working time is FREE. -/
structure NominalFree (s : State) : Prop where
  idle : s.pending = []
  rateA : rd s 0x00060050 = 0
  rateB : rd s 0x00060070 = 0
  free : wtState s = 3

/-- A nominal TCLK cycle of the three clocks. -/
def nominalTim (t : Tim) : Tim :=
  { t with
    phase := (t.phase + 1) % 3
    domA := (t.domA + nominalInc t.phase) % clkWrap
    domB := (t.domB + nominalInc t.phase) % clkWrap
    wt := (t.wt + nominalInc t.phase) % clkWrap }

theorem rateOf_nominal {s : State} (hA : rd s 0x00060050 = 0) (hB : rd s 0x00060070 = 0) (d : Bool) : rateOf s d = 0 := by
  cases d
  · exact congrArg (fun w : Word => signed 32 w.toNat) hA
  · exact congrArg (fun w : Word => signed 32 w.toNat) hB

section
variable {s : State}

theorem NominalFree.tick_tim (h : NominalFree s) : (tick s).tim = nominalTim s.tim := by
  obtain ⟨_, hA, hB, hfree⟩ := h
  have hwt : wtInc s = nominalInc s.tim.phase := by simp only [wtInc, hfree]
  simp only [Machine.tick_tim, tclk, nominalTim, rateOf_nominal hA hB, scaleInc_zero, hwt]

theorem NominalFree.tick (h : NominalFree s) : NominalFree (tick s) where
  idle := (tick_pending s).trans h.idle
  rateA := (rd_tick s (quiet_tim (by decide) (by decide))).trans h.rateA
  rateB := (rd_tick s (quiet_tim (by decide) (by decide))).trans h.rateB
  free := (congrArg (fld · 27 26) (rd_tick s (quiet_tim (by decide) (by decide)))).trans h.free

end

/-- Three advances of a clock are one of their sum. -/
theorem advance_three (c a b d : Nat) : (((c + a) % clkWrap + b) % clkWrap + d) % clkWrap = (c + (a + b + d)) % clkWrap := by
  rw [Nat.mod_add_mod, Nat.add_assoc, Nat.mod_add_mod, Nat.add_assoc c, ← Nat.add_assoc a]

theorem nominalTim_three (t : Tim) :
    (nominalTim (nominalTim (nominalTim t))).domA = (t.domA + 5 * 2 ^ 31) % clkWrap ∧
    (nominalTim (nominalTim (nominalTim t))).domB = (t.domB + 5 * 2 ^ 31) % clkWrap ∧
    (nominalTim (nominalTim (nominalTim t))).wt = (t.wt + 5 * 2 ^ 31) % clkWrap := by
  have hphase : ((t.phase + 1) % 3 + 1) % 3 = (t.phase + 2) % 3 := Nat.mod_add_mod ..
  simp only [nominalTim, hphase, advance_three, nominalInc_three, and_self]

/-- Settles O5: an idle step of a nominal state is a nominal cycle of the clocks and leaves the state nominal. -/
theorem nominalRateAdvancesClocks : Obligations.NominalRateAdvancesClocks := by
  intro s hidle hphase hA hB hfree
  have h : NominalFree s := ⟨hidle, hA, hB, hfree⟩
  have hinc : (if s.tim.phase = 2 then 0xD5555556 else 0xD5555555) = nominalInc s.tim.phase := by
    rw [nominalInc, Nat.mod_eq_of_lt hphase]
  refine ⟨⟨tick s, step_idle hidle, ?_⟩, tick s, tick (tick s), tick (tick (tick s)), step_idle hidle,
    step_idle h.tick.idle, step_idle h.tick.tick.idle, ?_⟩
  · rw [h.tick_tim, hinc]
    exact ⟨rfl, rfl, rfl, rfl⟩
  · rw [h.tick.tick.tick_tim, h.tick.tick_tim, h.tick_tim]
    exact nominalTim_three s.tim

end Sys2Proof.Machine
end

section
/-! The commands of the time base (R68 to R81): rates, steps, the slew, the snapshot and the reads of a clock. -/

namespace Sys2Proof.Machine
open Sys2Proof

theorem clampI_of_within {lo hi i : Int} (hlo : lo ≤ i) (hhi : i ≤ hi) : clampI lo hi i = i := by
  rw [clampI, if_neg (Int.not_lt.2 hlo), if_neg (Int.not_lt.2 hhi)]

theorem clampI_of_above {lo hi i : Int} (hlo : lo ≤ i) (hhi : hi < i) : clampI lo hi i = hi := by
  rw [clampI, if_neg (Int.not_lt.2 hlo), if_pos hhi]

theorem clampI_of_below {lo hi i : Int} (h : i < lo) : clampI lo hi i = lo := if_pos h

/-- A word is the two's complement of its signed value. -/
theorem w32_unsigned_signed (w : Word) : w32 (unsigned 32 (signed 32 w.toNat)) = w := by
  have hw : unsigned 32 (signed 32 w.toNat) = w.toNat := by
    simp only [unsigned, signed]
    split <;> omega
  rw [hw, w32, BitVec.ofNat_toNat, BitVec.setWidth_eq]

/-! ### RATE (R68) -/

/-- The RATE register of a domain. -/
def rateKey (d : Bool) : Nat := if d then 0x00060070 else 0x00060050

section
variable {d : Bool} {rate : Word} {s : State}

theorem exec_rateWrite_within (h : (signed 32 rate.toNat).natAbs ≤ 549755814) :
    exec (.rateWrite .kiln d rate) s = .next (kept s (wr (rateKey d) rate s)) := by
  have hc : clampI (-549755814) 549755814 (signed 32 rate.toNat) = signed 32 rate.toNat :=
    clampI_of_within (by omega) (by omega)
  change execRateWrite .kiln d rate s = _
  simp only [execRateWrite, regCmd, decide_true, if_true, hc, w32_unsigned_signed, ne_eq, not_true, if_false, done_eq, rateKey]

/-- A rate that is saturated at c is stored as the two's complement n of c and sets RATE_SAT. -/
theorem exec_rateWrite_saturated {c : Int} {n : Nat} (hc : clampI (-549755814) 549755814 (signed 32 rate.toNat) = c)
    (hne : c ≠ signed 32 rate.toNat) (hn : unsigned 32 c = n) :
    exec (.rateWrite .kiln d rate) s = .next (kept s (raise (lfTim 5) (wr (rateKey d) (w32 n) s))) := by
  change execRateWrite .kiln d rate s = _
  simp only [execRateWrite, regCmd, decide_true, if_true, hc, ne_eq, hne, not_false_eq_true, hn, done_eq, rateKey]

end

/-! ### A domain's step (R69) -/

/-- A domain clock is set. -/
def setDomClk (d : Bool) (v : Nat) (s : State) : State :=
  { s with tim := if d then { s.tim with domB := v } else { s.tim with domA := v } }

theorem domClk_setDomClk (d : Bool) (v : Nat) (s : State) : domClk (setDomClk d v s) d = v := by cases d <;> rfl
theorem domClk_setDomClk_other (d : Bool) (v : Nat) (s : State) : domClk (setDomClk d v s) (!d) = domClk s (!d) := by
  cases d <;> rfl
theorem setDomClk_wt (d : Bool) (v : Nat) (s : State) : (setDomClk d v s).tim.wt = s.tim.wt := by cases d <;> rfl

/-- The signed step that a domain's two step registers hold, in units of 2^-32 ns. -/
def stepOf (s : State) (d : Bool) : Int :=
  (signed 32 (rd s (if d then 0x00060074 else 0x00060054)).toNat * 10 ^ 9
    + signed 32 (rd s (if d then 0x00060078 else 0x00060058)).toNat) * 2 ^ 32

theorem exec_domainStep_kiln (d : Bool) (s : State) :
    exec (.domainStep .kiln d) s =
      .next (kept s (setDomClk d (((domClk s d : Int) + stepOf s d) % (clkWrap : Int)).toNat s)) := by
  cases d <;> rfl

theorem toNat_emod_clkWrap (i : Int) : ((i % (clkWrap : Int)).toNat : Int) = i % (clkWrap : Int) :=
  Int.toNat_of_nonneg (Int.emod_nonneg _ (by decide))

/-! ### SLEW_UPDATE (R70) -/

/-- The slew's quotient with and without the common factor of 2^32. -/
theorem slewQuotient (dl n : Int) : (dl * 2 ^ 40).tdiv (2 ^ 32 * n) = (dl * 2 ^ 8).tdiv n := by
  have hnum : dl * 2 ^ 40 = 2 ^ 32 * (dl * 2 ^ 8) := by omega
  rw [hnum, Int.mul_tdiv_mul_of_pos _ _ (by decide)]

theorem exec_slewUpdate_tracking {s : State} (h : wtState s = 1) :
    exec .slewUpdate s = .next (kept s (wr 0x00060034 (w32 (unsigned 32 (clampI (-109951162) 109951162
        ((deltaOf s (selOf s) * 2 ^ 8).tdiv ((2 ^ min 10 (rdF s 0x00060014 13 10) : Nat) * 1000000)))))
      (wr 0x00060030 (w32 (unsigned 32 (clampI (-(2 ^ 31 - 1)) (2 ^ 31 - 1)
        ((deltaOf s (selOf s)).tdiv (2 ^ 32))))) s))) := by
  change execSlewUpdate s = _
  simp only [execSlewUpdate, h, Nat.one_ne_zero, if_true, if_false, done_eq]

/-! ### Snapshots and reads of a clock (R80, R81) -/

theorem exec_timSnap {q : Requester} {s : State} (h : hostOrKiln q = true) :
    exec (.timSnap q) s =
      .next (kept s (wrWords 0x000600B4 (clkWords s.tim.wt ++ clkWords s.tim.domA ++ clkWords s.tim.domB) s)) := by
  change execTimSnap q s = _
  rw [execTimSnap, h]
  rfl

/-- The word at key k of a clock has been read: its other two words are in the shadows. -/
def clockRead (k c : Nat) (s : State) : State :=
  setRdata (w32 (clkSub c)) (setShadows (k + 4) [w32 (clkSec c), w32 (clkFrac c * 2 ^ 16 + clkSec c / 2 ^ 32)] s)

theorem clockRead_shows (k c : Nat) (s u : State) :
    let t := kept u (clockRead k c s)
    t.rdata = w32 (clkSub c) ∧ shadow t (k + 4) = w32 (clkSec c) ∧
      shadow t (k + 8) = w32 (clkFrac c * 2 ^ 16 + clkSec c / 2 ^ 32) ∧ t.regs = s.regs ∧ t.tim = s.tim := by
  refine ⟨rfl, ?_, ?_, rfl, rfl⟩
  · exact (shadow_setShadow (k + 8) (k + 4) _ _).trans ((if_neg (by omega)).trans
      ((shadow_setShadow (k + 4) (k + 4) _ s).trans (if_pos rfl)))
  · exact (shadow_setShadow (k + 8) (k + 8) _ _).trans (if_pos rfl)

/-- Settles O8: each command's outcome is the lemma on what it does, and the clauses read the registers and clocks back. -/
theorem clockCommands : Obligations.ClockCommands := by
  refine ⟨fun d rate s => exec_rateWrite_within, fun d rate s h => ?_, fun d rate s h => ?_, fun d s => ?_, fun s h => ?_,
    fun q s => exec_timSnap, fun which s => ?_⟩
  · exact exec_rateWrite_saturated (clampI_of_above (by omega) h) (by omega) (by decide)
  · exact exec_rateWrite_saturated (clampI_of_below h) (by omega) (by decide)
  · refine ⟨_, exec_domainStep_kiln d s, ?_, domClk_setDomClk_other d _ s, setDomClk_wt d _ s, rfl⟩
    exact (congrArg Nat.cast (domClk_setDomClk d _ s)).trans (toNat_emod_clkWrap _)
  · refine ⟨_, exec_slewUpdate_tracking h, rfl, ?_, ?_⟩
    · rw [rd_kept, rd_wr_other (by decide), rd_wr_same]
    · rw [rd_kept, rd_wr_same, slewQuotient]
  · match which with
    | 0 => exact ⟨_, rfl, clockRead_shows 0x00060000 s.tim.wt s s⟩
    | 1 => exact ⟨_, rfl, clockRead_shows 0x00060080 s.tim.domA s s⟩
    | 2 => exact ⟨_, rfl, clockRead_shows 0x00060090 s.tim.domB s s⟩

end Sys2Proof.Machine
end

section
/-! Domain selection (R72 to R76): what a selection leaves alone, what initialisation and a domain's new state show, and the
commands. -/

namespace Sys2Proof.Machine
open Sys2Proof

/-! ### What a selection leaves alone -/

/-- The domain clocks and the fields of TIM_STATUS below those of working time are as they were. -/
structure DomainsKept (s t : State) : Prop where
  domA : t.tim.domA = s.tim.domA
  domB : t.tim.domB = s.tim.domB
  status : ∀ hi lo, hi < 24 → fld (rd t 0x00060010) hi lo = fld (rd s 0x00060010) hi lo

namespace DomainsKept
variable {s t u : State}

theorem refl (s : State) : DomainsKept s s := ⟨rfl, rfl, fun _ _ _ => rfl⟩

theorem trans (h : DomainsKept s t) (h' : DomainsKept t u) : DomainsKept s u :=
  ⟨h'.domA.trans h.domA, h'.domB.trans h.domB, fun hi lo hhi => (h'.status hi lo hhi).trans (h.status hi lo hhi)⟩

theorem of_tim_rd (htim : t.tim = s.tim) (hrd : rd t 0x00060010 = rd s 0x00060010) : DomainsKept s t :=
  ⟨congrArg Tim.domA htim, congrArg Tim.domB htim, fun hi lo _ => congrArg (fld · hi lo) hrd⟩

theorem domLocked_eq (h : DomainsKept s t) (d : Bool) : domLocked t d = domLocked s d := by
  cases d
  · exact congrArg (· == 2) (h.status 1 0 (by decide))
  · exact congrArg (· == 2) (h.status 9 8 (by decide))

end DomainsKept

theorem quiet_timStatus : quiet 0x00060010 := quiet_tim (by decide) (by decide)

@[simp] theorem setLive_tim (l : Nat) (v : Bool) (s : State) : (setLive l v s).tim = s.tim :=
  (congrArg State.tim (setLive_still l v s) :)

theorem withTim_domainsKept {s : State} {m : Tim} (hA : m.domA = s.tim.domA) (hB : m.domB = s.tim.domB) :
    DomainsKept s { s with tim := m } := ⟨hA, hB, fun _ _ _ => rfl⟩

theorem setLive_domainsKept (l : Nat) (v : Bool) (s : State) : DomainsKept s (setLive l v s) :=
  .of_tim_rd (setLive_tim l v s) (rd_setLive l v s quiet_timStatus)

theorem raise_domainsKept (l : Nat) (s : State) : DomainsKept s (raise l s) :=
  .of_tim_rd (raise_tim l s) (rd_raise l s quiet_timStatus)

theorem raiseLive_domainsKept (l : Nat) (s : State) : DomainsKept s (raiseLive l s) :=
  (setLive_domainsKept l true s).trans (raise_domainsKept l _)

theorem wr_domainsKept {k : Nat} (h : 0x00060010 ≠ k) (w : Word) (s : State) : DomainsKept s (wr k w s) :=
  .of_tim_rd rfl (rd_wr_other h w s)

/-- TIM_STATUS after WT_STATE and SEL are set. -/
theorem rd_setWt (st : Nat) (sel : Bool) (s : State) :
    rd (setWt st sel s) 0x00060010 = setFld (setBit (rd s 0x00060010) 25 sel) 27 26 st := by
  rw [setWt, rd_wrF, if_pos rfl, rd_wrB, if_pos rfl]

theorem setWt_domainsKept (st : Nat) (sel : Bool) (s : State) : DomainsKept s (setWt st sel s) :=
  ⟨rfl, rfl, fun hi lo hhi => by
    rw [rd_setWt, fld_setFld_other _ _ (by omega), fld_setBit_other _ _ (by omega)]⟩

/-- TIM_STATUS after a bit or a field above those of the domains is set. -/
theorem wrF_timStatus_domainsKept {hi lo : Nat} (h : 24 ≤ lo) (v : Nat) (s : State) :
    DomainsKept s (wrF 0x00060010 hi lo v s) :=
  ⟨rfl, rfl, fun hi' lo' hhi => by rw [rd_wrF, if_pos rfl, fld_setFld_other _ _ (by omega)]⟩

theorem coneLate_still (n : Nat) (s : State) : still (coneLate n s) = still s := raiseLive_still _ _

theorem rd_coneLate (n : Nat) (s : State) {k : Nat} (hlo : 0x00060000 ≤ k) (hhi : k < 0x000600E0) :
    rd (coneLate n s) k = rd s k := by
  have hne : k ≠ coneStatus n := by unfold coneStatus; omega
  rw [coneLate, rd_raiseLive _ _ (quiet_tim hlo hhi), rd_wrB, if_neg hne]

theorem conesLate_still (s : State) : still (conesLate s) = still s :=
  foldl_of (P := fun t => still t = still s) rfl fun _ _ h => still_ite ((coneLate_still _ _).trans h) h

theorem conesLate_tim (s : State) : (conesLate s).tim = s.tim := (congrArg State.tim (conesLate_still s) :)

theorem rd_conesLate (s : State) {k : Nat} (hlo : 0x00060000 ≤ k) (hhi : k < 0x000600E0) : rd (conesLate s) k = rd s k :=
  foldl_of (P := fun t => rd t k = rd s k) rfl fun _ _ h => rd_ite ((rd_coneLate _ _ hlo hhi).trans h) h

/-! ### Initialisation (R72) -/

section
variable (v st : Nat) (sel : Bool) (s : State)

theorem wtInit_tim : (wtInit v st sel s).tim = { s.tim with wt := v, initWait := false } := conesLate_tim _

theorem rd_wtInit_status : rd (wtInit v st sel s) 0x00060010 =
    setBit (setFld (setBit (rd s 0x00060010) 25 sel) 27 26 st) 31 true := by
  rw [wtInit, rd_conesLate _ (by decide) (by decide), rd_wr_other (by decide), rd_wrB, if_pos rfl, rd_setWt]
  rfl

theorem slewOf_wtInit : slewOf (wtInit v st sel s) = 0 := by
  rw [slewOf, wtInit, rd_conesLate _ (by decide) (by decide), rd_wr_same]
  rfl

theorem wtInit_domainsKept : DomainsKept s (wtInit v st sel s) :=
  ⟨by rw [wtInit_tim], by rw [wtInit_tim], fun hi lo hhi => by
    rw [rd_wtInit_status, fld_setBit_other _ _ (by omega), fld_setFld_other _ _ (by omega), fld_setBit_other _ _ (by omega)]⟩

theorem wtState_wtInit : wtState (wtInit v st sel s) = st % 4 := by
  rw [wtState, rd_wtInit_status, fld_setBit_other _ _ (by decide)]
  exact fld_setFld _ 27 26 st (by decide)

theorem selOf_wtInit : selOf (wtInit v st sel s) = sel := by
  rw [selOf, rd_wtInit_status, bit_setBit _ _ _ _ (by decide), if_neg (by decide), bit_setFld_other _ _ (by decide),
    bit_setBit _ _ _ _ (by decide), if_pos rfl]

theorem wtValid_wtInit : wtValid (wtInit v st sel s) = true := by
  rw [wtValid, rd_wtInit_status, bit_setBit _ _ _ _ (by decide), if_pos rfl]

end

/-! ### The selection's branches (R73 to R76) -/

theorem wtFollow_domainsKept (d : Bool) (s : State) : DomainsKept s (wtFollow d s) := by
  have hrevert : DomainsKept (setWt 1 d s) { setWt 1 d s with tim := { s.tim with revertRun := false } } :=
    withTim_domainsKept rfl rfl
  have hlive := ((setWt_domainsKept 1 d s).trans hrevert).trans (setLive_domainsKept (lfTim 1) false _)
  exact ite_of (P := DomainsKept s) (hlive.trans (raise_domainsKept _ _)) hlive

theorem wtRelock_domainsKept (d : Bool) (s : State) : DomainsKept s (wtRelock d s) :=
  ite_of (P := DomainsKept s) ((wtFollow_domainsKept d s).trans (raise_domainsKept _ _)) (wtFollow_domainsKept d s)

theorem wtHoldover_domainsKept (s : State) : DomainsKept s (wtHoldover s) := by
  have h : DomainsKept s { s with tim := { s.tim with holdRate := rateOf s (selOf s), revertRun := false } } :=
    withTim_domainsKept rfl rfl
  exact ((h.trans (wrF_timStatus_domainsKept (by decide) 2 _)).trans (wr_domainsKept (by decide) 0 _)).trans
    (raiseLive_domainsKept (lfTim 1) _)

theorem selAutoNow_domainsKept (s : State) : DomainsKept s (selAutoNow s) := by
  unfold selAutoNow
  split
  · exact .refl s
  · exact wtFollow_domainsKept true s
  · exact wtHoldover_domainsKept s
  · exact wtFollow_domainsKept false s
  · exact wtHoldover_domainsKept s
  · exact ⟨rfl, rfl, fun _ _ _ => rfl⟩
  · exact ⟨rfl, rfl, fun _ _ _ => rfl⟩

/-- A selection moves neither domain clock and no domain's state. -/
theorem reselect_domainsKept (s : State) : DomainsKept s (reselect s) := by
  unfold reselect
  split
  · split
    · exact ite_of (wtInit_domainsKept _ _ _ s) (.refl s)
    · exact .refl s
  · refine ite_of (ite_of (wtHoldover_domainsKept s) (ite_of (.refl s) (wtFollow_domainsKept _ s))) ?_
    refine ite_of (selAutoNow_domainsKept s) ?_
    exact ite_of (ite_of (wtFollow_domainsKept false s) (.refl s)) (wtHoldover_domainsKept s)
  · split
    · exact wtRelock_domainsKept _ s
    · exact .refl s

/-! ### A domain's new state (R72 to R75) -/

/-- The state that a domain shows: its new one, where it is enabled. -/
def domainCode (d : Bool) (st : Nat) (s : State) : Nat := if rdB s (if d then 0x00060044 else 0x00060040) 31 then st else 0

/-- TIM_STATUS shows a domain's new state, and its leaf follows it, before selection looks at it. -/
def domainNoted (d : Bool) (st : Nat) (s : State) : State :=
  let c := domainCode d st s
  let lf := lfTim (if d then 4 else 3)
  let t := setLive lf (rdB s (if d then 0x00060044 else 0x00060040) 31 && c != 2)
    (if d then wrF 0x00060010 9 8 c s else wrF 0x00060010 1 0 c s)
  if domLocked s d && c != 2 then raise lf t else t

theorem domainState_eq (d : Bool) (st : Nat) (s : State) : domainState d st s = reselect (domainNoted d st s) := rfl

section
variable (d : Bool) (st : Nat) (s : State)

theorem domainNoted_tim : (domainNoted d st s).tim = s.tim := by
  have h : ∀ l v c, (setLive l v (if d then wrF 0x00060010 9 8 c s else wrF 0x00060010 1 0 c s)).tim = s.tim := by
    intro l v c
    rw [setLive_tim]
    cases d <;> rfl
  exact ite_of (P := fun t : State => t.tim = s.tim) ((raise_tim _ _).trans (h ..)) (h ..)

/-- A quiet register is written as the domain's field in TIM_STATUS is, and by nothing else. -/
theorem rd_domainNoted {k : Nat} (hk : quiet k) : rd (domainNoted d st s) k =
    if k = 0x00060010 then setFld (rd s 0x00060010) (if d then 9 else 1) (if d then 8 else 0) (domainCode d st s)
    else rd s k := by
  have h : ∀ l v c, rd (setLive l v (if d then wrF 0x00060010 9 8 c s else wrF 0x00060010 1 0 c s)) k =
      if k = 0x00060010 then setFld (rd s 0x00060010) (if d then 9 else 1) (if d then 8 else 0) c else rd s k := by
    intro l v c
    rw [rd_setLive _ _ _ hk]
    cases d <;> exact rd_wrF ..
  exact (rd_ite (rd_raise _ _ hk) rfl).trans (h ..)

theorem rd_domainNoted_status : rd (domainNoted d st s) 0x00060010 =
    setFld (rd s 0x00060010) (if d then 9 else 1) (if d then 8 else 0) (domainCode d st s) :=
  rd_domainNoted d st s quiet_timStatus

theorem selectOf_domainNoted : selectOf (domainNoted d st s) = selectOf s :=
  congrArg (fld · 1 0) (rd_domainNoted d st s (quiet_tim (by decide) (by decide)))

theorem wtState_domainNoted : wtState (domainNoted d st s) = wtState s := by
  rw [wtState, rd_domainNoted_status, fld_setFld_other _ _ (by cases d <;> decide)]
  rfl

/-- The field of the domain shows its state. -/
theorem fld_domainNoted (hst : st < 4) : fld (rd (domainNoted d st s) 0x00060010) (if d then 9 else 1) (if d then 8 else 0) =
    domainCode d st s := by
  have hc : domainCode d st s < 4 := ite_of (P := (· < 4)) hst (by decide)
  rw [rd_domainNoted_status]
  cases d
  · exact (fld_setFld _ 1 0 _ (by decide)).trans (Nat.mod_eq_of_lt hc)
  · exact (fld_setFld _ 9 8 _ (by decide)).trans (Nat.mod_eq_of_lt hc)

end

/-- An enabled domain A that is noted LOCKED is. -/
theorem domLocked_domainNoted {s : State} (hen : rdB s 0x00060040 31 = true) :
    domLocked (domainNoted false 2 s) false = true := by
  have hcode : domainCode false 2 s = 2 := if_pos hen
  exact beq_iff_eq.2 ((fld_domainNoted false 2 s (by decide)).trans hcode)

/-- Domain A is taken for a working time that has none. -/
theorem reselect_init {s : State} (h0 : wtState s = 0) (hselect : selectOf s = 0) (hlocked : domLocked s false = true)
    (hwait : s.tim.initWait = true) : reselect s = wtInit s.tim.domA 1 false s := by
  simp only [reselect, wtCandidate, h0, hselect, hlocked, hwait, if_true, domClk, Bool.false_eq_true, if_false]

/-! ### Commands -/

section
variable {q : Requester} {s : State}

theorem exec_initWaitExpiry (hwait : s.tim.initWait = true) (h0 : wtState s = 0) :
    exec .initWaitExpiry s = .next (kept s (wtInit
      (clkOfWords (rd s 0x00060020).toNat (rd s 0x00060024).toNat (rd s 0x00060028).toNat % clkWrap) 3 false s)) := by
  change execInitWaitExpiry s = _
  simp only [execInitWaitExpiry, hwait, h0, BEq.rfl, Bool.and_self, if_true, done_eq]

theorem exec_revertHoldExpiry (hrun : s.tim.revertRun = true) (h1 : wtState s = 1) (hselect : selectOf s = 0)
    (hauto : autoSel s = true) (hsel : selOf s = true) (hA : domLocked s false = true) (hB : domLocked s true = true) :
    exec .revertHoldExpiry s = .next (kept s (wtFollow false s)) := by
  change execRevertHoldExpiry s = _
  simp only [execRevertHoldExpiry, hrun, h1, hselect, hauto, hsel, hA, hB, BEq.rfl, Bool.and_self, if_true, done_eq]

theorem exec_selForceA (h : hostRights q = true) : exec (.selForceA q) s = .next (kept s (selForce false s)) := by
  change execSelForceA q s = _
  rw [execSelForceA, h]
  rfl

theorem exec_selForceB (h : hostRights q = true) : exec (.selForceB q) s = .next (kept s (selForce true s)) := by
  change execSelForceB q s = _
  rw [execSelForceB, h]
  rfl

theorem selForce_locked {d : Bool} (h : domLocked s d = true) :
    selForce d s = reselect (wrB 0x00060010 24 true (wrF 0x000600A0 1 0 (if d then 2 else 1) s)) := if_pos h

theorem selForce_refused {d : Bool} (h : domLocked s d = false) : selForce d s = wrB 0x000600A0 31 true s :=
  if_neg (Bool.eq_false_iff.1 h)

theorem exec_selAuto (h : hostRights q = true) :
    exec (.selAuto q) s = .next (kept s (reselect (wrB 0x00060010 24 false (wrF 0x000600A0 1 0 0 s)))) := by
  change execSelAuto q s = _
  rw [execSelAuto, h]
  rfl

theorem exec_autoSelEnable (h : hostOrKiln q = true) (hopen : locked s = false) :
    exec (.autoSelEnable q) s = .next (kept s (reselect (wrB 0x00060014 24 true s))) := by
  change execAutoSelEnable q s = _
  simp only [execAutoSelEnable, regCmd, h, hopen, if_true, Bool.false_eq_true, if_false, done_eq]

end

/-- Settles O9: a domain's state is noted and then the selection runs, which leaves the domains alone; initialisation shows
its values whichever Cones it finds late. -/
theorem domainSelection : Obligations.DomainSelection := by
  refine ⟨fun d st s => ?_, fun s h0 hwait _ _ hselect hen => ?_, fun s hwait h0 _ => ?_,
    fun s => exec_revertHoldExpiry, fun q s h hA => ?_, fun q s h hB => ?_, fun q s h hA hB => ⟨?_, ?_⟩,
    fun q s => exec_selAuto, fun q s => exec_autoSelEnable⟩
  · have hkept := reselect_domainsKept (domainNoted d st s)
    have htim := domainNoted_tim d st s
    have hshown := (hkept.status (if d then 9 else 1) (if d then 8 else 0) (by cases d <;> decide)).trans
      (fld_domainNoted d st s st.isLt)
    refine ⟨kept s (domainState d st s), rfl, hkept.domA.trans (congrArg Tim.domA htim),
      hkept.domB.trans (congrArg Tim.domB htim), ?_⟩
    cases d
    · exact hshown
    · exact hshown
  · have hlocked := domLocked_domainNoted hen
    have htim := domainNoted_tim false 2 s
    have hinit := reselect_init ((wtState_domainNoted false 2 s).trans h0) ((selectOf_domainNoted false 2 s).trans hselect)
      hlocked ((congrArg Tim.initWait htim).trans hwait)
    refine ⟨kept s (reselect (domainNoted false 2 s)), rfl, ?_⟩
    rw [hinit]
    exact ⟨(congrArg Tim.wt (wtInit_tim ..)).trans (congrArg Tim.domA htim), wtState_wtInit .., selOf_wtInit ..,
      wtValid_wtInit .., ((wtInit_domainsKept ..).domLocked_eq false).trans hlocked, slewOf_wtInit ..⟩
  · exact ⟨_, exec_initWaitExpiry hwait h0, congrArg Tim.wt (wtInit_tim ..), wtState_wtInit .., wtValid_wtInit ..,
      slewOf_wtInit ..⟩
  · rw [exec_selForceA h, selForce_locked hA]
    rfl
  · rw [exec_selForceB h, selForce_locked hB]
    rfl
  · rw [exec_selForceA h, selForce_refused hA]
  · rw [exec_selForceB h, selForce_refused hB]

end Sys2Proof.Machine
end

section
/-! The common engine of a flexport (R92 to R104): what its pending slot, its queues and the shadows hold after a write, and its
commands. -/

namespace Sys2Proof.Machine
open Sys2Proof

/-- A register command of a permitted requester is carried out (R576). -/
theorem regCmd_permitted {q : Requester} {ok : Bool} {off : Nat} {f : State → State} {s : State} (h : ok = true) :
    regCmd q ok off f s = f s := if_pos h

/-! ### The slot, the queues and the shadows after a write -/

@[simp] theorem port_setPort (n : Nat) (p : FxpPort) (s : State) : port (setPort n p s) n = p := by
  by_cases hp : p = {}
  · simp only [port, setPort, hp, if_true, tblGet_erase]
  · simp only [port, setPort, hp, if_false, tblGet_set, if_true]

@[simp] theorem fxq_setFxq (n q : Nat) (l : List FxpItem) (s : State) : fxq (setFxq n q l s) n q = l := by
  by_cases hl : l = []
  · simp only [fxq, setFxq, hl, if_true, tblGet_erase]
  · simp only [fxq, setFxq, hl, if_false, tblGet_set, if_true]

@[simp] theorem fxq_setPort (m : Nat) (p : FxpPort) (s : State) (n q : Nat) : fxq (setPort m p s) n q = fxq s n q := rfl
@[simp] theorem port_emit (o : Out) (s : State) (n : Nat) : port (emit o s) n = port s n := rfl
@[simp] theorem port_kept (u s : State) (n : Nat) : port (kept u s) n = port s n := rfl

/-- Two consecutive shadow words hold what they were set to. -/
theorem shadow_setShadows_pair (k : Nat) (a b : Word) (s : State) :
    shadow (setShadows k [a, b] s) k = a ∧ shadow (setShadows k [a, b] s) (k + 4) = b := by
  simp only [setShadows, shadow_setShadow, if_true, if_neg (show ¬ k = k + 4 by omega), and_self]

/-! ### A selection point (R99) -/

/-- An empty pending slot has nothing to return to a queue. -/
theorem requeuePending_empty {n : Nat} {s : State} (h : (port s n).pend = none) : requeuePending n s = s := by
  simp only [requeuePending, h]

theorem selectPending_empty {n q : Nat} {it : FxpItem} {s : State} (hpend : (port s n).pend = none)
    (hhead : fxqHighest s n (fun q => !held s n q) = some (q, it)) : selectPending n s = takePending n q it false s := by
  simp only [selectPending, hhead, hpend]

/-- An empty slot takes the head of a queue. -/
theorem takePending_empty {n : Nat} {s : State} (h : (port s n).pend = none) (q : Nat) (it : FxpItem) (grp : Bool) :
    takePending n q it grp s =
      setPort n { port s n with pend := some (q, it), errs := it.errs, grp := grp } (setFxq n q ((fxq s n q).drop 1) s) := by
  rw [takePending, requeuePending_empty h]

section
variable {n : Nat} {s : State} (h : (port s n).pend = none) (q : Nat) (it : FxpItem) (grp : Bool)
include h

theorem port_takePending :
    port (takePending n q it grp s) n = { port s n with pend := some (q, it), errs := it.errs, grp := grp } := by
  rw [takePending_empty h, port_setPort]

/-- The queue loses its head. -/
theorem fxq_takePending : fxq (takePending n q it grp s) n q = (fxq s n q).drop 1 := by
  rw [takePending_empty h, fxq_setPort, fxq_setFxq]

theorem takePending_out : (takePending n q it grp s).out = s.out := by
  rw [takePending_empty h]
  rfl

theorem persOf_takePending (m : Nat) : persOf (takePending n q it grp s) m = persOf s m := by
  rw [takePending_empty h]
  rfl

end

theorem txStart_pending {n q : Nat} {it : FxpItem} {s : State} (hpend : (port s n).pend = some (q, it))
    (hspic : persOf s n ≠ 5) :
    txStart n s = emit (.fieldStart n it.frame) (setPort n { port s n with txing := true } s) := by
  simp only [txStart, hpend, beq_eq_false_iff_ne.2 hspic, Bool.false_and, Bool.false_eq_true, if_false]

/-- A port that is free to transmit and serves no lock group fills its slot from its queues and starts. -/
theorem selectionPoint_free {n : Nat} {s : State} (htake : canTake s n = true) (hidle : (port s n).txing = false)
    (hretry : lgRetryOf s n = none) (hlate : lgLateOf s n = none) : selectionPoint n s = txStart n (selectPending n s) := by
  simp only [selectionPoint, htake, hidle, hretry, hlate, Bool.not_true, Bool.or_self, Bool.false_eq_true, if_false]

/-! ### Enabling (R92, R96) -/

theorem engineEnable_good {n : Nat} {s : State} (hregion : fxpPermitted s n = true) (hcfg : persBad s n = false)
    (hpins : lent s n = false) :
    engineEnable n s = engineStart n (setLive (lfFxp n 2) false (wrB (fxpBase n) 31 true s)) := by
  simp only [engineEnable, hregion, hcfg, hpins, Bool.not_true, Bool.or_self, Bool.false_eq_true, if_false]

theorem engineEnable_badConfig {n : Nat} {s : State} (hregion : fxpPermitted s n = true) (hcfg : persBad s n = true) :
    engineEnable n s = raiseLive (lfFxp n 2) s := by
  simp only [engineEnable, hregion, hcfg, Bool.not_true, Bool.true_or, Bool.false_eq_true, if_false, if_true]

/-! ### Commands -/

section
variable {q : Requester} {n : Fin 128} {s : State}

theorem exec_fxpEnable (h : hostOrKiln q = true) (hoff : rdB s (fxpBase n) 31 = false) :
    exec (.fxpEnable q n) s = .next (kept s (engineEnable n s)) := by
  change execFxpEnable q n s = _
  simp only [execFxpEnable, regCmd_permitted h, hoff, Bool.false_eq_true, if_false, done_eq]

theorem exec_fxpDisable_idle (h : hostOrKiln q = true) (hon : rdB s (fxpBase n) 31 = true) (hidle : (port s n).txing = false) :
    exec (.fxpDisable q n false) s = .next (kept s (engineStop n false (wrB (fxpBase n) 31 false s))) := by
  have hidle' : (port (wrB (fxpBase n) 31 false s) n).txing = false := hidle
  change execFxpDisable q n false s = _
  simp only [execFxpDisable, regCmd_permitted h, hon, hidle', Bool.or_self, Bool.false_eq_true, if_false, if_true, done_eq]

/-- A busy port is left to end its frame. -/
theorem exec_fxpDisable_busy (h : hostOrKiln q = true) (hon : rdB s (fxpBase n) 31 = true) :
    exec (.fxpDisable q n true) s =
      .next (kept s (setPort n { port s n with quiesce := true, disabling := true } (wrB (fxpBase n) 31 false s))) := by
  change execFxpDisable q n true s = _
  simp only [execFxpDisable, regCmd_permitted h, hon, Bool.true_or, if_true, done_eq]
  rfl

theorem exec_clusterPortIdle (hq : (port s n).quiesce = true) (hidle : (port s n).txing = false) :
    exec (.clusterPortIdle n) s = .next (kept s (clusterQuiet n (engineStop n false s))) := by
  change execClusterPortIdle n s = _
  simp only [execClusterPortIdle, hq, hidle, Bool.not_false, Bool.and_self, if_true, done_eq]

theorem exec_clusterQuiesceTimeout (hq : (port s n).quiesce = true) :
    exec (.clusterQuiesceTimeout n) s = .next (kept s (clusterQuiet n (engineStop n true s))) := by
  change execClusterQuiesceTimeout n s = _
  simp only [execClusterQuiesceTimeout, hq, if_true, done_eq]

theorem exec_fxpSelect (ht1s : persOf s n ≠ 3) : exec (.fxpSelect n) s = .next (kept s (selectionPoint n s)) := by
  change execFxpSelect n s = _
  simp only [execFxpSelect, ht1s, if_false, done_eq]

theorem exec_fxpTxSuccess {age i : Nat} {it : FxpItem} {d : Option Nat} (hpend : (port s n).pend = some (i, it))
    (htx : (port s n).txing = true) (hcan : persOf s n ≠ 1) (hspic : persOf s n ≠ 5) :
    exec (.fxpTxSuccess n age d) s = .next (kept s (txSuccess n i (stampAgo s age) s)) := by
  change execFxpTxSuccess n age d s = _
  simp only [execFxpTxSuccess, hpend, htx, hcan, hspic, if_false, done_eq]

/-- FPn_D of a CANX port that monitors it falls (R113). -/
theorem exec_trxFlag_canxFalls (hcan : persOf s n = 1) (hmon : rdB s (persReg s n 0x100) 18 = true)
    (hwas : (port s n).dPin = true) :
    exec (.trxFlag n false) s = .next (kept s
      (raise (lfFxp n 13) (setLive (lfFxp n 13) true (setPort n { port s n with dPin := false } s)))) := by
  have hcan' : persOf (setPort n { port s n with dPin := false } s) n = 1 := hcan
  have hmon' : bit (rd (setPort n { port s n with dPin := false } s)
      (persReg (setPort n { port s n with dPin := false } s) n 0x100)) 18 = true := hmon
  change execTrxFlag n false s = _
  simp only [execTrxFlag, hcan', hmon', hwas, BEq.rfl, Bool.and_self, Bool.true_or, Bool.not_false, if_true, done_eq]

/-- A port with neither a CAN nor a LIN transceiver only notes the level of FPn_D. -/
theorem exec_trxFlag_unmonitored (level : Bool) (hcan : persOf s n ≠ 1) (hlin : persOf s n ≠ 2) :
    exec (.trxFlag n level) s = .next (kept s (setPort n { port s n with dPin := level } s)) := by
  have hcan' : (persOf (setPort n { port s n with dPin := level } s) n == 1) = false := beq_eq_false_iff_ne.2 hcan
  have hlin' : (persOf (setPort n { port s n with dPin := level } s) n == 2) = false := beq_eq_false_iff_ne.2 hlin
  change execTrxFlag n level s = _
  simp only [execTrxFlag, hcan', hlin', Bool.false_and, Bool.or_self, Bool.false_eq_true, if_false, done_eq]

end

/-- The state after a read of the transmit timestamp: its other words in the shadows, NEW cleared (R104). -/
def txtsTaken (n : Nat) (s : State) : State :=
  setRdata (rd s (fxpBase n + 0x20)) (wrB (fxpBase n + 0x28) 31 false
    (setShadows (fxpBase n + 0x24) [rd s (fxpBase n + 0x24), rd s (fxpBase n + 0x28)] s))

theorem exec_txtsRead (n : Fin 128) (s : State) : exec (.txtsRead n) s = .next (kept s (txtsTaken n s)) := rfl

theorem shadow_txtsTaken (n : Nat) (s : State) (k : Nat) : shadow (txtsTaken n s) k =
    shadow (setShadows (fxpBase n + 0x24) [rd s (fxpBase n + 0x24), rd s (fxpBase n + 0x28)] s) k := rfl

theorem rdB_txtsTaken_new (n : Nat) (s : State) : rdB (txtsTaken n s) (fxpBase n + 0x28) 31 = false :=
  rdB_wrB _ 31 false (setShadows _ _ s) (by decide)

/-- Settles O18: each command's outcome is the lemma on what it does; the selection point's new frame and the timestamp's
shadows are read back. -/
theorem flexportEngineCommands : Obligations.FlexportEngineCommands := by
  refine ⟨fun q n s => exec_fxpEnable, fun n s => engineEnable_good, fun n s => engineEnable_badConfig,
    fun q n s => exec_fxpDisable_idle, fun q n s => exec_fxpDisable_busy, fun n s => exec_clusterPortIdle,
    fun n s => exec_clusterQuiesceTimeout, fun n q it s ht1s hspic htake hidle hpend hretry hlate hhead => ?_,
    fun n age q it d s => exec_fxpTxSuccess, fun n q ts s => rfl, fun n s => ?_, fun n s => exec_trxFlag_canxFalls,
    fun n level s => exec_trxFlag_unmonitored level⟩
  · have htaken : port (takePending n q it false s) n = _ := port_takePending hpend q it false
    have hpers : persOf (takePending n q it false s) n ≠ 5 := by
      rw [persOf_takePending hpend]
      exact hspic
    have hstart := txStart_pending (congrArg FxpPort.pend htaken) hpers
    refine ⟨_, exec_fxpSelect ht1s, ?_⟩
    rw [selectionPoint_free htake hidle hretry hlate, selectPending_empty hpend hhead, hstart]
    refine ⟨?_, ?_, congrArg (Out.fieldStart n it.frame :: ·) (takePending_out hpend q it false),
      fxq_takePending hpend q it false⟩
    · rw [port_kept, port_emit, port_setPort, htaken]
    · rw [port_kept, port_emit, port_setPort]
  · obtain ⟨hsec, hinfo⟩ := shadow_setShadows_pair (fxpBase n + 0x24) (rd s (fxpBase n + 0x24)) (rd s (fxpBase n + 0x28)) s
    exact ⟨_, exec_txtsRead n s, rfl, (shadow_txtsTaken n s _).trans hsec, (shadow_txtsTaken n s _).trans hinfo,
      rdB_txtsTaken_new n s⟩

end Sys2Proof.Machine
end

section
/-! The CANX personality (R97, R102, R115 to R122): where its registers lie, what a classical frame does in each operating
state, and the commands. -/

namespace Sys2Proof.Machine
open Sys2Proof

/-! ### Personality registers (R95) -/

/-- A flexport's personality registers lie in the storage of the personality it runs. -/
theorem persReg_eq {n o : Nat} (hn : n < 128) (hlo : 0x100 ≤ o) (hhi : o < 0x1000) (s : State) :
    persReg s n o = persKey (if persOf s n = 0 then 8 else persOf s n) (fxpBase n + o) := by
  have hin : 0x00100000 ≤ fxpBase n + o ∧ fxpBase n + o < 0x00180000 ∧ 0x100 ≤ (fxpBase n + o) % 0x1000 := by
    unfold fxpBase; omega
  have hport : (fxpBase n + o - 0x00100000) / 0x1000 = n := by unfold fxpBase; omega
  rw [persReg, keyOf, if_pos hin, hport]

/-- No personality register is a register of BAR0's own storage. -/
theorem persReg_ge {n o : Nat} (hn : n < 128) (hlo : 0x100 ≤ o) (hhi : o < 0x1000) (s : State) : 2 ^ 28 ≤ persReg s n o := by
  rw [persReg_eq hn hlo hhi, persKey]
  split <;> omega

section
variable {n o : Nat} (hn : n < 128) (hlo : 0x100 ≤ o) (hhi : o < 0x1000) (w : Word) (s : State)
include hn hlo hhi

/-- A write of a personality register leaves the port's personality as it was. -/
theorem persOf_wr_persReg : persOf (wr (persReg s n o) w s) n = persOf s n := by
  have hge := persReg_ge hn hlo hhi s
  rw [persOf, rd_wr_other (by omega)]
  rfl

/-- A write of a personality register other than CANX_STATUS leaves the operating state as it was. -/
theorem opState_wr_persReg (hne : o ≠ 0x118) : opState (wr (persReg s n o) w s) n = opState s n := by
  have hstatus : 0x100 ≤ 0x118 ∧ 0x118 < 0x1000 := by decide
  have hkey : persReg (wr (persReg s n o) w s) n 0x118 = persReg s n 0x118 := by
    rw [persReg_eq hn hstatus.1 hstatus.2, persOf_wr_persReg hn hlo hhi, persReg_eq hn hstatus.1 hstatus.2]
  have hother : persReg s n 0x118 ≠ persReg s n o := by
    rw [persReg_eq hn hstatus.1 hstatus.2, persReg_eq hn hlo hhi, persKey, persKey]
    omega
  rw [opState, hkey, rd_wr_other hother]
  rfl

end

/-- FREEZE does not tell the operating state (R119, R122). -/
theorem opState_freezeSet (n : Fin 128) (v : Bool) (s : State) :
    opState (wrB (persReg s n 0x11C) 0 v s) n = opState s n :=
  opState_wr_persReg n.isLt (by decide) (by decide) _ s (by decide)

/-! ### FREEZE (R119, R122) -/

section
variable {n : Fin 128} {s : State}

theorem canxFreeze_idle (hactive : opState s n = 2) (hidle : (port s n).txing = false) :
    canxFreeze n false s = canxFrozen n (wrB (persReg s n 0x11C) 0 true s) := by
  have hidle' : (port (wrB (persReg s n 0x11C) 0 true s) n).txing = false := hidle
  simp only [canxFreeze, opState_freezeSet, hactive, hidle', BEq.rfl, Bool.not_false, Bool.and_self, Bool.true_or, if_true]

theorem canxFreeze_busy (hactive : opState s n = 2) : canxFreeze n true s = wrB (persReg s n 0x11C) 0 true s := by
  have hjoined : (2 == 1) = false := rfl
  simp only [canxFreeze, opState_freezeSet, hactive, hjoined, Bool.not_true, Bool.and_false, Bool.false_and, Bool.or_self,
    Bool.false_eq_true, if_false]

theorem canxUnfreeze_frozen (hfrozen : opState s n = 5) :
    canxUnfreeze n s = setOp n 1 (wrB (persReg s n 0x11C) 0 false s) := by
  simp only [canxUnfreeze, opState_freezeSet, hfrozen, BEq.rfl, if_true]

end

/-! ### A frame is received (R97, R119 to R121) -/

/-- What a valid classical frame does to a port on its bus: in FROZEN it wakes the port or is counted, else it is handed off,
and in ACTIVE it counts in REC. -/
def classicalRx (n : Nat) (f : FieldFrame) (age : Nat) (s : State) : State :=
  let rx : RxFrame := { frame := f, ts := stampAgo s age }
  if opState s n = 5 then (if wakeMatch s n f then canWake n rx s else bump (fxpCtr n 5) s)
  else if opState s n = 2 then canxFrameEnd n (recSuccess n (canHandOff n rx s))
  else canHandOff n rx s

section
variable {q : Requester} {n : Fin 128} {f : FieldFrame} {age : Nat} {s : State}

theorem exec_canxRxFrame_classical (hcan : persOf s n = 1) (hbus : onBus s n = true)
    (hst : opState s n = 2 ∨ opState s n = 3 ∨ opState s n = 4 ∨ opState s n = 5) (hinj : injFor s 0x0F n = false)
    (hcc : f.fmt = .cc) : exec (.canxRxFrame n f age) s = .next (kept s (nmwSettle (classicalRx n f age s))) := by
  have hon : ¬ (persOf s n ≠ 1 ∨ onBus s n = false ∨
      (opState s n ≠ 2 ∧ opState s n ≠ 3 ∧ opState s n ≠ 4 ∧ opState s n ≠ 5)) := by
    rw [hcan, hbus]
    simp only [ne_eq, not_true_eq_false, Bool.true_eq_false, false_or]
    omega
  have hfd : (FrameFmt.cc == FrameFmt.fd) = false := rfl
  have hxl : (FrameFmt.cc == FrameFmt.xl) = false := rfl
  have hself : (FrameFmt.cc != FrameFmt.cc) = false := rfl
  change execCanxRxFrame n f age s = _
  simp only [execCanxRxFrame, classicalRx, if_neg hon, hinj, hcc, hfd, hxl, hself, Bool.false_and, Bool.or_self,
    Bool.false_eq_true, if_false, done_eq]

theorem classicalRx_active (h : opState s n = 2) :
    classicalRx n f age s = canxFrameEnd n (recSuccess n (canHandOff n { frame := f, ts := stampAgo s age } s)) := by
  have hthawed : ¬ opState s n = 5 := by omega
  rw [classicalRx, if_neg hthawed, if_pos h]

/-- A port that only listens hands its frames off without a count in REC. -/
theorem classicalRx_listening (h : opState s n = 3 ∨ opState s n = 4) :
    classicalRx n f age s = canHandOff n { frame := f, ts := stampAgo s age } s := by
  have hthawed : ¬ opState s n = 5 := by omega
  have hpassive : ¬ opState s n = 2 := by omega
  rw [classicalRx, if_neg hthawed, if_neg hpassive]

theorem classicalRx_frozen (h : opState s n = 5) (hmask : wakeMatch s n f = false) :
    classicalRx n f age s = bump (fxpCtr n 5) s := by
  simp only [classicalRx, h, hmask, if_true, Bool.false_eq_true, if_false]

/-! ### Commands -/

theorem exec_canxArbLost (hcan : persOf s n = 1) (htx : (port s n).txing = true) :
    exec (.canxArbLost n) s = .next (kept s (let u := bump (persCtr s n 5) (lgFail n true s)
      setPort n { port u n with txing := false, grp := false } u)) := by
  change execCanxArbLost n s = _
  simp only [execCanxArbLost, hcan, htx, and_self, if_true, done_eq]

section
variable {e : CanErr} {tx x ex hv : Bool}

theorem exec_canxError_thawed (hcan : persOf s n = 1) (hbus : onBus s n = true) (hst : opState s n ≠ 5) :
    exec (.canxError n e tx x ex hv none) s = .next (kept s (canError n e tx x ex hv s)) := by
  change execCanxError n e tx x ex hv none s = _
  simp only [execCanxError, hcan, hbus, hst, ne_eq, not_true_eq_false, Bool.true_eq_false, or_self, if_false, done_eq]

theorem exec_canxError_frozen (hcan : persOf s n = 1) (hbus : onBus s n = true) (hst : opState s n = 5) :
    exec (.canxError n e tx x ex hv none) s = .next (kept s (bump (persCtr s n 9) s)) := by
  change execCanxError n e tx x ex hv none s = _
  simp only [execCanxError, hcan, hbus, hst, ne_eq, not_true_eq_false, Bool.true_eq_false, or_self, if_false, if_true, done_eq]

end

theorem exec_boffDelayExpiry (hcan : persOf s n = 1) (hoff : opState s n = 6) (hmode : rdF s (persReg s n 0x100) 23 22 = 1) :
    exec (.boffDelayExpiry n) s = .next (kept s (setPort n { port s n with recovering := true } s)) := by
  change execBoffDelayExpiry n s = _
  simp only [execBoffDelayExpiry, hcan, hoff, hmode, and_self, if_true, done_eq]

theorem exec_canxRecover (h : hostOrKiln q = true) (hcan : persOf s n = 1) (hoff : opState s n = 6)
    (hmode : rdF s (persReg s n 0x100) 23 22 = 2) :
    exec (.canxRecover q n) s = .next (kept s (setPort n { port s n with recovering := true } s)) := by
  change execCanxRecover q n s = _
  simp only [execCanxRecover, regCmd_permitted h, hcan, hoff, hmode, and_self, if_true, done_eq]

theorem exec_busOn (hcan : persOf s n = 1) (hoff : opState s n = 6) (hrec : (port s n).recovering = true) :
    exec (.busOn n) s = .next (kept s (raise (lfFxp n 11) (setLive (lfFxp n 10) false
      (canxIntegrate n (setErrCtrs n 0 0 (setPort n { port s n with recovering := false } s)))))) := by
  change execBusOn n s = _
  simp only [execBusOn, hcan, hoff, hrec, and_self, if_true, done_eq]

theorem exec_canxIntegrated (hcan : persOf s n = 1) (hbus : onBus s n = true) (hst : opState s n = 1) :
    exec (.canxIntegrated n) s = .next (kept s (setOp n (if rdB s (persReg s n 0x100) 26 then 3
      else if rdB s (persReg s n 0x100) 25 then 4 else 2) s)) := by
  change execCanxIntegrated n s = _
  simp only [execCanxIntegrated, hcan, hbus, hst, and_self, if_true, done_eq]
  rfl

theorem exec_canxFreeze (h : hostOrKiln q = true) (hcan : persOf s n = 1) (busy : Bool) :
    exec (.canxFreeze q n busy) s = .next (kept s (canxFreeze n busy s)) := by
  change execCanxFreeze q n busy s = _
  simp only [execCanxFreeze, regCmd_permitted h, hcan, if_true, done_eq]

theorem exec_canxUnfreeze (h : hostOrKiln q = true) (hcan : persOf s n = 1) :
    exec (.canxUnfreeze q n) s = .next (kept s (canxUnfreeze n s)) := by
  change execCanxUnfreeze q n s = _
  simp only [execCanxUnfreeze, regCmd_permitted h, hcan, if_true, done_eq]

end

/-- Settles O19: a classical frame's effect is told by the operating state, which a write of FREEZE leaves alone; the other
commands' outcomes are the lemmas on what they do. -/
theorem canCommands : Obligations.CanCommands := by
  refine ⟨fun n f age s hcan hbus hst hinj hcc => ?_, fun n f age s hcan hbus hst hinj hcc => ?_,
    fun n f age s hcan hbus hst hinj hcc hmask => ?_, fun n s => exec_canxArbLost,
    fun n e tx x ex hv s => exec_canxError_thawed, fun n e tx x ex hv s => exec_canxError_frozen,
    fun n s => exec_boffDelayExpiry, fun q n s => exec_canxRecover, fun n s => exec_busOn, fun n s => exec_canxIntegrated,
    fun q n s h hcan hst hidle => ⟨_, ?_, rfl⟩, fun q n s h hcan hst => ?_, fun q n s h hcan hst => ?_⟩
  · rw [exec_canxRxFrame_classical hcan hbus (by omega) hinj hcc, classicalRx_active hst]
  · rw [exec_canxRxFrame_classical hcan hbus (by omega) hinj hcc, classicalRx_listening hst]
  · rw [exec_canxRxFrame_classical hcan hbus (by omega) hinj hcc, classicalRx_frozen hst hmask]
  · rw [exec_canxFreeze h hcan, canxFreeze_idle hst hidle]
  · rw [exec_canxFreeze h hcan, canxFreeze_busy hst]
  · rw [exec_canxUnfreeze h hcan, canxUnfreeze_frozen hst]

end Sys2Proof.Machine
end

section
/-! The LIN personality (R125 to R132): what the tables hold after the engine's state is set, a slot, a received header and
response, and the commands. -/

namespace Sys2Proof.Machine
open Sys2Proof

/-! ### The engine's state is no register -/

@[simp] theorem linEnt_setPort (m : Nat) (p : FxpPort) (s : State) (n i : Nat) :
    linEnt (setPort m p s) n i = linEnt s n i := rfl
@[simp] theorem injFor_setPort (m : Nat) (p : FxpPort) (s : State) (det i : Nat) :
    injFor (setPort m p s) det i = injFor s det i := rfl
@[simp] theorem stampAgo_setPort (m : Nat) (p : FxpPort) (s : State) (age : Nat) :
    stampAgo (setPort m p s) age = stampAgo s age := rfl
@[simp] theorem port_wrF (k hi lo v : Nat) (s : State) (n : Nat) : port (wrF k hi lo v s) n = port s n := rfl

/-! ### A commander's slot (R126 to R128) -/

/-- Without a requested table the commander stays with the one it runs. -/
theorem linSwitch_none {n : Nat} {s : State} (h : (port s n).linReq = none) : linSwitch n s = s := by
  simp only [linSwitch, h]

/-- The slot of a subscribing entry: the header is sent and the response awaited. -/
theorem linSlotStart_subscribe {n : Nat} {s : State} (hidle : (port s n).txing = false)
    (hawake : (port s n).linSleepReq = false) (hreq : (port s n).linReq = none)
    (hsub : fld (linEnt s n (port s n).linSlot) 14 12 = 2) :
    linSlotStart n s = linNext n (port s n).linSlot
      (setPort n { port s n with linHdr := some (fld (linEnt s n (port s n).linSlot) 5 0, (port s n).linSlot) }
        (emit (.linHeader n (fld (linEnt s n (port s n).linSlot) 5 0)) (setPort n { port s n with linHdr := none } s))) := by
  simp only [linSlotStart, hidle, hawake, Bool.false_eq_true, if_false, linSwitch_none hreq, hsub, port_setPort]

/-! ### Commands -/

section
variable {q : Requester} {n : Fin 128} {s : State}

theorem exec_linSlotStart (hon : linOn s n = true) (hcmdr : linCmdr s n = true) (hsafe : safeOn s = false)
    (hquiet : (port s n).quiesce = false) (hrun : (port s n).linRun = true) :
    exec (.linSlotStart n) s = .next (kept s (linSlotStart n s)) := by
  change execLinSlotStart n s = _
  simp only [execLinSlotStart, hon, hcmdr, hsafe, hquiet, hrun, Bool.not_false, Bool.true_or, Bool.and_self, if_true, done_eq]

/-- A responder awaits the response of a subscribed identifier whose sync byte is in tolerance and whose parity is right. -/
theorem exec_linHeaderRx_subscribe {pid : Fin 256} {bitCyc i : Nat} (hon : linOn s n = true) (hresp : linCmdr s n = false)
    (hawake : linAsleep s n = false) (hlo : 85 * rdF s (persReg s n 0x100) 17 0 ≤ 100 * bitCyc)
    (hhi : 100 * bitCyc ≤ 115 * rdF s (persReg s n 0x100) 17 0) (hpar : linParityOk pid = true)
    (hent : (List.range 64).find? (fun i => fld (linEnt s n i) 14 12 != 0 && fld (linEnt s n i) 5 0 == pid.val % 64) = some i)
    (hsub : fld (linEnt s n i) 14 12 = 2) :
    exec (.linHeaderRx n pid bitCyc) s = .next (kept s
      (setPort n { port s n with linHdr := some (pid.val % 64, i), linBit := bitCyc }
        (setPort n { port s n with linHdr := none, linBit := bitCyc } (setPort n { port s n with linHdr := none } s)))) := by
  have hslow := decide_eq_false (Nat.not_lt.2 hlo)
  have hfast := decide_eq_false (Nat.not_lt.2 hhi)
  change execLinHeaderRx n pid bitCyc s = _
  simp only [execLinHeaderRx, hon, hresp, hawake, hslow, hfast, hpar, Bool.not_true, Bool.or_self, Bool.false_eq_true, if_false,
    port_setPort, linEnt_setPort, hent, hsub, done_eq]

theorem exec_linHeaderRx_fastSync {pid : Fin 256} {bitCyc : Nat} (hon : linOn s n = true) (hresp : linCmdr s n = false)
    (hawake : linAsleep s n = false) (hfast : 100 * bitCyc < 85 * rdF s (persReg s n 0x100) 17 0) :
    exec (.linHeaderRx n pid bitCyc) s = .next (kept s (linErr n 3 (setPort n { port s n with linHdr := none } s))) := by
  change execLinHeaderRx n pid bitCyc s = _
  simp only [execLinHeaderRx, hon, hresp, hawake, decide_eq_true hfast, Bool.not_true, Bool.or_self, Bool.true_or,
    Bool.false_eq_true, if_false, if_true, done_eq]

section
variable {data : List Byte} {ck : Fin 256} {age id i : Nat} (hon : linOn s n = true) (hhdr : (port s n).linHdr = some (id, i))
  (hi : i < 64) (hinj : injFor s 0x0F n = false)
include hon hhdr hi hinj

theorem exec_linRxResponse_good (hid : id ≠ 0x3C) (hck : ck.val = linChecksum id (bit (linEnt s n i) 11) data) :
    exec (.linRxResponse n data ck age) s = .next (kept s (nmwSettle (handOff n
      { frame := { fmt := .lin, id := id, data := data }, ts := stampAgo s age }
      (setPort n { port s n with linHdr := none } s)))) := by
  have hdiag : (id == 0x3C) = false := beq_eq_false_iff_ne.2 hid
  change execLinRxResponse n data ck age s = _
  simp only [execLinRxResponse, hon, hhdr, injFor_setPort, hinj, linEnt_setPort, stampAgo_setPort, hi, decide_true,
    Bool.true_and, hck, bne_self_eq_false, Bool.or_self, Bool.false_eq_true, if_false, if_true, hdiag, Bool.false_and, done_eq]

theorem exec_linRxResponse_bad (hck : ck.val ≠ linChecksum id (bit (linEnt s n i) 11) data) :
    exec (.linRxResponse n data ck age) s =
      .next (kept s (linChecksumBad n i (setPort n { port s n with linHdr := none } s))) := by
  have hbad := bne_iff_ne.2 hck
  change execLinRxResponse n data ck age s = _
  simp only [execLinRxResponse, hon, hhdr, injFor_setPort, hinj, linEnt_setPort, hi, decide_true, Bool.true_and, hbad,
    Bool.or_true, Bool.false_eq_true, if_false, if_true, done_eq]

end

/-- An awaited response does not end: NO_RESPONSE without a byte, else a framing error. -/
theorem exec_linResponseTimeout {h : Nat × Nat} (hon : linOn s n = true) (hhdr : (port s n).linHdr = some h) (anyByte : Bool) :
    exec (.linResponseTimeout n anyByte) s = .next (kept s (
      if anyByte then linErr n 3 (setPort n { port s n with linHdr := none } s)
      else raise (lfFxp n 9) (bump (persCtr s n 4) (setPort n { port s n with linHdr := none } s)))) := by
  change execLinResponseTimeout n anyByte s = _
  simp only [execLinResponseTimeout, hon, hhdr, done_eq]
  rfl

theorem exec_linTxBitError (hon : linOn s n = true) :
    exec (.linTxBitError n) s = .next (kept s (let u := emit (.fieldStop n) (linErr n 0 s)
      if (port u n).txing then txAbandon n (lgFail n false u) else u)) := by
  change execLinTxBitError n s = _
  simp only [execLinTxBitError, hon, if_true, done_eq]

/-- While a slot is in progress the request waits for its end. -/
theorem exec_linSchedReq_running {t : Fin 8} (h : hostOrKiln q = true) (hlin : persOf s n = 2)
    (hrun : (port s n).linRun = true) : exec (.linSchedReq q n t) s =
      .next (kept s (setPort n { port s n with linReq := some t } (wrF (persReg s n 0x108) 18 16 t s))) := by
  change execLinSchedReq q n t s = _
  simp only [execLinSchedReq, regCmd_permitted h, hlin, ne_eq, not_true_eq_false, if_false, port_setPort, port_wrF, hrun,
    if_true, done_eq]

theorem exec_linSleep (h : hostOrKiln q = true) (hon : linOn s n = true) (hcmdr : linCmdr s n = true)
    (hawake : linAsleep s n = false) :
    exec (.linSleep q n) s = .next (kept s (setPort n { port s n with linSleepReq := true } s)) := by
  change execLinSleep q n s = _
  simp only [execLinSleep, regCmd_permitted h, hon, hcmdr, hawake, Bool.not_false, Bool.and_self, if_true, done_eq]

theorem exec_linWake (h : hostOrKiln q = true) (hon : linOn s n = true) (hsafe : safeOn s = false) :
    exec (.linWake q n) s =
      .next (kept s (linWakeNow n (emit (.linWakePulse n (rdF s (persReg s n 0x104) 31 16)) s))) := by
  change execLinWake q n s = _
  simp only [execLinWake, regCmd_permitted h, hon, hsafe, Bool.not_false, Bool.and_self, if_true, done_eq]

theorem exec_linIdleTimeout (hon : linOn s n = true) (hawake : linAsleep s n = false) :
    exec (.linIdleTimeout n) s = .next (kept s (linSleepNow n s)) := by
  change execLinIdleTimeout n s = _
  simp only [execLinIdleTimeout, hon, hawake, Bool.not_false, Bool.and_self, if_true, done_eq]

/-- A dominant pulse ends bus sleep whatever C_FUNC says. -/
theorem exec_wakeRx_pulse (hon : linOn s n = true) (hasleep : linAsleep s n = true) :
    exec (.wakeRx n false) s = .next (kept s (nmwSettle (busWake n false (raise (lfFxp n 12) (linWakeNow n s))))) := by
  change execWakeRx n false s = _
  simp only [execWakeRx, hon, hasleep, Bool.not_false, Bool.true_or, Bool.and_self, if_true, done_eq]

theorem exec_linScheduleRestart (hon : linOn s n = true) (hdue : (port s n).linRestart = true) :
    exec (.linScheduleRestart n) s = .next (kept s (setPort n { port s n with
      linRestart := false, linRun := true, linRet := none, linHdr := none,
      linSlot := linBase s n (fld (rd s (persReg s n 0x108)) 2 0) } s)) := by
  change execLinScheduleRestart n s = _
  simp only [execLinScheduleRestart, hon, hdue, Bool.and_self, if_true, done_eq]

end

/-- Settles O20: each command's outcome is the lemma on what it does; the header's awaited response is read back. -/
theorem linCommands : Obligations.LinCommands := by
  refine ⟨fun n s => exec_linSlotStart, fun n s => linSlotStart_subscribe,
    fun n pid bitCyc i s hon hresp hawake hlo hhi hpar hent hsub => ?_, fun n pid bitCyc s => exec_linHeaderRx_fastSync,
    fun n data ck age id i s hon hhdr hi hid hinj hck => exec_linRxResponse_good hon hhdr hi hinj hid hck,
    fun n data ck age id i s => exec_linRxResponse_bad,
    fun n h s hon hhdr => ⟨exec_linResponseTimeout hon hhdr true, exec_linResponseTimeout hon hhdr false⟩,
    fun n s => exec_linTxBitError, fun q n t s => exec_linSchedReq_running, fun q n s => exec_linSleep,
    fun q n s => exec_linWake, fun n s => exec_linIdleTimeout, fun n s => exec_wakeRx_pulse,
    fun n s => exec_linScheduleRestart⟩
  refine ⟨_, exec_linHeaderRx_subscribe hon hresp hawake hlo hhi hpar hent hsub, ?_, ?_, ?_⟩
  · rw [port_kept, port_setPort]
  · simp only [kept_regs, setPort_regs]
  · simp only [kept_out, setPort_out]

end Sys2Proof.Machine
end

section
/-! The 10BASE-T1S, SENT, SPIC and PWMX personalities (R133 to R148): the commands of their buses. -/

namespace Sys2Proof.Machine
open Sys2Proof

section
variable {n : Fin 128} {s : State}

/-! ### 10BASE-T1S (R133 to R136) -/

/-- What a frame within the limits of length does: handed on, or counted as an FCS error. -/
theorem exec_t1sRxFrame {d : List Byte} {age : Nat} (hon : t1sOn s n = true) (hmin : 60 ≤ d.length) (hmax : d.length ≤ 1518)
    (fcsOk : Bool) : exec (.t1sRxFrame n d fcsOk age) s = .next (kept s (if fcsOk then
        nmwSettle (handOff n { frame := { fmt := .t1s, data := d }, ts := stampAgo s age } s)
      else raise (lfFxp n 11) (bump (persCtr s n 0) s))) := by
  have hrunt : ¬ d.length + 4 < 64 := by omega
  have hgiant : ¬ 1522 < d.length + 4 := by omega
  change execT1sRxFrame n d fcsOk age s = _
  cases fcsOk
  · simp only [execT1sRxFrame, hon, hrunt, hgiant, decide_false, Bool.not_true, Bool.not_false, Bool.or_self,
      Bool.false_eq_true, if_false, if_true, done_eq]
  · simp only [execT1sRxFrame, hon, hrunt, hgiant, decide_false, Bool.not_true, Bool.or_self, Bool.false_eq_true, if_false,
      if_true, done_eq]

theorem exec_t1sTxOpportunity (hon : t1sOn s n = true) :
    exec (.t1sTxOpportunity n) s = .next (kept s (selectionPoint n s)) := by
  change execT1sTxOpportunity n s = _
  simp only [execT1sTxOpportunity, hon, if_true, done_eq]

theorem exec_t1sCollision (hon : t1sOn s n = true) :
    exec (.t1sCollision n) s = .next (kept s (let u := raise (lfFxp n 9) (bump (persCtr s n 2) s)
      if (port u n).txing then txError n (setPort n { port u n with backoff := min 10 ((port u n).backoff + 1) } u) else u)) := by
  change execT1sCollision n s = _
  simp only [execT1sCollision, hon, if_true, done_eq]

theorem exec_t1sBeaconRx (hon : t1sOn s n = true) (hplca : plcaFollower s n = true) : exec (.t1sBeaconRx n) s =
    .next (kept s (setLive (lfFxp n 8) false (wrB (persReg s n 0x108) 31 true s))) := by
  change execT1sBeaconRx n s = _
  simp only [execT1sBeaconRx, hon, hplca, Bool.and_self, if_true, done_eq]

theorem exec_plcaLost (hon : t1sOn s n = true) (hplca : plcaFollower s n = true) : exec (.plcaLost n) s =
    .next (kept s (raiseLive (lfFxp n 8) (bump (persCtr s n 3) (wrB (persReg s n 0x108) 31 false s)))) := by
  change execPlcaLost n s = _
  simp only [execPlcaLost, hon, hplca, Bool.and_self, if_true, done_eq]

/-! ### SENT (R137 to R141) -/

/-- No pulse is out of a nibble's range where all lie in it. -/
theorem any_outOfRange_of_all {t : List Nat} (h : t.all (fun x => decide (12 ≤ x) && decide (x ≤ 27)) = true) :
    t.any (fun x => decide (x < 12) || decide (27 < x)) = false := by
  refine List.any_eq_false.2 fun x hx => ?_
  have hin := List.all_eq_true.1 h x hx
  simp only [Bool.and_eq_true, Bool.or_eq_true, decide_eq_true_eq] at hin ⊢
  omega

/-- The values of a frame's nibble pulses: status, data and CRC (R138). -/
def sentNibbles (cal : Nat) (pulses : List Nat) : List Nat := (pulses.map (sentTicks cal)).map (· - 12)

/-- The frame of a status nibble and nib data nibbles (R141). -/
def sentFast (nib : Nat) (v : List Nat) (ts : Nat) : RxFrame :=
  { frame := { fmt := .sent, data := b8 (v.getD 0 0) :: sentPack (slice v 1 nib) }, ts := ts }

section
variable {cyc : Nat} (hsent : persOf s n = 4) (hbus : onBus s n = true)
include hsent hbus

/-- A calibration pulse within a fifth of its nominal length sets the tick; no frame waits for it. -/
theorem exec_sentCalPulse_good (hwait : (port s n).sentWait = none)
    (hlo : 4 * (56 * rdF s (persReg s n 0x100) 15 0) ≤ 5 * cyc) (hhi : 5 * cyc ≤ 6 * (56 * rdF s (persReg s n 0x100) 15 0)) :
    exec (.sentCalPulse n cyc) s =
      .next (kept s (setLive (lfFxp n 10) false (setPort n { port s n with cal := cyc } s))) := by
  have hshort := decide_eq_false (Nat.not_lt.2 hlo)
  have hlong := decide_eq_false (Nat.not_lt.2 hhi)
  change execSentCalPulse n cyc s = _
  simp only [execSentCalPulse, hsent, hbus, hshort, hlong, hwait, ne_eq, not_true_eq_false, Bool.true_eq_false, or_self,
    Bool.or_self, Bool.false_eq_true, if_false, done_eq]

theorem exec_sentCalPulse_short (hshort : 5 * cyc < 4 * (56 * rdF s (persReg s n 0x100) 15 0)) :
    exec (.sentCalPulse n cyc) s = .next (kept s (raiseLive (lfFxp n 10)
      (slowDrop n (setPort n { port s n with cal := 0, sentWait := none } (bump (persCtr s n 0) s))))) := by
  change execSentCalPulse n cyc s = _
  simp only [execSentCalPulse, hsent, hbus, decide_eq_true hshort, Bool.true_or, ne_eq, not_true_eq_false, Bool.true_eq_false,
    or_self, if_false, if_true, done_eq]

/-- A frame without a pause pulse whose nibbles and CRC are right is valid at once. -/
theorem exec_sentRxFrame_good {p : List Nat} {age : Nat} (hcal : (port s n).cal ≠ 0)
    (hpause : bit (rd s (persReg s n 0x100)) 31 = false) (hcheck : bit (rd s (persReg s n 0x100)) 24 = false)
    (hlen : p.length = fld (rd s (persReg s n 0x100)) 27 25 + 2)
    (hrange : (p.map (sentTicks (port s n).cal)).all (fun x => decide (12 ≤ x) && decide (x ≤ 27)) = true)
    (hinj : injFor s 0x0F n = false)
    (hcrc : (sentNibbles (port s n).cal p).getD (fld (rd s (persReg s n 0x100)) 27 25 + 1) 0 =
      sentCrc (bit (rd s (persReg s n 0x100)) 30)
        (slice (sentNibbles (port s n).cal p) 1 (fld (rd s (persReg s n 0x100)) 27 25))) :
    exec (.sentRxFrame n p none age) s = .next (kept s (nmwSettle (sentValid n
      (sentFast (fld (rd s (persReg s n 0x100)) 27 25) (sentNibbles (port s n).cal p) (stampAgo s age)) s))) := by
  rw [sentNibbles] at hcrc
  change execSentRxFrame n p none age s = _
  simp only [execSentRxFrame, hsent, hbus, hcal, hpause, hcheck, hlen, any_outOfRange_of_all hrange, hinj, hcrc, ne_eq,
    not_true_eq_false, Bool.true_eq_false, or_self, bne_self_eq_false, Bool.not_true, Bool.or_self, Bool.false_eq_true,
    if_false, done_eq]
  rfl

end

/-! ### SPIC (R143 to R145) -/

theorem padTo_take_of_length {α : Type} {l : List α} {k : Nat} (h : l.length = k) (x : α) : padTo (l.take k) k x = l := by
  rw [padTo, List.take_of_length_le (Nat.le_of_eq h), h, Nat.sub_self, List.replicate_zero, List.append_nil]

/-- A transaction of the router ends in success, and its bytes are handed on. -/
theorem exec_spicTransactionDone_router {miso : List Byte} {age q : Nat} {it : FxpItem}
    (hpend : (port s n).pend = some (q, it)) (htx : (port s n).txing = true) (hspic : persOf s n = 5)
    (hrouter : it.bridge = none) (hlen : miso.length = it.frame.data.length) :
    exec (.spicTransactionDone n miso age) s = .next (kept s (let u := txSuccess n q (stampAgo s age) s
      nmwSettle (handOff n { frame := { it.frame with data := miso }, ts := stampAgo u age } u))) := by
  change execSpicTransactionDone n miso age s = _
  simp only [execSpicTransactionDone, hpend, htx, hspic, BEq.rfl, Bool.and_self, hrouter, padTo_take_of_length hlen, done_eq]

/-! ### PWMX (R146 to R148) -/

/-- The state in which a capture channel shows a period and its high time, and no missing edge (R146, R147). -/
def captured (n c : Nat) (per high : BitVec 24) (s : State) : State :=
  reflexEvent {} (setLive (lfFxp n (8 + c)) false
    (wr (persReg s n (0x104 + 0x10 * c)) (w32 per.toNat) (wr (persReg s n (0x108 + 0x10 * c)) (w32 high.toNat) s)))

section
variable {c : Fin 4} {per high : BitVec 24} {l : Bool} {age : Nat} (hbus : onBus s n = true)
include hbus

/-- With a report divisor of 0 a period is shown and not reported. -/
theorem exec_pwmxPeriodDone_shown (hcap : pwmCaps s n c = true)
    (hdiv : fld (rd (captured n c per high s) (persReg (captured n c per high s) n (0x100 + 0x10 * c))) 15 0 = 0) :
    exec (.pwmxPeriodDone n c per high l age) s = .next (kept s (nmwSettle (captured n c per high s))) := by
  rw [captured] at hdiv
  change execPwmxPeriodDone n c per high l age s = _
  simp only [execPwmxPeriodDone, hbus, hcap, Bool.and_self, hdiv, if_true, done_eq]
  rfl

/-- With a report divisor of 1 each period is reported. -/
theorem exec_pwmxPeriodDone_reported (hcap : pwmCaps s n c = true)
    (hdiv : fld (rd (captured n c per high s) (persReg (captured n c per high s) n (0x100 + 0x10 * c))) 15 0 = 1) :
    exec (.pwmxPeriodDone n c per high l age) s = .next (kept s (let u := captured n c per high s
      nmwSettle (handOff n
        { frame := { fmt := .pwmx, id := c, data := beBytes 3 per.toNat ++ beBytes 3 high.toNat ++ [b8 (b2n l), 0] },
          ts := stampAgo u age } (setPort n { port u n with pwmCnt := setAt (port u n).pwmCnt c 0 } u)))) := by
  rw [captured] at hdiv
  have hdue (k : Nat) : ¬ k + 1 < 1 := by omega
  change execPwmxPeriodDone n c per high l age s = _
  simp only [execPwmxPeriodDone, hbus, hcap, Bool.and_self, hdiv, Nat.one_ne_zero, hdue, if_true, if_false, done_eq]
  rfl

theorem exec_pwmxStuck (hcap : pwmCaps s n c = true) : exec (.pwmxStuck n c) s =
    .next (kept s (nmwSettle (reflexEvent {} (raiseLive (lfFxp n (8 + c))
      (wr (persReg s n (0x104 + 0x10 * c)) 0 (wr (persReg s n (0x108 + 0x10 * c)) 0 s)))))) := by
  change execPwmxStuck n c s = _
  simp only [execPwmxStuck, hbus, hcap, Bool.and_self, if_true, done_eq]

theorem exec_pwmxPeriodStart (hgen : pwmGen s n c = true) (hsafe : safeOn s = false) :
    exec (.pwmxPeriodStart n c) s = .next (kept s (pwmStart n c s)) := by
  change execPwmxPeriodStart n c s = _
  simp only [execPwmxPeriodStart, hbus, hgen, hsafe, Bool.not_false, Bool.and_self, if_true, done_eq]

end

end

/-- Settles O21: each command's outcome is the lemma on what it does. -/
theorem otherBusCommands : Obligations.OtherBusCommands := by
  refine ⟨fun n d age s hon hmin hmax => ⟨exec_t1sRxFrame hon hmin hmax true, exec_t1sRxFrame hon hmin hmax false⟩,
    fun n s => exec_t1sTxOpportunity, fun n s hon => ⟨_, rfl, exec_t1sCollision hon⟩,
    fun n s hon hplca => ⟨exec_t1sBeaconRx hon hplca, exec_plcaLost hon hplca⟩,
    fun n cyc s => exec_sentCalPulse_good, fun n cyc s => exec_sentCalPulse_short, ?_,
    fun n miso age q it s => exec_spicTransactionDone_router,
    fun n c per high l age s hbus hcap =>
      ⟨captured n c per high s, rfl, exec_pwmxPeriodDone_shown hbus hcap, exec_pwmxPeriodDone_reported hbus hcap⟩,
    fun n c s hbus hcap => ⟨_, exec_pwmxStuck hbus hcap, rfl⟩, fun n c s => exec_pwmxPeriodStart⟩
  intro n p age s hsent hbus hcal cfg v hpause hcheck hlen hrange hinj hcrc
  exact exec_sentRxFrame_good hsent hbus hcal hpause hcheck hlen hrange hinj hcrc

end Sys2Proof.Machine
end

section
/-! Lock groups (R150 to R155): a release, a retry and a give-up. -/

namespace Sys2Proof.Machine
open Sys2Proof

/-! ### A release (R151, R152, R155) -/

section
variable {g : Nat} {ready : List Nat} {s : State} (hcfg : rdB s (lgKey g 0) 31 = true) (hplan : s.cfg.planFirst = false)
include hcfg hplan

/-- An idle group counts the release, clears its retries and starts its members. -/
theorem lgRelease_idle (haligned : (lgState s g).aligned = []) (hretry : (lgState s g).retryWait = []) :
    lgRelease g ready s =
      ((List.range 128).filter (lgMember (wrF (lgKey g 0x14) 3 0 0 (bump (lgKey g 0x20) s)) g)).foldl
        (fun u n => lgMemberRelease g (rdF s (lgKey g 0) 7 0) n ready u) (wrF (lgKey g 0x14) 3 0 0 (bump (lgKey g 0x20) s)) := by
  simp only [lgRelease, hcfg, hplan, haligned, hretry, bne_self_eq_false, Bool.not_true, Bool.or_self, Bool.false_eq_true,
    if_false]

/-- A release that meets one in progress only sets BUSY. -/
theorem lgRelease_busy (haligned : (lgState s g).aligned ≠ []) : lgRelease g ready s = wrB (lgKey g 0x14) 31 true s := by
  simp only [lgRelease, hcfg, hplan, bne_iff_ne.2 haligned, Bool.not_true, Bool.or_self, Bool.true_or, Bool.false_eq_true,
    if_false, if_true]

end

/-! ### Commands -/

section
variable {q : Requester} {g : Fin 16} {ready : List (Fin 128)} {s : State}

theorem exec_lgRelease (h : hostOrKiln q = true) :
    exec (.lgRelease q g ready) s = .next (kept s (lgRelease g (ready.map (·.val)) s)) := by
  change execLgRelease q g ready s = _
  simp only [execLgRelease, regCmd_permitted h, done_eq]

/-- All the frames that wait stand at a selection point, and retries are left (R154). -/
theorem exec_lgRetry (hwait : (lgState s g).retryWait ≠ [])
    (hat : (lgState s g).retryWait.all (fun n => (lgState s g).atSel.contains n) = true)
    (hleft : rdF s (lgKey g 0x14) 3 0 < fld (lgCtl s g) 27 24) : exec (.lgRetry g) s =
      .next (kept s ((lgState s g).retryWait.foldl (fun u n => lgStart n (setPort n { port u n with grp := true } u))
        (setLg g { lgState s g with aligned := (lgState s g).retryWait, retryWait := [], atSel := [] }
          (wrF (lgKey g 0x14) 3 0 (rdF s (lgKey g 0x14) 3 0 + 1) s)))) := by
  change execLgRetry g s = _
  simp only [execLgRetry, bne_iff_ne.2 hwait, hat, decide_eq_true hleft, Bool.and_self, if_true, done_eq]

theorem exec_lgGiveup (hwait : (lgState s g).retryWait ≠ []) : exec (.lgGiveup g) s =
    .next (kept s ((lgState s g).retryWait.foldl (fun u n => setPort n { port u n with grp := false } u)
      (setLg g { lgState s g with retryWait := [], atSel := [] } (wrB (lgKey g 0x14) 30 true s)))) := by
  change execLgGiveup g s = _
  simp only [execLgGiveup, bne_iff_ne.2 hwait, if_true, done_eq]

end

/-- Settles O22: a release is a permitted command whose outcome the group's state tells; the other outcomes are the lemmas on
what the commands do. -/
theorem lockGroupCommands : Obligations.LockGroupCommands := by
  refine ⟨fun q g ready s h hcfg hplan haligned hretry => ?_, fun q g ready s h hcfg hplan haligned => ?_,
    fun g s => exec_lgRetry, fun g s => exec_lgGiveup⟩
  · rw [exec_lgRelease h, lgRelease_idle hcfg hplan haligned hretry]
  · rw [exec_lgRelease h, lgRelease_busy hcfg hplan haligned]

end Sys2Proof.Machine
end

section
/-! Classes, policers and the pipelines' admissions (R182, R201, R216): the commands and when each acts. -/

namespace Sys2Proof.Machine
open Sys2Proof

/-! ### Register commands of the classifier (R216) -/

section
variable {q : Requester} {s : State} (hq : hostOrKiln q = true)
include hq

theorem exec_classUnblock (c : Fin 4096) :
    exec (.classUnblock q c) s = .next (kept s (blockedLive (wrB (blockedKey c) (c.val % 32) false s))) := by
  change execClassUnblock q c s = _
  simp only [execClassUnblock, regCmd_permitted hq, done_eq]

theorem exec_marClear (i : Fin 16384) : exec (.marClear q i) s = .next (kept s (wrB (marKey i) 31 false s)) := by
  change execMarClear q i s = _
  simp only [execMarClear, regCmd_permitted hq, done_eq]

end

/-! ### Admissions (R182, R201) -/

section
variable {i : Fin 28} {idle : List (Fin 24)} {p : Pkt} {rest : List Pkt} {s : State}

/-- Nothing is admitted before the parser's region 17 is applied. -/
theorem exec_pipelineAdmit_unapplied (hreg : regionApplied s 17 = false) : exec (.pipelineAdmit i idle) s = .next s := by
  change execPipelineAdmit i idle s = _
  simp only [execPipelineAdmit, hreg, Bool.not_false, Bool.true_or, if_true, done_eq, kept_self]

/-- A good packet leaves its source and makes its first pass, whose first run told whether it is cut through. -/
theorem exec_pipelineAdmit_good (hreg : regionApplied s 17 = true) (hstate : fld (rd s (regState 17)) 2 0 ≠ 4)
    (hing : tblGet s.ing (gpnOf i) [] = p :: rest) (hgood : p.bad = false) {u : State}
    (hu : u = { s with ing := if rest = [] then tblErase s.ing (gpnOf i) else tblSet s.ing (gpnOf i) rest }) :
    exec (.pipelineAdmit i idle) s =
      .next (kept s (nmwSettle (admitPass i idle (admitPass i idle false p u).1 p u).2)) := by
  subst hu
  change execPipelineAdmit i idle s = _
  simp only [execPipelineAdmit, hreg, beq_eq_false_iff_ne.2 hstate, hing, hgood, Bool.not_true, Bool.or_self,
    Bool.false_and, Bool.false_eq_true, if_false, done_eq]

/-- The packet at the head of a recirculation queue leaves it and makes its next pass. -/
theorem exec_recircAdmit_waiting {q : Fin 2} (hwait : tblGet s.recirc q.val [] = p :: rest) :
    exec (.recircAdmit q) s = .next (kept s (nmwSettle (onePass q p.node p.prof none false p (bump (wdgCtr q 4)
      (recircLive { s with recirc := if rest = [] then tblErase s.recirc q else tblSet s.recirc q rest }))).2)) := by
  change execRecircAdmit q s = _
  simp only [execRecircAdmit, hwait, done_eq]

end

/-- Settles O27: each command's outcome is the lemma on what it does; the cleared latch is read back from the write. -/
theorem pipelineCommands : Obligations.PipelineCommands := by
  refine ⟨fun q c s hq => exec_classUnblock hq c, fun q i s hq => ⟨_, exec_marClear hq i, rfl, ?_, fun k hk => ?_⟩,
    fun i idle p rest s u hreg hstate hing hgood => exec_pipelineAdmit_good hreg hstate hing hgood,
    fun q p rest s => exec_recircAdmit_waiting, fun i idle s => exec_pipelineAdmit_unapplied⟩
  · exact rdB_wrB _ 31 false s (by decide)
  · exact rd_wr_other hk _ s

end Sys2Proof.Machine
end

section
/-! Entries of the exact-match table (R229 to R233): where the candidates of a key lie, what a write of an entry's words
changes, and which entry a lookup then finds. -/

namespace Sys2Proof.Machine
open Sys2Proof

/-! ### Candidates of a key (R229, R230) -/

/-- The candidate entries of a key, in the order of a lookup: those of its buckets, then the stash. -/
def l2Candidates (s : State) (vid mac : Nat) : List Nat := l2Homes s vid mac ++ stashOffs

/-- An offset of an entry of four words in the table's window; different entries share no word. -/
def EntryOff (o : Nat) : Prop := 0x08000000 ≤ o ∧ o % 0x10 = 0

theorem entryOff_of_candidate {s : State} {vid mac o : Nat} (h : o ∈ l2Candidates s vid mac) : EntryOff o := by
  rcases List.mem_append.1 h with h | h
  · obtain ⟨i, -, rfl⟩ := List.mem_map.1 h
    unfold EntryOff l2Off
    omega
  · obtain ⟨k, -, rfl⟩ := List.mem_map.1 h
    unfold EntryOff stashOff
    omega

/-- A key's places depend on L2_N and the seeds alone; neither lies in the entries' window nor is TBL_EPOCH. -/
theorem l2Candidates_congr {s t : State} (h : ∀ k, k < 0x08000000 → k ≠ 0x0028040C → rd t k = rd s k) (vid mac : Nat) :
    l2Candidates t vid mac = l2Candidates s vid mac := by
  have hn : l2N t = l2N s := by rw [l2N, rdF, h _ (by decide) (by decide), l2N, rdF]
  refine congrArg (· ++ stashOffs) (List.map_congr_left fun i hi => ?_)
  have hi : i < 16 := List.mem_range.1 hi
  rw [l2Off, l2Bucket, hn, h _ (by omega) (by omega), l2Off, l2Bucket]

/-! ### An entry is written (R231, R248) -/

/-- An entry without an uncorrectable error is met without effect. -/
theorem l2Meet_good {s : State} {o : Nat} (h : l2Bad s o = false) : l2Meet o s = s := by
  refine if_neg fun hany => ?_
  obtain ⟨e, he, hcond⟩ := List.any_eq_true.1 hany
  have hbad : l2Bad s o = true := List.any_eq_true.2 ⟨e, he, (Bool.and_eq_true_iff.1 hcond).1⟩
  rw [h] at hbad
  cases hbad

theorem l2Bad_of_clean {s : State} (h : s.tbl.bad = []) (o : Nat) : l2Bad s o = false := by rw [l2Bad, h, List.any_nil]

@[simp] theorem wrWords_crz (k : Nat) (ws : List Word) (s : State) : (wrWords k ws s).crz = s.crz := by
  induction ws generalizing k s with
  | nil => rfl
  | cons w ws ih => rw [wrWords, ih, wr_crz]

@[simp] theorem wrWords_tbl (k : Nat) (ws : List Word) (s : State) : (wrWords k ws s).tbl = s.tbl := by
  induction ws generalizing k s with
  | nil => rfl
  | cons w ws ih => rw [wrWords, ih, wr_tbl]

/-- The state in which the entry at o has no uncorrectable error: its words are about to be written (R231). -/
def errorCleared (o : Nat) (s : State) : State :=
  { s with tbl := { s.tbl with bad := s.tbl.bad.filter (fun e => e.1 != o) } }

/-- The state with the entry at o written: its words, and the tables have changed (R248). -/
def l2Put (o : Nat) (ws : List Word) (s : State) : State := tblChanged (l2Write o ws s)

section
variable {o : Nat} {ws : List Word} {s : State} (hu : injArmed s 0x09 = none)
include hu

theorem l2Write_unarmed : l2Write o ws s = wrWords o ws (errorCleared o s) := by
  have hinj : injArmed (wrWords o ws (errorCleared o s)) 0x09 = none := by
    rw [injArmed, wrWords_crz]
    exact hu
  unfold l2Write
  extract_lets t
  split
  · rename_i h
    cases hinj.symm.trans h
  · rfl

theorem l2Put_clean (hbad : s.tbl.bad = []) : (l2Put o ws s).tbl.bad = [] := by
  rw [l2Put, tblChanged, wr_tbl, l2Write_unarmed hu, wrWords_tbl]
  exact (congrArg (List.filter _) hbad).trans List.filter_nil

theorem rd_l2Put_outside {k : Nat} (h : k < o ∨ o + 4 * ws.length ≤ k) (hepoch : k ≠ 0x0028040C) :
    rd (l2Put o ws s) k = rd s k := by
  rw [l2Put, tblChanged, rd_wr_other hepoch, l2Write_unarmed hu]
  rcases h with h | h
  · exact rd_wrWords_below ws (errorCleared o s) h
  · exact rd_wrWords_above ws (errorCleared o s) h

variable (ho : EntryOff o)
include ho

theorem rd_l2Put_word {j : Nat} (h : j < ws.length) : rd (l2Put o ws s) (o + 4 * j) = ws.getD j 0 := by
  obtain ⟨hlo, -⟩ := ho
  rw [l2Put, tblChanged, rd_wr_other (by omega), l2Write_unarmed hu, rd_wrWords_getD _ _ h]

/-- TBL_EPOCH counts the change. -/
theorem rd_l2Put_epoch : rd (l2Put o ws s) 0x0028040C = rd s 0x0028040C + 1 := by
  obtain ⟨hlo, -⟩ := ho
  rw [l2Put, tblChanged, rd_wr_same, l2Write_unarmed hu, rd_wrWords_below _ _ (by omega)]
  rfl

theorem l2Candidates_l2Put (vid mac : Nat) : l2Candidates (l2Put o ws s) vid mac = l2Candidates s vid mac := by
  obtain ⟨hlo, -⟩ := ho
  exact l2Candidates_congr (fun k hk hepoch => rd_l2Put_outside hu (.inl (by omega)) hepoch) vid mac

/-- Another entry holds the key it held. -/
theorem l2Is_l2Put_other {x : Nat} (hx : EntryOff x) (hne : x ≠ o) (hlen : ws.length = 4) (vid mac : Nat) :
    l2Is (l2Put o ws s) vid mac x = l2Is s vid mac x := by
  have hword : ∀ j, j < 4 → rd (l2Put o ws s) (x + 4 * j) = rd s (x + 4 * j) := fun j hj => by
    refine rd_l2Put_outside hu ?_ ?_ <;> (unfold EntryOff at ho hx; omega)
  have h0 : rd (l2Put o ws s) x = rd s x := hword 0 (by decide)
  have h1 : rd (l2Put o ws s) (x + 4) = rd s (x + 4) := hword 1 (by decide)
  simp only [l2Is, l2Valid, l2Vid, l2Mac, h0, h1]

end

/-! ### Lookup (R231) -/

/-- Without uncorrectable errors a lookup finds the first candidate that holds the key, and changes nothing. -/
theorem l2Find_clean {s : State} (h : s.tbl.bad = []) (vid mac : Nat) :
    l2Find vid mac s = ((l2Candidates s vid mac).find? (l2Is s vid mac), s) := by
  have hmeet : ∀ l : List Nat, l.foldl (fun s o => l2Meet o s) s = s := fun l => by
    induction l with
    | nil => rfl
    | cons o l ih => rw [List.foldl_cons, l2Meet_good (l2Bad_of_clean h o), ih]
  simp only [l2Find, hmeet, l2Bad_of_clean h, Bool.not_false, Bool.and_true]
  rfl

/-- Where only the test of a changes, and to true, a search whose first hit was a, or none, now finds a. -/
theorem find?_eq_some_of_changed {α : Type} {p p' : α → Bool} {a : α} {l : List α} (hmem : a ∈ l)
    (hfirst : (l.find? p).getD a = a) (ha : p' a = true) (hother : ∀ x ∈ l, x ≠ a → p' x = p x) : l.find? p' = some a := by
  induction l with
  | nil => cases hmem
  | cons x l ih =>
    by_cases hx : x = a
    · rw [hx, List.find?_cons_of_pos ha]
    · have hpx : ¬ p x = true := fun hp => by
        rw [List.find?_cons_of_pos hp] at hfirst
        exact hx hfirst
      have hpx' : ¬ p' x = true := by rwa [hother x List.mem_cons_self hx]
      rw [List.find?_cons_of_neg hpx] at hfirst
      rw [List.find?_cons_of_neg hpx']
      exact ih ((List.mem_cons.1 hmem).resolve_left (Ne.symm hx)) hfirst
        fun y hy => hother y (List.mem_cons_of_mem x hy)

end Sys2Proof.Machine
end

section
/-! Insertion into the exact-match table (R232, R233): the two ways in which one ends with OK without relocation, and the
lookup after it. -/

namespace Sys2Proof.Machine
open Sys2Proof

/-! ### The words of an entry -/

/-- A first word of an entry that is valid and holds a key. -/
structure KeyWord (w : Word) (vid mac : Nat) : Prop where
  valid : bit w 31 = true
  vid_eq : fld w 27 16 = vid
  mac_eq : fld w 15 0 = mac / 2 ^ 32

theorem keyWord_l2Words (static : Bool) {vid mac : Nat} (w2 sgen : Nat) (hvid : vid < 2 ^ 12) (hmac : mac < 2 ^ 48) :
    KeyWord ((l2Words static vid mac w2 sgen).headD 0) vid mac := by
  have hs : b2n static ≤ 1 := by cases static <;> decide
  have hw : ((l2Words static vid mac w2 sgen).headD 0).toNat =
      2 ^ 31 + b2n static * 2 ^ 30 + vid * 65536 + mac / 2 ^ 32 := by
    simp only [l2Words, List.headD_cons, w32, BitVec.toNat_ofNat]
    omega
  constructor
  · rw [bit, BitVec.getLsbD, hw, Nat.testBit_eq_decide_div_mod_eq, decide_eq_true_eq]
    omega
  · rw [fld, hw, nbits, Nat.shiftRight_eq_div_pow]
    omega
  · rw [fld, hw, nbits, Nat.shiftRight_eq_div_pow]
    omega

/-- The first word of an entry that holds a key still does when its STATIC bit is written. -/
theorem keyWord_setStatic {s : State} {vid mac o : Nat} (h : l2Is s vid mac o = true) (static : Bool) :
    KeyWord (setBit (rd s o) 30 static) vid mac := by
  simp only [l2Is, Bool.and_eq_true, beq_iff_eq] at h
  obtain ⟨⟨hvalid, hvid⟩, hmac⟩ := h
  have hlow := (rd s (o + 4)).isLt
  constructor
  · rwa [bit_setBit _ _ _ _ (by decide), if_neg (by decide)]
  · rwa [fld_setBit_other _ _ (by decide)]
  · rw [fld_setBit_other _ _ (by decide), ← hmac, l2Mac]
    omega

theorem fld_w32_flags (w2 : Nat) : fld (w32 (Nat.land w2 0xC007FFFF)) 18 0 = w2 % 2 ^ 19 := by
  change (BitVec.ofNat 32 (w2 &&& 0xC007FFFF)).toNat >>> 0 % 2 ^ 19 = _
  rw [BitVec.toNat_ofNat, Nat.shiftRight_zero, Nat.mod_mod_of_dvd _ (by decide), Nat.and_mod_two_pow]
  exact (Nat.and_two_pow_sub_one_eq_mod _ 19).trans (Nat.mod_mod _ _)

theorem bit_w32_flags (w2 : Nat) {b : Nat} (h : b = 30 ∨ b = 31) : bit (w32 (Nat.land w2 0xC007FFFF)) b = nbit w2 b := by
  have hand : (Nat.land w2 0xC007FFFF).testBit b = (w2.testBit b && Nat.testBit 0xC007FFFF b) := Nat.testBit_and w2 _ b
  have hmask : Nat.testBit 0xC007FFFF b = true := by rcases h with rfl | rfl <;> decide
  have hb : b < 32 := by omega
  rw [bit_w32, hand, hmask, decide_eq_true hb, Bool.true_and, Bool.and_true, nbit]

/-! ### The lookup after an insertion -/

/-- The words that an insertion leaves, with w0 as the first. -/
def insertedWords (w0 : Word) (static : Bool) (vid mac w2 sgen : Nat) : List Word :=
  w0 :: (l2Words static vid mac w2 sgen).drop 1

section
variable {w0 : Word} {static : Bool} {vid mac w2 sgen o : Nat} {s : State} (hu : injArmed s 0x09 = none)
include hu

/-- The entry written holds the key, the destination and the flags, and the tables have changed. -/
theorem l2Put_holds (ho : EntryOff o) (hkey : KeyWord w0 vid mac) {t : State}
    (ht : t = l2Put o (insertedWords w0 static vid mac w2 sgen) s) :
    l2Valid t o = true ∧ l2Vid t o = vid ∧ l2Mac t o = mac ∧ l2Dest t o = w2 % 2 ^ 19 ∧
      bit (rd t (o + 8)) 31 = nbit w2 31 ∧ bit (rd t (o + 8)) 30 = nbit w2 30 ∧
      rd t 0x0028040C = rd s 0x0028040C + 1 := by
  subst ht
  obtain ⟨hvalid, hvid, hmac⟩ := hkey
  have hword : ∀ j, j < 4 → rd (l2Put o (insertedWords w0 static vid mac w2 sgen) s) (o + 4 * j) =
      (insertedWords w0 static vid mac w2 sgen).getD j 0 := fun j hj => rd_l2Put_word hu ho hj
  have h0 : rd (l2Put o (insertedWords w0 static vid mac w2 sgen) s) o = w0 := hword 0 (by decide)
  have h1 : rd (l2Put o (insertedWords w0 static vid mac w2 sgen) s) (o + 4) = w32 mac := hword 1 (by decide)
  have h2 : rd (l2Put o (insertedWords w0 static vid mac w2 sgen) s) (o + 8) = w32 (Nat.land w2 0xC007FFFF) :=
    hword 2 (by decide)
  simp only [l2Valid, l2Vid, l2Mac, l2Dest, h0, h1, h2]
  refine ⟨hvalid, hvid, ?_, fld_w32_flags w2, bit_w32_flags w2 (.inr rfl), bit_w32_flags w2 (.inl rfl),
    rd_l2Put_epoch hu ho⟩
  rw [hmac, w32, BitVec.toNat_ofNat]
  omega

/-- A lookup finds the entry written, where no candidate before it held the key. -/
theorem l2Find_l2Put (hbad : s.tbl.bad = []) (hmem : o ∈ l2Candidates s vid mac)
    (hfirst : ((l2Candidates s vid mac).find? (l2Is s vid mac)).getD o = o) (hkey : KeyWord w0 vid mac) {t : State}
    (ht : t = l2Put o (insertedWords w0 static vid mac w2 sgen) s) : l2Find vid mac t = (some o, t) := by
  have ho := entryOff_of_candidate hmem
  obtain ⟨hvalid, hvid, hmac, -⟩ := l2Put_holds hu ho hkey ht
  subst ht
  rw [l2Find_clean (l2Put_clean hu hbad), l2Candidates_l2Put hu ho]
  refine congrArg (·, _) (find?_eq_some_of_changed hmem hfirst ?_ fun x hx hne =>
    l2Is_l2Put_other hu ho (entryOff_of_candidate hx) hne rfl vid mac)
  simp only [l2Is, hvalid, hvid, hmac, beq_self_eq_true, Bool.and_self]

end

/-! ### Where an insertion writes (R232, R233) -/

section
variable (static : Bool) {vid mac : Nat} (w2 sgen : Nat) {s : State} {o : Nat}

/-- The state without a pending learn event of a key (R236). -/
def unlearned (vid mac : Nat) (s : State) : State :=
  { s with tbl := { s.tbl with learn := s.tbl.learn.filter (fun e => !(e.vid == vid && e.mac == mac)) } }

/-- The entry that holds the key is replaced; of its first word only STATIC changes. -/
theorem l2Insert_replaces (hfind : (l2Candidates s vid mac).find? (l2Is s vid mac) = some o) (hgood : l2Bad s o = false) :
    l2Insert static vid mac w2 sgen s =
      (l2Put o (insertedWords (setBit (rd s o) 30 static) static vid mac w2 sgen) s, cOk, [l2Loc s o, 0]) := by
  rw [l2Candidates] at hfind
  simp only [l2Insert, hfind, hgood, Bool.false_eq_true, if_false]
  rfl

/-- A key that no candidate holds enters the first free entry of its buckets. -/
theorem l2Insert_fills (hnone : (l2Candidates s vid mac).find? (l2Is s vid mac) = none)
    (hfree : (l2Homes s vid mac).find? (fun o => !l2Valid s o) = some o) :
    l2Insert static vid mac w2 sgen s = (l2Put o (insertedWords ((l2Words static vid mac w2 sgen).headD 0) static vid mac w2
      sgen) (unlearned vid mac s), cOk, [l2Loc (unlearned vid mac s) o, 0]) := by
  rw [l2Candidates] at hnone
  simp only [l2Insert, hnone, l2Place, hfree]
  rfl

end

/-- Settles O26: the insertion replaces the first candidate with the key or fills a free entry of its buckets, and the lookup
after it finds the entry written. -/
theorem insertThenLookup : Obligations.InsertThenLookup := by
  intro static vid mac w2 sgen s hvid hmac hu hbad hroom
  cases hfind : (l2Candidates s vid mac).find? (l2Is s vid mac) with
  | some o =>
    have hmem := List.mem_of_find?_eq_some hfind
    have hkey := keyWord_setStatic (List.find?_some hfind) static
    have hfirst : ((l2Candidates s vid mac).find? (l2Is s vid mac)).getD o = o := by rw [hfind, Option.getD_some]
    exact ⟨_, _, o, _, l2Insert_replaces static w2 sgen hfind (l2Bad_of_clean hbad o),
      l2Find_l2Put hu hbad hmem hfirst hkey rfl, l2Put_holds hu (entryOff_of_candidate hmem) hkey rfl⟩
  | none =>
    have hfree : (l2Homes s vid mac).any (fun o => !l2Valid s o) = true := by
      refine hroom.resolve_left fun hany => ?_
      obtain ⟨x, hx, hkey⟩ := List.any_eq_true.1 hany
      exact List.find?_eq_none.1 hfind x hx hkey
    obtain ⟨o, hhome⟩ := Option.isSome_iff_exists.1 (List.find?_isSome.2 (List.any_eq_true.1 hfree))
    have hmem := List.mem_append_left stashOffs (List.mem_of_find?_eq_some hhome)
    have hkey := keyWord_l2Words static w2 sgen hvid hmac
    have hfirst : ((l2Candidates s vid mac).find? (l2Is s vid mac)).getD o = o := by rw [hfind, Option.getD_none]
    exact ⟨_, _, o, _, l2Insert_fills static w2 sgen hfind hhome,
      l2Find_l2Put (s := unlearned vid mac s) hu hbad hmem hfirst hkey rfl,
      l2Put_holds (s := unlearned vid mac s) hu (entryOff_of_candidate hmem) hkey rfl⟩

end Sys2Proof.Machine
end

section
/-! The table manager's commands, the learn queue and the sweep (R236 to R251). -/

namespace Sys2Proof.Machine
open Sys2Proof

/-! ### Commands in the table manager's slots (R249) -/

/-- A command that its engine carries out at once, from a permitted requester in a slot without a pending command. -/
theorem slotRun_accepted {b : Nat} {ok : Bool} {f : State → State × Nat × List Nat} {s t : State} {c : Nat} {r : List Nat}
    (hmay : ok = true) (hfree : slotPending s b = false) (hrun : f (slotAccept b s) = (t, c, r)) :
    slotRun b ok f s = slotResult b c r t := by
  rw [hmay, slotRun, slotCommand_accepted _ hfree, hrun]

section
variable {q : Requester} {k : Fin 4} {s t : State} {c : Nat} {r : List Nat}
  (hmay : tblMay k q = true) (hfree : slotPending s (tblSlot k) = false)
include hmay hfree

/-- The outcome of every command of the table manager that is accepted. -/
theorem done_tblCommand {f : State → State × Nat × List Nat} (hrun : f (slotAccept (tblSlot k) s) = (t, c, r)) :
    done s (tblCommand q k f s) = .next (kept s (tblSettle (slotResult (tblSlot k) c r t))) := by
  rw [done_eq, tblCommand, slotRun_accepted hmay hfree hrun]

/-- NH_WRITE writes the slot's first four arguments, as they stood at the CMD write. -/
theorem exec_nhWrite (n : Fin 8192) : exec (.nhWrite q k n) s = .next (kept s (tblSettle (slotResult (tblSlot k) 0 []
    (wrWords (0x08220000 + 0x10 * n.val) ((rdWords s (tblSlot k + 4) 8).take 4) (slotAccept (tblSlot k) s))))) := by
  have hargs : (List.range 4).map (fun j => w32 (slotArg (slotAccept (tblSlot k) s) (tblSlot k) j)) =
      (rdWords s (tblSlot k + 4) 8).take 4 := by
    have harg : ∀ j, j < 4 → w32 (slotArg (slotAccept (tblSlot k) s) (tblSlot k) j) = rd s (tblSlot k + 4 + 4 * j) :=
      fun j hj => by rw [slotArg_slotAccept _ _ (by omega), w32, BitVec.ofNat_toNat, BitVec.setWidth_eq]
    rw [List.map_congr_left fun j hj => harg j (List.mem_range.1 hj)]
    rfl
  refine done_tblCommand (f := runNhWrite (tblSlot k) n) hmay hfree ?_
  rw [runNhWrite, hargs]
  rfl

end

/-! ### The learn queue (R236) -/

/-- The oldest event enters the first free candidate of its key. -/
theorem exec_learnPlace {e : LearnEv} {rest : List LearnEv} {o : Nat} {s : State} (hlearn : s.tbl.learn = e :: rest)
    (hfree : (l2Homes s e.vid e.mac ++ stashOffs).find? (fun o => !l2Valid s o) = some o) :
    exec .learnPlace s = .next (kept s (tblSettle (bump (tblCtr 0) (tblChanged
      (l2Write o (l2Words false e.vid e.mac e.dest 0) { s with tbl := { s.tbl with learn := rest } }))))) := by
  change execLearnPlace s = _
  simp only [execLearnPlace, hlearn, hfree, done_eq]

/-! ### The sweep (R238) -/

theorem exec_agingSweep {s : State} (hon : rdF s 0x00280400 11 0 ≠ 0) :
    exec .agingSweep s = .next (kept s (tblSettle ((l2Entries s).foldl (fun s o => sweepEntry o s) s))) := by
  change execAgingSweep s = _
  simp only [execAgingSweep, if_neg hon, done_eq]

section
variable {o : Nat} {s : State} (hgood : l2Bad s o = false) (hlearned : bit (rd s o) 30 = false)
include hgood hlearned

/-- A learned entry without an error: after a hit HIT and STALE are cleared; else the first sweep sets STALE and the next
removes the entry. -/
theorem sweepEntry_learned : sweepEntry o s =
    if bit (rd s o) 29 then wr o (setBit (setBit (rd s o) 29 false) 28 false) s
    else if !bit (rd s o) 28 then wr o (setBit (rd s o) 28 true) s else bump (tblCtr 3) (l2Clear o s) := by
  simp only [sweepEntry, l2Meet_good hgood, hlearned, hgood, Bool.false_eq_true, if_false]

theorem sweepEntry_hit (h : bit (rd s o) 29 = true) :
    sweepEntry o s = wr o (setBit (setBit (rd s o) 29 false) 28 false) s := by
  rw [sweepEntry_learned hgood hlearned, if_pos h]

theorem sweepEntry_stale (h : bit (rd s o) 29 = false) (hstale : bit (rd s o) 28 = false) :
    sweepEntry o s = wr o (setBit (rd s o) 28 true) s := by
  rw [sweepEntry_learned hgood hlearned, h, hstale]
  rfl

theorem sweepEntry_removed (h : bit (rd s o) 29 = false) (hstale : bit (rd s o) 28 = true) :
    sweepEntry o s = bump (tblCtr 3) (l2Clear o s) := by
  rw [sweepEntry_learned hgood hlearned, h, hstale]
  rfl

end

/-- Settles O25: every command of the manager ends as an accepted one does, with what it answers; the learn queue and the sweep
are the lemmas on what they do. -/
theorem tableCommands : Obligations.TableCommands := by
  refine ⟨fun q k s t c r hmay hfree => ⟨?_, ?_, ?_, ?_, ?_, ?_, ?_, ?_, ?_⟩,
    fun e rest o s => exec_learnPlace, fun s => exec_agingSweep,
    fun o s hgood hlearned =>
      ⟨sweepEntry_hit hgood hlearned, sweepEntry_stale hgood hlearned, sweepEntry_removed hgood hlearned⟩⟩
  · exact done_tblCommand hmay hfree
  · exact done_tblCommand hmay hfree
  · exact done_tblCommand hmay hfree
  · exact fun m => done_tblCommand (f := runL2Flush (tblSlot k) m) hmay hfree
  · exact done_tblCommand hmay hfree
  · exact fun i => done_tblCommand (f := runLpmInsert (tblSlot k) i false) hmay hfree
  · exact fun i => done_tblCommand (f := runLpmDelete (tblSlot k) i) hmay hfree
  · exact fun i => done_tblCommand (f := runLpmLookup (tblSlot k) i) hmay hfree
  · exact exec_nhWrite hmay hfree

end Sys2Proof.Machine
end

section
/-! The snapshot of an L2 entry (R248, R579): a read in the table's window finds the entry's row, and a read of word 0 leaves
the other words in shadows. -/

namespace Sys2Proof.Machine
open Sys2Proof

/-! ### Shadows of consecutive words -/

@[simp] theorem setShadows_counters (k : Nat) (ws : List Word) (s : State) : (setShadows k ws s).counters = s.counters := by
  induction ws generalizing k s with
  | nil => rfl
  | cons w ws ih => rw [setShadows, ih]; rfl

theorem shadow_setShadows_below {k j : Nat} (ws : List Word) (s : State) (h : j < k) :
    shadow (setShadows k ws s) j = shadow s j := by
  induction ws generalizing k s with
  | nil => rfl
  | cons w ws ih => rw [setShadows, ih _ (by omega), shadow_setShadow, if_neg (by omega)]

theorem shadow_setShadows_getD {k j : Nat} (ws : List Word) (s : State) (h : j < ws.length) :
    shadow (setShadows k ws s) (k + 4 * j) = ws.getD j 0 := by
  induction ws generalizing k j s with
  | nil => exact absurd h (by simp)
  | cons w ws ih =>
    cases j with
    | zero =>
      change shadow (setShadows k (w :: ws) s) k = w
      rw [setShadows, shadow_setShadows_below _ _ (by omega), shadow_setShadow, if_pos rfl]
    | succ j =>
      have hk : k + 4 * (j + 1) = k + 4 + 4 * j := by omega
      rw [hk, setShadows, ih _ (by simpa using h), List.getD_cons_succ]

/-! ### The window of the exact-match table (R251) -/

/-- The row of the exact-match table. -/
def l2Row : RegRow :=
  { name := "TBL_L2", base := 0x08000000, dims := [(131072, 0x10)], words := 4, kind := .entry, flds := whole .ro }

/-- Word j of entry i in the window. -/
def l2WordOff (i j : Nat) : Nat := 0x08000000 + 0x10 * i + 4 * j

section
variable {i j : Nat} (hi : i < 131072) (hj : j < 4) (s : State)
include hi hj

theorem l2WordOff_range : 0x08000000 ≤ l2WordOff i j ∧ l2WordOff i j < 0x08200000 := by
  unfold l2WordOff
  omega

theorem rowWord_l2Row : rowWord l2Row (l2WordOff i j) = some j := by
  have hbase : l2WordOff i j - 0x08000000 = 0x10 * i + 4 * j := by unfold l2WordOff; omega
  have hentry : (0x10 * i + 4 * j) / 0x10 = i := by omega
  have hword : (0x10 * i + 4 * j) % 0x10 = 4 * j := by omega
  have hlt : 4 * j < 16 := by omega
  rw [rowWord, l2Row, if_pos (l2WordOff_range hi hj).1]
  simp [hbase, dimOff, hentry, hi, hword, hlt]

theorem findRow_l2 : findRow (blockRows (l2WordOff i j)) (l2WordOff i j) = some l2Row := by
  obtain ⟨hlo, hhi⟩ := l2WordOff_range hi hj
  have hrows : blockRows (l2WordOff i j) = l2Row :: rowsTblWin.tail := by
    simp (disch := omega) only [blockRows, if_neg, if_pos]
    rfl
  rw [hrows, findRow, List.find?_cons_of_pos (by rw [rowWord_l2Row hi hj, Option.isSome_some])]

theorem shownWord_l2 : shownWord s (l2WordOff i j) = rd s (l2WordOff i j) := by
  obtain ⟨hlo, hhi⟩ := l2WordOff_range hi hj
  simp (disch := omega) only [shownWord, keyOf, if_neg]

theorem entryAt_l2 : entryAt l2Row (l2WordOff i j) j = (l2WordOff i 0, 4) := by
  obtain ⟨hlo, hhi⟩ := l2WordOff_range hi hj
  have hbase : l2WordOff i j - 4 * j = l2WordOff i 0 := by unfold l2WordOff; omega
  simp (disch := omega) only [entryAt, if_neg, hbase]
  rfl

theorem readWord_l2 : readWord (l2WordOff i j) s = readEntry (l2WordOff i 0) 4 (l2WordOff i j) s := by
  obtain ⟨hlo, hhi⟩ := l2WordOff_range hi hj
  have hmirror : l2Row.mirrored = false := rfl
  have hkind : ¬ l2Row.kind = .counter := by decide
  have hrc : ¬ rowMask l2Row .rc ≠ 0 := by decide
  simp (disch := omega) only [readWord, findRow_l2 hi hj, rowWord_l2Row hi hj, Option.getD_some, hmirror, hkind, hrc,
    entryAt_l2 hi hj, Bool.false_eq_true, if_false, if_neg, if_pos]

/-- A read by host function 0 in the window is a read of the entry's word. -/
theorem exec_entrySnapshotRead_l2 (hu : injArmed s 0x16 = none) {w : Word} {t : State}
    (h : readEntry (l2WordOff i 0) 4 (l2WordOff i j) s = (w, t)) :
    exec (.entrySnapshotRead (.host 0) (l2WordOff i j)) s = .next (kept s (setRdata w t)) := by
  obtain ⟨hlo, hhi⟩ := l2WordOff_range hi hj
  have h4 : l2WordOff i j % 4 = 0 := by unfold l2WordOff; omega
  have hreach : reach s (.host 0) (l2WordOff i j) = some (l2WordOff i j) := by
    simp (disch := omega) only [reach, h4, if_true, if_neg, if_pos]
  have hread : readFor (.host 0) (l2WordOff i j) s = (w, t) :=
    (readFor_of_reach hreach (blockDead_of_unarmed hu _)).trans ((readWord_l2 hi hj s).trans h)
  change done s (let (w, t) := readFor (.host 0) (l2WordOff i j) s; setRdata w t) = _
  rw [hread]
  rfl

end

/-- A read of word 0 leaves words 1 to 3 in the shadows (R248). -/
def l2Snapshot (i : Nat) (s : State) : State :=
  setShadows (l2WordOff i 0 + 4) ((List.range 3).map (fun j => rd s (l2WordOff i (j + 1)))) s

theorem readEntry_l2_head {i : Nat} (hi : i < 131072) (s : State) :
    readEntry (l2WordOff i 0) 4 (l2WordOff i 0) s = (rd s (l2WordOff i 0), l2Snapshot i s) := by
  have hshown : ∀ j ∈ List.range 3, shownWord s (l2WordOff i 0 + 4 + 4 * j) = rd s (l2WordOff i (j + 1)) := fun j hj => by
    have hj : j < 3 := List.mem_range.1 hj
    have hoff : l2WordOff i 0 + 4 + 4 * j = l2WordOff i (j + 1) := by unfold l2WordOff; omega
    rw [hoff, shownWord_l2 hi (by omega)]
  rw [readEntry, if_pos rfl, shownWord_l2 hi (by decide), List.map_congr_left hshown, l2Snapshot]

theorem shadow_l2Snapshot {i j : Nat} (hj : j < 3) (s : State) :
    shadow (l2Snapshot i s) (l2WordOff i (j + 1)) = rd s (l2WordOff i (j + 1)) := by
  have hoff : l2WordOff i (j + 1) = l2WordOff i 0 + 4 + 4 * j := by unfold l2WordOff; omega
  have hlen : j < ((List.range 3).map (fun j => rd s (l2WordOff i (j + 1)))).length := by simpa using hj
  rw [l2Snapshot, hoff, shadow_setShadows_getD _ _ hlen, ← hoff]
  simp [List.getD_eq_getElem?_getD, hj]

/-- Settles O49: the read of word 0 sets the shadows of the other words, and the read of another word shows its shadow. -/
theorem entrySnapshots : Obligations.EntrySnapshots := by
  refine ⟨fun i s hu => ?_, fun i j s hu hj hj4 => ?_⟩
  · refine ⟨_, exec_entrySnapshotRead_l2 i.isLt (by decide) s hu (readEntry_l2_head i.isLt s), rfl, fun j hj hj4 => ?_,
      setShadows_regs .., setShadows_counters ..⟩
    obtain ⟨j, rfl⟩ := Nat.exists_eq_add_of_le' hj
    exact shadow_l2Snapshot (by omega) s
  · have hne : ¬ l2WordOff i j = l2WordOff i 0 := by unfold l2WordOff; omega
    exact ⟨_, exec_entrySnapshotRead_l2 i.isLt hj4 s hu (if_neg hne), rfl, rfl, rfl, rfl⟩

end Sys2Proof.Machine
end

section
/-! The signal router's commands (R254 to R287): which packet and which item each takes, and what a token and the end of an
MDT leave alone. -/

namespace Sys2Proof.Machine
open Sys2Proof

/-! ### The hand-off at GPN 155 (R254) -/

/-- A search through descending numbers ends at the greatest that qualifies. -/
theorem find?_eq_some_of_descending {l : List Nat} {p : Nat → Bool} {c : Nat} (hl : l.Pairwise (· > ·)) (hmem : c ∈ l)
    (hp : p c = true) (habove : ∀ d ∈ l, c < d → p d = false) : l.find? p = some c := by
  induction l with
  | nil => exact absurd hmem List.not_mem_nil
  | cons x xs ih =>
    obtain ⟨hx, hxs⟩ := List.pairwise_cons.1 hl
    rcases List.mem_cons.1 hmem with rfl | hc
    · exact List.find?_cons_of_pos hp
    · have hpx : ¬ p x = true := by rw [habove x List.mem_cons_self (hx c hc)]; decide
      rw [List.find?_cons_of_neg hpx]
      exact ih hxs hc fun d hd => habove d (List.mem_cons_of_mem x hd)

/-- The highest class of a port with a packet is the one that a strict-priority scan takes. -/
theorem shfHead_highestClass {g c : Nat} {p : Pkt} {s : State} (hhead : shfHead s g c = some p) (hc : c < 8)
    (habove : ∀ d, d < 8 → c < d → shfHead s g d = none) :
    [7, 6, 5, 4, 3, 2, 1, 0].find? (fun c => (shfHead s g c).isSome) = some c := by
  have hclass : ∀ d, d ∈ [7, 6, 5, 4, 3, 2, 1, 0] ↔ d < 8 := fun d => by
    simp only [List.mem_cons, List.not_mem_nil, or_false]
    omega
  refine find?_eq_some_of_descending (by decide) ((hclass c).2 hc) ?_ fun d hd hcd => ?_
  · rw [hhead, Option.isSome_some]
  · rw [habove d ((hclass d).1 hd) hcd, Option.isSome_none]

theorem exec_routerHandoff {c : Nat} {p : Pkt} {s : State} (hroom : s.srt.lq.length < 1024) (hheld : s.srt.held = [])
    (hhead : shfHead s 155 c = some p) (hc : c < 8) (habove : ∀ d, d < 8 → c < d → shfHead s 155 d = none) :
    exec .routerHandoff s = .next (kept s (shfSettle (routerTake p (shfUnref p.pid (shfPop 155 c s))))) := by
  have hopen : ¬ (1024 ≤ s.srt.lq.length ∨ s.srt.held ≠ []) := by
    rintro (hfull | hne)
    · exact Nat.not_le_of_lt hroom hfull
    · exact hne hheld
  change execRouterHandoff s = _
  simp only [execRouterHandoff, if_neg hopen, shfHead_highestClass hhead hc habove, hhead, done_eq]

/-! ### Lookups (R257 to R260) -/

/-- The item at the head of the queue is looked up, and one that waits enters the queue in its place. -/
theorem exec_routeLookup {b : Bool} {it : RItem} {rest : List RItem} {s : State} (hlq : s.srt.lq = it :: rest) :
    exec (.routeLookup b) s =
      .next (kept s (nmwSettle (routeLookup b it (lqFill { s with srt := { s.srt with lq := rest } })))) := by
  change execRouteLookup b s = _
  simp only [execRouteLookup, hlq, done_eq]

/-- An item that finds no route entry is unmatched (R255). -/
theorem routeLookup_unmatched {b : Bool} {it : RItem} {s : State}
    (hnone : routeOf (bump (srtCtr 0) s) (srtBank s) (keyItem (bump (srtCtr 0) s) (srtBank s) it) = none) :
    routeLookup b it s = unmatched (srtBank s) (keyItem (bump (srtCtr 0) s) (srtBank s) it) (bump (srtCtr 0) s) := by
  simp only [routeLookup, hnone]

theorem exec_transientImageFree {x : TransWait} {rest : List TransWait} {s : State} (hwait : s.srt.trans = x :: rest) :
    exec .transientImageFree s =
      .next (kept s (nmwSettle (routeForward x.bank x.route x.item { s with srt := { s.srt with trans := rest } }))) := by
  change execTransientImageFree s = _
  simp only [execTransientImageFree, hwait, done_eq]

/-! ### Limiters (R264) -/

/-- Setting one limiter's tokens sets that limiter, up to its burst, and no other. -/
theorem limTokens_setTokens (s : State) (b l n m : Nat) : limTokens (setTokens l n s) b m =
    if m = l then min n (nbits (bw s b (oLim l) 1) 7 0) else limTokens s b m := by
  have hburst : bw (setTokens l n s) b (oLim m) 1 = bw s b (oLim m) 1 := rfl
  have htokens : tblGet (setTokens l n s).srt.tokens m 255 = if m = l then n else tblGet s.srt.tokens m 255 :=
    tblGet_set ..
  rw [limTokens, hburst, htokens]
  split
  · next h => rw [h]
  · rfl

theorem exec_limiterToken {l : Fin 4096} {s : State} (hl : l.val ≠ 0)
    (hon : nbits (bw s (srtBank s) (oLim l) 0) 19 0 ≠ 0) :
    exec (.limiterToken l) s = .next (kept s (setTokens l
      (min (nbits (bw s (srtBank s) (oLim l) 1) 7 0) (limTokens s (srtBank s) l + 1)) s)) := by
  have hdefined : ¬ (l.val = 0 ∨ nbits (bw s (srtBank s) (oLim l) 0) 19 0 = 0) := not_or.2 ⟨hl, hon⟩
  change execLimiterToken l s = _
  simp only [execLimiterToken, if_neg hdefined, done_eq]

/-! ### Route timers (R281) -/

/-- A route's timer has run out: it no longer runs, the route is no longer reached, and the record and the counters tell of
it. -/
def routeTimedOut (r prof : Nat) (s : State) : State :=
  bump (0x0E420000 + 8 * prof) (bump (srtCtr 12) (wr 0x0030000C (w32 (2 ^ 31 + prof * 2 ^ 18 + r))
    { s with srt := { s.srt with timers := tblErase s.srt.timers r, reached := s.srt.reached.filter (· != r) } }))

theorem exec_routeTimeout {r : Fin 262144} {b w due : Nat} {s : State} (hbank : activeBank s 20 = some b)
    (hdue : tblFind s.srt.timers r.val = some due) (hvalid : nbit (bw s b (oRoute r) 0) 31 = true)
    (hprof : nbits (bw s b (oRoute r) 2) 23 19 = w) (hw : w ≠ 0) :
    let v := routeTimedOut r w s
    let d := defaultMoves b (nbits (bw v b (oRoute r) 3) 31 24) (nbits (bw v b (oRoute r) 2) 18 0) (raise (lfSrt 0) v)
    exec (.routeTimeout r) s = .next (kept s (nmwSettle (triggeredSends b d.2 d.1))) := by
  have htimed : (w == 0) = false := beq_false_of_ne hw
  change execRouteTimeout r s = _
  simp only [execRouteTimeout, hbank, hdue, hvalid, hprof, htimed, Bool.not_true, Bool.or_self, Bool.false_eq_true, if_false,
    done_eq, routeTimedOut]

/-! ### Images (R275, R279) -/

/-- An image whose MDT ends: neither WAITING nor MDT_RUNNING (R291). -/
def mdtEnded (i : Nat) (s : State) : State := wr (imgState i) (setBit (setBit (rd s (imgState i)) 30 false) 29 false) s

/-- MDT ends, and a send that waits for it is made. -/
theorem exec_mdtExpiry {i : Fin 65536} {s : State} (hrun : bit (rd s (imgState i)) 29 = true) :
    exec (.mdtExpiry i) s = .next (kept s
      (if bit (rd s (imgState i)) 30 then nmwSettle (imageRequest i (mdtEnded i s)) else mdtEnded i s)) := by
  change execMdtExpiry i s = _
  simp only [execMdtExpiry, hrun, Bool.not_true, Bool.false_eq_true, if_false, mdtEnded, done_eq]

theorem rdB_mdtEnded (i : Nat) (s : State) : rdB (mdtEnded i s) (imgState i) 29 = false := by
  rw [rdB, mdtEnded, rd_wr_same, bit_setBit _ _ _ _ (by decide), if_pos rfl]

theorem rd_mdtEnded_other {i k : Nat} (h : k ≠ imgState i) (s : State) : rd (mdtEnded i s) k = rd s k := rd_wr_other h _ s

theorem exec_srtImgSend {q : Requester} {i : Fin 65536} {s : State} (hmay : hostOrKiln q = true) :
    exec (.srtImgSend q i) s = .next (kept s (nmwSettle (imageRequest i s))) := by
  change done s (regCmd q (hostOrKiln q) _ _ s) = _
  rw [regCmd_permitted hmay, done_eq]

theorem exec_containerFlush {i : Fin 65536} {s : State} (hflush : (contOf s i).flush = true) :
    exec (.containerFlush i) s = .next (kept s (nmwSettle (containerSend (srtBank s) i s))) := by
  change execContainerFlush i s = _
  simp only [execContainerFlush, if_pos hflush, done_eq]

/-- Settles O28: each command's outcome is the lemma on what it does; a token is read back from the limiters' table, and the
end of an MDT from its image's state word. -/
theorem routerCommands : Obligations.RouterCommands := by
  refine ⟨fun c p s => exec_routerHandoff, fun b it rest s => exec_routeLookup, fun b it s => routeLookup_unmatched,
    fun x rest s => exec_transientImageFree, fun l s hl hon => ?_, fun r b w due s => exec_routeTimeout,
    fun i s hrun hwait => ?_, fun i s hrun hidle => ?_, fun q i s => exec_srtImgSend, fun i s => exec_containerFlush⟩
  · refine ⟨_, exec_limiterToken hl hon, ?_, fun m hm => ?_, rfl, rfl⟩
    · exact (limTokens_setTokens ..).trans ((if_pos rfl).trans (Nat.min_eq_left (Nat.min_le_left ..)))
    · exact (limTokens_setTokens ..).trans (if_neg hm)
  · rw [exec_mdtExpiry hrun, if_pos hwait, mdtEnded]
  · rw [exec_mdtExpiry hrun, hidle]
    exact ⟨_, rfl, rdB_mdtEnded i s, rfl, rfl, fun k hk => rd_mdtEnded_other hk s⟩

end Sys2Proof.Machine
end

section
/-! The reflex path (R292 to R308): what a request of a level does to a pin, and the commands of pins, pulses, generators and
capture units. -/

namespace Sys2Proof.Machine
open Sys2Proof

/-! ### A pin and its registers -/

@[simp] theorem pinOf_setPin (p : Nat) (v : PioPin) (s : State) : pinOf (setPin p v s) p = v := by
  by_cases hv : v = {}
  · simp only [pinOf, setPin, hv, if_true, tblGet_erase]
  · simp only [pinOf, setPin, hv, if_false, tblGet_set, if_true]

@[simp] theorem pinOf_wr (k : Nat) (w : Word) (s : State) (p : Nat) : pinOf (wr k w s) p = pinOf s p := rfl

theorem pioKey_ne (p : Nat) {a b : Nat} (h : a ≠ b) : pioKey p a ≠ pioKey p b := fun he => h (Nat.add_left_cancel he)

/-! ### A level is requested of a pin (R293, R294) -/

section
variable {d p : Nat} {level : Bool} {s : State}

theorem pinRequest_notAdmitted (h : ownerAdmits (rdF s (pioKey p 0) 30 28) d = false) :
    pinRequest d p level s = pinConflict p s := by
  simp only [pinRequest, h, Bool.not_false, if_true]

/-- A reflex request is not held off by a pulse, a generator or a FOLLOW rule. -/
theorem pinRequest_reflex (h : ownerAdmits (rdF s (pioKey p 0) 30 28) 2 = true) :
    pinRequest 2 p level s = drivePin 2 p level s := by
  simp only [pinRequest, h, Bool.not_true, Bool.false_eq_true, ne_eq, not_true_eq_false, false_and, if_false]

/-- An output pin takes the level of a driver other than a MAC and names that driver as its last. -/
theorem drivePin_output (hd : d ≠ 3) (hout : rdB s (pioKey p 0) 31 = true) :
    drivePin d p level s = emit (.pio p level) (wrF (pioKey p 8) 29 28 d (wrB (pioKey p 8) 30 level s)) := by
  simp only [drivePin, hout, if_true, if_neg hd]

end

/-! ### Commands -/

section
variable {p : Fin 64} {s : State}

theorem exec_pioInputChange_single (p : Fin 64) (level : Bool) (s : State) :
    exec (.pioInputChange [(p, level)]) s = .next (kept s (nmwSettle (reflexEvent { edges := [(p.val, level)] }
      (capTimestamp p level (setPin p { pinOf s p with level := level } (wrB (pioKey p 8) 31 level s)))))) := by
  change execPioInputChange [(p, level)] s = _
  simp only [execPioInputChange, List.map_cons, List.map_nil, List.foldl_cons, List.foldl_nil, done_eq]

theorem exec_reflexPulseEnd {l : Bool} (hpulse : (pinOf s p).pulse = some l) : exec (.reflexPulseEnd p) s =
    .next (kept s (pinRequest 2 p l (setPin p { pinOf s p with pulse := none } (wrB (pioKey p 8) 26 false s)))) := by
  change execReflexPulseEnd p s = _
  simp only [execReflexPulseEnd, hpulse, done_eq]

/-- A generator's period starts with the latched setting, and with the one in force where none is latched (R301). -/
theorem exec_reflexPwmPeriod {g : Nat × Nat} (hpwm : (pinOf s p).pwm = some g) : exec (.reflexPwmPeriod p) s =
    .next (kept s (pwmPeriod p ((pinOf s p).pwmNext.getD g).1 ((pinOf s p).pwmNext.getD g).2 s)) := by
  change execReflexPwmPeriod p s = _
  simp only [execReflexPwmPeriod, hpwm, done_eq]

theorem exec_pioOutWrite {q : Requester} (h : q = .host 0 ∨ q = .kiln) (level : Bool) :
    exec (.pioOutWrite q p level) s = .next (kept s (pinRequest 0 p level s)) := by
  change execPioOutWrite q p level s = _
  simp only [execPioOutWrite, if_pos h, done_eq]

theorem exec_capPeriodDone (p : Fin 64) (per high : Word) (s : State) :
    let t := wr (pioKey p 0x14) (w32 (dutyOf per.toNat high.toNat % 2 ^ 16))
      (wr (pioKey p 0x10) high (wr (pioKey p 0x0C) per (wrB (pioKey p 8) 25 false s)))
    exec (.capPeriodDone p per high) s = .next (kept s (nmwSettle (reflexEvent {}
      (setLive (lfRfx 2) ((List.range 64).any (fun q => rdB t (pioKey q 8) 25)) t)))) := by
  change execCapPeriodDone p per high s = _
  simp only [execCapPeriodDone, done_eq]

theorem exec_capStuck (p : Fin 64) (s : State) :
    exec (.capStuck p) s = .next (kept s (nmwSettle (reflexEvent {} (raiseLive (lfRfx 2)
      (wr (pioKey p 0x14) 0 (wr (pioKey p 0x10) 0 (wr (pioKey p 0x0C) 0 (wrB (pioKey p 8) 25 true s)))))))) := by
  change execCapStuck p s = _
  simp only [execCapStuck, done_eq]

/-- The state in which pin p's FIFO holds rest and the shadows show the removed entry's seconds and information (R307). -/
def timestampTaken (p : Nat) (r : Bool) (ts : Nat) (rest : List (Bool × Nat)) (s : State) : State :=
  wr (pioKey p 0x20) (w32 (2 ^ 31 + b2n r * 2 ^ 30 + rest.length)) (wr (pioKey p 0x1C) (w32 (ts / 2 ^ 32))
    (setPin p { pinOf s p with fifo := rest } s))

theorem exec_capTsRead {r : Bool} {ts : Nat} {rest : List (Bool × Nat)} (hfifo : (pinOf s p).fifo = (r, ts) :: rest) :
    exec (.capTsRead p) s = .next (kept s (setRdata (w32 ts) (timestampTaken p r ts rest s))) := by
  change execCapTsRead p s = _
  simp only [execCapTsRead, hfifo, timestampTaken, done_eq]

theorem rd_timestampTaken_seconds (p : Nat) (r : Bool) (ts : Nat) (rest : List (Bool × Nat)) (s : State) :
    rd (timestampTaken p r ts rest s) (pioKey p 0x1C) = w32 (ts / 2 ^ 32) := by
  rw [timestampTaken, rd_wr_other (pioKey_ne p (by decide)), rd_wr_same]

theorem rd_timestampTaken_info (p : Nat) (r : Bool) (ts : Nat) (rest : List (Bool × Nat)) (s : State) :
    rd (timestampTaken p r ts rest s) (pioKey p 0x20) = w32 (2 ^ 31 + b2n r * 2 ^ 30 + rest.length) := rd_wr_same ..

theorem fifo_timestampTaken (p : Nat) (r : Bool) (ts : Nat) (rest : List (Bool × Nat)) (s : State) :
    (pinOf (timestampTaken p r ts rest s) p).fifo = rest := by
  rw [timestampTaken, pinOf_wr, pinOf_wr, pinOf_setPin]

end

/-- Settles O17: each command's outcome is the lemma on what it does; the shadows and the FIFO are read back after a
timestamp's removal. -/
theorem reflexCommands : Obligations.ReflexCommands := by
  refine ⟨exec_pioInputChange_single, fun p l s => exec_reflexPulseEnd, fun p g s hpwm hnext => ?_,
    fun p g n s hpwm hnext => ?_, fun p level s => ⟨exec_pioOutWrite (.inl rfl) level, exec_pioOutWrite (.inr rfl) level⟩,
    fun d p level s hadmits hd hout => ?_, fun d p level s => pinRequest_notAdmitted, exec_capPeriodDone, exec_capStuck,
    fun p r ts rest s hfifo => ?_⟩
  · rw [exec_reflexPwmPeriod hpwm, hnext, Option.getD_none]
  · rw [exec_reflexPwmPeriod hpwm, hnext, Option.getD_some]
  · subst hd
    rw [pinRequest_reflex hadmits, drivePin_output (by decide) hout]
  · exact ⟨_, exec_capTsRead hfifo, rfl, rd_timestampTaken_seconds .., rd_timestampTaken_info ..,
      fifo_timestampTaken p r ts rest s⟩

end Sys2Proof.Machine
end

section
/-! Port schedulers, gate lists, residue copies, groups and FRER (R318, R319, R323 to R329, R334): what each command does when
it acts. -/

namespace Sys2Proof.Machine
open Sys2Proof

/-! ### Selection points (R323 to R326) -/

section
variable {n : Fin 24} {s : State}

/-- The state in which port n selects: its credits stand as of now, and the head frames that no window of their class fits are
dropped (R326, R329). -/
def selectable (n : Nat) (s : State) : State :=
  forN 8 0 (fun c s => gateTooLong n c (eqOf s (128 + n) c).length s) (cbsUpdate n s)

theorem exec_portSelect_some {c : Nat} {v : State} (hmay : portMay s n = true)
    (hpick : portPick n (selectable n s) = (some c, v)) :
    exec (.portSelect n) s = .next (kept s (nmwSettle (portServe n c v))) := by
  change execPortSelect n s = _
  rw [selectable] at hpick
  simp only [execPortSelect, hmay, if_true, hpick, done_eq]

theorem exec_portSelect_none {v : State} (hmay : portMay s n = true) (hpick : portPick n (selectable n s) = (none, v)) :
    exec (.portSelect n) s = .next (kept s (nmwSettle v)) := by
  change execPortSelect n s = _
  rw [selectable] at hpick
  simp only [execPortSelect, hmay, if_true, hpick, done_eq]

/-! ### Gate lists (R328) -/

/-- The interval of entry e ends: the next entry is the running one, and its gates are set if the list has it.
The list itself is read from registers, which setMac leaves alone. -/
theorem exec_gclEntry_running {e : Nat} (hrun : (macOf s n).gcl = some e) (hlen : e < gclLen s (gclBank s n) n) :
    exec (.gclEntry n) s = .next (kept s
      (let t := setMac n { macOf s n with gcl := some (e + 1) } s
       if e + 1 < gclLen s (gclBank s n) n then setGates n (e + 1) (gclGates s (gclBank s n) n (e + 1)) t else t)) := by
  change execGclEntry n s = _
  simp only [execGclEntry, hrun, if_neg (Nat.not_le_of_lt hlen), done_eq]
  rfl

theorem exec_gclEntry_next {e : Nat} (hrun : (macOf s n).gcl = some e) (hnext : e + 1 < gclLen s (gclBank s n) n) :
    exec (.gclEntry n) s = .next (kept s (setGates n (e + 1) (gclGates s (gclBank s n) n (e + 1))
      (setMac n { macOf s n with gcl := some (e + 1) } s))) := by
  rw [exec_gclEntry_running hrun (by omega), if_pos hnext]

/-- After the last entry the gates hold. -/
theorem exec_gclEntry_last {e : Nat} (hrun : (macOf s n).gcl = some e) (hlast : e + 1 = gclLen s (gclBank s n) n) :
    exec (.gclEntry n) s = .next (kept s (setMac n { macOf s n with gcl := some (e + 1) } s)) := by
  rw [exec_gclEntry_running hrun (by omega), if_neg (by omega)]

end

/-! ### Residue copies (R318) -/

section
variable {c : Fin 8} {p : Pkt} {rest : List (Nat × Pkt)} {s : State}

theorem residueAdmit_one {g : Nat} {u : State} (htake : residueTake g (residueOf s c) = some (p, rest))
    (hadmit : shfAdmit g c p false (setResidue c rest s) = (true, u)) : residueAdmit g c 1 s = u := by
  simp only [residueAdmit, htake, hadmit]

theorem exec_residueAdmit {i : Fin 28} {u : State} (htake : residueTake (gpnOf i) (residueOf s c) = some (p, rest))
    (hadmit : shfAdmit (gpnOf i) c p false (setResidue c rest s) = (true, u)) :
    exec (.residueAdmit i c) s = .next (kept s (shfSettle (kilnTake 1 u))) := by
  change execResidueAdmit i c s = _
  rw [execResidueAdmit, residueAdmit_one htake hadmit, done_eq]

theorem exec_residueExpiry {g : Nat} (hwait : residueOf s c = (g, p) :: rest) :
    exec (.residueExpiry c) s = .next (kept s (shfSettle (raise (lfSwc 0)
      (bump (swcCtr (portIdx g) 3) (shfUnref p.pid (setResidue c rest s)))))) := by
  change execResidueExpiry c s = _
  simp only [execResidueExpiry, hwait, residueDrop, done_eq]

end

/-! ### Groups (R319) -/

/-- Word 0 of the group at b is written, and the staged words of the group after it. -/
def groupWritten (b : Nat) (w : Word) (s : State) : State :=
  (tblRange s.mcStage b (b + 0x20)).foldl (fun s e => wr e.1 e.2 s) (wr b w s)

/-- The group at b is committed: its words are written and no longer staged. -/
def groupCommitted (b : Nat) (w : Word) (s : State) : State :=
  { groupWritten b w s with
    mcStage := tblDrop (fun k => decide (b ≤ k) && decide (k < b + 0x20)) (groupWritten b w s).mcStage }

theorem groupCommitted_unstaged {b : Nat} {w : Word} {s : State} (hstage : s.mcStage = []) :
    groupCommitted b w s = wr b w s := by
  have hwritten : groupWritten b w s = wr b w s := by rw [groupWritten, hstage]; rfl
  have hleft : (wr b w s).mcStage = [] := hstage
  rw [groupCommitted, hwritten, hleft, tblDrop, List.filter_nil, ← hleft]

/-- One staged word of the group is written after word 0, and nothing stays staged. -/
theorem groupCommitted_oneStaged {b k : Nat} {w x : Word} {s : State} (hlo : b ≤ k) (hhi : k < b + 0x20)
    (hstage : s.mcStage = [(k, x)]) : groupCommitted b w s = { wr k x (wr b w s) with mcStage := [] } := by
  have hwritten : groupWritten b w s = wr k x (wr b w s) := by
    simp [groupWritten, hstage, tblRange, hlo, hhi]
  have hleft : (wr k x (wr b w s)).mcStage = [(k, x)] := hstage
  have hdrop : tblDrop (fun j => decide (b ≤ j) && decide (j < b + 0x20)) [(k, x)] = [] := by simp [tblDrop, hlo, hhi]
  rw [groupCommitted, hwritten, hleft, hdrop]

section
variable {q : Requester} {s : State} (hq : hostOrKiln q = true)
include hq

theorem exec_mcGroupCommit (g : Fin 4096) (w : Word) : exec (.mcGroupCommit q g w) s =
    .next (kept s (if locked s then s else groupCommitted (0x0F000000 + 0x20 * g.val) w s)) := by
  change execMcGroupCommit q g w s = _
  rw [execMcGroupCommit, regCmd_permitted hq, done_eq]
  rfl

theorem exec_mcGroupCommit_locked (hlock : locked s = true) (g : Fin 4096) (w : Word) :
    exec (.mcGroupCommit q g w) s = .next s := by
  rw [exec_mcGroupCommit hq, if_pos hlock, kept_self]

theorem exec_mcGroupCommit_unlocked (hlock : locked s = false) (g : Fin 4096) (w : Word) :
    exec (.mcGroupCommit q g w) s = .next (kept s (groupCommitted (0x0F000000 + 0x20 * g.val) w s)) := by
  rw [exec_mcGroupCommit hq, if_neg (Bool.eq_false_iff.1 hlock)]

/-! ### FRER (R334) -/

theorem exec_frerForceReset (st : Fin 4096) :
    exec (.frerForceReset q st) s = .next (kept s (wrB (strKey st + 4) 31 true s)) := by
  change execFrerForceReset q st s = _
  rw [execFrerForceReset, regCmd_permitted hq, done_eq]

end

theorem exec_frerResetTimeout {st : Fin 4096} {s : State} (hreset : rdB s (strKey st + 4) 31 = false)
    (hrec : recovering s st = true) : exec (.frerResetTimeout st) s =
      .next (kept s (raise (lfSwc 5) (bump (strCtr st 6) (wrB (strKey st + 4) 31 true s)))) := by
  change execFrerResetTimeout st s = _
  simp only [execFrerResetTimeout, hreset, hrec, Bool.not_true, Bool.or_self, Bool.false_eq_true, if_false, done_eq]

/-- Settles O24: each command's outcome is the lemma on what it does; a group's commit is then told by what is staged for it. -/
theorem portSchedulerCommands : Obligations.PortSchedulerCommands := by
  refine ⟨fun n c s u v hmay hu hpick => ?_, fun n s u v hmay hu hpick => ?_, fun n e s => exec_gclEntry_next,
    fun n e s => exec_gclEntry_last, fun i c p rest s u => exec_residueAdmit, fun c g p rest s => exec_residueExpiry,
    fun q g w s hq hlock hstage => ?_, fun q g w x k s hq hlock hk hk8 hstage => ?_,
    fun q g w s hq hlock => exec_mcGroupCommit_locked hq hlock g w, fun st s => exec_frerResetTimeout,
    fun q st s hq => exec_frerForceReset hq st⟩
  · rw [hu, ← selectable] at hpick
    exact exec_portSelect_some hmay hpick
  · rw [hu, ← selectable] at hpick
    exact exec_portSelect_none hmay hpick
  · rw [exec_mcGroupCommit_unlocked hq hlock, groupCommitted_unstaged hstage]
  · rw [exec_mcGroupCommit_unlocked hq hlock, groupCommitted_oneStaged (by omega) (by omega) hstage]

end Sys2Proof.Machine
end

section
/-! Shelf and overflow memory (R343 to R355): what each command does when it acts. -/

namespace Sys2Proof.Machine
open Sys2Proof

/-! ### Spilled packets and the resequencer's takes (R343, R346) -/

theorem exec_spillWriteDone {q : Fin 1280} {seq : Word} {p : Pkt} {s : State} (hfind : findSeq s q seq.toNat = some p)
    (hstage : (pktOf s p.pid).staging ≠ 0) (hinj : injArmed s 0x08 = none) (addr : Nat) :
    exec (.spillWriteDone q seq addr) s =
      .next (kept s (shfSettle (setPkt p.pid { pktOf s p.pid with staging := 0, held := 0 } s))) := by
  have hinj' : injArmed (setPkt p.pid { pktOf s p.pid with staging := 0, held := 0 } s) 0x08 = none := hinj
  change execSpillWriteDone q seq addr s = _
  simp only [execSpillWriteDone, hfind, hstage, hinj', if_false, done_eq]

theorem exec_reseqTake {q : Fin 1280} {p : Pkt} {rest : List Pkt} {s : State} (hhead : eqOf s (q / 8) (q % 8) = p :: rest)
    (hwin : (rsqOf s q).length < rdF s (0x0F400004 + 0x10 * q) 11 0) (hroom : rsqUsed s < 65536) :
    exec (.reseqTake q) s =
      .next (kept s (shfSettle (readIssue p (setRsq q (rsqOf s q ++ [p]) (setEq (q / 8) (q % 8) rest s))))) := by
  change execReseqTake q s = _
  simp only [execReseqTake, hhead, if_pos (And.intro hwin hroom), done_eq]

/-! ### Read-backs (R344, R348, R353) -/

/-- The packets of queue q that wait with a skipped number are l. -/
def setLate (q : Nat) (l : List Pkt) (s : State) : State :=
  { s with shf := { s.shf with late := if l = [] then tblErase s.shf.late q else tblSet s.shf.late q l } }

/-- Packet number pid of queue q is read back with sequence number k: it holds no overflow cells, and its entry is ready. -/
def readBack (q k pid : Nat) (s : State) : State :=
  setRsq q ((rsqOf s q).map (fun x => if x.seq = k then { x with ready := true } else x))
    (setPkt pid { pktOf s pid with ovf := 0 } s)

/-- The read-back of packet number pid of queue q finds an uncorrectable error at a: the packet is discarded. -/
def readLost (q k pid a : Nat) (s : State) : State :=
  let u := setRsq q ((rsqOf s q).filter (fun x => x.seq ≠ k)) (ovfUncorr 2 false a s)
  shfUnref pid (setLate q ((tblGet u.shf.late q []).filter (fun x => x.seq ≠ k)) u)

/-- A packet whose read-back has its cells is not issued again. -/
theorem readIssue_issued {p : Pkt} {s : State} (hissued : (pktOf s p.pid).readback ≠ 0) : readIssue p s = s :=
  if_neg fun h => hissued h.2.2.1

/-- With nothing to correct, the read-back of a packet that the resequencer holds brings it back, or loses it. -/
theorem exec_readbackDone {q : Fin 1280} {seq : Word} {p : Pkt} {s : State} (hfind : findSeq s q seq.toNat = some p)
    (hclean : p.ovfErr = none) (hissued : (pktOf s p.pid).readback ≠ 0)
    (hheld : (rsqOf s q).any (fun x => x.seq = seq.toNat) = true)
    (hlate : (tblGet s.shf.late q.val []).any (fun x => x.seq = seq.toNat) = false) (bad : Option Nat) :
    exec (.readbackDone q seq 0 bad) s =
      .next (kept s (shfSettle (bad.elim (readBack q seq.toNat p.pid s) (readLost q seq.toNat p.pid · s)))) := by
  change execReadbackDone q seq 0 bad s = _
  simp only [execReadbackDone, hfind, readIssue_issued hissued, hheld, hissued, hclean, Bool.true_or, Bool.true_eq_false,
    or_self, if_false, Option.bind_none, Option.or_none, done_eq, forN]
  cases bad with
  | some a => rfl
  | none =>
    have hlate' : (tblGet (setPkt p.pid { pktOf s p.pid with ovf := 0 } s).shf.late q.val []).any
        (fun x => x.seq = seq.toNat) = false := hlate
    rw [hlate']
    rfl

/-! ### Gaps (R348) -/

/-- The next number of queue q, which holds no packet, is skipped. -/
def numberSkipped (q : Nat) (s : State) : State :=
  wr (seqOut q) (rd s (seqOut q) + 1) (setLate q [] (setEq (q / 8) (q % 8) [] (setRsq q [] s)))

theorem exec_reseqGap {q : Fin 1280} {s : State} (hnext : rd s (seqOut q) ≠ rd s (seqIn q))
    (hnone : shfHead s (q / 8) (q % 8) = none) (heq : eqOf s (q / 8) (q % 8) = []) (hrsq : rsqOf s q = [])
    (hlate : tblGet s.shf.late q [] = []) :
    exec (.reseqGap q) s =
      .next (kept s (shfSettle (raise (lfShf 2) (bump (queueCtr q 3) (numberSkipped q s))))) := by
  have heq' : eqOf (setRsq q [] s) (q / 8) (q % 8) = [] := heq
  have hlate' : tblGet (setEq (q / 8) (q % 8) [] (setRsq q [] s)).shf.late q [] = [] := hlate
  change execReseqGap q s = _
  simp only [execReseqGap, hnext, hnone, Option.isSome_none, Bool.false_eq_true, or_self, if_false, hrsq, heq,
    List.append_nil, List.filter_nil, heq', hlate', done_eq]
  rfl

theorem rd_numberSkipped (q : Nat) (s : State) : rd (numberSkipped q s) (seqOut q) = rd s (seqOut q) + 1 := rd_wr_same ..

/-! ### Training and scrub (R351 to R354) -/

theorem exec_ovfTraining_started {pass : Bool} {d : Fin 16385} {s : State} (hstarted : (ovfTrained pass d s).boot.wait ≠ 4) :
    exec (.ovfTraining pass d) s = .next (kept s (ovfTrained pass d s)) := by
  change execOvfTraining pass d s = _
  rw [execOvfTraining, if_neg hstarted, done_eq]

@[simp] theorem ovfTrained_pass_boot (d : Nat) (s : State) : (ovfTrained true d s).boot = s.boot :=
  (congrArg State.boot (setLive_still (lfShf 6) false (wr 0x00480800 (w32 (2 ^ 31 + d * 7 / 8)) s)) :)

theorem exec_ovfRetrain {s : State} (htrained : rdB s 0x00480800 31 = true) (begins : Bool) :
    exec (.ovfRetrain begins) s = .next (kept s (wrB 0x00480800 29 begins s)) := by
  change execOvfRetrain begins s = _
  rw [execOvfRetrain, ← rdB, if_pos htrained, done_eq]

/-- With no injection armed, the scrub does what its count of wrong bits asks for. -/
theorem exec_patrolScrub {s : State} (hinj : injArmed s 0x08 = none) (addr : Nat) (bits : Fin 3) :
    exec (.patrolScrub addr bits) s = .next (kept s (if bits = 0 then s
      else if bits = 1 then bump 0x00480910 s else ovfUncorr (ovfPartition s addr) true addr s)) := by
  change execPatrolScrub addr bits s = _
  simp only [execPatrolScrub, hinj, ovfCorr, if_true, done_eq, Fin.ext_iff]
  rfl

/-! ### Peaks (R355) -/

/-- The watermark whose registers lie at b has its peak read: the peak starts again at w. -/
def peakRead (b : Nat) (w : Word) (s : State) : State := setRdata (rd s (b + 0x10)) (wr (b + 0x10) w s)

theorem rd_peakRead (b : Nat) (w : Word) (s : State) : rd (peakRead b w s) (b + 0x10) = w := rd_wr_same ..

theorem exec_wmMaxRead_enabled {m : Fin 1024} {s : State} (hen : rdB s (0x00540000 + 0x20 * m.val) 31 = true) :
    exec (.wmMaxRead true m) s = .next (kept s
      (peakRead (0x00540000 + 0x20 * m.val) (rd s (0x00540000 + 0x20 * m.val + 0x14)) s)) := by
  change execWmMaxRead true m s = _
  simp only [execWmMaxRead, if_true, hen, done_eq, peakRead]

theorem exec_wmMaxRead_disabled {m : Fin 32} {s : State} (hdis : rdB s (wmKey m) 31 = false) :
    exec (.wmMaxRead false (Fin.ofNat 1024 m.val)) s = .next (kept s (peakRead (wmKey m) 0 s)) := by
  have hm : (Fin.ofNat 1024 m.val : Nat) % 32 = m.val := by
    rw [Fin.val_ofNat]
    omega
  change execWmMaxRead false (Fin.ofNat 1024 m.val) s = _
  simp only [execWmMaxRead, Bool.false_eq_true, if_false, hm, hdis, done_eq, peakRead]

/-- Settles O15: each command's outcome is the lemma on what it does; the skipped number and the peak are read back from their
writes. -/
theorem shelfCommands : Obligations.ShelfCommands := by
  refine ⟨fun q seq addr p s hfind hstage hinj => exec_spillWriteDone hfind hstage hinj addr,
    fun q p rest s => exec_reseqTake, fun q seq p s hfind hclean hissued hheld hlate => ?_,
    fun q s hnext hnone heq hrsq hlate => ?_, fun d s hwait => ?_, fun b s htrained => exec_ovfRetrain htrained b,
    fun addr s hinj => ⟨?_, ?_, ?_⟩,
    fun m s hen => ?_, fun m s hdis => ?_⟩
  · have hdone := exec_readbackDone hfind hclean hissued hheld hlate
    exact ⟨hdone none, fun a => hdone (some a)⟩
  · exact ⟨numberSkipped q s, exec_reseqGap hnext hnone heq hrsq hlate, rd_numberSkipped q s, rfl, rfl⟩
  · rw [exec_ovfTraining_started (by rwa [ovfTrained_pass_boot]), ovfTrained, if_pos rfl]
  · rw [exec_patrolScrub hinj, if_pos rfl, kept_self]
  · rw [exec_patrolScrub hinj, if_neg (by decide), if_pos rfl]
  · rw [exec_patrolScrub hinj, if_neg (by decide), if_neg (by decide)]
  · exact ⟨_, exec_wmMaxRead_enabled hen, rfl, rd_peakRead ..⟩
  · exact ⟨_, exec_wmMaxRead_disabled hdis, rfl, rd_peakRead ..⟩

end Sys2Proof.Machine
end

section
/-! AES-GCM (SP 800-38D, R368, R390): the lengths of AES's blocks, and counter mode undone by itself. -/

namespace Sys2Proof.Machine
open Sys2Proof

@[simp] theorem beBytes_length (k n : Nat) : (beBytes k n).length = k := by
  induction k with
  | zero => rfl
  | succ k ih => rw [beBytes, List.length_cons, ih]

/-! ### The key schedule's lengths -/

theorem keyWords_length (n : Nat) (k : List Nat) : (keyWords n k).length = n := by
  induction n generalizing k with
  | zero => rfl
  | succ n ih => rw [keyWords, List.length_cons, ih]

theorem keyWords_four {n : Nat} {k : List Nat} (h : 4 * n ≤ k.length) : ∀ w ∈ keyWords n k, w.length = 4 := by
  induction n generalizing k with
  | zero => exact fun w hw => absurd hw List.not_mem_nil
  | succ n ih =>
    have hdrop : 4 * n ≤ (k.drop 4).length := by
      rw [List.length_drop]
      omega
    rw [keyWords, List.forall_mem_cons]
    exact ⟨List.length_take_of_le (by omega), ih hdrop⟩

theorem aesExpand_length (n nk i : Nat) (w : List (List Nat)) : (aesExpand n nk i w).length = n + w.length := by
  induction n generalizing i w with
  | zero => exact (Nat.zero_add _).symm
  | succ n ih =>
    rw [aesExpand, ih, List.length_cons]
    omega

theorem getD_four {w : List (List Nat)} {j : Nat} (hj : j < w.length) (h : ∀ x ∈ w, x.length = 4) :
    (w.getD j []).length = 4 := by
  rw [List.getD_eq_getElem _ _ hj]
  exact h _ (List.getElem_mem hj)

/-- Every word of the schedule has four bytes: the rotation, the substitution and the sum with an older word keep that. -/
theorem aesExpand_four {n nk i : Nat} {w : List (List Nat)} (hnk : 0 < nk) (hlen : nk ≤ w.length)
    (h : ∀ x ∈ w, x.length = 4) : ∀ x ∈ aesExpand n nk i w, x.length = 4 := by
  induction n generalizing i w with
  | zero => exact h
  | succ n ih =>
    rw [aesExpand]
    refine ih (by rw [List.length_cons]; omega) (List.forall_mem_cons.2 ⟨?_, h⟩)
    have hold : (w.getD (nk - 1) []).length = 4 := getD_four (by omega) h
    have hlast : (w.getD 0 []).length = 4 := getD_four (by omega) h
    rw [List.length_zipWith, hold]
    split
    · split
      · rfl
      · rw [hlast]
        rfl
    · split
      · rw [List.length_map, hlast]
        rfl
      · rw [hlast]
        rfl

theorem flatten_length_of_four {l : List (List Nat)} (h : ∀ x ∈ l, x.length = 4) : l.flatten.length = 4 * l.length := by
  rw [List.length_flatten, List.map_congr_left h, List.map_const', List.sum_replicate_nat, Nat.mul_comm]

/-- The round keys of a key of 16 or 32 bytes: at least two, each of 16 bytes. -/
theorem aesKeys_sixteen {key : List Byte} (hkey : key.length = 16 ∨ key.length = 32) :
    2 ≤ (aesKeys key).length ∧ ∀ k ∈ aesKeys key, k.length = 16 := by
  have hwords : ∀ x ∈ keyWords (key.length / 4) (key.map (·.toNat)), x.length = 4 :=
    keyWords_four (by rw [List.length_map]; omega)
  refine ⟨by simp only [aesKeys, List.length_map, List.length_range]; omega, fun k hk => ?_⟩
  obtain ⟨r, hr, rfl⟩ := List.mem_map.1 hk
  rw [List.mem_range] at hr
  rw [flatten_length_of_four, slice, List.length_take_of_le]
  · rw [List.length_drop, List.length_reverse, aesExpand_length, List.length_reverse, keyWords_length]
    omega
  · intro x hx
    have hx := List.mem_reverse.1 (List.mem_of_mem_drop (List.mem_of_mem_take hx))
    refine aesExpand_four (by omega) ?_ (fun y hy => hwords y (List.mem_reverse.1 hy)) x hx
    rw [List.length_reverse, keyWords_length]

/-! ### A block's length -/

theorem aesRounds_length {ks : List (List Nat)} {s : List Nat} (hks : ∀ k ∈ ks, k.length = 16) (hs : s.length = 16) :
    (aesRounds ks s).length = 16 := by
  induction ks generalizing s with
  | nil => exact hs
  | cons k ks ih =>
    obtain ⟨hk, hrest⟩ := List.forall_mem_cons.1 hks
    cases ks with
    | nil => simp only [aesRounds, List.length_zipWith, hk, shiftRows, List.length_map, List.length_range, Nat.min_self]
    | cons k' ks =>
      rw [aesRounds]
      · exact ih hrest (by simp only [List.length_zipWith, hk, mixWith, List.length_map, List.length_range, Nat.min_self])
      · exact List.cons_ne_nil _ _

theorem aesEnc_length {key blk : List Byte} (hkey : key.length = 16 ∨ key.length = 32) (hblk : blk.length = 16) :
    (aesEnc key blk).length = 16 := by
  obtain ⟨hlen, hall⟩ := aesKeys_sixteen hkey
  rw [aesEnc]
  split
  · rename_i k0 ks hk
    rw [hk] at hall
    obtain ⟨hk0, hks⟩ := List.forall_mem_cons.1 hall
    rw [List.length_map, aesRounds_length hks]
    rw [List.length_zipWith, List.length_map, hk0, hblk]
    rfl
  · rename_i hk
    rw [hk] at hlen
    contradiction

/-! ### Counter mode -/

theorem xorB_length {a k : List Byte} (h : a.length ≤ k.length) : (xorB a k).length = a.length := by
  rw [xorB, List.length_zipWith, Nat.min_eq_left h]

theorem xorB_xorB {a k : List Byte} (h : a.length ≤ k.length) : xorB (xorB a k) k = a := by
  induction a generalizing k with
  | nil => rfl
  | cons x a ih =>
    cases k with
    | nil => exact absurd h (Nat.not_succ_le_zero _)
    | cons y k =>
      have hhead : x ^^^ y ^^^ y = x := by rw [BitVec.xor_assoc, BitVec.xor_self, BitVec.xor_zero]
      exact congrArg₂ List.cons hhead (ih (Nat.le_of_succ_le_succ h))

section
variable {key iv : List Byte} (hkey : key.length = 16 ∨ key.length = 32) (hiv : iv.length = 12)
include hkey hiv

/-- A counter block's key stream covers a block of the text. -/
theorem take_length_le_stream (c : Nat) (m : List Byte) :
    (m.take 16).length ≤ (aesEnc key (iv ++ beBytes 4 c)).length := by
  rw [aesEnc_length hkey (by rw [List.length_append, beBytes_length, hiv]), List.length_take]
  exact Nat.min_le_left _ _

theorem gctr_length {n : Nat} {m : List Byte} (c : Nat) (h : m.length ≤ 16 * n) : (gctr key iv n c m).length = m.length := by
  induction n generalizing c m with
  | zero => exact (Nat.le_zero.1 h).symm
  | succ n ih =>
    have hdrop : (m.drop 16).length ≤ 16 * n := by
      rw [List.length_drop]
      omega
    rw [gctr, List.length_append, xorB_length (take_length_le_stream hkey hiv c m), ih _ hdrop, ← List.length_append,
      List.take_append_drop]

/-- Counter mode undoes itself: block by block the key stream is the same. -/
theorem gctr_gctr {n : Nat} {m : List Byte} (c : Nat) (h : m.length ≤ 16 * n) :
    gctr key iv n c (gctr key iv n c m) = m := by
  induction n generalizing c m with
  | zero => exact (List.length_eq_zero_iff.1 (Nat.le_zero.1 h)).symm
  | succ n ih =>
    have hdrop : (m.drop 16).length ≤ 16 * n := by
      rw [List.length_drop]
      omega
    have hstream := take_length_le_stream hkey hiv c m
    generalize hblk : xorB (m.take 16) (aesEnc key (iv ++ beBytes 4 c)) = blk
    have hlen : blk.length = (m.take 16).length := by rw [← hblk, xorB_length hstream]
    have hhead : xorB blk (aesEnc key (iv ++ beBytes 4 c)) = m.take 16 := by rw [← hblk, xorB_xorB hstream]
    have hsplit : (blk ++ gctr key iv n (c + 1) (m.drop 16)).take 16 = blk ∧
        (blk ++ gctr key iv n (c + 1) (m.drop 16)).drop 16 = gctr key iv n (c + 1) (m.drop 16) := by
      rcases Nat.lt_or_ge m.length 16 with hshort | hlong
      · have hrest : gctr key iv n (c + 1) (m.drop 16) = [] := by
          rw [← List.length_eq_zero_iff, gctr_length hkey hiv _ hdrop, List.length_drop]
          omega
        have hle : blk.length ≤ 16 := by
          rw [hlen, List.length_take]
          exact Nat.min_le_left _ _
        rw [hrest, List.append_nil]
        exact ⟨List.take_of_length_le hle, List.drop_of_length_le hle⟩
      · have h16 : blk.length = 16 := by rw [hlen, List.length_take_of_le hlong]
        exact ⟨List.take_left' h16, List.drop_left' h16⟩
    rw [gctr, gctr, hblk, hsplit.1, hsplit.2, hhead, ih _ hdrop, List.take_append_drop]

end

/-- Settles O52: counter mode keeps the length and undoes itself, and the tag that opens is computed from the ciphertext. -/
theorem gcmOpenSeal : Obligations.GcmOpenSeal := by
  intro key iv aad pt hkey hiv
  have hblocks : pt.length ≤ 16 * ((pt.length + 15) / 16) := by omega
  have hlen : (gcmSeal key iv aad pt).1.length = pt.length := gctr_length hkey hiv 2 hblocks
  have htag : gcmTag key iv aad (gcmSeal key iv aad pt).1 = (gcmSeal key iv aad pt).2 := rfl
  refine ⟨hlen, ?_, fun tag hne => if_neg (Ne.symm hne)⟩
  rw [gcmOpen, if_pos htag, hlen]
  exact congrArg some (gctr_gctr hkey hiv 2 hblocks)

end Sys2Proof.Machine
end

section
/-! The commands of Glaze's slots (R364, R368, R372, R374, R375): the outcome of a command that its slot accepts. -/

namespace Sys2Proof.Machine
open Sys2Proof

section
variable {q : Requester} {k : Fin 4} {s t : State} {c : Nat} {r : List Nat} {slot3 : Bool}
  {f : State → State × Nat × List Nat} (hmay : keySlotMay k q = true) (hfree : slotPending s (glzSlot k) = false)
include hmay hfree

/-- A command that its slot takes answers what it computes on the accepted command's state. -/
theorem done_glzCommand (hslot : k ≠ 3 ∨ slot3 = true) (hrun : f (slotAccept (glzSlot k) s) = (t, c, r)) :
    done s (glzCommand q k slot3 f s) = .next (kept s (slotResult (glzSlot k) c r t)) := by
  have htake : ¬ (k = 3 ∧ slot3 = false) := by
    rintro ⟨hk, hno⟩
    exact hslot.elim (absurd hk) fun h => by rw [hno] at h; contradiction
  rw [done_eq, glzCommand, slotRun_accepted hmay hfree ((if_neg htake).trans hrun)]

/-- The manager's slot answers BAD_COMMAND to an opcode that it does not take (R374). -/
theorem done_glzCommand_refused (hk : k = 3) : done s (glzCommand q k false f s) =
    .next (kept s (slotResult (glzSlot k) 0x02 [] (slotAccept (glzSlot k) s))) := by
  rw [done_eq, glzCommand, slotRun_accepted hmay hfree (if_pos ⟨hk, rfl⟩)]
  rfl

/-! ### Digests, message codes and signatures (R374, R375) -/

theorem exec_sha256 (hk : k ≠ 3) (data : List Byte) :
    exec (.sha256 q k data) s = .next (kept s (slotResult (glzSlot k) 0
      (digestWords (Machine.sha256 (data.take (slotArg (slotAccept (glzSlot k) s) (glzSlot k) 2))))
      (slotAccept (glzSlot k) s))) :=
  done_glzCommand hmay hfree (.inl hk) rfl

section
variable {key : List Byte} (hk : k ≠ 3)
  (hkey : commandKey (slotAccept (glzSlot k) s) uHmac (slotArg (slotAccept (glzSlot k) s) (glzSlot k) 3 % 4096) = .ok key)
include hk hkey

theorem exec_hmac (data : List Byte) :
    exec (.hmac q k data) s = .next (kept s (slotResult (glzSlot k) 0
      (digestWords (hmac256 key (data.take (slotArg (slotAccept (glzSlot k) s) (glzSlot k) 2))))
      (slotAccept (glzSlot k) s))) := by
  refine done_glzCommand hmay hfree (.inl hk) ?_
  simp only [hmacOf, hkey]
  rfl

theorem exec_hmacVerify (data x : List Byte) {n : Fin 64} (hlo : 16 ≤ n.val) (hhi : n.val ≤ 32) :
    exec (.hmacVerify q k n data x) s = .next (kept s (slotResult (glzSlot k)
      (if (hmac256 key (data.take (slotArg (slotAccept (glzSlot k) s) (glzSlot k) 2))).take n = x.take n then 0 else 0x20)
      [] (slotAccept (glzSlot k) s))) := by
  have hlen : ¬ (n.val < 16 ∨ 32 < n.val) := by omega
  refine done_glzCommand hmay hfree (.inl hk) ?_
  simp only [hlen, if_false, hmacOf, hkey]
  rfl

end

/-- A public key that is not the trusted one fails the check before its signature is looked at. -/
theorem exec_lmsVerify_untrusted (hk : k ≠ 3) {w : Fin 4} (msg sig : List Byte) {pub : List Byte} (hw : w.val < 2)
    (hpub : some (Machine.sha256 pub) ≠ trustedHash (slotAccept (glzSlot k) s) w) :
    exec (.lmsVerify q k true w msg sig pub) s =
      .next (kept s (slotResult (glzSlot k) 0x20 [] (slotAccept (glzSlot k) s))) := by
  refine done_glzCommand hmay hfree (.inl hk) ?_
  simp only [true_and, Nat.not_le_of_lt hw, if_false, hpub, ne_eq, not_false_eq_true, if_true]
  rfl

theorem exec_lmsVerify_checked (hk : k ≠ 3) {w : Fin 4} (msg sig : List Byte) {pub : List Byte} {trusted : Bool}
    (hpub : trusted = true → w.val < 2 ∧ some (Machine.sha256 pub) = trustedHash (slotAccept (glzSlot k) s) w) :
    exec (.lmsVerify q k trusted w msg sig pub) s = .next (kept s
      (match hssVerify pub (msg.take (slotArg (slotAccept (glzSlot k) s) (glzSlot k) 2))
          (sig.take (slotArg (slotAccept (glzSlot k) s) (glzSlot k) 5)) with
       | .ok => slotResult (glzSlot k) 0 [] (slotAccept (glzSlot k) s)
       | .bad => slotResult (glzSlot k) 0x20 [] (slotAccept (glzSlot k) s)
       | .unsupported => slotResult (glzSlot k) 0x20 [1] (slotAccept (glzSlot k) s))) := by
  have hrange : ¬ (trusted = true ∧ 2 ≤ w.val) := fun ⟨ht, hge⟩ => absurd (hpub ht).1 (Nat.not_lt_of_le hge)
  have hsame : ¬ (trusted = true ∧ some (Machine.sha256 pub) ≠ trustedHash (slotAccept (glzSlot k) s) w) :=
    fun ⟨ht, hne⟩ => hne (hpub ht).2
  cases hver : hssVerify pub (msg.take (slotArg (slotAccept (glzSlot k) s) (glzSlot k) 2))
    (sig.take (slotArg (slotAccept (glzSlot k) s) (glzSlot k) 5)) with
  | ok =>
    refine done_glzCommand hmay hfree (.inl hk) ?_
    simp only [hrange, hsame, if_false, hver]
    rfl
  | bad =>
    refine done_glzCommand hmay hfree (.inl hk) ?_
    simp only [hrange, hsame, if_false, hver]
    rfl
  | unsupported =>
    refine done_glzCommand hmay hfree (.inl hk) ?_
    simp only [hrange, hsame, if_false, hver]
    rfl

/-! ### MACsec (R368, R372) -/

theorem exec_rxscSet {n sc : Fin 32} {x : RxSc} (hn : n.val < 24) (hsc : sc.val < 16) (hen : x.en = true)
    (himp : x.implicit = nbit (slotArg (slotAccept (glzSlot k) s) (glzSlot k) 2) 1)
    (hsci : x.sci = slotArg (slotAccept (glzSlot k) s) (glzSlot k) 0 * 2 ^ 32 +
      slotArg (slotAccept (glzSlot k) s) (glzSlot k) 1)
    (hbit : nbit (slotArg (slotAccept (glzSlot k) s) (glzSlot k) 2) 0 = true) :
    exec (.rxscSet q k n sc) s = .next (kept s (slotResult (glzSlot k) 0 [] (wrB (msecKey n 0x20) sc true
      { slotAccept (glzSlot k) s with glz := { (slotAccept (glzSlot k) s).glz with
          rxsc := tblSet (slotAccept (glzSlot k) s).glz.rxsc (16 * n.val + sc.val) x } }))) := by
  obtain ⟨en, implicit, sci⟩ := x
  subst hen himp hsci
  have hrange : ¬ (24 ≤ n.val ∨ 16 ≤ sc.val) := by omega
  refine done_glzCommand hmay hfree (.inr rfl) ?_
  simp only [hrange, if_false, hbit]
  rfl

/-- A command on an association that PARAM names. -/
theorem done_saCommand {n sc : Fin 32} {tx : Bool} (an : Fin 4) (hn : n.val < 24) (hsc : tx = false → sc.val < 16)
    {g : Nat → Nat → State → State × Nat × List Nat}
    (hrun : g n (saIndex tx an sc) (slotAccept (glzSlot k) s) = (t, c, r)) :
    done s (saCommand q k n tx an sc g s) = .next (kept s (slotResult (glzSlot k) c r t)) := by
  have hrange : ¬ (24 ≤ n.val ∨ (tx = false ∧ 16 ≤ sc.val)) := fun h =>
    h.elim (Nat.not_le_of_lt hn) fun ⟨ht, hge⟩ => absurd (hsc ht) (Nat.not_lt_of_le hge)
  exact done_glzCommand hmay hfree (.inr rfl) ((if_neg hrange).trans hrun)

/-! ### Freshness counters (R364) -/

theorem exec_fvSet (hrun : fvSet k (slotAccept (glzSlot k) s) = (t, c, r)) :
    exec (.fvSet q k) s = .next (kept s (slotResult (glzSlot k) c r t)) :=
  done_glzCommand hmay hfree (.inr rfl) hrun

theorem exec_fvRead : exec (.fvRead q k) s = .next (kept s (slotResult (glzSlot k) 0
    ((rdWords (slotAccept (glzSlot k) s) (fvKey (slotArg (slotAccept (glzSlot k) s) (glzSlot k) 0 % 65536)) 4).map (·.toNat) ++
      [b2n ((slotAccept (glzSlot k) s).glz.fvSet.contains (slotArg (slotAccept (glzSlot k) s) (glzSlot k) 0 % 65536))])
    (slotAccept (glzSlot k) s))) :=
  done_glzCommand hmay hfree (.inr rfl) rfl

end

/-! ### What the commands compute -/

section
variable {n i : Nat} {s : State}

theorem saEnable_receive (hi : i < 64) (h : saState s n i = 1) : saEnable n i s = (wrF (saKey n i) 31 30 2 s, 0, []) := by
  simp only [saEnable, h, hi, OfNat.one_ne_ofNat, one_ne_zero, if_false, if_true]
  rfl

theorem saEnable_empty (h : saState s n i = 0) : saEnable n i s = (s, 0x31, []) := by
  simp only [saEnable, h, if_true]
  rfl

theorem saEnable_orphaned (h : saState s n i = 3) : saEnable n i s = (s, 0x10, []) := by
  simp only [saEnable, h, OfNat.ofNat_ne_zero, if_false, if_true]
  rfl

/-- A retired association is EMPTY. -/
theorem saState_saRetire (n i : Nat) (s : State) : saState (saRetire n i s).1 n i = 0 := by
  have hrd : ∀ u : State, rd (wrWords (saKey n i) [0, 0, 0, 0] u) (saKey n i) = 0 := fun u => rd_wrWords_head ..
  exact congrArg (fld · 31 30) (hrd _)

theorem saIndex_receive (an : Fin 4) {sc : Fin 32} (h : sc.val < 16) : saIndex false an sc < 64 := by
  have := an.isLt
  simp only [saIndex, Bool.false_eq_true, if_false]
  omega

end

/-- Freshness counter c is listed as set. -/
def fvListed (c : Nat) (s : State) : State := { s with glz := { s.glz with fvSet := c :: s.glz.fvSet } }

@[simp] theorem setFv_glz (c l b : Nat) (s : State) : (setFv c l b s).glz = s.glz := by
  simp only [setFv, wrWords, wr_glz]

theorem fvListed_regs (c : Nat) (s : State) : (fvListed c s).regs = s.regs := rfl
theorem fvListed_fvSet (c : Nat) (s : State) : (fvListed c s).glz.fvSet = c :: s.glz.fvSet := rfl

section
variable {k : Fin 4} {s : State} {c : Nat} (hc : c = slotArg s (glzSlot k) 0 % 65536)
include hc

/-- A set counter does not go back (R364). -/
theorem fvSet_older (hset : s.glz.fvSet.contains c = true)
    (hold : slotArg s (glzSlot k) 1 * 2 ^ 32 + slotArg s (glzSlot k) 2 < fvLatest s c) : fvSet k s = (s, 0x13, []) := by
  subst hc
  simp only [fvSet, hset, hold, and_self, if_true]
  rfl

/-- The first value of a counter sets it, and lists the counter as set (R364). -/
theorem fvSet_first (hset : s.glz.fvSet.contains c = false) : fvSet k s =
    (fvListed c (setFv c (slotArg s (glzSlot k) 1 * 2 ^ 32 + slotArg s (glzSlot k) 2) 0 s), 0, []) := by
  subst hc
  simp only [fvSet, setFv_glz, hset, Bool.false_eq_true, false_and, if_false, fvListed]
  rfl

end

/-- Settles O31: an accepted command answers what it computes; the associations' and the counters' cases are the lemmas on
what these compute. -/
theorem glazeCommands : Obligations.GlazeCommands := by
  refine ⟨fun q k s a hmay hfree ha => ?_, fun q k n sc tx an s a hmay hfree ha hn hsc => ?_,
    fun q data s hmay hfree => done_glzCommand_refused hmay hfree rfl⟩
  · subst ha
    refine ⟨fun data hk => exec_sha256 hmay hfree hk data,
      fun data key hk hkey => ⟨exec_hmac hmay hfree hk hkey data,
        fun n x hlo hhi => exec_hmacVerify hmay hfree hk hkey data x hlo hhi⟩,
      fun w msg sig pub trusted hk hpub => exec_lmsVerify_checked hmay hfree hk msg sig hpub,
      fun w msg sig pub hk hw hpub => exec_lmsVerify_untrusted hmay hfree hk msg sig hw hpub,
      fun n sc x u hn hsc hen himp hsci hu hbit => ?_,
      fun c hc hset hold => exec_fvSet hmay hfree (fvSet_older hc hset hold), fun c hc hset => ?_, fun c hc => ?_⟩
    · rw [hu]
      exact exec_rxscSet hmay hfree hn hsc hen himp hsci hbit
    · refine ⟨_, exec_fvSet hmay hfree (fvSet_first hc hset), ?_, fvListed_regs ..⟩
      rw [fvListed_fvSet, setFv_glz]
    · rw [hc]
      exact exec_fvRead hmay hfree
  · subst ha
    refine ⟨fun u => done_saCommand hmay hfree an hn hsc, fun htx hst => ?_,
      fun hst => done_saCommand hmay hfree an hn hsc (saEnable_empty hst),
      fun hst => done_saCommand hmay hfree an hn hsc (saEnable_orphaned hst), fun u hrun => ?_,
      done_saCommand hmay hfree an hn hsc rfl⟩
    · have hi : saIndex tx an sc < 64 := by
        rw [htx]
        exact saIndex_receive an (hsc htx)
      exact done_saCommand hmay hfree an hn hsc (saEnable_receive hi hst)
    · refine ⟨done_saCommand hmay hfree an hn hsc hrun, ?_⟩
      have hu : u = (saRetire n (saIndex tx an sc) (slotAccept (glzSlot k) s)).1 := (congrArg Prod.fst hrun).symm
      rw [hu, saState_saRetire]

end Sys2Proof.Machine
end

section
/-! Saggar's commands and events (R381 to R406): the outcome of a command that its slot accepts, and the events that change the
key cache. -/

namespace Sys2Proof.Machine
open Sys2Proof

/-! ### Commands in Saggar's slots (R405) -/

section
variable {q : Requester} {k : Fin 4} {s t : State} {c : Nat} {r : List Nat} {slot3 : Bool}
  {f : State → State × Nat × List Nat} (hmay : keySlotMay k q = true) (hfree : slotPending s (sagSlot k) = false)
include hmay hfree

/-- A command that its slot takes answers what it computes on the accepted command's state. -/
theorem done_sagCommand (hslot : k ≠ 3 ∨ slot3 = true) (hrun : f (slotAccept (sagSlot k) s) = (t, c, r)) :
    done s (sagCommand q k slot3 f s) = .next (kept s (slotResult (sagSlot k) c r t)) := by
  have htake : ¬ (k = 3 ∧ slot3 = false) := by
    rintro ⟨hk, hno⟩
    exact hslot.elim (absurd hk) fun h => by rw [hno] at h; contradiction
  rw [done_eq, sagCommand, slotRun_accepted hmay hfree ((if_neg htake).trans hrun)]

theorem exec_nodeRead (h : Fin 4096) : exec (.nodeRead q k h) s = .next (kept s (slotResult (sagSlot k) 0
    (nodeWords (slotAccept (sagSlot k) s) h) (slotAccept (sagSlot k) s))) :=
  done_sagCommand hmay hfree (.inr rfl) rfl

theorem exec_keyInject (hk : k ≠ 3) {h : Fin 4096} {key : List Byte}
    (hrun : keyInject k h key (slotAccept (sagSlot k) s) = (t, c, r)) :
    exec (.keyInject q k h key) s = .next (kept s (slotResult (sagSlot k) c r t)) :=
  done_sagCommand hmay hfree (.inl hk) hrun

theorem exec_nodeInvalidate (hk : k ≠ 3) {h : Fin 4096} (hrun : nodeInvalidate k h (slotAccept (sagSlot k) s) = (t, c, r)) :
    exec (.nodeInvalidate q k h) s = .next (kept s (slotResult (sagSlot k) c r t)) :=
  done_sagCommand hmay hfree (.inl hk) hrun

theorem exec_keyUpdate {m : List Byte} (hrun : keyUpdate m (slotAccept (sagSlot k) s) = (t, c, r)) :
    exec (.keyUpdate q k m) s = .next (kept s (slotResult (sagSlot k) c r t)) :=
  done_sagCommand hmay hfree (.inr rfl) hrun

theorem exec_lifecycle (hk : k ≠ 3) {n : Fin 8} {pub : List Byte}
    (hrun : lifecycleTo n pub (slotAccept (sagSlot k) s) = (t, c, r)) :
    exec (.lifecycle q k n pub) s = .next (kept s (slotResult (sagSlot k) c r t)) :=
  done_sagCommand hmay hfree (.inl hk) hrun

theorem exec_attest {nonce : List Byte} {stuck : Nat} (hrun : attest k nonce stuck (slotAccept (sagSlot k) s) = (t, c, r)) :
    exec (.attest q k nonce stuck) s = .next (kept s (slotResult (sagSlot k) c r t)) :=
  done_sagCommand hmay hfree (.inr rfl) hrun

theorem exec_debugChallenge (hk : k ≠ 3) (hrun : debugChallenge (slotAccept (sagSlot k) s) = (t, c, r)) :
    exec (.debugChallenge q k) s = .next (kept s (slotResult (sagSlot k) c r t)) :=
  done_sagCommand hmay hfree (.inl hk) hrun

theorem exec_debugResponse (hk : k ≠ 3) {scope : Fin 4} {pub sig : List Byte}
    (hrun : debugResponse scope pub sig (slotAccept (sagSlot k) s) = (t, c, r)) :
    exec (.debugResponse q k scope pub sig) s = .next (kept s (slotResult (sagSlot k) c r t)) :=
  done_sagCommand hmay hfree (.inl hk) hrun

end

/-! ### What the commands compute -/

section
variable {s u : State}

/-- A host slot is neither firmware's nor the manager's. -/
theorem hostSlot_ne {k : Fin 4} (h : k.val < 2) : k ≠ 2 ∧ k ≠ 3 := by
  constructor
  · rintro rfl
    exact absurd h (by decide)
  · rintro rfl
    exact absurd h (by decide)

theorem keyInject_committed {k : Fin 4} {h : Nat} {key : List Byte} {p usage len : Nat} (hk : k ≠ 2) (hauth : authMode s = false)
    (hp : p = slotArg s (sagSlot k) 0 % 4096) (husage : usage = slotArg s (sagSlot k) 2 % 64)
    (hlen : len = if nbit (slotArg s (sagSlot k) 2) 8 then 32 else 16) (hcheck : injectCheck s h p usage = 0)
    (hcommit : commitStore (injectNode h p (slotArg s (sagSlot k) 1) usage ((nodeOf s p).depth + 1)
      (padTo (key.take len) len 0)) s = some u) : keyInject k h key s = (u, 0, []) := by
  subst hp husage hlen
  simp only [keyInject, hk, hauth, Bool.false_eq_true, or_self, if_false, hcheck, cOk, ne_eq, not_true_eq_false, hcommit,
    committed]

theorem keyInject_authMode (k : Fin 4) (h : Nat) (key : List Byte) (hauth : authMode s = true) :
    keyInject k h key s = (s, 3, []) := if_pos (.inr hauth)

theorem nodeInvalidate_authMode (k : Fin 4) (h : Nat) (hauth : authMode s = true) : nodeInvalidate k h s = (s, 3, []) :=
  if_pos (.inr (.inl hauth))

theorem nodeInvalidate_committed {k : Fin 4} {h : Nat} (hk : k ≠ 2) (hauth : authMode s = false) (hfixed : 8 ≤ h)
    (hlife : lifecycle s < 3) (hvalid : (nodeOf s h).st = 1) (hcommit : invalidate h id s = some u) :
    nodeInvalidate k h s = (u, 0, []) := by
  simp only [nodeInvalidate, hk, hauth, Bool.false_eq_true, Nat.not_lt_of_le hfixed, Nat.not_le_of_lt hlife, hvalid, ne_eq,
    not_true_eq_false, or_self, if_false, hcommit, committed]
  rfl

/-! ### The authenticated update (R395) -/

/-- Message m is an update for this device that its authorising node's key opens to pt. -/
structure UpdateOpens (s : State) (m pt key : List Byte) : Prop where
  formed : updateMalformed m = false
  mine : beAt m 4 16 = s.sag.uid
  keyed : commandKey s uWrap (beAt m 24 2) = .ok key
  opened : gcmOpen key (slice m 40 12) (m.take 52) (slice m 52 32) (slice m 84 16) = some pt

theorem keyUpdate_newer {m pt key : List Byte} (h : UpdateOpens s m pt key) (hnew : s.sag.updCtr < beAt m 20 4) :
    keyUpdate m s = updateApply m pt (beAt m 24 2) s := by
  simp only [keyUpdate, h.formed, h.mine, h.keyed, h.opened, Nat.not_le_of_lt hnew, Bool.false_eq_true, ne_eq,
    not_true_eq_false, if_false]

theorem keyUpdate_older {m pt key : List Byte} (h : UpdateOpens s m pt key) (hold : beAt m 20 4 ≤ s.sag.updCtr) :
    keyUpdate m s = (s, 0x13, []) := by
  simp only [keyUpdate, h.formed, h.mine, h.keyed, h.opened, hold, Bool.false_eq_true, ne_eq, not_true_eq_false, if_false,
    if_true]
  rfl

/-! ### Lifecycle steps (R392) -/

theorem lifecycleTo_provisioned (pub : List Byte) (h : lifecycle s = 0) : lifecycleTo 1 pub s =
    (emit (.otp "PROVISIONED" 0) (emit (.otp "OWNER_HASH" 0)
      (modSag (fun g => { g with ownerHash := some (Machine.sha256 pub), prov := true }) s)), 0, []) := by
  simp only [lifecycleTo, h]
  rfl

theorem lifecycleTo_inField (pub : List Byte) (h : lifecycle s = 1) : lifecycleTo 2 pub s =
    (burnAuthLock (emit (.otp "IN_FIELD" 0) (modSag (fun g => { g with inField := true }) s)), 0, []) := by
  simp only [lifecycleTo, h]
  rfl

/-- No step leads out of DECOMMISSIONED. -/
theorem lifecycleTo_decommissioned (n : Fin 8) (pub : List Byte) (h : lifecycle s = 4) : lifecycleTo n pub s = (s, 3, []) := by
  simp only [lifecycleTo, h]
  split <;> simp_all [answer, cNotPermitted]

/-! ### Attestation and authenticated debug (R398 to R403) -/

/-- The report on leaf i and its signature leave for the slot's memory, with the randomiser that is drawn last. -/
theorem attest_signed {k : Fin 4} {nonce key : List Byte} {stuck i : Nat} (hroot : s.sag.rootFail = false)
    (hlife : lifecycle s ≠ 4) (hkey : commandKey s uSign 1 = .ok key) (hleaf : takeLeaf stuck s = some (i, u)) :
    attest k nonce stuck s = (sagLive (slotWrite k (slotArg (drawn u) (sagSlot k) 2 + 2 ^ 32 * slotArg (drawn u) (sagSlot k) 3)
      (attReport (drawn u) i nonce ++ attSign key i (freeVal u 256) (attReport (drawn u) i nonce)) (drawn u)), 0, [i, 5216]) := by
  simp only [attest, hroot, hlife, Bool.false_eq_true, or_self, if_false, hkey, hleaf]
  rfl

/-- The challenge that is drawn in s (R402). -/
def debugDraw (s : State) : List Byte :=
  Machine.sha256 (beBytes 16 s.sag.uid ++ beBytes 32 (freeVal s 256) ++ [b8 (lifecycle s)])

theorem debugChallenge_drawn (hnone : s.sag.failAt = none) (hfails : s.sag.fails < 16) (hinj : trngInjected s = 0) :
    debugChallenge s = (modSag (fun g => { g with chal := some (debugDraw s) }) (drawn s), 0,
      (List.range 8).map (fun j => beAt (debugDraw s) (4 * j) 4)) := by
  simp only [debugChallenge, hnone, hinj, Nat.not_le_of_lt hfails, decide_false, Bool.or_self, Bool.false_eq_true, if_false,
    if_true, Nat.reduceLeDiff]
  rfl

section
variable {scope : Nat} {pub sig c : List Byte} (hkey : debugKeyHash s = some (Machine.sha256 pub)) (hchal : s.sag.chal = some c)
include hkey hchal

theorem debugResponse_verified
    (hver : hssVerify pub (beBytes 4 0x5A473844 ++ beBytes 16 s.sag.uid ++ c ++ beBytes 4 scope) sig = .ok) :
    let x := modSag (fun g => { g with chal := none, dbg := g.dbg ||| scope, dbgSince := true, fails := 0 }) s
    debugResponse scope pub sig s = (raise (lfSag 6)
      (if nbit scope 1 then modSag (fun g => { g with refuse := true }) (clearCache x) else x), 0, []) := by
  have hver' : hssVerify pub (beBytes 4 0x5A473844 ++ beBytes 16 (modSag (fun g => { g with chal := none }) s).sag.uid ++ c ++
    beBytes 4 scope) sig = .ok := hver
  simp only [debugResponse, hkey, hchal, hver', and_self, if_true]
  rfl

theorem debugResponse_rejected
    (hver : hssVerify pub (beBytes 4 0x5A473844 ++ beBytes 16 s.sag.uid ++ c ++ beBytes 4 scope) sig ≠ .ok) :
    debugResponse scope pub sig s = (raise (lfSag 7)
      (modSag (fun g => { g with chal := none, fails := g.fails + 1, failAt := some s.now }) s), 0x20, []) := by
  have hver' : ¬ hssVerify pub (beBytes 4 0x5A473844 ++ beBytes 16 (modSag (fun g => { g with chal := none }) s).sag.uid ++ c ++
    beBytes 4 scope) sig = .ok := hver
  simp only [debugResponse, hkey, hchal, hver', and_false, if_false]
  rfl

end

end

/-! ### Events of the key cache (R382, R383, R396) -/

/-- Re-masking keeps the cached nodes in their order, and draws one free value for each. -/
theorem remask_nodes (l : List CacheEnt) (s : State) : (remask l s).1.map (·.node) = l.map (·.node) := by
  induction l generalizing s with
  | nil => rfl
  | cons e l ih =>
    simp only [remask, List.map_cons]
    exact congrArg (e.node :: ·) (ih _)

theorem remask_state (l : List CacheEnt) (s : State) : (remask l s).2 = { s with fresh := s.fresh + l.length } := by
  induction l generalizing s with
  | nil => rfl
  | cons e l ih =>
    simp only [remask, ih, draw, drawn, List.length_cons]
    rw [Nat.add_right_comm, Nat.add_assoc]

/-- Key re-masking replaces the cache's list. -/
theorem exec_keyRemask (s : State) : exec .keyRemask s =
    .next (kept s (modSag (fun g => { g with cache := (remask s.sag.cache s).1 })
      { s with fresh := s.fresh + s.sag.cache.length })) := by
  change execKeyRemask s = _
  rw [execKeyRemask, done_eq, ← remask_state]

theorem exec_keyDerivation {h : Fin 4096} {s : State} (hvalid : (nodeOf s h).st = 1) (hmay : keyRefused s h = false)
    (hroot : s.sag.root ≠ none) : exec (.keyDerivation h) s = .next (kept s (deriveKey h s)) := by
  change execKeyDerivation h s = _
  simp only [execKeyDerivation, hvalid, hmay, hroot, one_ne_zero, OfNat.one_ne_ofNat, Bool.false_eq_true, or_self, if_false,
    done_eq]

theorem zeroise_of_zeroised {s : State} (h : s.sag.zeroised = true) : zeroise s = clearCache s := if_pos h

theorem zeroise_first {s : State} (h : s.sag.zeroised = false) : zeroise s =
    emit (.otp "ZEROISED" 0) (modSag (fun g => { g with zeroised := true }) (clearCache s)) :=
  if_neg (by rw [show (clearCache s).sag.zeroised = s.sag.zeroised from rfl, h]; decide)

/-- Zeroisation clears the keys and burns its bit once. -/
theorem zeroise_spec (s : State) : (zeroise s).sag.zeroised = true ∧ (zeroise s).sag.cache = [] ∧ (zeroise s).sag.root = none ∧
    (zeroise s).out = (if s.sag.zeroised then s.out else .otp "ZEROISED" 0 :: s.out) ∧ (zeroise s).regs = s.regs := by
  cases hz : s.sag.zeroised with
  | true =>
    rw [zeroise_of_zeroised hz]
    exact ⟨hz, rfl, rfl, rfl, rfl⟩
  | false =>
    rw [zeroise_first hz]
    exact ⟨rfl, rfl, rfl, rfl, rfl⟩

/-- Settles O32: an accepted command answers what it computes, by the lemma on each; the events of the cache follow. -/
theorem saggarCommands : Obligations.SaggarCommands := by
  refine ⟨fun q k s a hmay hfree ha => ?_, fun s => rfl, fun s => ⟨_, exec_keyRemask s, remask_nodes _ s, rfl, rfl, rfl⟩,
    fun h s => exec_keyDerivation, fun s => ⟨_, rfl, zeroise_spec s⟩⟩
  subst ha
  refine ⟨exec_nodeRead hmay hfree, fun h key p usage len u hk hauth hp husage hlen hcheck hcommit => ?_,
    fun h u hk hauth hfixed hlife hvalid hcommit => ?_, fun h key hk hauth => ⟨?_, ?_⟩,
    fun m pt key u c r hformed hmine hkeyed hopened => ?_,
    fun pub hk hl => exec_lifecycle hmay hfree hk (lifecycleTo_provisioned pub hl),
    fun pub hk hl => exec_lifecycle hmay hfree hk (lifecycleTo_inField pub hl),
    fun pub n hk hl => exec_lifecycle hmay hfree hk (lifecycleTo_decommissioned n pub hl),
    fun nonce key stuck i u hroot hlife hkey hleaf => exec_attest hmay hfree (attest_signed hroot hlife hkey hleaf),
    fun hk hnone hfails hinj => ⟨_, exec_debugChallenge hmay hfree hk (debugChallenge_drawn hnone hfails hinj), rfl⟩,
    fun scope pub sig c hk hkey hchal => ?_⟩
  · obtain ⟨hkiln, hmanager⟩ := hostSlot_ne hk
    exact exec_keyInject hmay hfree hmanager (keyInject_committed hkiln hauth hp husage hlen hcheck hcommit)
  · obtain ⟨hkiln, hmanager⟩ := hostSlot_ne hk
    exact exec_nodeInvalidate hmay hfree hmanager (nodeInvalidate_committed hkiln hauth hfixed hlife hvalid hcommit)
  · exact exec_keyInject hmay hfree (hostSlot_ne hk).2 (keyInject_authMode k h key hauth)
  · exact exec_nodeInvalidate hmay hfree (hostSlot_ne hk).2 (nodeInvalidate_authMode k h hauth)
  · have hm : UpdateOpens (slotAccept (sagSlot k) s) m pt key := ⟨hformed, hmine, hkeyed, hopened⟩
    exact ⟨fun hnew happly => exec_keyUpdate hmay hfree ((keyUpdate_newer hm hnew).trans happly),
      fun hold => exec_keyUpdate hmay hfree (keyUpdate_older hm hold)⟩
  · by_cases hver : hssVerify pub (beBytes 4 0x5A473844 ++ beBytes 16 (slotAccept (sagSlot k) s).sag.uid ++ c ++
      beBytes 4 scope) sig = .ok
    · simp only [hver, if_true]
      exact exec_debugResponse hmay hfree hk (debugResponse_verified hkey hchal hver)
    · simp only [hver, if_false]
      exact exec_debugResponse hmay hfree hk (debugResponse_rejected hkey hchal hver)

end Sys2Proof.Machine
end

section
/-! Network management (R409 to R419): the consent ring, sleep by commit, wakes and mutes: what each command does when it acts. -/

namespace Sys2Proof.Machine
open Sys2Proof

/-! ### The ring (R409 to R411) -/

section
variable {g : Nat} {msg : List Byte} {w : Bool} {rest : List (Nat × List Byte × Bool)} {s : State}
  (hring : s.nmw.ring = (g, msg, w) :: rest)
include hring

theorem exec_ringMsgRx_accepted (hen : rdB s (ncKey (byteAt msg 3 % 16) 0) 31 = true)
    (hcar : (ncCarriers s (byteAt msg 3 % 16)).any (fun k => k.1 == g) = true) :
    exec .ringMsgRx s = .next (kept s (nmwSettle (ringAccept (byteAt msg 3 % 16) g msg w
      { s with nmw := { s.nmw with ring := rest } }))) := by
  have htake : (rdB s (ncKey (byteAt msg 3 % 16) 0) 31 && (ncCarriers s (byteAt msg 3 % 16)).any (fun k => k.1 == g)) = true := by
    rw [hen, hcar, Bool.and_self]
  change execRingMsgRx s = _
  simp only [execRingMsgRx, hring, done_eq]
  exact congrArg (fun t => Host.Outcome.next (kept s t)) (if_pos htake)

/-- A message for a cluster that is off is counted as bad. -/
theorem exec_ringMsgRx_disabled (hoff : rdB s (ncKey (byteAt msg 3 % 16) 0) 31 = false) :
    exec .ringMsgRx s = .next (kept s (bump 0x00070018 { s with nmw := { s.nmw with ring := rest } })) := by
  have hno : ¬ (rdB s (ncKey (byteAt msg 3 % 16) 0) 31 && (ncCarriers s (byteAt msg 3 % 16)).any (fun k => k.1 == g)) = true := by
    rw [hoff, Bool.false_and]
    decide
  change execRingMsgRx s = _
  simp only [execRingMsgRx, hring, done_eq]
  exact congrArg (fun t => Host.Outcome.next (kept s t)) (if_neg hno)

end

section
variable {c : Fin 16} {s : State}

theorem exec_ringSuccessorTimeout {d : Nat} (hawait : (ncOf s c).await = some d) (hst : ncState s c = 1) :
    exec (.ringSuccessorTimeout c) s = .next (kept s (ringPass c (raise (lfNmw 0) (ncPresent c (bump (ncCtr c 3)
      (setNc c { ncOf s c with missing := nsetBit (ncOf s c).missing d true, await := none } s)))))) := by
  change execRingSuccessorTimeout c s = _
  simp only [execRingSuccessorTimeout, hawait, hst, if_true, done_eq]

theorem exec_tokenLost (hst : ncState s c = 1) :
    exec (.tokenLost c) s = .next (kept s (raise (lfNmw 6) (bump (ncCtr c 5) (ringPass c (ringOwn c 0 s))))) := by
  change execTokenLost c s = _
  simp only [execTokenLost, hst, if_true, done_eq]

/-! ### Sleep (R413, R414) -/

/-- A latched wake event in CONFIRM aborts the sleep, whatever it is (R413). -/
theorem ncSettle_confirm (hst : ncState s c = 2) (hlatch : (ncOf s c).latch ≠ none) : ncSettle c s = sleepAbort c true s := by
  obtain ⟨e, he⟩ := Option.ne_none_iff_exists'.1 hlatch
  simp only [ncSettle, he, hst]

theorem exec_sleepCommit_aborted (hst : ncState s c = 2) (hlatch : (ncOf s c).latch ≠ none) :
    exec (.sleepCommit c) s = .next (kept s (sleepAbort c true s)) := by
  have hsome : (ncOf s c).latch.isSome = true := Option.isSome_iff_ne_none.2 hlatch
  change execSleepCommit c s = _
  simp only [execSleepCommit, hst, ne_eq, not_true_eq_false, if_false, hsome, if_true, ncSettle_confirm hst hlatch, done_eq]

theorem exec_sleepCommit_asleep (hst : ncState s c = 2) (hlatch : (ncOf s c).latch = none) :
    let a := raise (lfNmw 1) (bump (ncCtr c 0) s)
    let b := (ncFxps a c).foldl (fun u n => let r := fxqFlush n u; bumpN (ncCtr c 4) r.1 r.2) a
    exec (.sleepCommit c) s = .next (kept s (setNcState c 3 ((ncMembers b c).foldl (fun u n => portSleep n u) b))) := by
  change execSleepCommit c s = _
  simp only [execSleepCommit, hst, ne_eq, not_true_eq_false, if_false, hlatch, Option.isSome_none, Bool.false_eq_true, done_eq]

/-! ### Wakes (R415 to R419) -/

theorem exec_ncWake {q : Requester} (hq : hostRights q = true) (hst : ncState s c = 2 ∨ ncState s c = 3 ∨ ncState s c = 4) :
    exec (.ncWake q c) s = .next (kept s (ncSettle c (ncLatch c none s))) := by
  change execNcWake q c s = _
  rw [execNcWake, regCmd_permitted hq, localWake, if_pos hst, done_eq]

/-- CONSENT is written; taking it back is a local wake as well. -/
theorem exec_ncConsentWrite {q : Requester} (hq : hostRights q = true) (v : Bool) :
    exec (.ncConsentWrite q c v) s = .next (kept s (if v then wrB (ncKey c 0x44) 0 v s
      else localWake c (wrB (ncKey c 0x44) 0 v s))) := by
  change execNcConsentWrite q c v s = _
  rw [execNcConsentWrite, regCmd_permitted hq, done_eq]

/-- A wake that is not validated is false: the cluster sleeps again (R418). -/
theorem exec_wakeValidationTimeout_check (hst : ncState s c = 4) :
    exec (.wakeValidationTimeout c) s = .next (kept s
      (let u := match (ncOf s c).woke with
          | some n => if n < 128 then falseWake n (portSleep n (bump (ncCtr c 2) s)) else portSleep n (bump (ncCtr c 2) s)
          | none => bump (ncCtr c 2) s
       setNcState c 3 (setNc c { ncOf u c with woke := none, latch := none } u))) := by
  change execWakeValidationTimeout c s = _
  rw [execWakeValidationTimeout, if_neg (not_not_intro hst), done_eq]
  rfl

end

section
variable {n : Fin 128} {s : State}

theorem exec_wakeMuteEnd (h : muted s n = true) : exec (.wakeMuteEnd n) s = .next (kept s (muteEnd n s)) := by
  change execWakeMuteEnd n s = _
  rw [execWakeMuteEnd, if_pos h, done_eq]

theorem exec_footFwClear {q : Requester} (h : (hostOrKiln q || decide (q = .aux)) = true) :
    exec (.footFwClear q n) s = .next (kept s (muteEnd n (wrF (fwKey n) 31 16 0 s))) := by
  change execFootFwClear q n s = _
  rw [execFootFwClear, regCmd_permitted h, done_eq]

theorem exec_t1sEnergyDetect (hpers : persOf s n = 3) (hasleep : s.nmw.t1sAsleep.contains n.val = true) :
    exec (.t1sEnergyDetect n) s = .next (kept s (nmwSettle (busWake n false (raise (lfFxp n 10) s)))) := by
  change execT1sEnergyDetect n s = _
  rw [execT1sEnergyDetect, if_pos ⟨hpers, hasleep⟩, done_eq]

end

/-- Settles O16: each command's outcome is the lemma on what it does when it acts. -/
theorem networkWakeCommands : Obligations.NetworkWakeCommands := by
  refine ⟨fun g msg w rest s => exec_ringMsgRx_accepted, fun g msg w rest s => exec_ringMsgRx_disabled,
    fun c d s => exec_ringSuccessorTimeout, fun c s => exec_tokenLost, fun c s => exec_sleepCommit_asleep,
    fun c s => exec_sleepCommit_aborted, fun q c s => exec_ncWake,
    fun q c s hq => ⟨exec_ncConsentWrite hq true, exec_ncConsentWrite hq false⟩, fun c s hst hwoke => ?_,
    fun c n s hst hwoke hn => ?_, fun n s => exec_wakeMuteEnd, fun q n s => exec_footFwClear,
    fun n s => exec_t1sEnergyDetect⟩
  · rw [exec_wakeValidationTimeout_check hst, hwoke]
    rfl
  · rw [exec_wakeValidationTimeout_check hst, hwoke]
    simp only [hn, if_true]

end Sys2Proof.Machine
end

section
/-! Consecutive words and live conditions: what their updates leave alone. -/

namespace Sys2Proof.Machine
open Sys2Proof

theorem wrWords_still (k : Nat) (ws : List Word) (s : State) : still (wrWords k ws s) = still s := by
  induction ws generalizing k s with
  | nil => rfl
  | cons w ws ih => exact (ih _ _).trans rfl

theorem wrB_still (k b : Nat) (v : Bool) (s : State) : still (wrB k b v s) = still s := rfl

@[simp] theorem wrWords_brg (k : Nat) (ws : List Word) (s : State) : (wrWords k ws s).brg = s.brg :=
  (congrArg State.brg (wrWords_still k ws s) :)

@[simp] theorem wrWords_col (k : Nat) (ws : List Word) (s : State) : (wrWords k ws s).col = s.col :=
  (congrArg State.col (wrWords_still k ws s) :)

end Sys2Proof.Machine
end

section
/-! The bridge at its requester (R451 to R461, R466, R470, R474, R475): what its commands do when they act, and how the error
log's registers follow the log. -/

namespace Sys2Proof.Machine
open Sys2Proof

/-! ### Windows (R451, R452) -/

/-- One word at an aligned address is one piece: no 128-byte boundary lies within it. -/
theorem pieces_one (f a : Nat) : pieces (f + 1) a 1 = [(a, 1)] := by
  have hk : min 1 (32 - a % 128 / 4) = 1 := by omega
  have hrest : pieces f (a + 4 * 1) (1 - 1) = [] := by cases f <;> rfl
  simp only [pieces, one_ne_zero, if_false, hk, hrest]

section
variable {s : State} {did ch addr : Nat} {data : List Byte}

theorem regSend_word (hdid : didBad s did = false) (haddr : addr % 4 = 0) (hlen : data.length = 4) :
    regSend did ch false true addr data s = brgPost did { ch := ch, addr := addr, len := 4, data := data } s := by
  have hslice : slice data 0 4 = data := List.take_of_length_le (Nat.le_of_eq hlen)
  simp only [regSend, hdid, haddr, hlen, Bool.not_true, bne_self_eq_false, Bool.or_self, Bool.false_eq_true, if_false,
    Nat.reduceAdd, Nat.reduceMod, Nat.reduceDiv, pieces_one, List.foldl_cons, List.foldl_nil, Nat.sub_self, Nat.mul_one, hslice]

/-- A register window carries an aligned word as one posted WRITE. -/
theorem winWrite_word {w off : Nat} (hvalid : bit (winCfg s w) 31 = true) (hreg : bit (winCfg s w) 30 = false)
    (hch : fld (winCfg s w) 27 24 < 12) (hdid : didBad s (fld (winCfg s w) 10 0) = false) (hoff : off % 4 = 0)
    (hlen : data.length = 4) :
    winWrite w off true data s = brgPost (fld (winCfg s w) 10 0)
      { ch := fld (winCfg s w) 27 24, addr := fld (winBase s w) 22 16 * 2 ^ 21 + off, len := 4, data := data } s := by
  have haddr : (fld (winBase s w) 22 16 * 2 ^ 21 + off) % 4 = 0 := by omega
  rw [← regSend_word hdid haddr hlen]
  simp only [winWrite, hvalid, hreg, Nat.not_le_of_lt hch, decide_false, Bool.not_true, Bool.or_self, Bool.false_eq_true,
    if_false]

theorem exec_brgWindowRead_idle (w : Fin 16) (off : Fin 2097152) (tag len : Nat) (hidle : s.brg.reads = []) :
    exec (.brgWindowRead (.window false w off) tag len) s = .next (kept s (brgDone (winRead (.host tag) w off len s))) := by
  change execBrgWindowRead (.window false w off) tag len s = _
  simp only [execBrgWindowRead, hidle, List.any_nil, Bool.false_eq_true, if_false, done_eq]

end

/-! ### Tags (R459 to R461) -/

section
variable {tag : Fin 1024} {np : BrgNp} {s : State}

theorem exec_brgNpIssue (hfree : tblFind s.brg.opens tag.val = none) (halive : s.brg.dead.contains tag.val = false)
    (hwait : s.brg.wait.find? (fun np => decide (npOpen s np.tx.ch < rdF s (0x00080500 + 4 * np.tx.ch) 6 0)) = some np) :
    exec (.brgNpIssue tag) s = .next (kept s (brgDone (brgIssue tag np s))) := by
  change execBrgNpIssue tag s = _
  simp only [execBrgNpIssue, hfree, Option.isSome_none, halive, Bool.or_self, Bool.false_eq_true, if_false, hwait, done_eq]

theorem exec_brgReadTimeout (hopen : tblFind s.brg.opens tag.val = some np) {u : State}
    (hu : u = modBrg (fun b => { b with opens := tblErase b.opens tag, dead := b.dead ++ [tag.val] }) s) :
    exec (.brgReadTimeout tag) s = .next (kept s (brgDone (npEnd np 0x40 0 (ownDid u) [] (bump (brgCtr 2) u)))) := by
  subst hu
  change execBrgReadTimeout tag s = _
  simp only [execBrgReadTimeout, hopen, done_eq]
  rfl

theorem contains_filter_ne (l : List Nat) (a b : Nat) :
    (l.filter (· != a)).contains b = (!decide (b = a) && l.contains b) := by
  by_cases hb : b = a <;> simp [hb]

end

/-! ### Commands in the bridge's slots (R475) -/

section
variable {q : Requester} {k : Fin 4} {s : State}
  (hmay : (if k.val < 2 then hostRights q else decide (q = .kiln)) = true) (hfree : slotPending s (brgSlot k) = false)
include hmay hfree

/-- An accepted LOCK, UNLOCK or FENCE of an ordinary channel that is free begins at once. -/
theorem brgCommand_ordinary {op : Nat} (hop : op = 1 ∨ op = 2 ∨ op = 3) {ch : Fin 16} (hch : ch.val < 12)
    (hidle : chBusy (slotAccept (brgSlot k) s) ch = false) :
    brgCommand q k op ch s = brgCmdRun k op ch (slotAccept (brgSlot k) s) := by
  have hmod : ch.val % 16 = ch.val := Nat.mod_eq_of_lt ch.isLt
  have hknown : (op == 16 || op == 17) = false ∧ (op == 1 || op == 2 || op == 3) = true := by
    rcases hop with rfl | rfl | rfl <;> exact ⟨rfl, rfl⟩
  have hgood : brgChBad k op ch = false := by
    simp only [brgChBad, Nat.not_le_of_lt hch, decide_false, Bool.false_and]
  rw [brgCommand, hmay, slotCommand_accepted _ hfree]
  simp only [hknown.1, hknown.2, Bool.false_eq_true, if_false, hmod, hgood, hidle, Bool.or_false, Bool.not_true,
    Bool.false_and]

/-- LOCK takes no privileged channel. -/
theorem brgCommand_lock_privileged {ch : Fin 16} (hch : 12 ≤ ch.val) :
    brgCommand q k 1 ch s = slotResult (brgSlot k) 0x02 [] (slotAccept (brgSlot k) s) := by
  have hmod : ch.val % 16 = ch.val := Nat.mod_eq_of_lt ch.isLt
  have hbad : brgChBad k 1 ch = true := by
    simp only [brgChBad, hch, decide_true, Nat.one_lt_ofNat, Bool.true_or, Bool.and_self]
  rw [brgCommand, hmay, slotCommand_accepted _ hfree]
  simp only [Nat.reduceBEq, Bool.or_self, Bool.false_eq_true, if_false, hmod, hbad, Bool.or_true, if_true]
  rfl

/-- An accepted semaphore command of Kiln firmware or the manager begins at once on a free privileged channel. -/
theorem brgCommand_semaphore {op : Nat} (hop : op = 16 ∨ op = 17) (hk : 2 ≤ k.val) {c : Fin 4}
    (hidle : chBusy (slotAccept (brgSlot k) s) (12 + c.val) = false) :
    brgCommand q k op c s = brgCmdRun k op (12 + c.val) (slotAccept (brgSlot k) s) := by
  have hmod : c.val % 4 = c.val := Nat.mod_eq_of_lt c.isLt
  have hsem : (op == 16 || op == 17) = true ∧ ¬ op < 3 := by
    rcases hop with rfl | rfl <;> exact ⟨rfl, by decide⟩
  have hgood : brgChBad k op (12 + c.val) = false := by
    simp only [brgChBad, hsem.2, Nat.not_lt_of_le hk, decide_false, Bool.or_self, Bool.and_false]
  rw [brgCommand, hmay, slotCommand_accepted _ hfree]
  simp only [hsem.1, if_true, hmod, hgood, hidle, Nat.not_lt_of_le hk, decide_false, Bool.and_false, Bool.or_true,
    Bool.not_true, Bool.or_self, Bool.false_eq_true, if_false]

end

section
variable {k c : Nat} {x : BrgSeq} {s : State}

theorem lockCmd_free {did bus : Nat} (htarget : winTarget s (slotArg s (brgSlot k) 0 % 16) = some (did, bus))
    (hfree : tblFind s.brg.seqs c = none) :
    lockCmd k c s = lockStart c { did := did, bus := bus, slot := k }
      (modBrg (fun g => { g with seqs := tblSet g.seqs c { did := did, bus := bus, slot := k } }) s) := by
  simp only [lockCmd, htarget, hfree, Option.isSome_none, Bool.false_eq_true, if_false]

theorem unlockCmd_held (hseq : tblFind s.brg.seqs c = some x) (hheld : x.phase = 3) :
    unlockCmd k c s = slotResult (brgSlot k) 0 [] (seqEnd c (sendUnlock c x s)) := by
  simp only [unlockCmd, hseq, hheld, if_true]
  rfl

theorem exec_brgLockBackoff {ch : Fin 12} (hseq : tblFind s.brg.seqs ch.val = some x) (hback : x.phase = 2) :
    exec (.brgLockBackoff ch) s =
      .next (kept s (brgDone (modBrg (fun b => { b with seqs := tblSet b.seqs ch { x with phase := 0 } }) s))) := by
  change execBrgLockBackoff ch s = _
  simp only [execBrgLockBackoff, hseq, hback, if_true, done_eq]

end

/-! ### The error log (R474) -/

theorem quiet_errlogStatus : quiet 0x00080700 := by
  unfold quiet
  decide

section
variable (s : State)

/-- The registers of the log, before LOG_FULL follows. -/
def errlogShown : State :=
  wrWords 0x00080710 ((padTo (s.brg.log.headD []) 4 0).take 4) (wr 0x00080700 (w32 s.brg.log.length) s)

@[simp] theorem errlogShown_brg : (errlogShown s).brg = s.brg := by
  rw [errlogShown, wrWords_brg, wr_brg]

theorem rd_errlogShown_status : rd (errlogShown s) 0x00080700 = w32 s.brg.log.length := by
  rw [errlogShown, rd_wrWords_below _ _ (by decide), rd_wr_same]

theorem brgLogSync_brg : (brgLogSync s).brg = s.brg := by
  have hlive : ∀ (c v : Bool) (u : State),
      still (if c then raiseLive (lfBrg 2) u else setLive (lfBrg 2) v u) = still u :=
    fun _ _ _ => still_ite (raiseLive_still _ _) (setLive_still _ _ _)
  exact (congrArg State.brg (hlive _ _ (errlogShown s)) :).trans (errlogShown_brg s)

theorem rd_brgLogSync_status : rd (brgLogSync s) 0x00080700 = w32 s.brg.log.length :=
  (rd_ite (rd_raiseLive _ _ quiet_errlogStatus) (rd_setLive _ _ _ quiet_errlogStatus)).trans (rd_errlogShown_status s)

end

theorem exec_brgErrlogPop {q : Requester} {s : State} (hq : hostOrKiln q = true) :
    exec (.brgErrlogPop q) s = .next (kept s (errlogPop s)) := by
  change execBrgErrlogPop q s = _
  rw [execBrgErrlogPop, regCmd_permitted hq, done_eq]

theorem errlogPop_log (s : State) : (errlogPop s).brg.log = s.brg.log.drop 1 := by
  rw [errlogPop, brgLogSync_brg]
  rfl

theorem rd_errlogPop_status (s : State) : rd (errlogPop s) 0x00080700 = w32 (s.brg.log.length - 1) := by
  rw [errlogPop, rd_brgLogSync_status]
  exact congrArg w32 List.length_drop

/-- Settles O37: an accepted slot command begins its operation, the other commands' outcomes are the lemmas on what they do,
and the log's register is read back after POP. -/
theorem bridgeRequesterCommands : Obligations.BridgeRequesterCommands := by
  refine ⟨fun km w off full data s => rfl,
    fun w off data s hvalid hreg hch hdid hoff hlen => ⟨_, rfl, winWrite_word hvalid hreg hch hdid hoff hlen⟩,
    fun w off tag len s => exec_brgWindowRead_idle w off tag len, fun tag np s => exec_brgNpIssue,
    fun tag np s u hopen hu => exec_brgReadTimeout hopen hu, fun tag s => ⟨_, rfl, ?_, fun k hk => ?_, rfl, rfl⟩,
    fun q k c s a hmay hfree ha => ?_, fun k c did bus s => lockCmd_free, fun k c x s => unlockCmd_held,
    fun ch x s => exec_brgLockBackoff, fun q s hq => ⟨_, exec_brgErrlogPop hq, errlogPop_log s, rd_errlogPop_status s⟩⟩
  · exact (contains_filter_ne ..).trans (by rw [decide_eq_true rfl, Bool.not_true, Bool.false_and])
  · exact (contains_filter_ne ..).trans (by rw [decide_eq_false hk, Bool.not_false, Bool.true_and])
  · subst ha
    have hout : ∀ {op param : Nat} {t : State}, brgCommand q k op param s = t →
        done s (brgDone (brgCommand q k op param s)) = .next (kept s (brgDone t)) := fun h => by rw [h, done_eq]
    refine ⟨fun ch hch hidle => ⟨?_, ?_, ?_⟩, fun ch hch => ?_, fun hk hidle => ⟨?_, ?_⟩⟩
    · exact hout (brgCommand_ordinary hmay hfree (.inl rfl) hch hidle)
    · exact hout (brgCommand_ordinary hmay hfree (.inr (.inl rfl)) hch hidle)
    · exact hout (brgCommand_ordinary hmay hfree (.inr (.inr rfl)) hch hidle)
    · exact hout (brgCommand_lock_privileged hmay hfree hch)
    · exact hout (brgCommand_semaphore hmay hfree (.inl rfl) hk hidle)
    · exact hout (brgCommand_semaphore hmay hfree (.inr rfl) hk hidle)

end Sys2Proof.Machine
end

section
/-! The Coil (R477 to R503): what becomes of frames that arrive, discovery and joining, the loss of a link, and the FIFO of remote
events: the outcome of each command when it acts. -/

namespace Sys2Proof.Machine
open Sys2Proof

theorem exec_coilHelloTimer_joined {s : State} (h : role s ≠ 1) : exec .coilHelloTimer s = .next (kept s
    (((linksOf s).filter (fun l => linkUp s (linkPort s l) && linkState s l != 3)).foldl
      (fun s l => coilOnLink l 7 (helloFrame s) s) s)) := by
  have hno : ¬ (role s = 1 ∧ regionApplied s 26 = false) := fun ⟨h1, _⟩ => h h1
  change execCoilHelloTimer s = _
  rw [execCoilHelloTimer, if_neg hno, done_eq]

/-! ### Frames that arrive (R480, R483, R484) -/

section
variable {r : Nat} {p : Pkt} {rest : List Pkt} {s u : State} (hrx : s.col.rx = p :: rest)
  (hu : u = modCol (fun c => { c with rx := rest }) s)
include hrx hu

/-- A truncated frame is bad. -/
theorem coilFrameRx_truncated (hparse : coilParse u (p.ingress % 256 - 128) p = none) :
    coilFrameRx r s = bump (colCtr 5) (shfUnref p.pid u) := by
  subst hu
  simp only [coilFrameRx, hrx, hparse]

/-- A link in CFG_ERR takes no frame, and counts none. -/
theorem coilFrameRx_closed {f : CoilFrame} {l : Nat} (hparse : coilParse u (p.ingress % 256 - 128) p = some f)
    (hlink : f.link = some l) (hst : linkState u l = 3) : coilFrameRx r s = shfUnref p.pid u := by
  subst hu
  simp only [coilFrameRx, hrx, hparse, hlink, hst, beq_self_eq_true, if_true]

theorem coilFrameRx_own {f : CoilFrame} {l : Nat} (hparse : coilParse u (p.ingress % 256 - 128) p = some f)
    (hlink : f.link = some l) (hst : linkState u l ≠ 3) (hver : byteAt p.bytes (coilOff p.bytes) / 16 = 1) (hsvc : f.svc ≤ 6)
    (hzero : f.dst ≠ 0) (hlocal : f.dst ≠ 0x7FF) (hdst : f.dst = ownDid u) (hsrc : f.src ≠ ownDid u) :
    coilFrameRx r s = coilKeep f p.pid (bump (colCtr 1) u) := by
  have hgood : ¬ (byteAt p.bytes (coilOff p.bytes) / 16 ≠ 1 ∨ 6 < f.svc ∨ f.dst = 0 ∨ (f.dst = 0x7FF ∧ f.svc ≠ 3)) := by
    rintro (h | h | h | ⟨h, _⟩)
    · exact h hver
    · exact absurd hsvc (Nat.not_le_of_lt h)
    · exact hzero h
    · exact hlocal h
  have hforeign : ¬ (ownDid u ≠ 0 ∧ f.src = ownDid u) := fun ⟨_, h⟩ => hsrc h
  have hhere : f.svc = 3 ∨ f.dst = ownDid u := .inr hdst
  simp only [coilFrameRx, hrx, ← hu, hparse, hlink, beq_eq_false_iff_ne.2 hst, Bool.false_eq_true, if_false]
  rw [if_neg hgood, if_neg hforeign, if_pos hhere]

end

/-! ### DATA and ROUTER frames (R486 to R488) -/

section
variable {f : CoilFrame} {s u : State}

theorem exec_coilDataRx_switched (htake : inboxTake (fun f => f.svc == 0) s = some (f, u)) (hmode : f.wa / 2 ^ 30 = 0) :
    exec .coilDataRx s = .next (kept s (shfSettle (ingAppend 156
      { bytes := f.data, ingress := 156, cls := f.cls, ts := f.ts, pid := f.pid, orig := some (f.wb % 2 ^ 19), ttl := f.ttl }
      (shfRetain
        { bytes := f.data, ingress := 156, cls := f.cls, ts := f.ts, pid := f.pid, orig := some (f.wb % 2 ^ 19), ttl := f.ttl }
        u)))) := by
  change execCoilDataRx s = _
  simp only [execCoilDataRx, htake, hmode, done_eq]

theorem exec_coilRouterRx_flexport {it : RItem} {n : Nat} (htake : inboxTake (fun f => f.svc == 1) s = some (f, u))
    (hparse : mehryrParse f.data 0x300 (beAt f.data 8 8) 0 f.data.length = some (it, n)) (hkind : it.kind = 1)
    (hgpn : f.wa % 256 < 128) :
    exec .coilRouterRx s = .next (kept s (nmwSettle (shfSettle (deliver (srtBank (shfUnref f.pid u)) (f.wa % 256)
      (f.wa / 2 ^ 24 % 8)
      { kind := 1, ext := it.ext, id := it.id, fmt := 3, data := it.data, rtr := it.rtr, dlc := it.dlc, sdt := it.sdt,
        af := it.af, sec := it.sec, ts := it.ts, src := it.src } none (shfUnref f.pid u))))) := by
  change execCoilRouterRx s = _
  simp only [execCoilRouterRx, htake, hparse, hkind, hgpn, true_or, if_true, done_eq]

theorem exec_coilRouterRx_bad (htake : inboxTake (fun f => f.svc == 1) s = some (f, u))
    (hparse : mehryrParse f.data 0x300 (beAt f.data 8 8) 0 f.data.length = none) :
    exec .coilRouterRx s = .next (kept s (bump (colCtr 5) (shfUnref f.pid u))) := by
  change execCoilRouterRx s = _
  simp only [execCoilRouterRx, htake, hparse, done_eq]

/-! ### Discovery and joining (R491 to R495) -/

section
variable {l : Nat} (htake : inboxTake (fun f => f.svc == 3 && frOp f == 1) s = some (f, u)) (hlink : f.link = some l)
include htake hlink

/-- Another device names itself with this one's DID. -/
theorem exec_helloRx_conflict (hne : beAt f.data 16 2 % 2048 ≠ 0) (hown : beAt f.data 16 2 % 2048 = ownDid u)
    (huid : beAt f.data 0 16 ≠ u.sag.uid) : exec .helloRx s = .next (kept s (raise (lfCol 5) (bump (colCtr 8) u))) := by
  have hconflict : beAt f.data 16 2 % 2048 ≠ 0 ∧ beAt f.data 16 2 % 2048 = ownDid u ∧ beAt f.data 0 16 ≠ u.sag.uid :=
    ⟨hne, hown, huid⟩
  change execHelloRx s = _
  simp only [execHelloRx, htake, hlink]
  rw [if_pos hconflict, done_eq]

theorem exec_helloRx_unassigned (hzero : beAt f.data 16 2 % 2048 = 0) (hrole : role u ≠ 0) :
    exec .helloRx s = .next (kept s (shfSettle (helloUnassigned l (beAt f.data 0 16) f.smac u))) := by
  change execHelloRx s = _
  simp only [execHelloRx, htake, hlink, hzero, hrole, ne_eq, not_true_eq_false, false_and, if_false, if_true, done_eq]

/-- A HELLO on the uplink, in the bootstrap form, brings the link up and no member back. -/
theorem exec_helloRx_uplink (hne : beAt f.data 16 2 % 2048 ≠ 0) (hother : beAt f.data 16 2 % 2048 ≠ ownDid u)
    (hboot : f.dmac = bootGroup) (hup : rdB (coilLinkUp l (beAt f.data 16 2 % 2048) u) (colLink l 0) 30 = true) :
    exec .helloRx s = .next (kept s (shfSettle (coilLinkUp l (beAt f.data 16 2 % 2048) u))) := by
  rw [rdB] at hup
  change execHelloRx s = _
  simp only [execHelloRx, htake, hlink, hne, hother, false_and, and_false, if_false, hboot, if_true, hup, done_eq]

end

theorem exec_assignRx_taken (htake : inboxTake (fun f => f.svc == 3 && frOp f == 2) s = some (f, u)) (hrole : role u = 1)
    (hdid : rdF u 0x00000004 13 12 = 0) (huid : beAt f.data 0 16 = u.sag.uid) {v : State}
    (hv : v = setFloors (modCol (fun c => { c with prov := some f.port, asgMac := f.smac })
      (wrF 0x00090004 28 25 (byteAt f.data 20) (wrF 0x00090004 10 0 (beAt f.data 18 2)
        (wrF 0x00000004 13 0 (0x2000 + beAt f.data 16 2 % 2048) u))))) :
    exec .assignRx s = .next (kept s (shfSettle (failedReport (coilOnPort 0 f.port 7 f.smac [] 0x88B5
      (discoveryFrame v 3 (discovery v.sag.uid (ownDid v) 0 (beBytes 4 (rd v (activeGen 0)).toNat))) v)))) := by
  have htaken : ¬ (role u ≠ 1 ∨ rdF u 0x00000004 13 12 ≠ 0 ∨ beAt f.data 0 16 ≠ u.sag.uid) := by
    rintro (h | h | h)
    · exact h hrole
    · exact h hdid
    · exact h huid
  change execAssignRx s = _
  simp only [execAssignRx, htake]
  rw [if_neg htaken, done_eq, hv]

theorem exec_joinRx_joining {l d : Nat} (htake : inboxTake (fun f => f.svc == 3 && frOp f == 3) s = some (f, u))
    (hlink : f.link = some l) (hd : d = beAt f.data 16 2 % 2048) (hassigned : assignFind u (beAt f.data 0 16) = some (l, d))
    (hjoining : memberState u d = 1) :
    exec .joinRx s = .next (kept s (
      let v := coilLinkUp l d u
      let v := raise (lfCol 2) (wrB 0x00000004 31 true (setMember d 2 l (beAt f.data 20 4) (beAt f.data 0 16) v))
      let v := modCol (fun c => { c with given := c.given.filter (fun e => e.1 / 32 != d) }) v
      shfSettle (configStart d (updRejoin d (coilLive v))))) := by
  subst hd
  change execJoinRx s = _
  simp only [execJoinRx, htake, hlink]
  rw [if_pos ⟨hassigned, hjoining⟩, done_eq]

end

/-! ### Lost links and remote events (R481, R503) -/

theorem exec_coilLinkLost_up {l : Fin 8} {s : State} (h : linkState s l = 2) :
    exec (.coilLinkLost l) s = .next (kept s (brgDone
      ((brgQueued s (linkPort s l)).foldl (fun s t => brgLost t 2 s) (coilLinkDown l (brgUnqueue (linkPort s l) s))))) := by
  change execCoilLinkLost l s = _
  rw [execCoilLinkLost, if_pos h, done_eq]

theorem exec_colRevtPop {q : Requester} {s : State} (hq : hostOrKiln q = true) : exec (.colRevtPop q) s =
    .next (kept s (revtSync (modCol (fun c => { c with revt := c.revt.drop 1 }) s))) := by
  change execColRevtPop q s = _
  rw [execColRevtPop, regCmd_permitted hq, done_eq]

theorem quiet_revtCount : quiet 0x00090314 := by
  unfold quiet
  decide

theorem coilLive_still (s : State) : still (coilLive s) = still s := by
  simp only [coilLive]
  rw [wrB_still, setLive_still, setLive_still, setLive_still, setLive_still]

theorem rd_coilLive_revtCount (s : State) : rd (coilLive s) 0x00090314 = rd s 0x00090314 := by
  have hlive : ∀ (l : Nat) (v : Bool) (u : State), rd (setLive l v u) 0x00090314 = rd u 0x00090314 :=
    fun l v u => rd_setLive l v u quiet_revtCount
  simp only [coilLive, rd_wrB, Nat.reduceEqDiff, if_false, hlive]

@[simp] theorem coilLive_col (s : State) : (coilLive s).col = s.col := (congrArg State.col (coilLive_still s) :)

theorem revtSync_col (s : State) : (revtSync s).col = s.col := by rw [revtSync, coilLive_col, wrWords_col, wr_col]

theorem rd_revtSync_count (s : State) : rd (revtSync s) 0x00090314 = w32 s.col.revt.length := by
  have hwords : (((padTo (s.col.revt.headD []) 4 0).take 4)).length ≤ 4 := List.length_take_le ..
  rw [revtSync, rd_coilLive_revtCount, rd_wrWords_above _ _ (by omega), rd_wr_same]

/-- Settles O40: each command's outcome is the lemma on what it does when it acts; the FIFO's count is read back after a POP. -/
theorem coilCommands : Obligations.CoilCommands := by
  refine ⟨fun s h => exec_coilHelloTimer_joined (by rw [h]; decide), fun r p rest s u hrx hu hparse => ?_,
    fun r l f p rest s u hrx hu hparse hlink hst => ?_,
    fun r l f p rest s u hrx hu hparse hlink hst hver hsvc hzero hlocal hdst hsrc => ?_,
    fun f p s u htake hmode hp => ?_, fun f it n s u => exec_coilRouterRx_flexport, fun f s u => exec_coilRouterRx_bad,
    fun f l s u htake hlink => ⟨exec_helloRx_conflict htake hlink, exec_helloRx_unassigned htake hlink,
      exec_helloRx_uplink htake hlink⟩,
    fun f s u htake hrole hdid huid => ⟨_, exec_assignRx_taken htake hrole hdid huid rfl, rfl⟩,
    fun f l d s u => exec_joinRx_joining, fun l s => exec_coilLinkLost_up,
    fun q s hq => ⟨_, exec_colRevtPop hq, ?_, ?_⟩⟩
  · exact congrArg (fun t => Host.Outcome.next (kept s (shfSettle t))) (coilFrameRx_truncated hrx hu hparse)
  · exact congrArg (fun t => Host.Outcome.next (kept s (shfSettle t))) (coilFrameRx_closed hrx hu hparse hlink hst)
  · exact congrArg (fun t => Host.Outcome.next (kept s (shfSettle t)))
      (coilFrameRx_own hrx hu hparse hlink hst hver hsvc hzero hlocal hdst hsrc)
  · rw [hp]
    exact exec_coilDataRx_switched htake hmode
  · rw [kept_col, revtSync_col]
    rfl
  · rw [rd_kept, rd_revtSync_count]
    exact congrArg w32 List.length_drop

end Sys2Proof.Machine
end

section
/-! Time over the Coil (R501): the outcome of each command when it acts. -/

namespace Sys2Proof.Machine
open Sys2Proof

/-! ### SYNC and the link delay (R501) -/

section
variable {f : CoilFrame} {l : Nat} {s u : State}

/-- A SYNC from the uplink for domain A, the first one and of quality LOCKED, whose servo is locked and does not step. -/
theorem exec_syncRx_follows {rate : Word} (htake : inboxTake (fun f => f.svc == 4 && frOp f == 1) s = some (f, u))
    (hlink : f.link = some l) (hup : rdB u (colLink l 0) 30 = true) (hdom : nbit f.wa 8 = false)
    (hen : domEnabled u false = true) (hrate : (signed 32 rate.toNat).natAbs ≤ 549755814) (hquality : byteAt f.data 24 = 2)
    (hfirst : tblFind u.col.gm 0 = none) (age : Nat) :
    exec (.syncRx rate false true age) s = .next (kept s (domainState false 2
      (wr 0x00060050 rate (modCol (fun c => { c with gm := tblSet c.gm 0 (beAt f.data 16 8) }) u)))) := by
  have hclamp : clampI (-549755814) 549755814 (signed 32 rate.toNat) = signed 32 rate.toNat :=
    clampI_of_within (by omega) (by omega)
  rw [rdB] at hup
  change execSyncRx rate false true age s = _
  simp only [execSyncRx, htake, hlink, hdom, hup, hen, Bool.not_true, Bool.or_self, Bool.false_eq_true, if_false, b2n, hfirst,
    hclamp, w32_unsigned_signed, ne_eq, not_true_eq_false, hquality, Bool.not_false, Bool.and_self, beq_self_eq_true, if_true,
    done_eq]

theorem exec_coilSyncTimeout_locked {d : Bool} (hup : uplink s = some l) (hlocked : domLocked s d = true) :
    exec (.coilSyncTimeout d) s = .next (kept s (domainState d 0 s)) := by
  have hsome : (uplink s).isSome = true := by
    rw [hup]
    rfl
  change execCoilSyncTimeout d s = _
  rw [execCoilSyncTimeout, if_pos ⟨hsome, hlocked⟩, done_eq]

theorem exec_pdelayReqRx_answered (htake : inboxTake (fun f => f.svc == 4 && frOp f == 2) s = some (f, u))
    (hlink : f.link = some l) : exec .pdelayReqRx s = .next (kept s (shfSettle (timeSend 3 l 3 false (f.wb % 2 ^ 16)
      (beBytes 8 f.ts ++ List.replicate 8 0) u))) := by
  change execPdelayReqRx s = _
  simp only [execPdelayReqRx, htake, hlink, done_eq]

/-- What a response says of its link: the measurement is over, and the delay is half of the round trip without the peer's
residence. -/
def delayOf (f : CoilFrame) (t1 : Nat) : PDelay :=
  { t1 := none, delay := (((tsNs f.ts - tsNs t1) - (tsNs (beAt f.data 8 8) - tsNs (beAt f.data 0 8))).tdiv 2).toNat }

theorem exec_pdelayRespRx_measured {t1 : Nat} (htake : inboxTake (fun f => f.svc == 4 && frOp f == 3) s = some (f, u))
    (hlink : f.link = some l) (hsent : (tblGet u.col.pdelay l {}).t1 = some t1) :
    exec .pdelayRespRx s =
      .next (kept s (modCol (fun c => { c with pdelay := tblSet c.pdelay l (delayOf f t1) }) u)) := by
  change execPdelayRespRx s = _
  simp only [execPdelayRespRx, htake, hlink, hsent, done_eq, delayOf]

end

section
variable {l : Fin 8} {gm : BitVec 64} {s : State} (hst : linkState s l = 2)
include hst

theorem exec_timeRelayTimer_sync (hdown : rdB s (colLink l 0) 30 = false) :
    exec (.timeRelayTimer l 0 gm) s = .next (kept s (shfSettle (syncSend l false gm.toNat s))) ∧
    exec (.timeRelayTimer l 1 gm) s = .next (kept s (shfSettle (syncSend l true gm.toNat s))) := by
  rw [rdB] at hdown
  constructor
  · change execTimeRelayTimer l 0 gm s = _
    simp only [execTimeRelayTimer, hst, ne_eq, not_true_eq_false, if_false, hdown, done_eq]
    rfl
  · change execTimeRelayTimer l 1 gm s = _
    simp only [execTimeRelayTimer, hst, ne_eq, not_true_eq_false, if_false, hdown, done_eq]
    rfl

theorem exec_timeRelayTimer_request (hup : rdB s (colLink l 0) 30 = true) : exec (.timeRelayTimer l 2 gm) s =
    .next (kept s (shfSettle (timeSend 4 l 2 false (timeSeq l s).1 [] (timeSeq l s).2))) := by
  rw [rdB] at hup
  change execTimeRelayTimer l 2 gm s = _
  simp only [execTimeRelayTimer, hst, ne_eq, not_true_eq_false, if_false, hup, done_eq]
  rfl

end

/-- Settles O41: each command's outcome is the lemma on what it does when it acts; the measured delay is read back. -/
theorem coilTimeCommands : Obligations.CoilTimeCommands := by
  refine ⟨fun f l rate s u => exec_syncRx_follows, fun d l s => exec_coilSyncTimeout_locked,
    fun f l s u => exec_pdelayReqRx_answered,
    fun f l t1 s u htake hlink hsent => ⟨_, exec_pdelayRespRx_measured htake hlink hsent, ?_, ?_, rfl⟩,
    fun l gm s hst => ⟨exec_timeRelayTimer_sync hst, exec_timeRelayTimer_request hst⟩⟩
  · exact congrArg PDelay.t1 ((tblGet_set ..).trans (if_pos rfl))
  · exact congrArg PDelay.delay ((tblGet_set ..).trans (if_pos rfl))

end Sys2Proof.Machine
end

section
/-! Transfers over the Coil (R498 to R500): the outcome of each command when it acts. -/

namespace Sys2Proof.Machine
open Sys2Proof

/-! ### Chunks and acknowledgments (R498) -/

section
variable {f : CoilFrame} {s u : State}

section
variable {x : XferIn} (htake : inboxTake (fun f => (f.svc == 5 || f.svc == 6) && frOp f == 1) s = some (f, u))
  (hmgr : fromManager u f = true) (hsvc : f.svc = 6) (hin : tblFind u.col.xin 6 = some x)
include htake hmgr hsvc hin

/-- The next eight bytes of the open transfer are kept and acknowledged. -/
theorem exec_xferDataRx_next (hxfer : x.xfer = frXfer f) (hsrc : x.src = f.src) (hobj : x.obj = frObj f)
    (hoff : f.wb = x.data.length) (hlen : f.data.length = 8) :
    exec .xferDataRx s = .next (kept s (shfSettle (xferTake { x with data := x.data ++ f.data }
      (xferAck f (x.data.length + 8) false (modCol (fun c => { c with
        xin := tblSet c.xin 6 { x with data := x.data ++ f.data } }) u))))) := by
  change execXferDataRx s = _
  simp only [execXferDataRx, htake, hmgr, hsvc, hin, Option.getD_some, hxfer, hsrc, hobj, hoff, hlen, Bool.not_true,
    Bool.false_eq_true, if_false, ne_eq, not_true_eq_false, decide_false, Bool.or_self, Nat.reduceBEq, Bool.false_and,
    OfNat.ofNat_ne_zero, Nat.reduceMod, Nat.reduceLT, or_self, List.length_append, done_eq]

/-- A chunk of another transfer is refused as BUSY. -/
theorem exec_xferDataRx_busy (hxfer : x.xfer ≠ frXfer f) :
    exec .xferDataRx s = .next (kept s (shfSettle (xferAck f 0 true u))) := by
  change execXferDataRx s = _
  simp only [execXferDataRx, htake, hmgr, hsvc, hin, Option.getD_some, hxfer, Bool.not_true, Bool.false_eq_true, if_false,
    ne_eq, not_false_eq_true, decide_true, Bool.true_or, if_true, done_eq]

end

section
variable {x : XferOut} (htake : inboxTake (fun f => (f.svc == 5 || f.svc == 6) && frOp f == 2) s = some (f, u))
  (hout : u.col.xout.find? (fun x => x.did == f.src && x.svc == f.svc && x.xfer / 2 == frXfer f / 2) = some x)
include htake hout

/-- A BUSY receiver makes the transfer wait from its last acknowledged byte on. -/
theorem exec_xferAckRx_busy (hbusy : f.wa % 2 = 1) : exec .xferAckRx s =
    .next (kept s (shfSettle (setXout { x with busy := true, sent := x.acked, sends := 0 } u))) := by
  change execXferAckRx s = _
  simp only [execXferAckRx, htake, hout, hbusy, if_true, done_eq]

theorem exec_xferAckRx_moves (hready : f.wa % 2 = 0) (hnew : x.acked < f.wb) (hsent : f.wb ≤ x.sent)
    (hrest : f.wb ≠ x.data.length) : exec .xferAckRx s =
    .next (kept s (shfSettle (xferPump 64 { x with acked := f.wb, sends := 1 } u))) := by
  change execXferAckRx s = _
  simp only [execXferAckRx, htake, hout, hready, hnew, hsent, hrest, zero_ne_one, if_false, and_self, if_true, done_eq]

end

/-! ### COMMAND, RESULT and ABORT (R498, R499) -/

/-- A SWAP of the manager runs in CFG slot 3 and is answered by its RESULT. -/
theorem exec_xferCommandRx_swap {r : Nat} {v : State}
    (htake : inboxTake (fun f => (f.svc == 5 || (f.svc == 6 && beAt f.data 0 4 == 1)) && frOp f == 3) s = some (f, u))
    (hmgr : fromManager u f = true) (hsvc : f.svc = 5) (hfree : slotPending u (cfgSlot 3) = false)
    (hcmd : beAt f.data 0 4 = 2 + r * 2 ^ 8) (hr : r < 28)
    (hv : v = modCol (fun c => { c with cmd := some (frObj f, frXfer f, f.src) })
      (wrWords (cfgSlot 3 + 4) ((List.range 8).map (fun k => w32 (beAt f.data (4 + 4 * k) 4))) u)) :
    exec .xferCommandRx s = .next (kept s (shfSettle (coilResult
      (cfgAccept 3 .manager { swap := true, region := r } false (swapRun r) v)))) := by
  have hop : (2 + r * 2 ^ 8) % 256 = 2 := by omega
  have hregion : (2 + r * 2 ^ 8) / 2 ^ 8 % 32 = r := by omega
  have hrange : ¬ 27 < r := by omega
  subst hv
  change execXferCommandRx s = _
  simp only [execXferCommandRx, htake, hmgr, hsvc, hfree, hcmd, hop, hregion, hrange, Bool.not_true, Bool.false_eq_true,
    Nat.reduceEqDiff, if_false, decide_false, done_eq]

section
variable (htake : inboxTake (fun f => (f.svc == 5 || (f.svc == 6 && frObj f != 0x81)) && frOp f == 4) s = some (f, u))
  (hmember : memberState u f.src = 2)
include htake hmember

theorem exec_xferResultRx_config (hsvc : f.svc = 5) : exec .xferResultRx s =
    .next (kept s (shfSettle (configResult f.src (frObj f) f.data u))) := by
  change execXferResultRx s = _
  simp only [execXferResultRx, htake, hmember, hsvc, ne_eq, not_true_eq_false, if_false, if_true, done_eq]

theorem exec_xferResultRx_update (hsvc : f.svc = 6) : exec .xferResultRx s =
    .next (kept s (shfSettle (updResult f.src (frObj f) (frXfer f) (byteAt f.data 3) u))) := by
  change execXferResultRx s = _
  simp only [execXferResultRx, htake, hmember, hsvc, ne_eq, not_true_eq_false, if_false, Nat.reduceEqDiff, done_eq]

end

theorem exec_xferAbortRx_config {x : XferIn}
    (htake : inboxTake (fun f => (f.svc == 5 || f.svc == 6) && frOp f == 5) s = some (f, u)) (hmgr : fromManager u f = true)
    (hsvc : f.svc = 5) (hin : tblFind u.col.xin 5 = some x) (hsrc : x.src = f.src) (hxfer : x.xfer = frXfer f) :
    exec .xferAbortRx s = .next (kept s (modCol (fun c => { c with xin := tblErase c.xin 5 }) u)) := by
  change execXferAbortRx s = _
  simp only [execXferAbortRx, htake, hmgr, hsvc, hin, hsrc, hxfer, Bool.not_true, Bool.false_eq_true, if_false, true_or,
    and_self, if_true, Nat.reduceEqDiff, false_and, done_eq]

end

/-! ### Chunks that are not acknowledged (R498) -/

section
variable {n : Fin 65536} {x : XferOut} {s : State} (hout : s.col.xout.find? (fun y => y.xfer == n.val) = some x)
  (hopen : x.acked < x.sent)
include hout hopen

theorem exec_xferRetxTimeout_again (hsends : x.sends < 8) :
    exec (.xferRetxTimeout n) s = .next (kept s (shfSettle (setXout { x with sends := x.sends + 1 }
      (forN ((x.sent - x.acked + 1023) / 1024) 0 (fun k s => xferChunk x (x.acked + 1024 * k) s)
        (bumpN (colCtr 10) ((x.sent - x.acked + 1023) / 1024) s))))) := by
  change execXferRetxTimeout n s = _
  simp only [execXferRetxTimeout, hout, Nat.not_le_of_lt hopen, Nat.not_le_of_lt hsends, if_false, done_eq]

theorem exec_xferRetxTimeout_abandoned (hsends : 8 ≤ x.sends) (hsvc : x.svc = 5) :
    exec (.xferRetxTimeout n) s = .next (kept s (shfSettle (modCol (fun c => { c with
      prog := tblErase c.prog x.did })
        (coilSend x.did x.svc 7 (xferWord 5 x.obj x.xfer) 0 [] (raise (lfCol 6) (xferEnd x s)))))) := by
  change execXferRetxTimeout n s = _
  simp only [execXferRetxTimeout, hout, Nat.not_le_of_lt hopen, hsends, hsvc, if_false, if_true, done_eq]

end

/-- Settles O42: each command's outcome is the lemma on what it does when it acts. -/
theorem transferCommands : Obligations.TransferCommands := by
  refine ⟨fun f x s u => exec_xferDataRx_next, fun f x s u => exec_xferDataRx_busy,
    fun f x s u htake hout => ⟨exec_xferAckRx_busy htake hout, exec_xferAckRx_moves htake hout⟩,
    fun f r s u v => exec_xferCommandRx_swap,
    fun f s u htake hmember => ⟨exec_xferResultRx_config htake hmember, exec_xferResultRx_update htake hmember⟩,
    fun f x s u => exec_xferAbortRx_config,
    fun n x s hout hopen => ⟨exec_xferRetxTimeout_again hout hopen, exec_xferRetxTimeout_abandoned hout hopen⟩⟩

end Sys2Proof.Machine
end

section
/-! A step and a command's outcome. -/

namespace Sys2Proof.Machine
open Sys2Proof

/-- Settles O1: `step` looks at the front of the queue and nothing else. -/
theorem stepRunsFrontCommand : Obligations.StepRunsFrontCommand := fun _ _ _ => rfl

/-- A command completes on a state: a next state with the state's queue and clock count. -/
def Completes (s : State) (o : Host.Outcome State Fault Refusal) : Prop :=
  ∃ t, o = .next t ∧ t.pending = s.pending ∧ t.now = s.now

/-- Every outcome that `done` makes completes: it restores the queue and the clock count. -/
theorem completes_done (s t : State) : Completes s (done s t) := ⟨_, rfl, rfl, rfl⟩

/-- Settles O2: whatever the command, its outcome is made by `done`. -/
theorem everyCommandCompletes : Obligations.EveryCommandCompletes := by
  intro c s
  change Completes s (exec c s)
  cases c <;> exact completes_done s _

end Sys2Proof.Machine
end

section
/-! Requesters without rights (R576), and how events, groups and targets act (R527 to R536). -/

namespace Sys2Proof.Machine
open Sys2Proof

/-! ### Requesters without rights -/

/-- A register command whose requester is not permitted records the ignored write and does nothing else. -/
theorem done_regCmd_refused {q : Requester} {ok : Bool} {off : Nat} {f : State → State} {s : State} (h : ok = false) :
    done s (regCmd q ok off f s) = .next (kept s (accErr q 1 off s)) := by
  rw [regCmd, h, if_neg Bool.false_ne_true, done_eq]

/-- The word of a first ignored write: the mark, the requester, the kind and the offset. -/
def accErrWord (q : Requester) (kind off : Nat) : Nat :=
  2 ^ 31 + (if q = .kiln then 2 ^ 29 else 0) + kind * 2 ^ 28 + off % 2 ^ 28

theorem rd_accErr_first {q : Requester} {kind off : Nat} {s : State} (h : rdB s 0x00000020 31 = false) :
    rd (accErr q kind off s) 0x00000020 = w32 (accErrWord q kind off) := by
  rw [accErr, h, if_neg Bool.false_ne_true, rd_wr, if_pos rfl, accErrWord]

theorem rd_accErr_again {q : Requester} {kind off : Nat} {s : State} (h : rdB s 0x00000020 31 = true) :
    rd (accErr q kind off s) 0x00000020 = rd s 0x00000020 ||| 0x40000000 := by
  rw [accErr, h, if_pos rfl, rd_wrB, if_pos rfl, setBit_true _ (by decide)]
  rfl

theorem rd_accErr_other {q : Requester} {kind off k : Nat} {s : State} (h : k ≠ 0x00000020) :
    rd (accErr q kind off s) k = rd s k := by
  simp only [accErr]
  split
  · exact (rd_wrB ..).trans (if_neg h)
  · exact rd_wr_other h _ _

theorem toNat_accErrWord {q : Requester} {kind off : Nat} (hk : kind < 2) : (w32 (accErrWord q kind off)).toNat = accErrWord q kind off := by
  simp only [w32, BitVec.toNat_ofNat, accErrWord]
  split <;> omega

/-- The fields of a first ignored write's word. -/
theorem accErrWord_fields {q : Requester} {kind off : Nat} (hk : kind < 2) (ho : off < 2 ^ 28) :
    bit (w32 (accErrWord q kind off)) 31 = true ∧ bit (w32 (accErrWord q kind off)) 30 = false ∧
    bit (w32 (accErrWord q kind off)) 29 = decide (q = .kiln) ∧ fld (w32 (accErrWord q kind off)) 28 28 = kind ∧
    fld (w32 (accErrWord q kind off)) 27 0 = off := by
  simp only [fld, nbits, bit, BitVec.getLsbD, toNat_accErrWord hk]
  simp only [Nat.testBit_eq_decide_div_mod_eq, Nat.shiftRight_eq_div_pow, accErrWord]
  by_cases hq : q = .kiln
  · simp only [hq, if_true, decide_true, decide_eq_true_eq, decide_eq_false_iff_not]
    omega
  · simp only [hq, if_false, decide_false, decide_eq_true_eq, decide_eq_false_iff_not]
    omega

/-- Settles O50: each of these commands is a register command, and `accErr` touches GLB_ACC_ERR only. -/
theorem strangersRefused : Obligations.StrangersRefused := by
  refine ⟨fun q s hq => ?_, fun q kind off s hk ho => ⟨fun h => ?_, rd_accErr_again, fun k => rd_accErr_other⟩⟩
  · have hh : hostRights q = false := (Bool.or_eq_false_iff.1 hq).1
    exact ⟨fun c => done_regCmd_refused hq, fun m => done_regCmd_refused hq, fun g w => done_regCmd_refused hq,
      fun w => done_regCmd_refused hq, done_regCmd_refused hq, done_regCmd_refused hq, done_regCmd_refused hq,
      done_regCmd_refused hq, done_regCmd_refused hq, done_regCmd_refused hh, done_regCmd_refused hh,
      fun m => done_regCmd_refused hq, fun n => ⟨done_regCmd_refused hq, done_regCmd_refused hq⟩,
      fun g w => done_regCmd_refused hq, fun st => done_regCmd_refused hq,
      fun n => ⟨done_regCmd_refused hq, fun b => done_regCmd_refused hq⟩, fun g l => done_regCmd_refused hq⟩
  · simp only [rdB, rdF, rd_accErr_first h]
    exact accErrWord_fields hk ho

/-! ### Leaves and groups -/

/-- A leaf's bit is one of its register's 32. -/
theorem leafHome_bit_lt {l k b : Nat} (h : leafHome l = some (k, b)) : b < 32 := by
  have pick : ∀ {c : Prop} [Decidable c] {k' b' : Nat} {x : Option (Nat × Nat)}, (c → b' < 32) →
      (x = some (k, b) → b < 32) → (if c then some (k', b') else x) = some (k, b) → b < 32 := by
    intro c _ k' b' x hc hx h
    split at h
    · cases h
      exact hc ‹c›
    · exact hx h
  revert h
  unfold leafHome
  refine pick (fun _ => by split <;> omega) ?_
  iterate 21 refine pick (fun hc => by omega) ?_
  exact fun h => nomatch h

theorem leafBit_setLeafBit_same {l : Nat} (reg : Nat) (v : Bool) (s : State) (h : (leafHome l).isSome = true) :
    leafBit (setLeafBit l reg v s) l reg = v := by
  obtain ⟨⟨k, b⟩, hl⟩ := Option.isSome_iff_exists.1 h
  simp only [leafBit, setLeafBit, hl]
  exact rdB_wrB _ _ _ _ (leafHome_bit_lt hl)

theorem leafBit_setLeafBit_other (l : Nat) {reg reg' : Nat} (v : Bool) (s : State) (h : reg' ≠ reg) :
    leafBit (setLeafBit l reg v s) l reg' = leafBit s l reg' := by
  simp only [leafBit, setLeafBit]
  cases leafHome l with
  | none => rfl
  | some e => simp only [rd_wrB, if_neg (show e.1 + 4 * reg' ≠ e.1 + 4 * reg by omega)]

theorem mgrDid_setLeafBit (l : Nat) (v : Bool) (s : State) : mgrDid (setLeafBit l 0 v s) = mgrDid s := by
  rw [mgrDid, rd_setLeafBit l 0 (by decide) v s (by unfold quiet; decide), mgrDid]

/-- A device without a manager forwards no event. -/
theorem forwardEvent_unmanaged {l : Nat} {s : State} (h : mgrDid s = 0) : forwardEvent l s = s := by
  rw [forwardEvent, if_neg (by simp [h])]

theorem raise_unmanaged {l : Nat} {s : State} (h : mgrDid s = 0) (hl : l < 2016) :
    raise l s = settleGroup (l / 32) (setLeafBit l 0 true s) := by
  simp only [raise, raiseLeaf, decide_eq_false (show ¬ 2016 ≤ l by omega), Bool.false_and, Bool.false_eq_true, if_false,
    forwardEvent_unmanaged ((mgrDid_setLeafBit l true s).trans h), ite_self]

theorem settleGroup_idle {g : Nat} {s : State} (hg : g < 63) (h : grpPending s g = false) : settleGroup g s = s := by
  have hg' : (g == 63) = false := beq_eq_false_iff_ne.2 (by omega)
  simp only [settleGroup, h, hg', Bool.false_and, Bool.or_self, Bool.false_eq_true, if_false]

theorem settleGroup_host {g : Nat} {s : State} (hg : g < 63) (h : grpPending s g = true) (hh : rdB s (routeKey g) 28 = true)
    (harm : nbit s.crz.armHost g = true) (hk : rdB s (routeKey g) 29 = false) (hf : rdB s (routeKey g) 31 = false) :
    settleGroup g s = sendVec (rdF s (routeKey g) 26 24) (rdF s (routeKey g) 21 16)
      { s with crz := { s.crz with armHost := nsetBit s.crz.armHost g false } } := by
  have hg' : (g == 63) = false := beq_eq_false_iff_ne.2 (by omega)
  rw [rdB] at hh hk hf
  simp only [settleGroup, h, hh, harm, hk, hf, hg', Bool.false_and, Bool.and_false, Bool.and_true, Bool.or_self,
    Bool.false_eq_true, if_false, if_true, rdF]

theorem settleGroup_fault {g : Nat} {s : State} (h : grpPending s g = true) (hh : rdB s (routeKey g) 28 = false)
    (hk : rdB s (routeKey g) 29 = false) (hf : rdB s (routeKey g) 31 = true) : settleGroup g s = footFault 0 s := by
  rw [rdB] at hh hk hf
  simp only [settleGroup, h, hh, hk, hf, Bool.false_and, Bool.and_false, Bool.and_true, Bool.true_or,
    Bool.false_eq_true, if_false, if_true]

theorem sendVec_crz (fn vec : Nat) (s : State) : (sendVec fn vec s).crz = s.crz := by
  simp only [sendVec]
  split <;> rfl

/-- Clearing a bit of a number leaves it 0. -/
theorem nbit_nsetBit_false (n k : Nat) : nbit (nsetBit n k false) k = false := by
  unfold nbit nsetBit
  split
  case isTrue h =>
    have hn : n = (n - 2 ^ k) + 2 ^ k := (Nat.sub_add_cancel (Nat.ge_two_pow_of_testBit h)).symm
    rw [hn, Nat.add_comm, Nat.testBit_two_pow_add_eq] at h
    simpa using h
  case isFalse h => simpa using h

theorem faultAsserted_footFault (b : Nat) (hb : b < 32) (s : State) : faultAsserted (footFault b s) = true := by
  have h : bit (rd (footFault b s) 0x000B0040) b = true := rdB_wrB _ _ _ _ hb
  refine bne_iff_ne.2 fun h0 => ?_
  rw [h0, bit_zero] at h
  cases h

/-- Settles O51: the settling of a group by what it is pending for and routed to. -/
theorem eventLeaves : Obligations.EventLeaves := by
  refine ⟨fun l s => raise_unmanaged, fun l s h => ⟨leafBit_setLeafBit_same 0 true s h, fun v =>
      ⟨leafBit_setLeafBit_same 1 v s h, leafBit_setLeafBit_other l v s (by decide), leafBit_setLeafBit_other l v s (by decide)⟩⟩,
    fun g s => settleGroup_idle, fun g s hg hp hh harm hk hf => ?_, fun g s _ hp hh hk hf => ?_, fun g s hg hp he => ?_⟩
  · have e := settleGroup_host hg hp hh harm hk hf
    refine ⟨e, ?_⟩
    rw [e, sendVec_crz]
    exact nbit_nsetBit_false _ _
  · have e := settleGroup_fault hp hh hk hf
    exact ⟨e, e ▸ faultAsserted_footFault 0 (by decide) s⟩
  · exact List.any_eq_true.2 ⟨g, List.mem_range.2 hg, Bool.and_eq_true_iff.2 ⟨hp, he⟩⟩

end Sys2Proof.Machine
end

section
/-! A frame that leaves over the Coil: it leaves FOOT_SAFE and the counters below those of COL as they were. -/

namespace Sys2Proof.Machine
open Sys2Proof

/-- What a frame of this device leaves alone: FOOT_SAFE, and every counter below the counters of COL. -/
def SendKeeps (s t : State) : Prop :=
  rd t 0x000B0020 = rd s 0x000B0020 ∧ ∀ j, j < 0x00090400 → counter t j = counter s j

namespace SendKeeps

theorem refl (s : State) : SendKeeps s s := ⟨rfl, fun _ _ => rfl⟩

theorem trans {s t u : State} (h : SendKeeps s t) (h' : SendKeeps t u) : SendKeeps s u :=
  ⟨h'.1.trans h.1, fun j hj => (h'.2 j hj).trans (h.2 j hj)⟩

theorem of_eq {s t : State} (hr : t.regs = s.regs) (hc : t.counters = s.counters) : SendKeeps s t :=
  ⟨by rw [rd, rd, hr], fun j _ => by rw [counter, counter, hc]⟩

theorem ite {c : Prop} [Decidable c] {s t u : State} (ht : SendKeeps s t) (hu : SendKeeps s u) :
    SendKeeps s (if c then t else u) := by
  split
  · exact ht
  · exact hu

theorem wr {k : Nat} (w : Word) (s : State) (h : k ≠ 0x000B0020) : SendKeeps s (Machine.wr k w s) :=
  ⟨rd_wr_other h.symm _ _, fun _ _ => rfl⟩

theorem bump {k : Nat} (s : State) (h : 0x00090400 ≤ k) : SendKeeps s (Machine.bump k s) :=
  ⟨rfl, fun j hj => (counter_bumpN k j 1 s).trans (if_neg (by omega))⟩

end SendKeeps

/-! ### Shelf's queues -/

theorem sendKeeps_setPkt (p : Nat) (v : PktCells) (s : State) : SendKeeps s (setPkt p v s) := .of_eq rfl rfl

theorem sendKeeps_emit (o : Out) (s : State) : SendKeeps s (emit o s) := .of_eq rfl rfl

theorem sendKeeps_shfUnref (p : Nat) (s : State) : SendKeeps s (shfUnref p s) :=
  .ite (.refl s) (.ite (.of_eq rfl rfl) (.of_eq rfl rfl))

theorem sendKeeps_injDone (s : State) : SendKeeps s (injDone s) :=
  .trans (.trans (.of_eq rfl rfl) (.wr _ _ (by decide))) (.wr _ _ (by decide))

theorem sendKeeps_shfTouch (g : Nat) (s : State) : SendKeeps s (shfTouch g s) := by
  have hcbs : SendKeeps s (cbsUpdate (g - 128) s) := .ite (.refl s) (.ite (.refl s) (.of_eq rfl rfl))
  refine .ite (hcbs.trans (.ite (.trans (.of_eq rfl rfl) (.wr _ _ ?_)) (.refl _))) (.refl s)
  simp only [macStatus, macBase]
  omega

theorem sendKeeps_shfPut (g c : Nat) (p : Pkt) (s : State) : SendKeeps s (shfPut g c p s) := by
  have hin : ∀ w, SendKeeps s (bump (queueCtr (8 * g + c) 0) (wr (seqIn (8 * g + c)) w s)) := fun w =>
    (SendKeeps.wr w s (by simp only [seqIn]; omega)).trans (.bump _ (by simp only [queueCtr]; omega))
  simp only [shfPut]
  split
  · exact .ite ((hin _).trans ((sendKeeps_injDone _).trans (sendKeeps_shfUnref _ _))) ((hin _).trans (.of_eq rfl rfl))
  · exact (hin _).trans (.of_eq rfl rfl)

theorem sendKeeps_shfAdmit (g c : Nat) (p : Pkt) (b : Bool) (s : State) : SendKeeps s (shfAdmit g c p b s).2 := by
  have htouch : ∀ v, SendKeeps s (shfTouch g (setPkt p.pid v s)) := fun v =>
    (sendKeeps_setPkt _ _ _).trans (sendKeeps_shfTouch g _)
  simp only [shfAdmit]
  split
  · exact .of_eq rfl rfl
  · split
    · refine (htouch _).trans ((sendKeeps_setPkt _ _ _).trans ((SendKeeps.bump _ ?_).trans (sendKeeps_shfPut _ _ _ _)))
      simp only [queueCtr]
      omega
    · exact (htouch _).trans ((sendKeeps_setPkt _ _ _).trans (sendKeeps_shfPut _ _ _ _))

theorem sendKeeps_residueAdmit (g c n : Nat) (s : State) : SendKeeps s (residueAdmit g c n s) := by
  induction n generalizing s with
  | zero => exact .refl s
  | succ n ih =>
    simp only [residueAdmit]
    split
    · exact .refl s
    · rename_i p rest _
      have h := sendKeeps_shfAdmit g c p false (setResidue c rest s)
      split
      · rename_i t e
        rw [e] at h
        exact (SendKeeps.of_eq rfl rfl).trans (h.trans (ih t))
      · exact .of_eq rfl rfl

theorem sendKeeps_shfOffer (g c : Nat) (p : Pkt) (b : Bool) (s : State) : SendKeeps s (shfOffer g c p b s).2 := by
  simp only [shfOffer]
  split
  · exact sendKeeps_residueAdmit ..
  · exact (sendKeeps_residueAdmit ..).trans (sendKeeps_shfAdmit ..)

theorem sendKeeps_shfPop (g c : Nat) (s : State) : SendKeeps s (shfPop g c s) := by
  have hout : seqOut (8 * g + c) ≠ 0x000B0020 := by
    simp only [seqOut]
    omega
  simp only [shfPop]
  split <;> exact (SendKeeps.of_eq rfl rfl).trans (.wr _ _ hout)

theorem sendKeeps_kilnTake (n : Nat) (s : State) : SendKeeps s (kilnTake n s) := by
  induction n generalizing s with
  | zero => exact .refl s
  | succ n ih =>
    simp only [kilnTake]
    split
    · exact .refl s
    · split
      · exact .refl s
      · exact ((sendKeeps_shfPop _ _ _).trans ((sendKeeps_emit _ _).trans (sendKeeps_shfUnref _ _))).trans (ih _)

/-- An enqueued packet: its cells, the offer to the queue, and Kiln's take or the drop. -/
theorem sendKeeps_shfEnqueue (g c : Nat) (p : Pkt) (s : State) : SendKeeps s (shfEnqueue g c p s) := by
  have hoffer : ∀ (p : Pkt) (s : State), SendKeeps s (if 128 ≤ g ∧ g < 152 ∧ linkDown s (g - 128) = true then
      (false, bump (swcCtr (g - 128) 5) (shfUnref p.pid s))
    else match shfOffer g c p true s with
      | (true, s) => (true, if g = 153 then kilnTake 1 s else s)
      | (false, s) => (false, bump (queueCtr (8 * g + c) 1) (shfUnref p.pid s))).2 := by
    intro p s
    split
    · exact (sendKeeps_shfUnref _ _).trans (.bump _ (by simp only [swcCtr, swcPort]; omega))
    · have h := sendKeeps_shfOffer g c p true s
      split
      · rename_i t e
        rw [e] at h
        exact h.trans (.ite (sendKeeps_kilnTake 1 t) (.refl t))
      · rename_i t e
        rw [e] at h
        exact h.trans ((sendKeeps_shfUnref _ _).trans (.bump _ (by simp only [queueCtr]; omega)))
  simp only [shfEnqueue, shfTry]
  by_cases hp : p.pid = 0
  · simp only [hp, if_true]
    exact (SendKeeps.of_eq rfl rfl).trans (hoffer _ _)
  · simp only [hp, if_false]
    exact hoffer p s

/-! ### Frames over the Coil -/

theorem sendKeeps_coilOnPort (op n cls : Nat) (da tag : List Byte) (ety : Nat) (f : List Byte) (s : State) :
    SendKeeps s (coilOnPort op n cls da tag ety f s) := by
  simp only [coilOnPort]
  exact .ite (.bump s (by decide)) ((SendKeeps.bump s (by decide)).trans (sendKeeps_shfEnqueue ..))

theorem sendKeeps_coilToward (d cls : Nat) (f : List Byte) (s : State) : SendKeeps s (coilToward d cls f s) := by
  simp only [coilToward]
  split
  · simp only [coilOnLink, coilOnLinkOp]
    split <;> exact sendKeeps_coilOnPort ..
  · split
    · exact sendKeeps_coilOnPort ..
    · exact .bump s (by decide)

theorem sendKeeps_coilSend (d v c wa wb : Nat) (pl : List Byte) (s : State) : SendKeeps s (coilSend d v c wa wb pl s) :=
  sendKeeps_coilToward ..

/-- An event that is forwarded leaves FOOT_SAFE as it was. -/
theorem rd_forwardEvent_footSafe (l : Nat) (s : State) : rd (forwardEvent l s) 0x000B0020 = rd s 0x000B0020 :=
  rd_ite (sendKeeps_coilSend ..).1 rfl

/-- An event that is forwarded is counted once in the bridge's posted frames. -/
theorem counter_forwardEvent {l : Nat} {s : State} (hm : mgrDid s ≠ 0) (he : leafBit s l 2 = true)
    (hg : nbit ((rd s 0x00090320).toNat + 2 ^ 32 * (rd s 0x00090324).toNat) (l / 32) = true) :
    counter (forwardEvent l s) 0x00080900 = (counter s 0x00080900 + 1) % 2 ^ 64 := by
  rw [forwardEvent, if_pos ⟨hm, Bool.and_eq_true_iff.2 ⟨hg, he⟩⟩, (sendKeeps_coilSend ..).2 _ (by decide), bump, counter_bumpN,
    if_pos rfl]

end Sys2Proof.Machine
end

section
/-! When a group is pending, and where it shows (R532, R537). -/

namespace Sys2Proof.Machine
open Sys2Proof

/-! ### A word of flags -/

/-- The number with bit b set where p holds, for b below n. -/
def flags (p : Nat → Bool) (n : Nat) : Nat := (List.range n).foldl (fun m b => if p b then m + 2 ^ b else m) 0

theorem flags_succ (p : Nat → Bool) (n : Nat) : flags p (n + 1) = if p n then flags p n + 2 ^ n else flags p n := by
  rw [flags, List.range_succ, List.foldl_append]
  rfl

theorem flags_lt (p : Nat → Bool) (n : Nat) : flags p n < 2 ^ n := by
  induction n with
  | zero => exact Nat.one_pos
  | succ n ih =>
    rw [flags_succ, Nat.pow_succ]
    split <;> omega

theorem testBit_flags (p : Nat → Bool) (n j : Nat) : (flags p n).testBit j = (decide (j < n) && p j) := by
  induction n with
  | zero => exact Nat.zero_testBit j
  | succ n ih =>
    have hor : flags p n + 2 ^ n = 2 ^ n ||| flags p n := by
      have := Nat.two_pow_add_eq_or_of_lt (flags_lt p n) 1
      rwa [Nat.mul_one, Nat.add_comm] at this
    rcases Nat.lt_trichotomy j n with h | rfl | h
    · have hne : n ≠ j := by omega
      rw [flags_succ]
      split <;> simp [hor, ih, hne, h, Nat.lt_succ_of_lt h]
    · rw [flags_succ]
      split <;> simp [*]
    · rw [Nat.testBit_lt_two_pow ((flags_lt p (n + 1)).trans_le (Nat.pow_le_pow_right (by decide) h))]
      simp only [decide_eq_false (show ¬ j < n + 1 by omega), Bool.false_and]

/-! ### CRZ_GRP_PEND -/

theorem bit_pendWord (s : State) (hi : Bool) {g : Nat} (hg : g < 32) :
    bit (pendWord s hi (fun _ => true)) g = grpPending s (32 * b2n hi + g) := by
  have hw : pendWord s hi (fun _ => true) = w32 (flags (fun b => grpPending s (32 * b2n hi + b)) 32) := by
    simp only [pendWord, Bool.and_true]
    rfl
  simp only [hw, bit_w32, testBit_flags, hg, decide_true, Bool.true_and]

/-- The row of CRZ_GRP_PEND0 and 1. -/
def grpPendRow : RegRow := { name := "CRZ_GRP_PEND", base := 0x00010080, words := 2, flds := whole .ro }

/-- A read of CRZ_GRP_PEND shows the pending groups and has no effect. -/
theorem readWord_grpPend (hi : Bool) (s : State) :
    readWord (if hi then 0x00010084 else 0x00010080) s = (pendWord s hi (fun _ => true), s) := by
  have hfind : findRow (blockRows (if hi then 0x00010084 else 0x00010080)) (if hi then 0x00010084 else 0x00010080)
      = some grpPendRow := by cases hi <;> rfl
  have hmirror : grpPendRow.mirrored = false := rfl
  have hkind : ¬ grpPendRow.kind = .counter := by decide
  have hrc : ¬ rowMask grpPendRow .rc ≠ 0 := by decide
  have hwo : ~~~rowMask grpPendRow .wo = BitVec.allOnes 32 := by decide
  have hentry : ∀ w, entryAt grpPendRow (if hi then 0x00010084 else 0x00010080) w = ((if hi then 0x00010084 else 0x00010080), 1) := by
    intro w
    cases hi <;> rfl
  have hshown : shownWord s (if hi then 0x00010084 else 0x00010080) = pendWord s hi (fun _ => true) := by cases hi <;> rfl
  have hoff : (if hi then 0x00010084 else 0x00010080) < 0x00018000 := by cases hi <;> decide
  simp (disch := omega) only [readWord, if_neg, hfind, hmirror, hkind, hrc, hentry, Bool.false_eq_true, if_false, hshown, hwo,
    BitVec.and_allOnes]

theorem reach_lowOffset {q : Requester} {off : Nat} (s : State) (hq : q = .host 0 ∨ q = .kiln) (h4 : off % 4 = 0)
    (hoff : off < 2 ^ 28) : reach s q off = some off := by
  rcases hq with rfl | rfl <;> simp (disch := omega) only [reach, h4, if_true, if_neg, if_pos, ne_eq, not_true_eq_false, if_false]

theorem exec_entrySnapshotRead_grpPend {q : Requester} (hi : Bool) {s : State} (hq : q = .host 0 ∨ q = .kiln)
    (hu : injArmed s 0x16 = none) : exec (.entrySnapshotRead q (if hi then 0x00010084 else 0x00010080)) s =
      .next (kept s (setRdata (pendWord s hi (fun _ => true)) s)) := by
  have hread : readFor q (if hi then 0x00010084 else 0x00010080) s = (pendWord s hi (fun _ => true), s) :=
    (readFor_of_reach (reach_lowOffset s hq (by cases hi <;> rfl) (by cases hi <;> decide)) (blockDead_of_unarmed hu _)).trans
      (readWord_grpPend hi s)
  change done s (let (w, t) := readFor q (if hi then 0x00010084 else 0x00010080) s; setRdata w t) = _
  rw [hread]
  rfl

/-- Settles O54: the bits of CRZ_GRP_PEND are the flags of the pending groups, and a frame leaves the count of posted frames. -/
theorem groupPending : Obligations.GroupPending := by
  refine ⟨fun g s => ?_, fun q s hq hu => ⟨⟨_, exec_entrySnapshotRead_grpPend false hq hu, rfl, fun g hg => ?_⟩,
    ⟨_, exec_entrySnapshotRead_grpPend true hq hu, rfl, fun g => bit_pendWord s true⟩⟩, fun l s hl => ?_,
    fun l s hm he hg => counter_forwardEvent hm he hg⟩
  · simp only [grpPending, List.any_eq_true, List.mem_range, Bool.and_eq_true]
  · exact (bit_pendWord s false hg).trans (congrArg _ (Nat.zero_add g))
  · rw [forwardEvent, hl, Bool.and_false, if_neg (fun h => Bool.false_ne_true h.2)]

end Sys2Proof.Machine
end

section
/-! Kiln's lockstep pairs (R505 to R520): what each event does in the role of its pair. -/

namespace Sys2Proof.Machine
open Sys2Proof

/-! ### Roles -/

theorem pairRole_setRole_same (p : Fin 5) {r : Nat} (hr : r < 8) (s : State) : pairRole (setRole p r s) p = r := by
  have hw : 3 * p.val + 2 + 1 - 3 * p.val = 3 := by omega
  rw [pairRole, setRole, rdF_wrF _ _ _ _ _ (by omega), hw]
  exact Nat.mod_eq_of_lt hr

theorem pairRole_setRole_other {p q : Fin 5} (h : p ≠ q) (r : Nat) (s : State) : pairRole (setRole p r s) q = pairRole s q := by
  have hne : p.val ≠ q.val := Fin.val_ne_of_ne h
  rw [pairRole, rdF, setRole, wrF, rd_wr_same, fld_setFld_other _ _ (by omega), pairRole, rdF]

/-! ### Detections -/

section
variable {p : Fin 5} {n : Nat} {i o : List Nat} {s : State}

theorem exec_lockstepMismatch_active (hres : resumesOn s p = false) (hrole : pairRole s p = 1) (hinj : injFor s 0x01 p = false) :
    exec (.lockstepMismatch p n i o) s = .next (kept s (failPair p 0 (withLogs p n i o s))) := by
  change execLockstepMismatch p n i o s = _
  simp only [execLockstepMismatch, hinj, Bool.false_eq_true, and_false, if_false, hres, hrole, if_true, done_eq]

theorem exec_lockstepMismatch_spare (hres : resumesOn s p = false) (hrole : pairRole s p = 2) :
    exec (.lockstepMismatch p n i o) s = .next (kept s (klnSettle (selfTest p (recordFail p 0 (setRole p 3 s))))) := by
  have h21 : ¬ (2 : Nat) = 1 := by decide
  change execLockstepMismatch p n i o s = _
  simp only [execLockstepMismatch, hrole, h21, false_and, if_false, hres, Bool.false_eq_true, if_true, done_eq]

theorem exec_pairWdg_active (hrole : pairRole s p = 1)
    (hres : resumesOn (withLogs p n i o (raise (lfKln 6) (bump (klnCtr 6) s))) p = false) :
    exec (.pairWdg p n i o) s = .next (kept s (failPair p 1 (withLogs p n i o (raise (lfKln 6) (bump (klnCtr 6) s))))) := by
  change execPairWdg p n i o s = _
  simp only [execPairWdg, hrole, if_true, hres, Bool.false_eq_true, if_false, done_eq]

end

/-! ### The replay of a failover -/

section
variable {outs : List Nat} {asked q : Nat} {f : Failover} {rest : List Failover} {s : State}

/-- The replay agrees: the outputs that the log does not hold are issued, the task sets move and the next failover begins. -/
theorem exec_failoverResume_ok (hqueue : s.kiln.queue = f :: rest) (honto : f.onto = some q)
    (hinj : injFor s 0x04 f.failed = false) (hok : replayOk (kpair s f.failed) outs asked = true) {v : State}
    (hv : v = (outs.drop (kpair s f.failed).outLog.length).foldl (fun s h => emit (.kilnNote "output" [q, h]) s) s)
    (hrole : pairRole v q ≠ 6) :
    exec (.failoverResume outs asked) s = .next (kept s (klnSettle (failoverBegin 5 (selfTest f.failed
      { moveTasks f.failed q v with kiln := { (moveTasks f.failed q v).kiln with queue := rest } })))) := by
  subst hv
  change execFailoverResume outs asked s = _
  simp only [execFailoverResume, hqueue, honto, hinj, hok, hrole, Bool.false_and, Bool.not_true, Bool.or_self,
    Bool.false_eq_true, if_false, done_eq]

theorem exec_failoverResume_differs (hqueue : s.kiln.queue = f :: rest) (honto : f.onto = some q)
    (hinj : injFor s 0x04 f.failed = false) (hok : replayOk (kpair s f.failed) outs asked = false) :
    exec (.failoverResume outs asked) s = .next (kept s (failoverBreaks q 2 (raise (lfKln 5) (bump (klnCtr 4) s)))) := by
  change execFailoverResume outs asked s = _
  simp only [execFailoverResume, hqueue, honto, hinj, hok, Bool.false_and, Bool.not_false, Bool.or_true,
    Bool.false_eq_true, if_false, if_true, done_eq]

end

/-! ### Checkpoints, self-tests and the scrub -/

section
variable {p : Fin 5} {early : Bool} {s : State}

theorem exec_kilnCheckpoint_commits (hrole : pairRole s p = 1) (hinj : injFor s 0x02 p = false)
    (hlat : (kpair s p).latent = false) :
    exec (.kilnCheckpoint p early false) s = .next (kept s (commitPair p early s)) := by
  change execKilnCheckpoint p early false s = _
  simp only [execKilnCheckpoint, hrole, ne_eq, not_true_eq_false, if_false, hinj, Bool.or_self, Bool.false_eq_true, hlat,
    Bool.not_false, if_true, done_eq]

theorem exec_kilnCheckpoint_differs (hrole : pairRole s p = 1) (hinj : injFor s 0x02 p = false) {u : State}
    (hu : u = raise (lfKln 2) (bump (klnCtr 3) (recordFail p 3 s))) :
    exec (.kilnCheckpoint p early true) s = .next (kept s (setKpair p { kpair u p with latent := true } u)) := by
  subst hu
  change execKilnCheckpoint p early true s = _
  simp only [execKilnCheckpoint, hrole, ne_eq, not_true_eq_false, if_false, hinj, Bool.true_or, Bool.false_eq_true, if_true,
    done_eq]

theorem exec_pairBistDone_pass (hrole : pairRole s p = 4) :
    exec (.pairBistDone p true) s = .next (kept s (klnSettle (setRole p 2 (failOutcome p 1 (bump (klnCtr 1)
      { s with foot := { s.foot with transients := s.foot.transients.set p (s.foot.transients.getD p 0 + 1) } }))))) := by
  change execPairBistDone p true s = _
  simp only [execPairBistDone, hrole, ne_eq, not_true_eq_false, if_false, if_true, done_eq]

theorem exec_pairBistDone_fail (hrole : pairRole s p = 4) :
    exec (.pairBistDone p false) s = .next (kept s (klnSettle (retirePair p s))) := by
  change execPairBistDone p false s = _
  simp only [execPairBistDone, hrole, ne_eq, not_true_eq_false, if_false, Bool.false_eq_true, done_eq]

theorem exec_kilnMemScrub_restored (hinj : injArmed s 0x07 = none) (bits : Fin 3) :
    exec (.kilnMemScrub bits true) s = .next (kept s (if bits.val < 2 then s else raise (lfCrz 1) s)) := by
  change execKilnMemScrub bits true s = _
  simp only [execKilnMemScrub, hinj, if_true, done_eq]

end

/-- Settles O36: each event by the role of its pair, and the roles as fields of one word. -/
theorem kilnCommands : Obligations.KilnCommands := by
  refine ⟨fun p n i o s => exec_lockstepMismatch_active, fun p n i o s => exec_lockstepMismatch_spare,
    fun p n i o s u hrole hu hres => ?_, fun outs asked q f rest s v hqueue honto hinj => ⟨fun hok hrole hv =>
      exec_failoverResume_ok hqueue honto hinj hok hv hrole, exec_failoverResume_differs hqueue honto hinj⟩,
    fun p early s => exec_kilnCheckpoint_commits, fun p early s u hrole hinj => exec_kilnCheckpoint_differs hrole hinj,
    fun p s hrole => ⟨exec_pairBistDone_pass hrole, exec_pairBistDone_fail hrole⟩,
    fun s hinj => ⟨exec_kilnMemScrub_restored hinj 2, exec_kilnMemScrub_restored hinj 1⟩,
    fun p q s h => ⟨pairRole_setRole_same p (by decide) s, pairRole_setRole_other h 2 s⟩⟩
  subst hu
  exact exec_pairWdg_active hrole hres

end Sys2Proof.Machine
end

section
/-! Craze's commands (R528 to R541): routes, leaves, the injection unlock and the monitors. -/

namespace Sys2Proof.Machine
open Sys2Proof

/-! ### Routes, arm bits and injected leaves -/

section
variable {q : Requester} {g : Fin 64} {w : Word} {s : State}

theorem exec_crzRouteWrite (hq : hostOrKiln q = true) : exec (.crzRouteWrite q g w) s =
    .next (kept s (if locked s then s else settleGroup g (wr (routeKey g)
      (if g.val = 63 then setBit (w &&& 0xF73F0000) 31 true else w &&& 0xF73F0000) s))) := by
  change execCrzRouteWrite q g w s = _
  rw [execCrzRouteWrite, regCmd_permitted hq, done_eq]
  rfl

theorem exec_groupArm {fn : Option (Fin 8)} {hi : Bool} (h : armMay q fn = true) : exec (.groupArm q fn hi w) s = .next (kept s
    (forN 32 0 (fun b s => if bit w b then armGroup (fn.map (·.val)) (32 * b2n hi + b) s else s) s)) := by
  change execGroupArm q fn hi w s = _
  simp only [execGroupArm, regCmd_permitted h, done_eq]

theorem exec_leafInject {off : BitVec 28} (hq : hostOrKiln q = true) (hls : injectLeaves off.toNat ≠ []) :
    exec (.leafInject q off w) s = .next (kept s (if injOpen s then (injectLeaves off.toNat).foldl
      (fun s e => if bit w e.1 && leafPresent s e.2 then raise e.2 s else s) s else wrB 0x00010014 27 true s)) := by
  change execLeafInject q off w s = _
  have hls' : ¬ (injectLeaves off.toNat).isEmpty = true := by simpa using hls
  simp only [execLeafInject, regCmd_permitted hq, hls', Bool.false_eq_true, if_false, done_eq]

end

/-! ### The unlock (R540) -/

/-- The state after a write of CRZ_INJ_KEY: the first key that is held, and whether the unlock is open. -/
def injKeyState (k : Option (Requester × Nat)) (o : Bool) (s : State) : State :=
  wrB 0x00010014 31 o { s with crz := { s.crz with key1 := k } }

theorem injOpen_injKeyState (k : Option (Requester × Nat)) (o : Bool) (s t : State) : injOpen (kept t (injKeyState k o s)) = o :=
  rdB_wrB _ _ _ _ (by decide)

theorem injKeyState_key1 (k : Option (Requester × Nat)) (o : Bool) (s t : State) : (kept t (injKeyState k o s)).crz.key1 = k := rfl

/-- A requester that may hold the first key. -/
theorem keyMay_of {q : Requester} (hq : q = .host 0 ∨ q = .kiln) : (decide (q = .host 0) || decide (q = .kiln)) = true := by
  rcases hq with rfl | rfl <;> rfl

theorem hostOrKiln_of {q : Requester} (hq : q = .host 0 ∨ q = .kiln) : hostOrKiln q = true := by
  rcases hq with rfl | rfl <;> rfl

section
variable {q : Requester} {s : State}

theorem exec_injKeyWrite_first (hq : q = .host 0 ∨ q = .kiln) (hkey : s.crz.key1 = none) :
    exec (.injKeyWrite q 0x43525A31) s = .next (kept s (injKeyState (some (q, s.now)) false s)) := by
  change execInjKeyWrite q 0x43525A31 s = _
  simp only [execInjKeyWrite, regCmd_permitted (hostOrKiln_of hq), hkey, keyMay_of hq, and_self, if_true, done_eq, injKeyState]

theorem exec_injKeyWrite_second (hq : hostOrKiln q = true) {t : Nat} (hkey : s.crz.key1 = some (q, t)) (ht : s.now ≤ t + msT 1) :
    exec (.injKeyWrite q 0xBCADA5CE) s = .next (kept s (injKeyState none true s)) := by
  change execInjKeyWrite q 0xBCADA5CE s = _
  simp only [execInjKeyWrite, regCmd_permitted hq, hkey, ht, and_self, if_true, done_eq, injKeyState]

theorem exec_injKeyWrite_other (hq : hostOrKiln q = true) {w : Word} (h1 : w ≠ 0x43525A31) (h2 : w ≠ 0xBCADA5CE) :
    exec (.injKeyWrite q w) s = .next (kept s (injKeyState none false s)) := by
  change execInjKeyWrite q w s = _
  simp only [execInjKeyWrite, regCmd_permitted hq, h1, h2, false_and, if_false, done_eq, injKeyState]
  split <;> rfl

end

/-! ### The armed injection (R541) -/

theorem exec_injExpiry {s : State} (h : s.crz.inj.isSome = true) : exec .injExpiry s =
    .next (kept s (wrB 0x00010014 28 true (wrB 0x00010014 30 false { s with crz := { s.crz with inj := none } }))) := by
  change execInjExpiry s = _
  rw [execInjExpiry, if_pos h, done_eq]

/-- ARMED is 0 and EXPIRED is 1 after an expiry. -/
theorem injStatus_expired (s : State) : rdB (wrB 0x00010014 28 true (wrB 0x00010014 30 false s)) 0x00010014 30 = false ∧
    rdB (wrB 0x00010014 28 true (wrB 0x00010014 30 false s)) 0x00010014 28 = true := by
  refine ⟨?_, rdB_wrB _ _ _ _ (by decide)⟩
  rw [rdB, rd_wrB, if_pos rfl, bit_setBit _ _ _ _ (by decide), if_neg (by decide)]
  exact rdB_wrB _ _ _ _ (by decide)

section
variable {q : Requester} {s : State} (hq : hostOrKiln q = true)
include hq

theorem exec_injGo_refused (h : injOpen s = false) : exec (.injGo q) s = .next (kept s (wrB 0x00010014 27 true s)) := by
  change execInjGo q s = _
  simp only [execInjGo, regCmd_permitted hq, h, Bool.false_and, Bool.false_eq_true, if_false, done_eq]

variable {d i a : Nat} (hd : d = rdF s 0x00010018 31 24) (hi : i = rdF s 0x00010018 15 0) (ha : a = (rd s 0x0001001C).toNat)
  (hopen : injOpen s = true) (hinj : s.crz.inj = none) (hvalid : injValid s d i a = true)
include hd hi ha hopen hinj hvalid

theorem exec_injGo_armed (hnow : injNow s d i a = none) : exec (.injGo q) s =
    .next (kept s (wrB 0x00010014 30 true { s with crz := { s.crz with inj := some (d, i, a) } })) := by
  subst hd hi ha
  change execInjGo q s = _
  simp only [execInjGo, regCmd_permitted hq, hopen, hinj, Option.isNone_none, hvalid, Bool.and_self, if_true, hnow, done_eq]

theorem exec_injGo_now {u : State} (hnow : injNow s d i a = some u) :
    exec (.injGo q) s = .next (kept s (wrB 0x00010014 29 true u)) := by
  subst hd hi ha
  change execInjGo q s = _
  simp only [execInjGo, regCmd_permitted hq, hopen, hinj, Option.isNone_none, hvalid, Bool.and_self, if_true, hnow, done_eq]

end

/-! ### The monitors (R539) -/

theorem exec_vmonFault {r : Fin 6} {outside : Bool} {s : State} (hinj : injFor s 0x14 (6 + r.val) = false)
    (hlive : leafBit s (lfCrz (6 + r.val)) 1 = false) :
    exec (.vmonFault r outside) s = .next (kept s (setLive (lfCrz (6 + r.val)) outside
      (if outside then raise (lfCrz (6 + r.val)) (setLive (lfCrz (6 + r.val)) true s) else s))) := by
  change execVmonFault r outside s = _
  simp only [execVmonFault, hinj, Bool.false_eq_true, if_false, hlive, Bool.or_false, Bool.not_false, Bool.and_true, done_eq]

theorem exec_tempCrit {t : Int} {s : State} (hinj : injArmed s 0x15 = none) : exec (.tempCrit t) s =
    .next (kept s (if 128 ≤ t then raise (lfCrz 12) (setLive (lfCrz 12) (decide (125 ≤ t)) s)
      else setLive (lfCrz 12) (decide (125 ≤ t)) s)) := by
  change execTempCrit t s = _
  simp only [execTempCrit, hinj, Option.isSome_none, Bool.false_eq_true, if_false, done_eq]

theorem exec_busTimeout (read : Bool) (s : State) : exec (.busTimeout read) s =
    .next (kept s (if read then setRdata 0xFFFFFFFF (raise (lfCrz 13) s) else raise (lfCrz 13) s)) := rfl

/-- Settles O35: each command's outcome by its own lemma; CRZ_INJ_STATUS after the keys and after the expiry. -/
theorem crazeCommands : Obligations.CrazeCommands := by
  refine ⟨fun q g w s hq hlock => ?_, fun q g w s hq hlock => ?_, fun f hi w s => ⟨exec_groupArm rfl, exec_groupArm rfl⟩,
    fun q off w s hq hls => ⟨fun hopen => ?_, fun hopen => ?_⟩, fun s q hq hkey => ?_, fun s q w hq h1 h2 => ?_,
    fun s => rfl, fun x s hx => ?_, fun q d i a s hq hd hi ha hopen hinj hvalid =>
      ⟨exec_injGo_armed hq hd hi ha hopen hinj hvalid, fun u => exec_injGo_now hq hd hi ha hopen hinj hvalid⟩,
    fun q s => exec_injGo_refused, fun r s hinj hlive => ⟨exec_vmonFault hinj hlive, exec_vmonFault hinj hlive⟩,
    fun t s hinj => ⟨fun ht => ?_, fun ht => ?_⟩, fun s => ⟨_, exec_busTimeout true s, rfl, rfl⟩, exec_busTimeout false⟩
  · rw [exec_crzRouteWrite hq, hlock, if_neg Bool.false_ne_true]
  · rw [exec_crzRouteWrite hq, hlock, if_pos rfl, kept_self]
  · rw [exec_leafInject hq hls, hopen, if_pos rfl]
  · rw [exec_leafInject hq hls, hopen, if_neg Bool.false_ne_true]
  · have hkey1 := injKeyState_key1 (some (q, s.now)) false s s
    exact ⟨_, _, exec_injKeyWrite_first hq hkey, hkey1, injOpen_injKeyState ..,
      exec_injKeyWrite_second (hostOrKiln_of hq) hkey1 (Nat.le_add_right s.now _), injKeyState_key1 .., injOpen_injKeyState ..⟩
  · exact ⟨_, exec_injKeyWrite_other hq h1 h2, injOpen_injKeyState .., injKeyState_key1 ..⟩
  · exact ⟨_, exec_injExpiry (by rw [hx]; rfl), rfl, injStatus_expired { s with crz := { s.crz with inj := none } }⟩
  · rw [exec_tempCrit hinj, if_pos ht, decide_eq_true (by omega)]
  · rw [exec_tempCrit hinj, if_neg (by omega), decide_eq_false (by omega)]

end Sys2Proof.Machine
end

section
/-! Foot's commands (R521 to R526): the key, the safe state, the watchdog, the battery and FOOT_FAULT. -/

namespace Sys2Proof.Machine
open Sys2Proof

/-! ### FOOT_SAFE when the safe state is entered -/

theorem rd_settleGroup_footSafe (g : Nat) (s : State) : rd (settleGroup g s) 0x000B0020 = rd s 0x000B0020 := by
  have hvec : ∀ f v t, rd (sendVec f v t) 0x000B0020 = rd t 0x000B0020 := by
    intro f v t
    have hkey : ¬ 0x000B0020 = bar2Key f (0x800 + 4 * (v / 32)) := by
      simp only [bar2Key]
      omega
    simp only [sendVec]
    split
    · rw [rd_emit, rd_wrB, if_neg hkey]
    · rfl
  have hfault : ∀ (b : Bool) (t : State), rd (if b then footFault 0 t else t) 0x000B0020 = rd t 0x000B0020 := fun _ _ =>
    rd_ite ((rd_wrB _ _ _ _ _).trans (if_neg (by decide))) rfl
  have hkiln : ∀ (b : Bool) (t : State), rd (if b then emit (.kilnSignal g)
      { t with crz := { t.crz with armKiln := nsetBit t.crz.armKiln g false } } else t) 0x000B0020 = rd t 0x000B0020 :=
    fun _ _ => rd_ite rfl rfl
  have hhost : ∀ (b : Bool) (f v : Nat) (t : State), rd (if b then sendVec f v
      { t with crz := { t.crz with armHost := nsetBit t.crz.armHost g false } } else t) 0x000B0020 = rd t 0x000B0020 :=
    fun _ _ _ _ => rd_ite (hvec _ _ _) rfl
  exact (hfault _ _).trans ((hkiln _ _).trans (hhost _ _ _ _))

/-- The leaves of Foot have their registers elsewhere. -/
theorem rd_setLeafBit_footSafe (reg : Nat) (v : Bool) (s : State) :
    rd (setLeafBit (lfFoot 0) reg v s) 0x000B0020 = rd s 0x000B0020 := by
  have hhome : leafHome (lfFoot 0) = some (0x000B0080, 0) := rfl
  simp only [setLeafBit, hhome]
  exact (rd_wrB _ _ _ _ _).trans (if_neg (by omega))

theorem rd_raiseLeaf_footSafe (s : State) : rd (raiseLeaf (lfFoot 0) s) 0x000B0020 = rd s 0x000B0020 := by
  simp only [raiseLeaf]
  exact (rd_settleGroup_footSafe _ _).trans ((rd_ite rfl (rd_forwardEvent_footSafe _ _)).trans (rd_setLeafBit_footSafe 0 true s))

/-- FOOT_SAFE shows SAFE and the cause. -/
theorem rd_enterSafe_footSafe (cause : Nat) (s : State) :
    rd (enterSafe cause s) 0x000B0020 = setFld (setBit (rd s 0x000B0020) 31 true) 29 28 cause := by
  simp only [enterSafe]
  refine (rd_raiseLeaf_footSafe _).trans ((rd_setLeafBit_footSafe 1 true _).trans
    ((rd_forN (fun n s => (rd_safePads n _ _).trans (rd_requeuePending n s _))).trans ?_))
  rw [wrF, rd_wr_same, rd_wrB, if_pos rfl]

theorem safeOn_enterSafe (cause : Nat) (s : State) : safeOn (enterSafe cause s) = true := by
  rw [safeOn, rd_enterSafe_footSafe, bit_setFld_other _ _ (by decide), bit_setBit _ _ _ _ (by decide), if_pos rfl]

theorem safeCause_enterSafe {cause : Nat} (hc : cause < 4) (s : State) : rdF (enterSafe cause s) 0x000B0020 29 28 = cause := by
  rw [rdF, rd_enterSafe_footSafe, fld_setFld _ _ _ _ (by decide)]
  exact Nat.mod_eq_of_lt hc

/-! ### The key (R522) -/

/-- A command whose key is held, by its requester and in time, consumes it. -/
theorem footKeyed_held {q : Requester} {t : Nat} {f : State → State} {s : State} (hkey : s.foot.key = some (q, t))
    (ht : s.now ≤ t + msT 100) : footKeyed q f s = f { s with foot := { s.foot with key := none } } := by
  simp only [footKeyed, hkey, ht, and_self, if_true]

/-- Without a key of its requester in time, a command is rejected. -/
theorem footKeyed_missing {q : Requester} {f : State → State} {s : State}
    (h : ∀ k t, s.foot.key = some (k, t) → k ≠ q ∨ t + msT 100 < s.now) : footKeyed q f s = footReject s := by
  cases hkey : s.foot.key with
  | none => simp only [footKeyed, hkey]
  | some e =>
    have hne : ¬ (e.1 = q ∧ s.now ≤ e.2 + msT 100) := fun ⟨hk, ht⟩ =>
      (h e.1 e.2 hkey).elim (absurd hk) (fun hlt => absurd ht (Nat.not_le.2 hlt))
    simp only [footKeyed, hkey, hne, if_false]

section
variable {q : Requester} {s : State} (hq : footMay q = true)
include hq

theorem exec_footCmdKey (w : Word) : exec (.footCmdKey q w) s =
    .next (kept s { s with foot := { s.foot with key := if w = 0x4B4E then some (q, s.now) else none } }) := by
  change execFootCmdKey q w s = _
  rw [execFootCmdKey, footCmd, regCmd_permitted hq, done_eq]

theorem exec_warmReset : exec (.warmReset q) s = .next (kept s (footKeyed q (resetTo false 3) s)) := by
  change execWarmReset q s = _
  rw [execWarmReset, footCmd, regCmd_permitted hq, done_eq]

theorem exec_coldReset : exec (.coldReset q) s = .next (kept s (footKeyed q (resetTo true 4) s)) := by
  change execColdReset q s = _
  rw [execColdReset, footCmd, regCmd_permitted hq, done_eq]

theorem exec_zeroise : exec (.zeroise q) s = .next (kept s (footKeyed q zeroise s)) := by
  change execZeroise q s = _
  rw [execZeroise, footCmd, regCmd_permitted hq, done_eq]

theorem exec_retireClear : exec (.retireClear q) s = .next (kept s (footKeyed q (wr 0x000B0060 0) s)) := by
  change execRetireClear q s = _
  rw [execRetireClear, footCmd, regCmd_permitted hq, done_eq]

/-! ### The safe state (R523) -/

theorem exec_safeEnter : exec (.safeEnter q) s = .next (kept s (enterSafe 2 s)) := by
  change execSafeEnter q s = _
  rw [execSafeEnter, footCmd, regCmd_permitted hq, done_eq]

theorem exec_safeExit (hpin : rdB s 0x000B0020 30 = true) (hwdg : s.foot.wdgExpired = false) (hdet : rdB s 0x00010000 31 = false)
    (hsafe : safeOn s = true) : exec (.safeExit q) s = .next (kept s (nmwSettle (safeEnd s))) := by
  change execSafeExit q s = _
  simp only [execSafeExit, footCmd, regCmd_permitted hq, hpin, hwdg, hdet, hsafe, Bool.false_and, Bool.not_false, Bool.and_self,
    if_true, done_eq]

theorem exec_safeExit_expired (hwdg : s.foot.wdgExpired = true) :
    exec (.safeExit q) s = .next (kept s (satInc 0x000B0018 15 0 s)) := by
  change execSafeExit q s = _
  simp only [execSafeExit, footCmd, regCmd_permitted hq, hwdg, Bool.not_true, Bool.and_false, Bool.false_and, Bool.false_eq_true,
    if_false, done_eq]

/-! ### The watchdog (R525) -/

theorem exec_footWdgKick (hexp : s.foot.wdgExpired = false) (haux : rdB s 0x000B0030 29 = false) (v : Word) :
    exec (.footWdgKick q v) s = .next (kept s (wdgKick v s)) := by
  change execFootWdgKick q v s = _
  simp only [execFootWdgKick, footCmd, regCmd_permitted hq, hexp, haux, Bool.false_and, Bool.or_self, Bool.false_eq_true, if_false,
    done_eq]

theorem exec_footWdgCfgWrite (w : Word) : exec (.footWdgCfgWrite q w) s =
    .next (kept s (if rdB s 0x000B0038 31 || fld w 31 30 == 3 then s else wr 0x000B0030 w s)) := by
  change execFootWdgCfgWrite q w s = _
  rw [execFootWdgCfgWrite, footCmd, regCmd_permitted hq, done_eq]

theorem exec_footFaultClear (w : Word) : exec (.footFaultClear q w) s =
    .next (kept s (wr 0x000B0040 ((rd s 0x000B0040 &&& ~~~w) ||| (faultCauses s &&& 0x1F)) s)) := by
  change execFootFaultClear q w s = _
  rw [execFootFaultClear, footCmd, regCmd_permitted hq, done_eq]

end

theorem exec_safePinAssert (level : Bool) (s : State) : exec (.safePinAssert level) s =
    .next (kept s (if level then wrB 0x000B0020 30 true s
      else if rdB s 0x000B0020 30 then enterSafe 0 (footFault 2 (wrB 0x000B0020 30 false s)) else s)) := rfl

/-- The value that the watchdog's next kick takes. -/
def kickValue (s : State) : Word := if rdB s 0x000B0038 30 then 0xA5A5 else 0x5A5A

/-- The state after a kick that is right and in time. -/
def kicked (s : State) : State :=
  { wrB 0x000B0038 31 true (wrB 0x000B0038 30 (!rdB s 0x000B0038 30) s) with foot := { s.foot with wdgLast := s.now } }

section
variable {v : Word} {s : State} (hinj : injArmed s 0x05 = none)
include hinj

theorem wdgKick_wrong (hv : v ≠ kickValue s) : wdgKick v s = wdgExpire s := by
  rw [kickValue] at hv
  simp only [wdgKick, hinj, Option.isSome_none, Bool.false_eq_true, if_false, bne_iff_ne.2 hv, Bool.or_true, Bool.true_or, if_true]

theorem wdgKick_early (hk : rdB s 0x000B0038 31 = true) (ht : s.now < s.foot.wdgLast + msT (rdF s 0x000B0030 28 20)) :
    wdgKick v s = wdgExpire s := by
  simp only [wdgKick, hinj, Option.isSome_none, Bool.false_eq_true, if_false, hk, decide_eq_true ht, Bool.and_self, Bool.or_true,
    if_true]

theorem wdgKick_first (hv : v = kickValue s) (hk : rdB s 0x000B0038 31 = false) : wdgKick v s = kicked s := by
  rw [kickValue] at hv
  have hne : (v != if rdB s 0x000B0038 30 then (0xA5A5 : Word) else 0x5A5A) = false := bne_eq_false_iff_eq.2 hv
  simp only [wdgKick, hinj, Option.isSome_none, Bool.false_eq_true, if_false, hne, hk, Bool.false_and, Bool.or_self, kicked]
  rfl

end

/-- FOOT_WDG_STATUS after a kick: KICKED, and the other value is awaited. -/
theorem status_kicked (s : State) : rdB (kicked s) 0x000B0038 31 = true ∧
    rdB (kicked s) 0x000B0038 30 = !rdB s 0x000B0038 30 := by
  have hrd : rd (kicked s) 0x000B0038 = setBit (setBit (rd s 0x000B0038) 30 (!rdB s 0x000B0038 30)) 31 true := by
    change rd (wrB 0x000B0038 31 true (wrB 0x000B0038 30 _ s)) 0x000B0038 = _
    rw [rd_wrB, if_pos rfl, rd_wrB, if_pos rfl]
  simp only [rdB, hrd]
  refine ⟨by rw [bit_setBit _ _ _ _ (by decide), if_pos rfl], ?_⟩
  rw [bit_setBit _ _ _ _ (by decide), if_neg (by decide), bit_setBit _ _ _ _ (by decide), if_pos rfl]

theorem exec_footWdgExpiry {s : State} (h : s.foot.wdgExpired = false) : exec .footWdgExpiry s = .next (kept s (wdgExpire s)) := by
  change execFootWdgExpiry s = _
  rw [execFootWdgExpiry, h, if_neg Bool.false_ne_true, done_eq]

theorem exec_footWdgAction_warm {s : State} (h : s.foot.wdgExpired = true) (ha : rdF s 0x000B0030 31 30 = 1) :
    exec .footWdgAction s = .next (kept s (resetTo false 5 s)) := by
  change execFootWdgAction s = _
  simp only [execFootWdgAction, h, if_true, ha, done_eq]

theorem exec_footWdgAction_cold {s : State} (h : s.foot.wdgExpired = true) (ha : rdF s 0x000B0030 31 30 = 2) :
    exec .footWdgAction s = .next (kept s (resetTo true 5 s)) := by
  change execFootWdgAction s = _
  simp only [execFootWdgAction, h, if_true, ha, done_eq]

/-! ### The battery (R526) -/

/-- A reading within the field, with no low battery live: it is shown, and a low one occurs. -/
theorem exec_vbatReading {l : List Nat} {ball v : Nat} {s : State} (hinj : injArmed s 0x17 = none)
    (hball : ball = l.sum / 16 % 65536) (hv : v = ball * rdF s 0x000B0058 15 0 / 1000) (hmax : v ≤ 65535)
    (hlive : leafBit s (lfFoot 2) 1 = false) : exec (.vbatReading l) s =
      .next (kept s (if v < rdF (wr 0x000B0050 (w32 (ball * 65536 + v)) s) 0x000B0054 31 16 then
        raiseLive (lfFoot 2) (wr 0x000B0050 (w32 (ball * 65536 + v)) s) else wr 0x000B0050 (w32 (ball * 65536 + v)) s)) := by
  have hhome : leafHome (lfFoot 2) = some (0x000B0080, 2) := rfl
  have hlive' : leafBit (wr 0x000B0050 (w32 (ball * 65536 + v)) s) (lfFoot 2) 1 = false := by
    rw [← hlive]
    simp only [leafBit, hhome]
    rw [rd_wr_other (by decide)]
  have hhigh : ¬ 65535 < v := Nat.not_lt.2 hmax
  change execVbatReading l s = _
  simp only [execVbatReading, hinj, Option.isSome_none, Bool.false_eq_true, if_false, ← hball, ← hv, decide_eq_false hhigh, hlive',
    Bool.not_false, Bool.true_and, decide_eq_true_eq, Bool.false_and, done_eq]

/-- Settles O33: each command by its own lemma; FOOT_SAFE is left alone by the frame that reports the safe state. -/
theorem footCommands : Obligations.FootCommands := by
  refine ⟨fun q w s hq => exec_footCmdKey hq w, fun q t s u hq hkey ht hu => ?_, fun q s hq hkey => ?_, fun q s hq => ?_,
    fun q s hq => exec_safeExit hq, fun q s hq => exec_safeExit_expired hq, fun s => ⟨exec_safePinAssert true s, fun hpin => ?_⟩,
    fun q s hq hexp haux hinj hwant => ⟨fun hk => ?_, ?_, fun hk ht => ?_⟩, fun s => exec_footWdgExpiry,
    fun s h => ⟨exec_footWdgAction_warm h, exec_footWdgAction_cold h⟩, fun q w s hq hk => ⟨fun ha => ?_, fun ha => ?_⟩,
    fun l ball v s hinj hball hv hmax hlive => ⟨fun hle => ?_, fun hlt => ?_⟩, fun q w s hq => ?_⟩
  · subst hu
    rw [exec_warmReset hq, exec_coldReset hq, exec_zeroise hq, exec_retireClear hq]
    simp only [footKeyed_held hkey ht, and_self]
  · rw [exec_warmReset hq, exec_coldReset hq, exec_zeroise hq, exec_retireClear hq]
    simp only [footKeyed_missing hkey, and_self]
  · exact ⟨_, exec_safeEnter hq, safeOn_enterSafe 2 s, safeCause_enterSafe (by decide) s, rfl⟩
  · rw [exec_safePinAssert, hpin, if_neg Bool.false_ne_true, if_pos rfl]
  · have hv : (0x5A5A : Word) = kickValue s := by rw [kickValue, hwant, if_neg Bool.false_ne_true]
    obtain ⟨h31, h30⟩ := status_kicked s
    refine ⟨kept s (kicked s), (exec_footWdgKick hq hexp haux _).trans (by rw [wdgKick_first hinj hv hk]), rfl, h31, ?_, rfl, rfl⟩
    exact h30.trans (by rw [hwant]; rfl)
  · have hv : (0xA5A5 : Word) ≠ kickValue s := by
      rw [kickValue, hwant, if_neg Bool.false_ne_true]
      decide
    rw [exec_footWdgKick hq hexp haux, wdgKick_wrong hinj hv]
  · rw [exec_footWdgKick hq hexp haux, wdgKick_early hinj hk ht]
  · rw [exec_footWdgCfgWrite hq, hk, beq_eq_false_iff_ne.2 ha, Bool.or_self, if_neg Bool.false_ne_true]
  · rw [exec_footWdgCfgWrite hq, ha, hk, if_pos (by decide), kept_self]
  · rw [exec_vbatReading hinj hball hv hmax hlive, if_neg (Nat.not_lt.2 hle)]
  · rw [exec_vbatReading hinj hball hv hmax hlive, if_pos hlt]
  · exact ⟨_, exec_footFaultClear hq w, rd_wr_same .., fun k hk => rd_wr_other hk _ _, rfl, rfl⟩

end Sys2Proof.Machine
end

section
/-! Field update (R543 to R553, R571, R572): the messages of a session, the staging of parts, the outcome of a trial. -/

namespace Sys2Proof.Machine
open Sys2Proof

/-! ### Messages of a session -/

/-- The state as a message of its session finds it. -/
def sessionHeard (s : State) : State := modUpd (fun u => { u with last := s.now }) s

/-- The message's session is the one that is open, or none is. -/
def SessionFree (x : Nat) (s : State) : Prop := (updState s = 0 ∧ s.upd.opened = false) ∨ s.upd.sess = some x

/-- A message of the session that is open, or while none is, is carried out and answered. -/
theorem updMsg_taken {op e x : Nat} {f : State → State × Nat × List Byte} {s : State} (ht : updTakes s = true)
    (hx : SessionFree x s) :
    updMsg op e x f s = updReply op e x (f (sessionHeard s)).2.1 (f (sessionHeard s)).2.2 (f (sessionHeard s)).1 := by
  have hfree : ¬ ((updState s ≠ 0 ∨ s.upd.opened = true) ∧ s.upd.sess ≠ some x) := by
    rintro ⟨hbusy, hother⟩
    rcases hx with ⟨h0, hclosed⟩ | hsess
    · exact hbusy.elim (absurd h0) (by rw [hclosed]; exact Bool.false_ne_true)
    · exact hother hsess
  simp only [updMsg, ht, Bool.not_true, Bool.false_eq_true, if_false, hfree]
  rfl

/-- A message of another session is answered REGION_BUSY while a cycle is on. -/
theorem updMsg_busy {op e x : Nat} {f : State → State × Nat × List Byte} {s : State} (ht : updTakes s = true)
    (h0 : updState s ≠ 0) (hx : s.upd.sess ≠ some x) : updMsg op e x f s = updReply op e x cRegionBusy [] s := by
  simp only [updMsg, ht, Bool.not_true, Bool.false_eq_true, if_false, h0, hx, ne_eq, not_false_eq_true, true_or, and_self, if_true]

section
variable {x : BitVec 32} {s v : State} (ht : updTakes s = true) (hx : SessionFree x.toNat s) (hv : v = sessionHeard s)
include ht hx hv

theorem exec_updData_taken {e : Fin 65536} {off : BitVec 32} {d : List Byte} {t : State} {c : Nat} {m : List Byte}
    (h : updChunk e off.toNat d (if v.upd.sess = some x.toNat then v
      else modUpd (fun u => { u with sess := some x.toNat, objs := [] }) v) = (t, c, m)) :
    exec (.updData x e off d) s = .next (kept s (updReply 1 e x.toNat c m t)) := by
  subst hv
  change execUpdData x e off d s = _
  simp only [execUpdData, updMsg_taken ht hx, h, done_eq]

/-- BEGIN by its checks, and then by what refuses an update (R547, R549). -/
theorem exec_updBegin_taken (hun : v.upd.uncommitted = []) (h0 : updState v = 0) (hsess : v.upd.sess = some x.toNat) :
    exec (.updBegin x) s = .next (kept s (match beginCheck v with
      | .inl c => updReply 2 0xFFFF x.toNat c [] v
      | .inr m => if refusal v = 0 then updReply 2 0xFFFF x.toNat 0 []
            (cycleBegin m (modUpd (fun u => { u with opened := true }) v))
          else updReply 2 0xFFFF x.toNat (refusal v) []
            (refused (refusal v) (modUpd (fun u => { u with opened := true }) v)))) := by
  subst hv
  change execUpdBegin x s = _
  simp only [execUpdBegin, updMsg_taken ht hx, hun, h0, hsess, ne_eq, not_true_eq_false, or_self, if_false, done_eq]
  cases beginCheck (sessionHeard s) with
  | inl c => rfl
  | inr m =>
    by_cases hr : refusal (sessionHeard s) = 0
    · simp only [hr, if_true]
      rfl
    · have hr' : ¬ refusal (sessionHeard s) = cOk := hr
      simp only [hr, hr', not_false_eq_true, if_false, if_true]

theorem exec_updStatus_taken (e : Fin 65536) : exec (.updStatus x e) s = .next (kept s (updReply 3 e x.toNat 0
    (beBytes 4 (updStatusWord v).toNat ++ beBytes 4 (rd v 0x0003000C).toNat ++ beBytes 4 (rd v 0x00030010).toNat) v)) := by
  subst hv
  change execUpdStatus x e s = _
  simp only [execUpdStatus, updMsg_taken ht hx, done_eq]
  rfl

/-- COMMIT of a staged cycle that nothing refuses: the session's devices make their trial starts (R550). -/
theorem exec_updCommit_activates {t : State} (h2 : updState v = 2) (href : refusal v = 0)
    (hte : t = updReply 4 0xFFFF x.toNat 0 [] (setUpdState 3 v)) (h3 : updState t = 3) (hsess : s.upd.sess = some x.toNat)
    (htrial : rdB t 0x000B0070 31 = false) : exec (.updCommit x) s = .next (kept s (activate t)) := by
  subst hv
  have href' : refusal (sessionHeard s) = cOk := href
  have htsess : t.upd.sess = some x.toNat := hte ▸ hsess
  have hmsg : ∀ f : State → State × Nat × List Byte, f (sessionHeard s) = (setUpdState 3 (sessionHeard s), cOk, []) →
      updMsg 4 0xFFFF x.toNat f s = t := fun f hf => by
    rw [updMsg_taken ht hx, hf, hte]
    rfl
  change execUpdCommit x s = _
  rw [execUpdCommit, hmsg _ (by simp only [h2, href', ne_eq, not_true_eq_false, if_false])]
  simp only [h3, htsess, htrial, and_self, if_true, done_eq]

theorem exec_updAbort_taken (h : updState v < 3) :
    exec (.updAbort x) s = .next (kept s (updReply 5 0xFFFF x.toNat 0 [] (sessionEnd v))) := by
  subst hv
  change execUpdAbort x s = _
  simp only [execUpdAbort, updMsg_taken ht hx, Nat.not_le.2 h, if_false, done_eq]
  rfl

/-- A lock message for this device is applied here (R553). -/
theorem exec_updLock_own {b : List Byte} {w : State} (hb : b = tblGet v.upd.objs 0xFFFE []) (hrec : inRecovery v = false)
    (huid : beAt b 4 16 = v.sag.uid) (hw : w = modUpd (fun u => { u with objs := tblErase u.objs 0xFFFE }) v) :
    exec (.updLock x) s = .next (kept s (updReply 6 0xFFFE x.toNat (lockApply b w).2 [] (lockApply b w).1)) := by
  subst hv
  have hrec' : inRecovery w = false := hw ▸ hrec
  have huid' : beAt b 4 16 = w.sag.uid := hw ▸ huid
  change execUpdLock x s = _
  simp only [execUpdLock, updMsg_taken ht hx, ← hb, ← hw, hrec', Bool.false_eq_true, if_false, huid', if_true, done_eq]

end

section
variable {x : BitVec 32} {s : State} (ht : updTakes s = true) (h0 : updState s ≠ 0) (hx : s.upd.sess ≠ some x.toNat)
include ht h0 hx

theorem exec_updData_busy (e : Fin 65536) (off : BitVec 32) (d : List Byte) :
    exec (.updData x e off d) s = .next (kept s (updReply 1 e x.toNat cRegionBusy [] s)) := by
  change execUpdData x e off d s = _
  rw [execUpdData, updMsg_busy ht h0 hx, done_eq]

theorem exec_updStatus_busy (e : Fin 65536) :
    exec (.updStatus x e) s = .next (kept s (updReply 3 e x.toNat cRegionBusy [] s)) := by
  change execUpdStatus x e s = _
  rw [execUpdStatus, updMsg_busy ht h0 hx, done_eq]

theorem exec_updAbort_busy : exec (.updAbort x) s = .next (kept s (updReply 5 0xFFFF x.toNat cRegionBusy [] s)) := by
  change execUpdAbort x s = _
  rw [execUpdAbort, updMsg_busy ht h0 hx, done_eq]

end

/-- A chunk of a part, at the next offset and short of its end, is appended. -/
theorem updChunk_part {e : Nat} {d : List Byte} {s : State} (he : e < 0xFFFE) (h1 : updState s = 1)
    (hcount : e < manCount s.upd.man) (hlen : d.length ≤ 1024)
    (hlim : (tblGet s.upd.objs e []).length + d.length < objLimit s e) (h8 : d.length % 8 = 0) :
    updChunk e (tblGet s.upd.objs e []).length d s =
      (modUpd (fun u => { u with objs := tblSet u.objs e (tblGet s.upd.objs e [] ++ d) }) s, 0, []) := by
  have hseq : ¬ ((e = 0xFFFF ∧ updState s ≠ 0) ∨ (e < 0xFFFE ∧ updState s ≠ 1)) := by omega
  have hbad : ¬ ((e < 0xFFFE ∧ manCount s.upd.man ≤ e) ∨ 1024 < d.length) := by omega
  have hfit : ¬ (objLimit s e < (tblGet s.upd.objs e []).length + d.length ∨
      (e < 0xFFFE ∧ d.length % 8 ≠ 0 ∧ (tblGet s.upd.objs e []).length + d.length ≠ objLimit s e)) := by omega
  have hend : ¬ (e < 0xFFFE ∧ (tblGet s.upd.objs e []).length + d.length = objLimit s e ∧ d ≠ []) := by omega
  rw [updChunk]
  simp only [hseq, hbad, hfit, hend, ne_eq, not_true_eq_false, if_false]
  rfl

theorem exec_updSessionTimeout {s : State} (hsess : s.upd.sess ≠ none) (h2 : updState s ≤ 2) (ht : updTakes s = true) :
    exec .updSessionTimeout s = .next (kept s (sessionEnd s)) := by
  change execUpdSessionTimeout s = _
  rw [execUpdSessionTimeout, if_pos ⟨hsess, h2, ht⟩, done_eq]

/-- Settles O43: a message is taken or answered REGION_BUSY, and each command does its part of it. -/
theorem updateMessages : Obligations.UpdateMessages := by
  refine ⟨fun x s v ht hx hv => ⟨fun e off d t c m => exec_updData_taken ht hx hv, exec_updBegin_taken ht hx hv,
      exec_updStatus_taken ht hx hv, fun t => exec_updCommit_activates ht hx hv, exec_updAbort_taken ht hx hv,
      fun b w => exec_updLock_own ht hx hv⟩,
    fun x e off d s ht h0 hx => ⟨exec_updData_busy ht h0 hx e off d, exec_updStatus_busy ht h0 hx e, exec_updAbort_busy ht h0 hx⟩,
    fun e d s he h1 hcount hlen _ => updChunk_part he h1 hcount hlen, fun s => exec_updSessionTimeout⟩

/-! ### Staging -/

/-- A part of this device that has been received whole is read back, where the device is not a worker. -/
theorem exec_updPartStaged_here {i : Fin 256} {m : Man} {ok : Bool} {s : State} (hrole : role s = 0)
    (hm : manParse s.upd.man = some m) (h1 : updState s = 1) (hi : i.val < m.entries.length)
    (hdid : (entryDids s m (manEntry s.upd.man i)).contains (ownDid s) = true)
    (hnew : s.upd.staged.contains (i.val, ownDid s) = false)
    (hlen : (tblGet s.upd.objs i.val []).length = (manEntry s.upd.man i).len) :
    exec (.updPartStaged i ok) s = .next (kept s
      (if ok && partIs (manEntry s.upd.man i) (tblGet s.upd.objs i.val []) then
        partStaged i (ownDid s) (bankAdd (stageBank s) (manEntry s.upd.man i).ty (manEntry s.upd.man i).did
          (tblGet s.upd.objs i.val []) s)
      else stageFail (manEntry s.upd.man i).ty 0x63 (ownDid s)
        (modUpd (fun u => { u with objs := tblErase u.objs i.val }) s))) := by
  have hworker : ¬ (role s = 1 ∧ inRecovery s = false) := fun h => absurd (hrole.symm.trans h.1) (by decide)
  have hskip : ¬ (updState s ≠ 1 ∨ m.entries.length ≤ i.val ∨
      (entryDids s m (manEntry s.upd.man i)).contains (ownDid s) = false ∨ s.upd.staged.contains (i.val, ownDid s) = true) := by
    rw [hdid, hnew]
    simp only [h1, Nat.not_le.2 hi, ne_eq, not_true_eq_false, Bool.true_eq_false, Bool.false_eq_true, or_self, not_false_eq_true]
  change execUpdPartStaged i ok s = _
  simp only [execUpdPartStaged, hworker, if_false, stageHere, hm, hskip, hlen, if_true, done_eq]
  rfl

/-! ### The outcome of a trial -/

section
variable {d : Fin 2048} {s : State}

theorem exec_trialReport_worker (hd : d.val = ownDid s) (hgood : trialGood s = true) (hrole : role s = 1)
    (halone : s.upd.alone = false) : exec (.trialReport d) s = .next (kept s (setUpdState 5 (updReport 0x81 0 0 0 s))) := by
  change execTrialReport d s = _
  simp only [execTrialReport, hd, if_true, hgood, Bool.not_true, Bool.false_eq_true, if_false, hrole, halone, and_self, done_eq]
  rfl

theorem exec_trialReport_own (hd : d.val = ownDid s) (hgood : trialGood s = true) (hrole : role s ≠ 1) :
    exec (.trialReport d) s = .next (kept s (commitPoint (modUpd (fun u => { u with
      reported := u.reported.filter (· != d.val) ++ [d.val] }) s))) := by
  change execTrialReport d s = _
  simp only [execTrialReport, hd, if_true, hgood, Bool.not_true, Bool.false_eq_true, if_false, hrole, false_and, done_eq]

/-- The report of another device: its success counts toward the commit point, its failure reverts every device. -/
theorem exec_trialReport_other {f : CoilFrame} {u : State} (hd : d.val ≠ ownDid s)
    (hf : inboxTake (fun f => f.svc == 6 && f.src == d.val && frOp f == 4 && frObj f == 0x81) s = some (f, u)) :
    exec (.trialReport d) s = .next (kept s (if byteAt f.data 3 = 0 then commitPoint (modUpd (fun u => { u with
      reported := u.reported.filter (· != d.val) ++ [d.val] }) u) else revertAll (w32 (beAt f.data 4 4)) u)) := by
  change execTrialReport d s = _
  simp only [execTrialReport, hd, if_false, hf, done_eq]
  rfl

theorem exec_trialTimeout_reverts {b : Nat} (htrial : trialBank s = some b) (hnew : s.upd.reported.contains d.val = false)
    (hrole : role s ≠ 1) : exec (.trialTimeout d) s = .next (kept s (revertAll (failWord 0x40 0x63 d) s)) := by
  change execTrialTimeout d s = _
  rw [execTrialTimeout, htrial, hnew]
  simp only [Option.isNone_some, Bool.false_eq_true, or_self, if_false, hrole, false_and, done_eq]
  rfl

end

section
variable {f : CoilFrame} {s u : State}

/-- The manager's order to commit, on a worker that runs a trial (R551). -/
theorem exec_commitOrder_trial (hf : takeOrder 2 s = some (f, u)) (htrial : rdB u 0x000B0070 31 = true) :
    exec .commitOrder s = .next (kept s
      (match (bankMan u (rdF u 0x000B0070 30 30)).bind (fun m => commitBank (rdF u 0x000B0070 30 30) m u) with
      | none => u
      | some v => raise (lfUpd 3) (updReport 0x83 0 0 0 v))) := by
  change execCommitOrder s = _
  simp only [execCommitOrder, hf, htrial, Bool.not_true, Bool.false_and, Bool.false_eq_true, if_false, if_true, done_eq]
  cases bankMan u (rdF u 0x000B0070 30 30) with
  | none => rfl
  | some m =>
    simp only [Option.bind_some]
    cases commitBank (rdF u 0x000B0070 30 30) m u <;> rfl

/-- The manager's order to revert: the staged bank is discarded, and a trial ends (R551). -/
theorem exec_revertOrder (hf : takeOrder 3 s = some (f, u)) : exec .revertOrder s = .next (kept s
    (if rdB u 0x000B0070 31 then trialBack (failWord 0x40 0x63 (ownDid u)) (bankDrop (rdF u 0x000B0070 30 30) (setUpdState 4 u))
      else bankDrop (1 - runBank u) u)) := by
  change execRevertOrder s = _
  simp only [execRevertOrder, hf, done_eq]
  rfl

end

/-- Settles O44: the staging of a part here, and each message about a trial. -/
theorem updateOutcomes : Obligations.UpdateOutcomes := by
  refine ⟨fun i m ok s => exec_updPartStaged_here, fun d s hd hgood =>
      ⟨exec_trialReport_worker hd hgood, exec_trialReport_own hd hgood⟩,
    fun d f s u hd hf => ⟨fun h0 => ?_, fun h0 => ?_⟩, fun d b s => exec_trialTimeout_reverts,
    fun f s u => exec_commitOrder_trial, fun f s u hf => ⟨fun htrial => ?_, fun htrial => ?_⟩⟩
  · rw [exec_trialReport_other hd hf, if_pos h0]
  · rw [exec_trialReport_other hd hf, if_neg h0]
  · rw [exec_revertOrder hf, htrial, if_neg Bool.false_ne_true]
  · rw [exec_revertOrder hf, htrial, if_pos rfl]

end Sys2Proof.Machine
end
